-- ==== Sys2Proof/Word.lean ====
section
/-! DEFINITION. The byte of the serial link, fixed tables by index, and the plain arithmetic of the Introduction's section 4.2. -/

namespace Sys2Proof

/-- A byte on the serial link (spec/11, section 11.1). -/
abbrev Byte := BitVec 8

/-- The entry of a fixed table at an index. -/
def tget {α : Type} {n : Nat} (t : Vector α n) (i : Fin n) : α := t[i.1]

/-- A fixed table with one entry replaced. -/
def tset {α : Type} {n : Nat} (t : Vector α n) (i : Fin n) (x : α) : Vector α n := t.set i.1 x

@[simp] theorem tget_tset_same {α : Type} {n : Nat} (t : Vector α n) (i : Fin n) (x : α) :
    tget (tset t i x) i = x := by
  simp [tget, tset]

theorem tget_tset_of_ne {α : Type} {n : Nat} (t : Vector α n) {i j : Fin n} (x : α) (h : i ≠ j) :
    tget (tset t i x) j = tget t j := by
  have hv : i.1 ≠ j.1 := fun e => h (Fin.ext e)
  simp [tget, tset, hv]

/-- "Ceil" of the Introduction, section 4.2, for a quotient of whole numbers. -/
def ceilDiv (a b : Nat) : Nat := (a + (b - 1)) / b

/-- The nearest end of a range for a value outside it, the value itself inside it (policy CLAMP, R166). -/
def clampInt (lo hi v : Int) : Int := max lo (min hi v)

end Sys2Proof
end

