-- ==== Sys2Proof/Syntax.lean ====
section
/-! DEFINITION. The commands of the part: one constructor of `Instr` for each row of spec/opcode_table.json, with the
names the spec's chapters use for what a command carries. -/

namespace Sys2Proof

/-- The three operating modes, in the order of R186. -/
inductive Mode where
  | awake | doze | standby
deriving DecidableEq, Repr

/-- The seven analog channels (Introduction, section 5.1). -/
inductive Channel where
  | vh | ih | vs | tc | tf | th | tx
deriving DecidableEq, Repr

/-- A sample status (R7), in the order of R1's table. -/
inductive SampleStatus where
  | valid | suspect | stale
deriving DecidableEq, Repr

/-- The six trip comparators (R13). -/
inductive Comparator where
  | t0 | t1 | t2 | t3 | t4 | t5
deriving DecidableEq, Repr

/-- The eight consumers under arbitration, by id (spec/03, section 3.1). -/
inductive Consumer where
  | panel | heat | fridge | bunk | cab | vent | socketA | socketB
deriving DecidableEq, Repr

/-- A consumer's state, in the order of R40. -/
inductive ConsumerState where
  | idle | waiting | granted | reduced | safety | masked | tripped | latched
deriving DecidableEq, Repr

/-- The shed levels, least severe first (R20). -/
inductive ShedLevel where
  | normal | conserve | reserve | cutoff
deriving DecidableEq, Repr

/-- A budget report of the Charge Counter (R36). -/
structure BudgetReport where
  level   : ShedLevel
  budget  : Nat
  classes : List (Fin 8)
deriving DecidableEq, Repr

/-- A request of an owner (R44); `steps` is absent for a continuous consumer. -/
structure Request where
  d      : Nat
  dmin   : Nat
  steps  : Option (List Nat)
  safety : Bool
deriving DecidableEq, Repr

/-- The outcome of a trip at the Grant Arbiter: TRIPPED with its retry step, or LATCHED (R59). -/
inductive TripOutcome where
  | tripped (step : Nat)
  | latched
deriving DecidableEq, Repr

/-- The two light groups (spec/06). -/
inductive Group where
  | bunk | cab
deriving DecidableEq, Repr

/-- The two accessory sockets (R47). -/
inductive Socket where
  | a | b
deriving DecidableEq, Repr

/-- The level of a contact input (R120). -/
inductive LineLevel where
  | high | low
deriving DecidableEq, Repr

/-- A contact's state (R120). -/
inductive ContactState where
  | active | inactive | unknown
deriving DecidableEq, Repr

/-- The six contacts (spec/07, section 7.6). -/
inductive Contact where
  | move | ign | fdoor | cdoor | aux1 | aux2
deriving DecidableEq, Repr

/-- A notice's severity (R184 gives the codes 0, 1, 2). -/
inductive Severity where
  | info | attention | warning
deriving DecidableEq, Repr

/-- The notice sources, with the codes 1 to 12 of R185 in this order. -/
inductive Source where
  | mu | cc | ga | hc | fc | lc | pi | rm | su | rmg | lk | mc
deriving DecidableEq, Repr

/-- The notice kinds, with the codes 0x01 to 0x1A of R185 in this order. -/
inductive NoticeKind where
  | resetDone | settingsDefaulted | sensor | chargeSync | shedLevel | trip | socket | heaterState | heaterFault
  | fridge | door | vent | keysWaiting | panel | contact | restChange | driveSoon | driveLimit | breakDone
  | restShort | restEndSoon | restDone | startRisk | schedule | linkOverrun | quietError
deriving DecidableEq, Repr

/-- What a block hands the Link Controller when it posts a notice (R181): the LK adds the UNSET flag and the cab time. -/
structure Posting where
  kind      : NoticeKind
  source    : Source
  severity  : Severity
  uncertain : Bool
  data      : List Byte
deriving DecidableEq, Repr

/-- The action of a schedule entry (R156), its parameters as written. -/
inductive Action where
  | heatStart (setpoint : Nat) (duration : Option Nat)
  | heatStop
  | scene (n : Nat)
  | chime (pattern : Nat)
  | fridgeBoost
  | vent (speed : Nat)
deriving DecidableEq, Repr

/-- One field named in a writing operation (R170): its field id, its element index where it stands in a list, and the
value written, `none` for the absent value of an optional field. -/
structure FieldWrite where
  field : Nat
  elem  : Option Nat
  value : Option Int
deriving DecidableEq, Repr

/-- One segment of a REST_STATE restore (R151): its start and its end, absent for an open segment, as cab times. -/
structure RestSpan where
  start : Int
  stop  : Option Int
deriving DecidableEq, Repr

/-- The records with no behaviour of their own at a write (the RECORD_WRITE row). -/
inductive PlainRecord where
  | heaterTune | scenes | keymap | chimes
deriving DecidableEq, Repr

/-- The record an ADJUST names, and for whom: the host, or the Panel Interface on behalf of a key's LIGHT_UP or LIGHT_DOWN, each of
whose ADJUSTs is an operation of its own (R116, R173, R175). -/
inductive AdjustRecord where
  | host (id : Nat)
  | panel (key : Fin 16) (id : Nat)
deriving DecidableEq, Repr

/-- The two parts of the settings store (spec/12, section 12.5). -/
inductive StorePart where
  | settings | heater
deriving DecidableEq, Repr

/-- A cab time as the part reports it, with the UNSET flag (R154). -/
structure Stamp where
  cab   : Nat
  unset : Bool
deriving DecidableEq, Repr

/-- A trip report of the Measurement Unit (R16); the consumer ids are those R13 gives the comparator. -/
structure TripReport where
  comparator : Comparator
  time       : Stamp
deriving DecidableEq, Repr

/-- The mean current of each of the six current-sense inputs over 100 ms, in mA (R17). -/
structure LoadMeans where
  t0 : Nat
  t1 : Nat
  t2 : Nat
  t3 : Nat
  t4 : Nat
  t5 : Nat
deriving DecidableEq, Repr

/-- The commands the part takes, one constructor per row of spec/opcode_table.json, in the table's order. A timer's
expiry, a sensor's result and a handing between blocks are commands of their own, as the table lists them. -/
inductive Instr where
  -- Mode Controller, clocks
  | supplyChange (mv : Nat)
  | powerOnReset
  | elapsedTick
  -- Measurement Unit
  | scanStart
  | conversion (ch : Channel) (code : Nat)
  | suspectChannel (channel : Nat)
  | clearSuspect (channel : Nat)
  | currentRise (c : Comparator) (ma : Nat)
  | currentFall (c : Comparator) (ma : Nat)
  | blankingExpiry (c : Comparator)
  | qualifyExpiry (c : Comparator)
  | loadCurrentReading (r : LoadMeans)
  | tachEdge (us : Nat)
  | tachTimeout
  -- Charge Counter
  | minuteEnd
  | horizonChange (minutes : Nat)
  -- Grant Arbiter
  | budgetReport (r : BudgetReport)
  | placeRequest (c : Consumer) (r : Request)
  | changeRequest (c : Consumer) (r : Request)
  | withdrawRequest (c : Consumer)
  | classOverride (on : Bool)
  | tripReport (r : TripReport)
  | retryTimerExpiry (c : Consumer)
  | tripWindowExpiry (c : Consumer)
  | clearTrip (id : Nat)
  | socketRunLimitExpiry (k : Socket)
  -- Heater Controller
  | heaterGrantReport (grant : Nat) (st : ConsumerState)
  | heaterTripReport (c : Comparator) (o : TripOutcome)
  | heaterLevelChange (level : ShedLevel)
  | heatStart (setpoint : Nat) (duration : Option Nat)
  | heatStop
  | heatVent (on : Bool)
  | clearLockout
  | waitPowerTimeout
  | glowTest
  | checkPhaseEnd
  | preheatPowerTimeout
  | preheatPhaseEnd
  | primePhaseEnd
  | igniteLimitExpiry
  | stabilizePhaseEnd
  | durationExpiry
  | purgeEnd
  | purgeHotTimeout
  | dryCoolTimeout
  | blowerStep
  | strokeStart
  | strokePulseEnd
  -- Fridge Controller
  | fridgeGrantReport (grant : Nat) (st : ConsumerState)
  | stall (o : TripOutcome)
  | fridgeLevelChange (level : ShedLevel)
  | tfStaleExpiry
  | fridgeBoost (on : Bool)
  | boostEnd
  | clearFault
  | waitOffEnd
  | softStartEnd
  | minOnTimeEnd
  | stallWaitEnd
  | stallLogExpiry
  | fallbackOnEnd
  | fallbackOffEnd
  | fdoorHanding (st : ContactState)
  | doorTimerExpiry
  | ventRunEnd
  | ventGrantReport (grant : Nat) (st : ConsumerState)
  -- Light Controller
  | lightGrantReport (g : Group) (grant : Nat) (st : ConsumerState)
  | lightTripReport (g : Group) (o : TripOutcome)
  | lightLevelChange (level : ShedLevel)
  | fadeStep (ch : Fin 6)
  | lightScene (n : Nat)
  | cdoorHanding (st : ContactState)
  | entryTimerExpiry
  -- Panel Interface
  | keyScan (reads : BitVec 16)
  | holdTimerExpiry (k : Fin 16)
  | columnWakeEdge
  | readKeys
  | clearKeys
  | contactInputChange (c : Contact) (l : LineLevel)
  | debounceExpiry (c : Contact)
  | chimeRequest (pattern : Fin 10)
  | playChime (pattern : Nat)
  | silenceChime
  | chimePhaseEnd
  | panelGrantReport (grant : Nat) (st : ConsumerState)
  -- Rest Monitor
  | moveHanding (st : ContactState)
  | ignHanding (st : ContactState)
  | stopConfirmExpiry
  | declareRest
  | endRest
  | limitRepeatExpiry
  | plannedEndReached
  | endSoonReached
  -- Schedule Unit
  | setClock (time : Nat)
  | addEntry (time : Nat) (rep : Nat) (state : Nat) (action : Option Action)
  | removeEntry (slot : Nat)
  | prewarmEntryPlace (time : Nat) (setpoint : Nat) (duration : Nat)
  | prewarmEntryMove (time : Nat) (setpoint : Nat) (duration : Nat)
  | prewarmEntryRemove
  -- Link Controller
  | rxByte (b : Byte)
  | rxGapTimeout
  | linkBreak
  | rxdWakeEdge
  | requestTake
  | replySent
  | noticePost (p : Posting)
  | fetchNotices
  | attnPulseEnd
  -- Record Manager
  | get (record : Nat) (list : Nat) (start : Nat) (count : Nat)
  | put (record : Nat) (elem : Option Nat) (expected : Option Nat) (values : List (Option Int))
  | fieldWrite (record : Nat) (ws : List FieldWrite)
  | adjust (record : AdjustRecord) (field : Nat) (elem : Option Nat) (delta : Int)
  | exchange (record : Nat) (field : Nat) (elem : Option Nat) (value : Option Int)
  | compareWrite (record : Nat) (field : Nat) (elem : Option Nat) (expected : Option Int) (value : Option Int)
  -- writes to one record, with its owner's behaviour
  | batteryWrite (ws : List FieldWrite)
  | channelsWrite (ws : List FieldWrite)
  | tripsWrite (ws : List FieldWrite)
  | consumersWrite (ws : List FieldWrite)
  | demandsWrite (ws : List FieldWrite)
  | socketsWrite (ws : List FieldWrite)
  | heaterSetWrite (ws : List FieldWrite)
  | fridgeSetWrite (ws : List FieldWrite)
  | ventWrite (ws : List FieldWrite)
  | lightsWrite (ws : List FieldWrite)
  | panelWrite (ws : List FieldWrite)
  | contactsWrite (ws : List FieldWrite)
  | restProfileWrite (ws : List FieldWrite)
  | restStatePut (drive : Nat) (acc : Nat) (log : List RestSpan)
  | scheduleWrite (ws : List FieldWrite)
  | recordWrite (r : PlainRecord) (ws : List FieldWrite)
  -- Mode Controller, settings store
  | standby
  | restart (quiet : Bool)
  | saveSettings
  | storeWriteDone (part : StorePart)
  | rxStartBit
deriving DecidableEq, Repr

end Sys2Proof
end

