-- ==== Sys2Proof/Decode.lean ====
section
/-! DEFINITION. Reading a command from a word of the opcode table. -/

namespace Sys2Proof

/-- The command a word of `nbits` bits spells by the opcode table. The table gives no row any bits, and the part has no
instruction words: its commands are events, so no word spells one (log entry 1). The request frames of the host link are
read by `Machine.takeRequest`. -/
def decodeTableWord (_nbits _w : Nat) : Option Instr := none

end Sys2Proof
end

