-- ==== Sys2Proof/Config.lean ====
section
/-! DEFINITION. The values the spec leaves open. Each is a constant with no body, so no proof can rest on what it is. -/

namespace Sys2Proof.Config

/-- The free choice behind every "in either order" inside ONE event (R56's two consumers of a T3 report, R124's
events of different keys in one scan, R122's openings and closures of one scan). It is read at the running number
`State.choices`. Log entry 5. -/
opaque freeChoice : Nat → Nat

/-- Whether a shown number of whole units stands one above the exact quotient when the amount does not divide, for
the shown minutes and seconds whose rounding the spec does not state (log entry 6). -/
opaque roundsUp : Nat → Bool

/-- What the elapsed counter holds one second after its last value 4,294,967,295 (R154 gives its range and no rule
for the end of it; log entry 7). -/
opaque elapsedAfterLast : Nat

/-- What the 2 bytes of the minutes in BREAK_DONE and REST_DONE carry for a length of more than 65,535 minutes, which only a
restored open segment reaches (R141, R145; R185 lays the bytes out and states nothing of such a length; log entry 42). -/
opaque minutesPastField : Nat → Nat

/-- What REST_END_SOON and REST_SHORT carry as the minutes to the planned end where that end lies the given number of seconds, above 0, before
the cab time (R139 and R146 give no value there; log entry 43). -/
opaque minutesPastEnd : Nat → Nat

/-- What DRIVE_SOON carries as the minutes to the limit where the drive counter lies the given number of seconds, above 0, past the
drive limit (R140 gives no value there; log entry 45). -/
opaque minutesPastLimit : Nat → Nat

end Sys2Proof.Config
end

