-- ==== Sys2Proof/Machine/Settings.lean ====
section
/-! DEFINITION. The persistent settings of every record (R21, R42, R46, R47, R60, R64, R91, R104, R108, R115, R126, R129,
R130, R133, R135, R12, R13), the fixed tables of the chapters, and the defaults the chapters give. -/

namespace Sys2Proof.Machine

/-- An order mode of a class (R42). -/
inductive OrderMode where
  | fixed | rotating
deriving DecidableEq, Repr

/-- The panel modes (R121). -/
inductive PanelMode where
  | single | multi
deriving DecidableEq, Repr

/-- The kinds of panel action, in the order of R126's table. -/
inductive KeyAction where
  | none | lightToggle | lightUp | lightDown | scene | heatToggle | heatUp | heatDown | fridgeBoost | ventStep
  | restToggle | silence
deriving DecidableEq, Repr

/-- BATTERY (R21), in its fields' order. -/
structure Battery where
  cap        : Nat
  eta        : Nat
  vFull      : Nat
  iTail      : Nat
  ocv        : Vector Nat 9
  reserve    : Nat
  margin     : Nat
  horizon    : Nat
  vLow       : Nat
  vCut       : Nat
  aLim       : Nat
  aBase      : Nat
  aRes       : Nat
deriving DecidableEq, Repr

/-- DEMANDS (R46), in d-amps, in its fields' order. -/
structure Demands where
  panel     : Nat
  check     : Nat
  start     : Nat
  stabilize : Nat
  low       : Nat
  mid       : Nat
  high      : Nat
  purge     : Nat
  ventD     : Nat
  ventDmin  : Nat
  fridge    : Vector Nat 4
  vent      : Vector Nat 3
  socket    : Vector Nat 2
deriving DecidableEq, Repr

/-- HEATER_SET (R64). -/
structure HeaterSet where
  setpoint  : Int
  frost     : Bool
  threshold : Int
deriving DecidableEq, Repr

/-- HEATER_TUNE (R64), in its fields' order. -/
structure HeaterTune where
  preheatTime   : Nat
  primeTime     : Nat
  igniteLimit   : Nat
  stabilizeTime : Nat
  startRate     : Nat
  lowRate       : Nat
  midRate       : Nat
  highRate      : Nat
  strokeWidth   : Nat
  strokeVolume  : Nat
  flameRise     : Int
  margin        : Int
  flameLoss     : Int
  preheatTarget : Nat
  lowTarget     : Nat
  midTarget     : Nat
  highTarget    : Nat
  purgeTarget   : Nat
  ventTarget    : Nat
deriving DecidableEq, Repr

/-- FRIDGE_SET (R91). -/
structure FridgeSet where
  enable   : Bool
  setpoint : Int
  hyst     : Nat
  offset   : Nat
  minOff   : Nat
  maxSpeed : Nat
deriving DecidableEq, Repr

/-- One scene (R115): a level per channel, or absent, and a fade time. -/
structure Scene where
  levels : Vector (Option Nat) 6
  fade   : Nat
deriving DecidableEq, Repr

/-- The settings fields of LIGHTS (R108). -/
structure LightSet where
  onLevel      : Vector Nat 6
  fade         : Nat
  conserveBunk : Nat
  conserveCab  : Nat
  restCab      : Nat
  entryScene   : Option Nat
deriving DecidableEq, Repr

/-- One KEYMAP entry (R126): `param` is the group (0 BUNK, 1 CAB) or the scene; `report` holds PRESS in bit 0, HOLD in
bit 1, RELEASE in bit 2. -/
structure KeyEntry where
  action : KeyAction
  param  : Nat
  report : BitVec 3
deriving DecidableEq, Repr

/-- The settings fields of PANEL (R133). -/
structure PanelSet where
  mode          : PanelMode
  click         : Bool
  backlight     : Nat
  restBacklight : Nat
deriving DecidableEq, Repr

/-- One contact's settings (R129); the debounce is in ms. -/
structure ContactSet where
  activeLevel : LineLevel
  debounce    : Nat
  report      : Bool
  wake        : Bool
deriving DecidableEq, Repr

/-- A chime pattern (R130): tone index, on and gap times in ms, repeats, priority 0 to 3. -/
structure Pattern where
  tone     : Nat
  onTime   : Nat
  gap      : Nat
  repeats  : Nat
  priority : Nat
deriving DecidableEq, Repr

/-- REST_PROFILE (R135), in its fields' order. -/
structure RestProfile where
  driveLimit    : Nat
  wDrive        : Nat
  breakTotal    : Nat
  segMin        : Nat
  stopConfirm   : Nat
  tRest         : Nat
  tS1           : Nat
  tS2           : Nat
  endWarn       : Nat
  prewarm       : Bool
  lead          : Nat
  wakeSetpoint  : Nat
  wakeScene     : Option Nat
  starterGuard  : Nat
deriving DecidableEq, Repr

/-- One channel's configuration (R1, R12). -/
structure ChanSet where
  enabled : Bool
  k       : Nat
deriving DecidableEq, Repr

/-- The persistent content of every record: what the owners hold, and what SAVE SETTINGS stores (R192), apart from the
host schedule entries. -/
structure Settings where
  battery     : Battery
  demands     : Demands
  classes     : Vector (Fin 8) 8
  masks       : Vector Bool 8
  orders      : Vector OrderMode 8
  chan        : Vector ChanSet 7
  thresholds  : Vector Nat 6
  heaterSet   : HeaterSet
  heaterTune  : HeaterTune
  fridgeSet   : FridgeSet
  ventLimit   : Nat
  socketLimit : Vector Nat 2
  lights      : LightSet
  scenes      : Vector Scene 8
  keymap      : Vector KeyEntry 16
  panel       : PanelSet
  contacts    : Vector ContactSet 6
  user        : Vector Pattern 2
  profile     : RestProfile
deriving DecidableEq, Repr

/-- R21's defaults, with the default OCV table of R25. -/
def batteryDefault : Battery where
  cap := 400000
  eta := 92
  vFull := 27600
  iTail := 150
  ocv := #v[23100, 23640, 23960, 24200, 24420, 24640, 24860, 25080, 25400]
  reserve := 30
  margin := 60
  horizon := 480
  vLow := 4
  vCut := 1
  aLim := 250
  aBase := 8
  aRes := 20

/-- R46's defaults. -/
def demandsDefault : Demands where
  panel := 1
  check := 3
  start := 46
  stabilize := 14
  low := 14
  mid := 20
  high := 26
  purge := 8
  ventD := 6
  ventDmin := 3
  fridge := #v[9, 13, 18, 24]
  vent := #v[3, 5, 8]
  socket := #v[20, 20]

/-- R64's defaults of HEATER_SET. -/
def heaterSetDefault : HeaterSet where
  setpoint := 200
  frost := false
  threshold := 50

/-- R64's defaults of HEATER_TUNE. -/
def heaterTuneDefault : HeaterTune where
  preheatTime := 40
  primeTime := 20
  igniteLimit := 90
  stabilizeTime := 60
  startRate := 90
  lowRate := 120
  midRate := 240
  highRate := 380
  strokeWidth := 30
  strokeVolume := 22
  flameRise := 400
  margin := 200
  flameLoss := 1000
  preheatTarget := 1200
  lowTarget := 2200
  midTarget := 3400
  highTarget := 4600
  purgeTarget := 4600
  ventTarget := 3000

/-- R91's defaults. -/
def fridgeSetDefault : FridgeSet where
  enable := true
  setpoint := 40
  hyst := 20
  offset := 20
  minOff := 180
  maxSpeed := 4

/-- R108's defaults. -/
def lightSetDefault : LightSet where
  onLevel := #v[700, 700, 700, 700, 700, 700]
  fade := 10
  conserveBunk := 600
  conserveCab := 300
  restCab := 0
  entryScene := some 4

/-- R115's default scenes. -/
def scenesDefault : Vector Scene 8 :=
  #v[⟨#v[some 600, some 600, some 400, some 400, some 400, some 400], 100⟩,
     ⟨#v[some 800, none, none, none, none, none], 10⟩,
     ⟨#v[some 100, some 100, some 0, some 0, some 0, some 0], 30⟩,
     ⟨#v[none, none, some 700, some 700, none, none], 5⟩,
     ⟨#v[some 0, some 0, some 0, some 0, some 0, some 0], 20⟩,
     ⟨#v[none, none, none, none, none, none], 10⟩,
     ⟨#v[none, none, none, none, none, none], 10⟩,
     ⟨#v[none, none, none, none, none, none], 10⟩]

/-- R126's default keymap: key k stands at row k / 4 and column k mod 4. -/
def keymapDefault : Vector KeyEntry 16 :=
  #v[⟨.lightToggle, 0, 1⟩, ⟨.lightUp, 0, 1⟩, ⟨.lightDown, 0, 1⟩, ⟨.scene, 3, 1⟩,
     ⟨.lightToggle, 1, 1⟩, ⟨.lightUp, 1, 1⟩, ⟨.lightDown, 1, 1⟩, ⟨.scene, 5, 1⟩,
     ⟨.heatToggle, 0, 1⟩, ⟨.heatUp, 0, 1⟩, ⟨.heatDown, 0, 1⟩, ⟨.fridgeBoost, 0, 1⟩,
     ⟨.ventStep, 0, 1⟩, ⟨.restToggle, 0, 1⟩, ⟨.silence, 0, 1⟩, ⟨.none, 0, 7⟩]

/-- R133's defaults. -/
def panelSetDefault : PanelSet where
  mode := .single
  click := true
  backlight := 300
  restBacklight := 50

/-- The defaults of section 7.6's table. -/
def contactsDefault : Vector ContactSet 6 :=
  #v[⟨.high, 500, false, true⟩, ⟨.high, 100, false, true⟩, ⟨.low, 100, false, false⟩,
     ⟨.low, 100, false, true⟩, ⟨.high, 100, true, false⟩, ⟨.high, 100, true, false⟩]

/-- R130's default of the user patterns 8 and 9. -/
def userPatternDefault : Pattern := ⟨3, 100, 100, 1, 1⟩

/-- R130's patterns 0 to 7, built in and fixed. -/
def builtInPatterns : Vector Pattern 8 :=
  #v[⟨2, 15, 0, 1, 0⟩, ⟨3, 80, 80, 2, 1⟩, ⟨4, 200, 300, 3, 2⟩, ⟨7, 400, 200, 5, 3⟩,
     ⟨1, 150, 150, 2, 2⟩, ⟨0, 300, 200, 6, 3⟩, ⟨5, 300, 300, 3, 2⟩, ⟨6, 500, 500, 10, 2⟩]

/-- R135's defaults. -/
def profileDefault : RestProfile where
  driveLimit := 270
  wDrive := 15
  breakTotal := 45
  segMin := 15
  stopConfirm := 60
  tRest := 660
  tS1 := 180
  tS2 := 540
  endWarn := 30
  prewarm := true
  lead := 30
  wakeSetpoint := 210
  wakeScene := some 1
  starterGuard := 24000

/-- Every record's defaults: what the owners hold where the settings store is not valid (R191). -/
def settingsDefault : Settings where
  battery := batteryDefault
  demands := demandsDefault
  classes := #v[0, 1, 2, 3, 4, 6, 5, 5]
  masks := #v[false, false, false, false, false, false, false, false]
  orders := #v[.rotating, .rotating, .rotating, .rotating, .rotating, .rotating, .rotating, .rotating]
  chan := #v[⟨true, 2⟩, ⟨true, 0⟩, ⟨true, 2⟩, ⟨true, 3⟩, ⟨true, 2⟩, ⟨true, 1⟩, ⟨true, 1⟩]
  thresholds := #v[10, 12, 11, 10, 12, 12]
  heaterSet := heaterSetDefault
  heaterTune := heaterTuneDefault
  fridgeSet := fridgeSetDefault
  ventLimit := 0
  socketLimit := #v[0, 0]
  lights := lightSetDefault
  scenes := scenesDefault
  keymap := keymapDefault
  panel := panelSetDefault
  contacts := contactsDefault
  user := #v[userPatternDefault, userPatternDefault]
  profile := profileDefault

/-- The guard levels of R21, by index 0 to 7, in mV. -/
def guardLevel (i : Nat) : Nat := 21000 + 600 * i

end Sys2Proof.Machine
end

