-- ==== Sys2Proof/Machine/Blocks.lean ====
section
/-! DEFINITION. The working state of the twelve blocks, as each chapter's state table lists it (R1, R14, R18, R20, R40, R62,
R90, R107, R120, R134, R154, R156, R174, R176 to R183, R186, R190 to R193). Times written "tenths" are the elapsed time in
0.1 s. -/

namespace Sys2Proof.Machine

/-- The load outputs (Introduction, section 5.2). -/
inductive Output where
  | glow | pump | blower | compressor | vent | light (i : Fin 6) | socket (k : Socket) | panel
deriving DecidableEq, Repr

/-- The status codes, with the codes 0 to 12 of R185 in this order. -/
inductive Status where
  | ok | clamped | range | mismatch | unknownKind | unknownRecord | readOnly | owned | state | noPower | noRoom | empty
  | badLength
deriving DecidableEq, Repr

/-! ### Measurement Unit -/

/-- The class of a conversion code (R4, R5). -/
inductive RangeKind where
  | inRange | short | openLead
deriving DecidableEq, Repr

/-- The working state of one channel (R1). -/
structure ChanEntry where
  code      : Option Nat
  kind      : Option RangeKind
  sample    : Option Int
  filtered  : Option Int
  outCount  : Nat
  inCount   : Nat
  rangeMark : Bool
  hostMark  : Bool
  status    : SampleStatus
deriving DecidableEq, Repr

/-- The states of a trip comparator (R14); its blanking and qualify timers run in BLANKING and in QUALIFY. -/
inductive CompState where
  | disabled | off | blanking | watch | qualify | tripped
deriving DecidableEq, Repr

/-- One trip comparator (R14, R16, R17): `current` is the input, the output's present current in mA. -/
structure CompEntry where
  state    : CompState
  current  : Nat
  total    : Nat
  lastTrip : Option Stamp
  reading  : Nat
deriving DecidableEq, Repr

/-- The tach capture (R18), times in µs. -/
structure Tach where
  lastEdge : Option Nat
  period   : Option Nat
  speed    : Nat
deriving DecidableEq, Repr

/-- The Measurement Unit: the scan in progress keeps the mode it began in and the channels still to convert; `rescan` is set
where the mode has changed during it, so that the next scan follows at once (R2). -/
structure MeasureUnit where
  chan     : Vector ChanEntry 7
  scanMode : Mode
  scanLeft : List Channel
  rescan   : Bool
  comp     : Vector CompEntry 6
  tach     : Tach
deriving DecidableEq, Repr

/-! ### Charge Counter -/

/-- Where C was last taken from (R20). -/
inductive ChargeSource where
  | counted | ocv
deriving DecidableEq, Repr

/-- One minute record (R29). -/
structure MinuteRecord where
  stop : Stamp
  mean : Int
deriving DecidableEq, Repr

/-- One guard of the voltage guard (R33): its flag and its holds' starts, on the elapsed counter. -/
structure Guard where
  flag    : Bool
  qualify : Option Nat
  recover : Option Nat
deriving DecidableEq, Repr

/-- The Charge Counter (R20). S, FULL, EMPTY, Cres and A_fit are computed from it where they are read. -/
structure ChargeUnit where
  c           : Option Nat
  residue     : Int
  source      : ChargeSource
  estimated   : Bool
  starting    : Bool
  accSum      : Int
  accCount    : Nat
  window      : List MinuteRecord
  iavg        : Option Int
  endurance   : Option Nat
  horizon     : Nat
  fullHold    : Option Nat
  restHold    : Option Nat
  low         : Guard
  cut         : Guard
  level       : ShedLevel
  countTarget : ShedLevel
  sensorHold  : Bool
  relief      : Nat
  ceiling     : Option ShedLevel
  budget      : Nat
deriving DecidableEq, Repr

/-! ### Grant Arbiter -/

/-- One consumer's entry (R40), less its class and mask, which are settings. `window`, `lastTrip` and `retry` are in
tenths: a start, an instant, the timer's end. -/
structure ConsumerEntry where
  boosted   : Bool
  request   : Option Request
  grant     : Nat
  state     : ConsumerState
  tripCount : Nat
  window    : Option Nat
  retryStep : Nat
  lastTrip  : Option Nat
  retry     : Option Nat
  latched   : Bool
  holds     : List Output
deriving DecidableEq, Repr

/-- One socket's working state (R47): `runEnd` is the elapsed counter at which the run limit expires. -/
structure SocketEntry where
  on     : Bool
  runEnd : Option Nat
deriving DecidableEq, Repr

/-- The Grant Arbiter (R40, R47, R52, R61). -/
structure GrantUnit where
  entries   : Vector ConsumerEntry 8
  lists     : Vector (List Consumer) 8
  report    : BudgetReport
  passes    : Nat
  safetySum : Nat
  remainder : Nat
  sockets   : Vector SocketEntry 2
deriving DecidableEq, Repr

/-! ### Heater Controller -/

/-- The heater states, in the order of R62. -/
inductive HeaterState where
  | off | waitPower | check | preheat | prime | ignite | stabilize | run | pause | purge | dryCool | lockout | vent
deriving DecidableEq, Repr

/-- The heater faults, in the order of section 4.13. -/
inductive HeaterFault where
  | noPower | sensor | glowOpen | glowShort | noIgnition | flameLoss | overheat | flameSensor | undervolt | blower
  | purgeHot
deriving DecidableEq, Repr

/-- A heater stage (R62). -/
inductive Stage where
  | low | mid | high
deriving DecidableEq, Repr

/-- A purge's exit (R77). -/
inductive PurgeExit where
  | off | pause | retry | restart
deriving DecidableEq, Repr

/-- The purge record (R62, R77), its entry time in tenths. -/
structure PurgeRecord where
  exit  : PurgeExit
  fault : Option HeaterFault
  entry : Nat
deriving DecidableEq, Repr

/-- The Heater Controller (R62, R79, R80, R82, R83). `phase` and `power` are the ends of the phase timer and of
PREHEAT's power timer, in tenths; `stallRun` and `slowRun` count the consecutive steps of R80's checks;
`flameRestart` tells a RESTART purge after a flame-out from one after CHECK (R77); `stroke` is the period in ms of
the stroke in progress while the generator runs; `firstTx` is set until the first TX conversion after a reset (R62);
`grant` is the grant last reported. -/
structure HeaterUnit where
  state          : HeaterState
  lastFault      : Option HeaterFault
  attempt        : Nat
  frostRun       : Bool
  restartPending : Bool
  durationEnd    : Option Nat
  tempStage      : Option Stage
  desired        : Option Stage
  effective      : Option Stage
  lastRise       : Option Nat
  flameOut       : Nat
  igniteRef      : Option Int
  purge          : Option PurgeRecord
  flameRestart   : Bool
  phase          : Option Nat
  power          : Option Nat
  pauseHold      : Option Nat
  flameHold      : Option Nat
  overHold       : Option Nat
  underHold      : Option Nat
  frostHold      : Option Nat
  frostBackoff   : Option Nat
  failed         : Nat
  overheats      : Nat
  lockout        : Bool
  level          : ShedLevel
  grant          : Nat
  glow           : Bool
  duty           : Nat
  stallRun       : Nat
  slowRun        : Nat
  stroke         : Option Nat
  pulse          : Bool
  strokesRun     : Nat
  strokesTotal   : Nat
  firstTx        : Bool
deriving DecidableEq, Repr

/-! ### Fridge Controller -/

/-- The fridge states, in the order of R90. -/
inductive FridgeState where
  | off | idle | waitOff | start | run | fallbackOn | fallbackOff | stallWait | fault
deriving DecidableEq, Repr

/-- The TF readings, in the order of R90. -/
inductive TfReading where
  | reading | pending | lost
deriving DecidableEq, Repr

/-- What the thermostat works with from one TF conversion to the next (R91, R92): the effective setpoint, the hysteresis and
the max speed as they stood at the latest one. -/
structure FridgeUse where
  setpoint : Int
  hyst     : Nat
  maxSpeed : Nat
deriving DecidableEq, Repr

/-- The Fridge Controller and the roof vent (R90). `drive` is the latched compressor command (R94); `lastStop`,
`switchOn`, `phase`, `openSince` and `doorTimer` are in tenths, `boostEnd` and `ventRunEnd` on the elapsed counter. -/
structure FridgeUnit where
  state      : FridgeState
  level      : ShedLevel
  reading    : TfReading
  grant      : Nat
  drive      : Bool
  lastStop   : Nat
  switchOn   : Option Nat
  wanted     : Option Nat
  effective  : Option Nat
  satisfied  : Bool
  used       : FridgeUse
  boostEnd   : Option Nat
  phase      : Option Nat
  stallLog   : List Nat
  starts     : Nat
  doorOpen   : Bool
  openSince  : Option Nat
  alerts     : Nat
  doorTimer  : Option Nat
  ventSpeed  : Nat
  ventEff    : Nat
  ventGrant  : Nat
  ventRunEnd : Option Nat
deriving DecidableEq, Repr

/-! ### Light Controller -/

/-- A running fade (R107): its start level, its steps N and the steps done. -/
structure Fade where
  start : Nat
  n     : Nat
  k     : Nat
deriving DecidableEq, Repr

/-- One light channel (R107); its demand level is computed (R111). -/
structure LightChan where
  target  : Nat
  faded   : Nat
  fade    : Option Fade
  applied : Nat
  saved   : Option Nat
deriving DecidableEq, Repr

/-- One light group (R107): the grant last reported and the last trip; its D and Dmin are its request in `State.asked`. -/
structure LightGroup where
  grant    : Nat
  lastTrip : Option TripOutcome
deriving DecidableEq, Repr

/-- The door as the Light Controller knows it (R107). -/
inductive DoorState where
  | unknown | closed | opened
deriving DecidableEq, Repr

/-- The entry state (R107). -/
inductive EntryMode where
  | idle | active | returning
deriving DecidableEq, Repr

/-- The Light Controller (R107); the entry timer's end is in tenths. -/
structure LightUnit where
  chan    : Vector LightChan 6
  group   : Vector LightGroup 2
  level   : ShedLevel
  resting : Bool
  door    : DoorState
  entry   : EntryMode
  timer   : Option Nat
deriving DecidableEq, Repr

/-! ### Panel Interface -/

/-- A key's state (R120). -/
inductive KeyState where
  | opened | pressed | contested | ignored
deriving DecidableEq, Repr

/-- The key events, with the codes 0 to 2 in the order of R124. -/
inductive KeyEvent where
  | press | hold | release
deriving DecidableEq, Repr

/-- One key (R120). -/
structure KeyCell where
  closed : Bool
  run    : Nat
  state  : KeyState
  hold   : Bool
deriving DecidableEq, Repr

/-- One entry of the key queue (R120). -/
structure KeyReport where
  key   : Fin 16
  event : KeyEvent
  stamp : Stamp
deriving DecidableEq, Repr

/-- The last action (R127). -/
structure LastAction where
  key    : Fin 16
  action : KeyAction
  status : Status
deriving DecidableEq, Repr

/-- A key's LIGHT_UP or LIGHT_DOWN whose ADJUSTs are on their way: how many are left, and the status so far, the last one that is
not OK (R116, R127). -/
structure DimRun where
  key    : Fin 16
  action : KeyAction
  left   : Nat
  status : Status
deriving DecidableEq, Repr

/-- One contact (R128): `pin` is the input; `timer` is the length in ms the running debounce timer started with. -/
structure ContactCell where
  pin   : LineLevel
  level : Option LineLevel
  state : ContactState
  timer : Option Nat
deriving DecidableEq, Repr

/-- One queued chime request (R120). -/
structure ChimeRequest where
  pattern  : Fin 10
  priority : Nat
  arrival  : Nat
deriving DecidableEq, Repr

/-- The player at work (R131): the pattern and the fields it started with, the burst, ON or GAP, the present phase's
length in ms, and whether it ends at the end of the present on period. -/
structure Player where
  pattern : Fin 10
  shape   : Pattern
  burst   : Nat
  on      : Bool
  phaseMs : Nat
  ending  : Bool
deriving DecidableEq, Repr

/-- The Panel Interface (R120); `dims` is the model's own list of the light actions under way, oldest first (log entry 39). -/
structure PanelUnit where
  keys      : Vector KeyCell 16
  ambig     : BitVec 16
  ambiguous : Bool
  queue     : List KeyReport
  overrun   : Bool
  last      : Option LastAction
  dims      : List DimRun
  resting   : Bool
  standby   : Bool
  grant     : Nat
  contacts  : Vector ContactCell 6
  chimes    : List ChimeRequest
  arrivals  : Nat
  player    : Option Player
deriving DecidableEq, Repr

/-! ### Rest Monitor -/

/-- The rest states, in the order of R134. -/
inductive RestState where
  | unknown | driving | stopped | resting | rested
deriving DecidableEq, Repr

/-- One rest segment (R142), in cab times. -/
structure RestSeg where
  start    : Nat
  stop     : Option Nat
  split    : Bool
  consumed : Bool
deriving DecidableEq, Repr

/-- The open stop segment (R134). -/
structure StopSeg where
  start    : Nat
  consumed : Bool
deriving DecidableEq, Repr

/-- The Rest Monitor (R134). Instants are cab times; `stopTimer` and `repeatTimer` are the timers' ends on the elapsed
counter. -/
structure RestUnit where
  state         : RestState
  uncertain     : Bool
  move          : ContactState
  ign           : ContactState
  drive         : Nat
  acc           : Nat
  candidate     : Option Nat
  stopTimer     : Option Nat
  stopSeg       : Option StopSeg
  log           : List RestSeg
  done          : Bool
  plannedEnd    : Option Nat
  soon          : Bool
  limit         : Bool
  repeatTimer   : Option Nat
  endSoon       : Option Nat
  endSoonRaised : Bool
  starterHold   : Option Nat
  startRisk     : Bool
  horizon       : Nat
  placed        : Bool
deriving DecidableEq, Repr

/-! ### Schedule Unit -/

/-- A schedule entry's state (R156). -/
inductive EntryState where
  | armed | done | skipped | disabled
deriving DecidableEq, Repr

/-- A schedule entry's last result (R156): the reason is a status, or CLOCK where it is `none`. -/
structure EntryResult where
  done   : Bool
  reason : Option Status
  stamp  : Stamp
deriving DecidableEq, Repr

/-- One schedule entry (R156): `rest` is set for the REST origin, `daily` for the repeat DAILY. -/
structure SchedEntry where
  rest   : Bool
  time   : Nat
  daily  : Bool
  action : Action
  state  : EntryState
  last   : Option EntryResult
deriving DecidableEq, Repr

/-- The Schedule Unit (R154, R156); `tenth` counts the tenths of the present second. -/
structure ScheduleUnit where
  elapsed   : Nat
  tenth     : Nat
  offset    : Int
  unset     : Bool
  lastDelta : Option Int
  slots     : Vector (Option SchedEntry) 8
deriving DecidableEq, Repr

/-! ### Link Controller -/

/-- The receiver (R176): LEN and the bytes stored so far stand with BODY and CHECK. -/
inductive Receiver where
  | hunt
  | length
  | body (len : Nat) (got : List Byte)
  | check (len : Nat) (got : List Byte)
  | skip
deriving DecidableEq, Repr

/-- A queued notice (R181). -/
structure Notice where
  kind      : NoticeKind
  source    : Source
  severity  : Severity
  uncertain : Bool
  stamp     : Stamp
  data      : List Byte
deriving DecidableEq, Repr

/-- The request in hand (R179): `reply` is the reply frame being sent, absent while the target has not answered. -/
structure InHand where
  tag   : Byte
  kind  : Byte
  quiet : Bool
  reply : Option (List Byte)
deriving DecidableEq, Repr

/-- The Link Controller (R176 to R183): the receive queue holds frame bodies; `pulse` is set during the 50 µs release
of ATTN. -/
structure LinkUnit where
  rx       : Receiver
  queue    : List (List Byte)
  inHand   : Option InHand
  notices  : List Notice
  overflow : Bool
  pulse    : Bool
deriving DecidableEq, Repr

/-! ### Mode Controller and settings store -/

/-- The reset kinds, with R185's codes (RESET_DONE). -/
inductive ResetKind where
  | powerOn | restart
deriving DecidableEq, Repr

/-- The supply monitor (R190): running, or held in reset with the 100 ms count running or not. -/
inductive Supply where
  | running
  | held (counting : Bool)
deriving DecidableEq, Repr

/-- A stored host schedule entry (R156). -/
structure StoredEntry where
  time     : Nat
  daily    : Bool
  action   : Action
  disabled : Bool
deriving DecidableEq, Repr

/-- The settings part of the store (section 12.5) (log entry 27: DESIGN CHOICE). -/
structure Image where
  settings : Settings
  entries  : Vector (Option StoredEntry) 8
deriving DecidableEq, Repr

/-- The heater part of the store (section 12.5). -/
structure HeaterPart where
  failed    : Nat
  overheats : Nat
  lockout   : Bool
deriving DecidableEq, Repr

/-- A RESTART that has been accepted (R193): waiting for its reply's last byte, or for a store write. -/
inductive RestartWait where
  | none | reply | store
deriving DecidableEq, Repr

/-- The Mode Controller (R186, R190 to R194). A store part is `none` where it fails its CRC-16. `saving` is the image a
SAVE SETTINGS is writing, `heaterWrite` the values a heater-part write carries, `heaterAgain` a change during it. `woken` is the
model's own mark of the latest event: it took a wake source in AWAKE (R187) (log entry 10: DESIGN CHOICE). -/
structure ModeUnit where
  mode          : Mode
  silence       : Nat
  woken         : Bool
  lastReset     : ResetKind
  supply        : Supply
  settingsValid : Bool
  heaterValid   : Bool
  settingsPart  : Option Image
  heaterPart    : Option HeaterPart
  saving        : Option Image
  heaterWrite   : Option HeaterPart
  heaterAgain   : Bool
  restart       : RestartWait
deriving DecidableEq, Repr

/-- What a target answers to a host request: a status and the reply data after it (R179, R185) (log entry 8: DESIGN CHOICE). -/
structure Answer where
  status : Status
  data   : List Byte
deriving DecidableEq, Repr

end Sys2Proof.Machine
end

