-- ==== Sys2Proof/Machine/Reset.lean ====
section
/-! DEFINITION. What each block holds after a power-on reset, by the state tables of the chapters (R1, R15 to R20, R40,
R62, R90, R107, R120, R134, R154, R156, R176 to R186), and the fixed indices of channels, consumers and contacts. -/

namespace Sys2Proof.Machine

/-- The first and last cab time, elapsed time or counter value of 32 bits. -/
def max32 : Nat := 4294967295

/-- Channel numbers (Introduction, section 5.1). -/
def chanIx : Channel → Fin 7
  | .vh => 0 | .ih => 1 | .vs => 2 | .tc => 3 | .tf => 4 | .th => 5 | .tx => 6

/-- Comparator numbers (R13). -/
def compIx : Comparator → Fin 6
  | .t0 => 0 | .t1 => 1 | .t2 => 2 | .t3 => 3 | .t4 => 4 | .t5 => 5

/-- Consumer ids (section 3.1). -/
def consIx : Consumer → Fin 8
  | .panel => 0 | .heat => 1 | .fridge => 2 | .bunk => 3 | .cab => 4 | .vent => 5 | .socketA => 6 | .socketB => 7

/-- Contact numbers, in the order of section 7.6. -/
def contactIx : Contact → Fin 6
  | .move => 0 | .ign => 1 | .fdoor => 2 | .cdoor => 3 | .aux1 => 4 | .aux2 => 5

/-- Light group indices. -/
def groupIx : Group → Fin 2
  | .bunk => 0 | .cab => 1

/-- Socket indices. -/
def socketIx : Socket → Fin 2
  | .a => 0 | .b => 1

/-- All channels, in ascending number. -/
def allChannels : List Channel := [.vh, .ih, .vs, .tc, .tf, .th, .tx]

/-- All comparators, in ascending number. -/
def allComparators : List Comparator := [.t0, .t1, .t2, .t3, .t4, .t5]

/-- All consumers, in ascending id. -/
def allConsumers : List Consumer := [.panel, .heat, .fridge, .bunk, .cab, .vent, .socketA, .socketB]

/-- All contacts, in their order. -/
def allContacts : List Contact := [.move, .ign, .fdoor, .cdoor, .aux1, .aux2]

/-- All keys, in ascending number. -/
def allKeys : List (Fin 16) := [0, 1, 2, 3, 4, 5, 6, 7, 8, 9, 10, 11, 12, 13, 14, 15]

/-- All light channels, L1 first. -/
def allLights : List (Fin 6) := [0, 1, 2, 3, 4, 5]

/-- All schedule slots. -/
def allSlots : List (Fin 8) := [0, 1, 2, 3, 4, 5, 6, 7]

/-- All classes, 0 first. -/
def allClasses : List (Fin 8) := [0, 1, 2, 3, 4, 5, 6, 7]

/-- The classes admitted at each level (R35, R48). -/
def classesAdmitted : ShedLevel → List (Fin 8)
  | .normal => allClasses
  | .conserve => allClasses
  | .reserve => [0, 1]
  | .cutoff => []

/-- The working state a channel starts with, its host mark as given (R1, R3). -/
def chanStart (hostMark : Bool) : ChanEntry where
  code := none
  kind := none
  sample := none
  filtered := none
  outCount := 0
  inCount := 0
  rangeMark := false
  hostMark := hostMark
  status := .stale

/-- A comparator after a reset: every output is off, so it is OFF, or DISABLED where its n is 0 (R15, R16, R17). -/
def compReset (n : Nat) : CompEntry where
  state := if n = 0 then .disabled else .off
  current := 0
  total := 0
  lastTrip := none
  reading := 0

/-- The channels a mode samples (R2). -/
def sampledIn : Mode → Channel → Bool
  | .standby, .vh => true
  | .standby, .ih => true
  | .standby, .vs => true
  | .standby, _ => false
  | .awake, _ => true
  | .doze, _ => true

/-- The channels a scan begun in a mode converts: enabled and sampled, in ascending number (R2). -/
def scanOf (cfg : Settings) (m : Mode) : List Channel :=
  allChannels.filter fun ch => (tget cfg.chan (chanIx ch)).enabled && sampledIn m ch

/-- The MU after a reset: the first scan starts at the end of the reset, in AWAKE (R1, R2, R15 to R19)
(log entry 13: DESIGN CHOICE). -/
def muReset (cfg : Settings) : MeasureUnit where
  chan := #v[chanStart false, chanStart false, chanStart false, chanStart false, chanStart false, chanStart false,
    chanStart false]
  scanMode := .awake
  scanLeft := scanOf cfg .awake
  rescan := false
  comp := #v[compReset (tget cfg.thresholds 0), compReset (tget cfg.thresholds 1), compReset (tget cfg.thresholds 2),
    compReset (tget cfg.thresholds 3), compReset (tget cfg.thresholds 4), compReset (tget cfg.thresholds 5)]
  tach := ⟨none, none, 0⟩

/-- The budget of NORMAL (R35). -/
def budgetNormal (b : Battery) : Nat := b.aLim - b.aBase

/-- A guard after a reset (R20). -/
def guardReset : Guard := ⟨false, none, none⟩

/-- The CC after a power-on reset (R20). -/
def ccReset (cfg : Settings) : ChargeUnit where
  c := none
  residue := 0
  source := .ocv
  estimated := true
  starting := true
  accSum := 0
  accCount := 0
  window := []
  iavg := none
  endurance := none
  horizon := cfg.battery.horizon
  fullHold := none
  restHold := none
  low := guardReset
  cut := guardReset
  level := .normal
  countTarget := .normal
  sensorHold := false
  relief := 0
  ceiling := none
  budget := budgetNormal cfg.battery

/-- A consumer's entry after a reset: MASKED where the restored mask is set, IDLE otherwise (R40). -/
def consumerReset (mask : Bool) : ConsumerEntry where
  boosted := false
  request := none
  grant := 0
  state := if mask then .masked else .idle
  tripCount := 0
  window := none
  retryStep := 0
  lastTrip := none
  retry := none
  latched := false
  holds := []

/-- The members of a class after a reset, in ascending id (R42). -/
def classMembers (cfg : Settings) (k : Fin 8) : List Consumer :=
  allConsumers.filter fun c => tget cfg.classes (consIx c) == k

/-- The GA after a reset, holding the report handed at the end of that reset; no pass having been made, the unshared remainder and
the sum of the safety grants are 0 (R20, R40, R42, R47, R61) (log entry 13: DESIGN CHOICE). -/
def gaReset (cfg : Settings) : GrantUnit where
  entries := #v[consumerReset (tget cfg.masks 0), consumerReset (tget cfg.masks 1), consumerReset (tget cfg.masks 2),
    consumerReset (tget cfg.masks 3), consumerReset (tget cfg.masks 4), consumerReset (tget cfg.masks 5),
    consumerReset (tget cfg.masks 6), consumerReset (tget cfg.masks 7)]
  lists := #v[classMembers cfg 0, classMembers cfg 1, classMembers cfg 2, classMembers cfg 3, classMembers cfg 4,
    classMembers cfg 5, classMembers cfg 6, classMembers cfg 7]
  report := ⟨.normal, budgetNormal cfg.battery, allClasses⟩
  passes := 0
  safetySum := 0
  remainder := 0
  sockets := #v[⟨false, none⟩, ⟨false, none⟩]

/-- The HC after a reset, with its stored counters and lockout flag (R62). -/
def heaterReset (h : HeaterPart) : HeaterUnit where
  state := if h.lockout then .lockout else .off
  lastFault := none
  attempt := 1
  frostRun := false
  restartPending := false
  durationEnd := none
  tempStage := none
  desired := none
  effective := none
  lastRise := none
  flameOut := 0
  igniteRef := none
  purge := none
  flameRestart := false
  phase := none
  power := none
  pauseHold := none
  flameHold := none
  overHold := none
  underHold := none
  frostHold := none
  frostBackoff := none
  failed := h.failed
  overheats := h.overheats
  lockout := h.lockout
  level := .normal
  grant := 0
  glow := false
  duty := 0
  stallRun := 0
  slowRun := 0
  stroke := none
  pulse := false
  strokesRun := 0
  strokesTotal := 0
  firstTx := true

/-- The FC after a reset (R90); the last stop is the end of the reset, elapsed 0, and the thermostat works with the restored
settings (log entry 18: DESIGN CHOICE). -/
def fridgeReset (cfg : Settings) : FridgeUnit where
  state := if cfg.fridgeSet.enable then .idle else .off
  level := .normal
  reading := .pending
  grant := 0
  drive := false
  lastStop := 0
  switchOn := none
  wanted := none
  effective := none
  satisfied := false
  used := ⟨cfg.fridgeSet.setpoint, cfg.fridgeSet.hyst, cfg.fridgeSet.maxSpeed⟩
  boostEnd := none
  phase := none
  stallLog := []
  starts := 0
  doorOpen := false
  openSince := none
  alerts := 0
  doorTimer := none
  ventSpeed := 0
  ventEff := 0
  ventGrant := 0
  ventRunEnd := none

/-- A light channel after a reset (R107). -/
def lightReset : LightChan := ⟨0, 0, none, 0, none⟩

/-- The LC after a reset (R107). -/
def lightsReset : LightUnit where
  chan := #v[lightReset, lightReset, lightReset, lightReset, lightReset, lightReset]
  group := #v[⟨0, none⟩, ⟨0, none⟩]
  level := .normal
  resting := false
  door := .unknown
  entry := .idle
  timer := none

/-- A key after a reset (R120). -/
def keyReset : KeyCell := ⟨false, 0, .opened, false⟩

/-- A contact after a reset: its input stands as it is, a change during the reset included (`pinInReset`), and its debounce timer
runs from the end of the reset (R120, R128). -/
def contactReset (pin : LineLevel) (c : ContactSet) : ContactCell := ⟨pin, none, .unknown, some c.debounce⟩

/-- The PI after a reset (R120); the contact inputs stand as they are (log entries 3 and 13: DESIGN CHOICE). -/
def panelReset (cfg : Settings) (pins : Vector LineLevel 6) : PanelUnit where
  keys := #v[keyReset, keyReset, keyReset, keyReset, keyReset, keyReset, keyReset, keyReset, keyReset, keyReset, keyReset,
    keyReset, keyReset, keyReset, keyReset, keyReset]
  ambig := 0
  ambiguous := false
  queue := []
  overrun := false
  last := none
  dims := []
  resting := false
  standby := false
  grant := 0
  contacts := #v[contactReset (tget pins 0) (tget cfg.contacts 0), contactReset (tget pins 1) (tget cfg.contacts 1),
    contactReset (tget pins 2) (tget cfg.contacts 2), contactReset (tget pins 3) (tget cfg.contacts 3),
    contactReset (tget pins 4) (tget cfg.contacts 4), contactReset (tget pins 5) (tget cfg.contacts 5)]
  chimes := []
  arrivals := 0
  player := none

/-- The RM after a reset (R134). -/
def restReset (cfg : Settings) : RestUnit where
  state := .unknown
  uncertain := false
  move := .unknown
  ign := .unknown
  drive := 0
  acc := 0
  candidate := none
  stopTimer := none
  stopSeg := none
  log := []
  done := false
  plannedEnd := none
  soon := false
  limit := false
  repeatTimer := none
  endSoon := none
  endSoonRaised := false
  starterHold := none
  startRisk := false
  horizon := cfg.battery.horizon
  placed := false

/-- The entry a stored host entry is restored as: DISABLED where it was stored so, ARMED otherwise (R156). -/
def restoreEntry (e : StoredEntry) : SchedEntry where
  rest := false
  time := e.time
  daily := e.daily
  action := e.action
  state := if e.disabled then .disabled else .armed
  last := none

/-- The schedule table after a reset (R156). -/
def slotsReset (img : Option Image) : Vector (Option SchedEntry) 8 :=
  match img with
  | none => #v[none, none, none, none, none, none, none, none]
  | some i =>
    #v[(tget i.entries 0).map restoreEntry, (tget i.entries 1).map restoreEntry, (tget i.entries 2).map restoreEntry,
      (tget i.entries 3).map restoreEntry, (tget i.entries 4).map restoreEntry, (tget i.entries 5).map restoreEntry,
      (tget i.entries 6).map restoreEntry, (tget i.entries 7).map restoreEntry]

/-- The SU after a power-on reset (R154, R156). -/
def scheduleReset (img : Option Image) : ScheduleUnit where
  elapsed := 0
  tenth := 0
  offset := 0
  unset := true
  lastDelta := none
  slots := slotsReset img

/-- The first notices after a reset: RESET_DONE, then SETTINGS_DEFAULTED where a store part fails (R190, R193)
(log entry 13: DESIGN CHOICE). -/
def resetNotices (kind : ResetKind) (st : Stamp) (defaulted : Bool) : List Notice :=
  let done : Notice := ⟨.resetDone, .mc, .attention, false, st, [if kind = .powerOn then 0 else 1]⟩
  if defaulted then [done, ⟨.settingsDefaulted, .mc, .warning, false, st, []⟩] else [done]

/-- The LK after a reset (R176, R178, R181, R183) (log entry 13: DESIGN CHOICE). -/
def linkReset (notices : List Notice) : LinkUnit where
  rx := .hunt
  queue := []
  inHand := none
  notices := notices
  overflow := false
  pulse := false

/-- What a failing heater part leaves: counters 0 and the flag clear (R62). -/
def heaterPartDefault : HeaterPart := ⟨0, 0, false⟩

/-- The MC after a reset, with the store as the check of that reset found it (R186, R191) (log entry 13: DESIGN CHOICE). -/
def modeReset (kind : ResetKind) (settingsPart : Option Image) (heaterPart : Option HeaterPart) : ModeUnit where
  mode := .awake
  silence := 0
  woken := false
  lastReset := kind
  supply := .running
  settingsValid := settingsPart.isSome
  heaterValid := heaterPart.isSome
  settingsPart := settingsPart
  heaterPart := heaterPart
  saving := none
  heaterWrite := none
  heaterAgain := false
  restart := .none

/-- PANEL's request, formed from DEMANDS (R46, R120). -/
def panelRequest (d : Demands) : Request := ⟨d.panel, d.panel, none, false⟩

/-- The requests the owners hold at the end of a reset: PANEL's alone (R40, R120). -/
def askedReset (cfg : Settings) : Vector (Option Request) 8 :=
  #v[some (panelRequest cfg.demands), none, none, none, none, none, none, none]

/-- Every record's revision is 0 after a reset (R174) (log entry 14: DESIGN CHOICE). -/
def revReset : Vector Nat 26 :=
  #v[0, 0, 0, 0, 0, 0, 0, 0, 0, 0, 0, 0, 0, 0, 0, 0, 0, 0, 0, 0, 0, 0, 0, 0, 0, 0]

end Sys2Proof.Machine
end

