-- ==== Sys2Proof/Machine/State.lean ====
section
/-! DEFINITION. The machine's whole state, what it is right after a power-on reset, and the reasons a step can stop. -/

namespace Sys2Proof.Machine

/-- The part's state. `cfg` holds the persistent settings the owners use. `asked` holds each consumer's request as its
owner last placed it. `rev` holds the revisions of records 1 to 26. `answer` is the last answer a target gave to a host
request. `handed` holds the handings between blocks that have been made and not yet taken, first in, first out.
`choices` counts the free choices made. `pending` is the queue of commands waiting. -/
structure State where
  cfg     : Settings
  mu      : MeasureUnit
  cc      : ChargeUnit
  ga      : GrantUnit
  asked   : Vector (Option Request) 8
  hc      : HeaterUnit
  fc      : FridgeUnit
  lc      : LightUnit
  pn      : PanelUnit
  rm      : RestUnit
  su      : ScheduleUnit
  rev     : Vector Nat 26
  lk      : LinkUnit
  mc      : ModeUnit
  answer  : Option Answer
  handed  : List Instr
  choices : Nat
  pending : List Instr
deriving DecidableEq, Repr

/-- The faults a step can end in: none. No rule of the spec stops the part, so the type has no constructor, and no
meaning can raise one (safe: nothing is hidden behind it). -/
inductive Fault where
deriving DecidableEq, Repr

/-- The refusals of a step. -/
inductive Refusal where
  /-- Raised by an arm of `exec` whose command has no meaning yet; safe, since the machine stops. No arm raises it. -/
  | notModelled (mnemonic : String)
deriving DecidableEq, Repr

/-- The contact inputs of a part on the bench: each at the level that is not its default active level
(log entry 3: DESIGN CHOICE). -/
def pinsIdle : Vector LineLevel 6 := #v[.low, .low, .high, .high, .low, .low]

/-- The part right after a power-on reset, its settings store never written: both parts fail their check and every
setting stands at its default (R190, R191). PANEL's request has been handed to the GA and waits to be taken (R120). -/
def State.reset : State where
  cfg := settingsDefault
  mu := muReset settingsDefault
  cc := ccReset settingsDefault
  ga := gaReset settingsDefault
  asked := askedReset settingsDefault
  hc := heaterReset heaterPartDefault
  fc := fridgeReset settingsDefault
  lc := lightsReset
  pn := panelReset settingsDefault pinsIdle
  rm := restReset settingsDefault
  su := scheduleReset none
  rev := revReset
  lk := linkReset (resetNotices .powerOn ⟨0, true⟩ true)
  mc := modeReset .powerOn none none
  answer := none
  handed := [.placeRequest .panel (panelRequest demandsDefault)]
  choices := 0
  pending := []

end Sys2Proof.Machine
end

