-- ==== Sys2Proof/Machine/Ops.lean ====
section
/-! DEFINITION. The shared operations: reading the clocks, handing from block to block, posting a notice, answering a
request, holding a request at the Grant Arbiter, free choices, and bytes on the link. -/

namespace Sys2Proof.Machine

/-! ### The clocks (R154) -/

/-- The elapsed time in tenths of a second. -/
def now (s : State) : Nat := s.su.elapsed * 10 + s.su.tenth

/-- The cab time: the elapsed counter plus the offset, held at 4,294,967,295 (R154); a sum below 0, which only the counter's open
value past its end could make, reads as 0 (log entry 7: DESIGN CHOICE). -/
def cabTime (s : State) : Nat := min max32 ((s.su.elapsed : Int) + s.su.offset).toNat

/-- The cab time as reported, with the UNSET flag (R154). What keeps a stamp keeps the flag as it stood then
(log entry 40: DESIGN CHOICE). -/
def stampNow (s : State) : Stamp := ⟨cabTime s, s.su.unset⟩

/-- A number of whole units of `unit`; where the amount does not divide, its rounding is open (log entry 6). -/
def shownUnits (unit amount : Nat) : Nat :=
  if amount % unit = 0 then amount / unit
  else amount / unit + (if Config.roundsUp amount then 1 else 0)

/-- A number of seconds shown in minutes (log entry 6: DESIGN CHOICE). -/
def shownMinutes (sec : Nat) : Nat := shownUnits 60 sec

/-- The tenths left to a timer's end. -/
def tenthsLeft (s : State) (stop : Nat) : Nat := stop - now s

/-- Whether a hold begun at `start` has been met for `tenths` (R62). -/
def heldFor (s : State) (start tenths : Nat) : Bool := decide (start + tenths ≤ now s)

/-- Whether a hold that may be none has been met for `tenths` (R62). -/
def holdMet (s : State) (hold : Option Nat) (tenths : Nat) : Bool :=
  match hold with
  | some t => heldFor s t tenths
  | none => false

/-! ### Free choices (log entry 5) -/

/-- The items in an order no rule fixes: each next item is a free choice among those left. -/
def freeOrder {α : Type} : Nat → Nat → List α → List α
  | 0, _, xs => xs
  | _ + 1, _, [] => []
  | _ + 1, _, [x] => [x]
  | fuel + 1, k, x :: y :: rest =>
    let i := Config.freeChoice k % (rest.length + 2)
    match (x :: y :: rest)[i]? with
    | some z => z :: freeOrder fuel (k + 1) ((x :: y :: rest).eraseIdx i)
    | none => x :: freeOrder fuel (k + 1) (y :: rest)

/-- The items in a free order, read at the running number of choices (log entry 5: DESIGN CHOICE). -/
def anyOrder {α : Type} (s : State) (xs : List α) : List α := freeOrder xs.length s.choices xs

/-- The running number of choices moved past those an order of `n` items may have made (log entry 5: DESIGN CHOICE). -/
def countChoices (n : Nat) (s : State) : State := { s with choices := s.choices + n }

/-! ### Handings between blocks -/

/-- A block hands something to another block, which takes it as an event of its own (the rows of the table). -/
def hand (i : Instr) (s : State) : State := { s with handed := s.handed ++ [i] }

/-- The command is taken: where it is a handing in flight, it is no longer (log entry 2: DESIGN CHOICE). -/
def takeHanding (i : Instr) (s : State) : State := { s with handed := s.handed.erase i }

/-- A handing raised at a tick, once (R154): nothing is added where it is already in flight. -/
def raise (i : Instr) (s : State) : State := if i ∈ s.handed then s else hand i s

/-- A block posts a notice to the Link Controller (R181). -/
def post (kind : NoticeKind) (src : Source) (sev : Severity) (data : List Byte) (s : State) : State :=
  hand (.noticePost ⟨kind, src, sev, false, data⟩) s

/-- A block requests a chime from the Panel Interface (R130). -/
def chime (p : Fin 10) (s : State) : State := hand (.chimeRequest p) s

/-- A target answers a host request (R179). -/
def answer (st : Status) (data : List Byte) (s : State) : State := { s with answer := some ⟨st, data⟩ }

/-- An owner brings its consumer's request to what its state calls for: it places, changes or withdraws it at the GA,
or does nothing where it stands (R45). -/
def ask (c : Consumer) (r : Option Request) (s : State) : State :=
  let s1 := { s with asked := tset s.asked (consIx c) r }
  match tget s.asked (consIx c), r with
  | none, none => s
  | none, some new => hand (.placeRequest c new) s1
  | some _, none => hand (.withdrawRequest c) s1
  | some old, some new => if old = new then s else hand (.changeRequest c new) s1

/-! ### Bytes on the link (R184) -/

/-- A whole number in `w` bytes, two's complement, least significant byte first. -/
def leBytes : Nat → Int → List Byte
  | 0, _ => []
  | w + 1, v => BitVec.ofInt 8 v :: leBytes w (v / 256)

/-- The unsigned number of bytes sent least significant first. -/
def ofLe : List Byte → Nat
  | [] => 0
  | b :: bs => b.toNat + 256 * ofLe bs

/-- The signed number of bytes sent least significant first. -/
def ofLeSigned (bs : List Byte) : Int :=
  let n := ofLe bs
  if 2 * n < 256 ^ bs.length then (n : Int) else (n : Int) - (256 ^ bs.length : Nat)

/-- A byte holding a number. -/
def byte (n : Nat) : Byte := BitVec.ofNat 8 n

/-- A flag's bit at a place of a byte. -/
def bit (b : Bool) (place : Nat) : Nat := if b then 2 ^ place else 0

/-- One byte through the CRC-8 of R176: polynomial x^8 + x^2 + x + 1, most significant bit first. -/
def crcShift : Nat → Byte → Byte
  | 0, c => c
  | n + 1, c => crcShift n (if c.msb then (c <<< 1) ^^^ 0x07 else c <<< 1)

/-- The CRC-8 of R176 over bytes in order, initial value 0. -/
def crc8 (bs : List Byte) : Byte := bs.foldl (fun c b => crcShift 8 (c ^^^ b)) 0

/-! ### Codes (R184: the index of a value in the order its chapter lists the values) -/

/-- The code of a shed level. -/
def levelCode : ShedLevel → Nat
  | .normal => 0 | .conserve => 1 | .reserve => 2 | .cutoff => 3

/-- The code of a status (R185). -/
def statusCode : Status → Nat
  | .ok => 0 | .clamped => 1 | .range => 2 | .mismatch => 3 | .unknownKind => 4 | .unknownRecord => 5 | .readOnly => 6
  | .owned => 7 | .state => 8 | .noPower => 9 | .noRoom => 10 | .empty => 11 | .badLength => 12

/-- The code of a mode. -/
def modeCode : Mode → Nat
  | .awake => 0 | .doze => 1 | .standby => 2

/-- The code of a sample status. -/
def sampleCode : SampleStatus → Nat
  | .valid => 0 | .suspect => 1 | .stale => 2

/-- The code of a heater state. -/
def heaterCode : HeaterState → Nat
  | .off => 0 | .waitPower => 1 | .check => 2 | .preheat => 3 | .prime => 4 | .ignite => 5 | .stabilize => 6 | .run => 7
  | .pause => 8 | .purge => 9 | .dryCool => 10 | .lockout => 11 | .vent => 12

/-- The code of a heater fault. -/
def faultCode : HeaterFault → Nat
  | .noPower => 0 | .sensor => 1 | .glowOpen => 2 | .glowShort => 3 | .noIgnition => 4 | .flameLoss => 5 | .overheat => 6
  | .flameSensor => 7 | .undervolt => 8 | .blower => 9 | .purgeHot => 10

/-- The code of a heater stage (R88). -/
def stageCode : Stage → Nat
  | .low => 0 | .mid => 1 | .high => 2

/-- The code of a purge exit. -/
def exitCode : PurgeExit → Nat
  | .off => 0 | .pause => 1 | .retry => 2 | .restart => 3

/-- The code of a fridge state. -/
def fridgeCode : FridgeState → Nat
  | .off => 0 | .idle => 1 | .waitOff => 2 | .start => 3 | .run => 4 | .fallbackOn => 5 | .fallbackOff => 6
  | .stallWait => 7 | .fault => 8

/-- The code of a rest state. -/
def restCode : RestState → Nat
  | .unknown => 0 | .driving => 1 | .stopped => 2 | .resting => 3 | .rested => 4

/-- The code of a consumer's state. -/
def consumerStateCode : ConsumerState → Nat
  | .idle => 0 | .waiting => 1 | .granted => 2 | .reduced => 3 | .safety => 4 | .masked => 5 | .tripped => 6 | .latched => 7

/-- The code of a contact's state. -/
def contactCode : ContactState → Nat
  | .active => 0 | .inactive => 1 | .unknown => 2

/-- The code of a panel action's kind. -/
def keyActionCode : KeyAction → Nat
  | .none => 0 | .lightToggle => 1 | .lightUp => 2 | .lightDown => 3 | .scene => 4 | .heatToggle => 5 | .heatUp => 6
  | .heatDown => 7 | .fridgeBoost => 8 | .ventStep => 9 | .restToggle => 10 | .silence => 11

/-- A consumer's outcome byte in a TRIP notice: its retry step, or 0x80 for LATCHED (R185). -/
def outcomeCode : TripOutcome → Nat
  | .tripped step => step
  | .latched => 128

/-- The action codes of R185's ADD ENTRY table. -/
def actionCode : Action → Nat
  | .heatStart _ _ => 1 | .heatStop => 2 | .scene _ => 3 | .chime _ => 4 | .fridgeBoost => 5 | .vent _ => 6

/-- The notice kinds' codes (R185). -/
def noticeCode : NoticeKind → Nat
  | .resetDone => 1 | .settingsDefaulted => 2 | .sensor => 3 | .chargeSync => 4 | .shedLevel => 5 | .trip => 6
  | .socket => 7 | .heaterState => 8 | .heaterFault => 9 | .fridge => 10 | .door => 11 | .vent => 12 | .keysWaiting => 13
  | .panel => 14 | .contact => 15 | .restChange => 16 | .driveSoon => 17 | .driveLimit => 18 | .breakDone => 19
  | .restShort => 20 | .restEndSoon => 21 | .restDone => 22 | .startRisk => 23 | .schedule => 24 | .linkOverrun => 25
  | .quietError => 26

/-- The notice sources' codes (R185). -/
def sourceCode : Source → Nat
  | .mu => 1 | .cc => 2 | .ga => 3 | .hc => 4 | .fc => 5 | .lc => 6 | .pi => 7 | .rm => 8 | .su => 9 | .rmg => 10
  | .lk => 11 | .mc => 12

/-- The severities' codes (R184). -/
def severityCode : Severity → Nat
  | .info => 0 | .attention => 1 | .warning => 2

/-- The minutes of BREAK_DONE and REST_DONE in their 2 bytes (R185); what stands there for more than 65,535 is free
(log entry 42: DESIGN CHOICE). -/
def minuteBytes (n : Nat) : List Byte := leBytes 2 ((if n ≤ 65535 then n else Config.minutesPastField n : Nat) : Int)

/-- Two 12-bit values packed in three bytes (R185), each held at 4,095. -/
def packed12 (a b : Nat) : List Byte := leBytes 3 ((min 4095 a + 4096 * min 4095 b : Nat) : Int)

end Sys2Proof.Machine
end

