-- ==== Sys2Proof/Machine/Operands.lean ====
section
/-! DEFINITION. The quantities the commands read and compute with: charge arithmetic, demands and requests, thresholds,
blower and pump settings, light demands. Each is computed from the state by the formula of its rule. -/

namespace Sys2Proof.Machine

/-! ### Channels -/

/-- A channel's working state. -/
def chanOf (s : State) (ch : Channel) : ChanEntry := tget s.mu.chan (chanIx ch)

/-- A channel's status (R7). -/
def statusOf (s : State) (ch : Channel) : SampleStatus := (chanOf s ch).status

/-- Whether a channel is VALID. -/
def isValid (s : State) (ch : Channel) : Bool := statusOf s ch == .valid

/-- A channel's filtered value where the channel is VALID. -/
def validFiltered (s : State) (ch : Channel) : Option Int :=
  if isValid s ch then (chanOf s ch).filtered else none

/-- Whether a channel's filtered value is VALID and below a level. -/
def validBelow (s : State) (ch : Channel) (level : Int) : Bool :=
  match validFiltered s ch with
  | some v => decide (v < level)
  | none => false

/-- Whether a channel's filtered value is VALID and above a level. -/
def validAbove (s : State) (ch : Channel) (level : Int) : Bool :=
  match validFiltered s ch with
  | some v => decide (level < v)
  | none => false

/-! ### Charge arithmetic (R20, R21, R25, R30, R35) -/

/-- Cres, the reserve charge (R21). -/
def reserveCharge (b : Battery) : Nat := b.cap * b.reserve / 100

/-- S for a charge content (R20, R24). -/
def socOf (b : Battery) (c : Nat) : Nat := c * 1000 / b.cap

/-- R25's lookup between the points from index `i` on. -/
def ocvWalk (v : Nat) : Nat → List Nat → Nat
  | i, a :: b :: rest => if v < b then 125 * i + (v - a) * 125 / (b - a) else ocvWalk v (i + 1) (b :: rest)
  | i, _ => 125 * i

/-- The OCV lookup, in per-mille (R25). -/
def ocvLookup (b : Battery) (v : Int) : Nat :=
  if v < ((tget b.ocv 0 : Nat) : Int) then 0
  else if ((tget b.ocv 8 : Nat) : Int) ≤ v then 1000
  else ocvWalk v.toNat 0 b.ocv.toList

/-- A charge set from the lookup (R25). -/
def chargeFromOcv (b : Battery) (soc : Nat) : Nat := soc * b.cap / 1000

/-- A_fit, in mA (R35). -/
def fitCurrent (b : Battery) (c : Option Nat) (h : Nat) : Nat :=
  match c with
  | some c => if reserveCharge b < c then (c - reserveCharge b) * 60 / h else 0
  | none => 0

/-- The budget of a level (R35). -/
def budgetOf (b : Battery) (level : ShedLevel) (c : Option Nat) (h : Nat) : Nat :=
  match level with
  | .normal => budgetNormal b
  | .conserve => min b.aLim (fitCurrent b c h / 100) - b.aBase
  | .reserve => b.aRes
  | .cutoff => 0

/-- The most severe of two levels (R20). -/
def worse (a b : ShedLevel) : ShedLevel := if levelCode a < levelCode b then b else a

/-- The interval factor of a scan, in tenths of a second (R23). -/
def intervalFactor : Mode → Nat
  | .awake => 1 | .doze => 5 | .standby => 50

/-! ### Consumers (R41, R46) -/

/-- A consumer's entry. -/
def entryOf (s : State) (c : Consumer) : ConsumerEntry := tget s.ga.entries (consIx c)

/-- A consumer's effective class (R41). -/
def effectiveClass (s : State) (c : Consumer) : Fin 8 :=
  if (entryOf s c).boosted then 0 else tget s.cfg.classes (consIx c)

/-- The outputs a consumer's grant gates (section 3.1). -/
def outputsOf : Consumer → List Output
  | .panel => [.panel]
  | .heat => [.glow, .pump, .blower]
  | .fridge => [.compressor]
  | .bunk => [.light 0, .light 1]
  | .cab => [.light 2, .light 3, .light 4, .light 5]
  | .vent => [.vent]
  | .socketA => [.socket .a]
  | .socketB => [.socket .b]

/-- The consumer whose grant gates an output (section 3.1). -/
def consumerOf : Output → Consumer
  | .panel => .panel
  | .glow => .heat
  | .pump => .heat
  | .blower => .heat
  | .compressor => .fridge
  | .light i => if i.1 < 2 then .bunk else .cab
  | .vent => .vent
  | .socket .a => .socketA
  | .socket .b => .socketB

/-- The outputs a comparator watches (R13). -/
def watchedBy : Comparator → List Output
  | .t0 => [.glow]
  | .t1 => [.blower]
  | .t2 => [.compressor]
  | .t3 => [.light 0, .light 1, .light 2, .light 3, .light 4, .light 5]
  | .t4 => [.socket .a]
  | .t5 => [.socket .b]

/-- The consumers a comparator's trip names (R13) (log entry 20: DESIGN CHOICE). -/
def namedBy : Comparator → List Consumer
  | .t0 => [.heat]
  | .t1 => [.heat]
  | .t2 => [.fridge]
  | .t3 => [.bunk, .cab]
  | .t4 => [.socketA]
  | .t5 => [.socketB]

/-- The consumer of a light group. -/
def groupConsumer : Group → Consumer
  | .bunk => .bunk | .cab => .cab

/-- The consumer of a socket. -/
def socketConsumer : Socket → Consumer
  | .a => .socketA | .b => .socketB

/-- A socket's request (R46, R47). -/
def socketRequest (d : Demands) (k : Socket) : Request :=
  let v := tget d.socket (socketIx k)
  ⟨v, v, none, false⟩

/-! ### Heater -/

/-- The demand of a stage (R46). -/
def stageDemand (d : Demands) : Stage → Nat
  | .low => d.low | .mid => d.mid | .high => d.high

/-- The steps LOW up to a stage (R63). -/
def stageSteps (d : Demands) : Stage → List Nat
  | .low => [d.low] | .mid => [d.low, d.mid] | .high => [d.low, d.mid, d.high]

/-- The burning states (R63). -/
def burning : HeaterState → Bool
  | .prime => true | .ignite => true | .stabilize => true | .run => true
  | _ => false

/-- The heater states that keep the part out of DOZE (R187). -/
def startSequence : HeaterState → Bool
  | .check => true | .preheat => true | .prime => true | .ignite => true | .stabilize => true
  | _ => false

/-- HEAT's request in each state (R63). -/
def heaterRequest (d : Demands) (h : HeaterUnit) : Option Request :=
  match h.state with
  | .off | .pause | .dryCool | .lockout => none
  | .waitPower | .check => some ⟨d.check, d.check, none, false⟩
  | .preheat | .prime | .ignite => some ⟨d.start, d.start, none, false⟩
  | .stabilize => some ⟨d.stabilize, d.stabilize, none, false⟩
  | .run =>
    let g := h.desired.getD .low
    some ⟨stageDemand d g, d.low, some (stageSteps d g), false⟩
  | .purge => some ⟨d.purge, d.purge, none, true⟩
  | .vent => some ⟨d.ventD, d.ventDmin, none, false⟩

/-- The working setpoint: HEATER_SET's, or the frost threshold plus 3.0 °C during a frost run (R64, R87). -/
def workingSetpoint (s : State) : Int :=
  if s.hc.frostRun then s.cfg.heaterSet.threshold + 30 else s.cfg.heaterSet.setpoint

/-- The pump rate in 0.01 Hz, 0 where the pump is off (R63); the LOW rate in RUN without an effective stage
(log entry 15: DESIGN CHOICE). -/
def pumpRate (t : HeaterTune) (h : HeaterUnit) : Nat :=
  match h.state with
  | .prime | .ignite => t.startRate
  | .stabilize => t.lowRate
  | .run =>
    match h.effective with
    | some .mid => t.midRate
    | some .high => t.highRate
    | _ => t.lowRate
  | _ => 0

/-- The blower target in rpm, 0 where the blower is off (R63, R79); the LOW target in RUN without an effective stage
(log entry 15: DESIGN CHOICE). -/
def blowerTarget (s : State) : Nat :=
  let t := s.cfg.heaterTune
  match s.hc.state with
  | .preheat => t.preheatTarget
  | .prime | .ignite | .stabilize => t.lowTarget
  | .run =>
    match s.hc.effective with
    | some .mid => t.midTarget
    | some .high => t.highTarget
    | _ => t.lowTarget
  | .purge => t.purgeTarget
  | .vent => t.ventTarget * s.hc.grant / s.cfg.demands.ventD
  | _ => 0

/-- A stroke period in ms: round(100,000 / rate), halves rounded up (R82). -/
def strokePeriod (rate : Nat) : Nat := (200000 + rate) / (2 * rate)

/-- The highest stage at or below the desired one whose demand is at or below the grant (R74). Where no stage's demand fits, which
takes a LOW demand written above the held grant, the effective stage is absent (log entry 15: DESIGN CHOICE). -/
def effectiveStage (d : Demands) (desired : Stage) (grant : Nat) : Option Stage :=
  match desired with
  | .high => if d.high ≤ grant then some .high else if d.mid ≤ grant then some .mid
             else if d.low ≤ grant then some .low else none
  | .mid => if d.mid ≤ grant then some .mid else if d.low ≤ grant then some .low else none
  | .low => if d.low ≤ grant then some .low else none

/-! ### Fridge and vent -/

/-- The effective setpoint (R92). -/
def fridgeSetpoint (s : State) : Int :=
  s.cfg.fridgeSet.setpoint
    + (if s.fc.level = .conserve then (s.cfg.fridgeSet.offset : Int) else 0)
    - (if s.fc.boostEnd.isSome then 20 else 0)

/-- The upper threshold (R92). -/
def upperThreshold (s : State) : Int := fridgeSetpoint s + (ceilDiv s.cfg.fridgeSet.hyst 2 : Nat)

/-- The lower threshold (R92). -/
def lowerThreshold (s : State) : Int := fridgeSetpoint s - (s.cfg.fridgeSet.hyst / 2 : Nat)

/-- The demand of a fridge speed 1 to 4 (R46). -/
def speedDemand (d : Demands) (n : Nat) : Nat := d.fridge.toList.getD (n - 1) 0

/-- FRIDGE's request for a wanted speed (R94). -/
def speedRequest (d : Demands) (w : Nat) : Request :=
  ⟨speedDemand d w, speedDemand d 1, some (d.fridge.toList.take w), false⟩

/-- FRIDGE's request in each state (R94). -/
def fridgeRequest (d : Demands) (f : FridgeUnit) : Option Request :=
  match f.state with
  | .off | .idle | .waitOff | .fallbackOff | .stallWait | .fault => none
  | .start | .run => some (speedRequest d (f.wanted.getD 1))
  | .fallbackOn => some (speedRequest d 1)

/-- The temperature speed of e (R98). -/
def tempSpeed (e : Int) : Nat := if e < 10 then 1 else if e < 25 then 2 else if e < 40 then 3 else 4

/-- The highest speed at or below `w` whose demand is at or below the grant, of demands listed from speed 1 (R98, R104);
0 where there is none. -/
def speedWithin (demands : List Nat) (w grant : Nat) : Nat :=
  ((demands.take w).filter fun x => decide (x ≤ grant)).length

/-- VENT's request for a vent speed, absent at OFF (R104). -/
def ventRequest (d : Demands) (speed : Nat) : Option Request :=
  if speed = 0 then none
  else some ⟨d.vent.toList.getD (speed - 1) 0, tget d.vent 0, some (d.vent.toList.take speed), false⟩

/-! ### Lights -/

/-- A light channel. -/
def lightOf (s : State) (i : Fin 6) : LightChan := tget s.lc.chan i

/-- The group of a light channel (section 6's table). -/
def groupOf (i : Fin 6) : Group := if i.1 < 2 then .bunk else .cab

/-- The channels of a group. -/
def groupLights : Group → List (Fin 6)
  | .bunk => [0, 1] | .cab => [2, 3, 4, 5]

/-- The full current per channel of a group, in d-amps (section 6's table). -/
def fullCurrent : Group → Nat
  | .bunk => 3 | .cab => 5

/-- A channel's demand level (R111). -/
def demandLevel (l : LightChan) : Nat :=
  match l.fade with
  | none => l.target
  | some f => max l.target f.start

/-- A group's demand D in d-amps, 0 where it asks for nothing (R111). -/
def groupDemand (s : State) (g : Group) : Nat :=
  ceilDiv (((groupLights g).map fun i => fullCurrent g * demandLevel (lightOf s i)).sum) 1000

/-- A group's request (R111). -/
def groupRequest (s : State) (g : Group) : Option Request :=
  let d := groupDemand s g
  if d = 0 then none else some ⟨d, ceilDiv d 4, none, false⟩

/-- The caps in force for a group (R113). -/
def capsInForce (s : State) (g : Group) : List Nat :=
  match g with
  | .bunk => if s.lc.level = .conserve then [s.cfg.lights.conserveBunk] else []
  | .cab => (if s.lc.level = .conserve then [s.cfg.lights.conserveCab] else [])
            ++ (if s.lc.resting && s.lc.entry == .idle then [s.cfg.lights.restCab] else [])

/-- A channel's applied level from its faded level, its group's D and held grant, and the caps in force (R112). -/
def appliedLevel (s : State) (i : Fin 6) : Nat :=
  let g := groupOf i
  let held := (tget s.lc.group (groupIx g)).grant
  match tget s.asked (consIx (groupConsumer g)) with
  | none => 0
  | some r =>
    if held = 0 then 0
    else
      let faded := (lightOf s i).faded
      let scaled := if r.d ≤ held then faded else faded * held / r.d
      (capsInForce s g).foldl min scaled

end Sys2Proof.Machine
end

