-- ==== Sys2Proof/Machine/Outputs.lean ====
section
/-! DEFINITION. The load outputs: the Grant Arbiter's gates (R55), what the owners command, the switch-ons and switch-offs an
event brings about, and what they do at the trip comparators (R14, R15), at the compressor's latched drive (R94, R95) and at
the blower loop (R79). -/

namespace Sys2Proof.Machine

/-- An output's gate: its consumer's grant is above 0 and the output is not held off (R55). -/
def gateOpen (s : State) (o : Output) : Bool :=
  let e := entryOf s (consumerOf o)
  decide (0 < e.grant) && !(e.holds.contains o)

/-- What an output's owner commands. -/
def commanded (s : State) : Output → Bool
  | .glow => s.hc.glow
  | .pump => s.hc.pulse
  | .blower => decide (0 < blowerTarget s)
  | .compressor => s.fc.drive
  | .vent => decide (0 < s.fc.ventEff)
  | .light i => decide (0 < (lightOf s i).applied)
  | .socket k => (tget s.ga.sockets (socketIx k)).on
  | .panel => true

/-- An output is energized while its gate is open and its owner commands it on (R55); none is during a reset (R190)
(log entry 26: DESIGN CHOICE). -/
def energized (s : State) (o : Output) : Bool :=
  match s.mc.supply with
  | .running => gateOpen s o && commanded s o
  | .held _ => false

/-- What an energized output is driven at: a light's applied level and the backlight's duty in per-mille (R114, R132), the
blower's duty (R79), the speed of the compressor, 1 outside RUN and in RUN without an effective speed (log entry 18: DESIGN
CHOICE), and of the vent (R94, R98, R104); the glow plug, the pump's
pulse and the sockets are switched fully on, and an output that is not energized is driven at 0
(log entry 36: DESIGN CHOICE). -/
def driveLevel (s : State) (o : Output) : Nat :=
  if energized s o then
    match o with
    | .light i => (lightOf s i).applied
    | .panel => if s.pn.resting then s.cfg.panel.restBacklight else s.cfg.panel.backlight
    | .blower => s.hc.duty
    | .compressor => if s.fc.state = .run then s.fc.effective.getD 1 else 1
    | .vent => s.fc.ventEff
    | .glow | .pump | .socket _ => 1000
  else 0

/-- Whether the output a comparator watches is on; the light bank is on while any channel is (R13). -/
def watchedOn (s : State) (c : Comparator) : Bool := (watchedBy c).any (energized s)

/-- A comparator's threshold current in mA: n sixteenths of its full scale (R13). -/
def thresholdMa (c : Comparator) (n : Nat) : Nat :=
  match c with
  | .t1 => n * 250
  | _ => n * 750

/-- The threshold current of a comparator as its setting stands. -/
def thresholdOf (s : State) (c : Comparator) : Nat := thresholdMa c (tget s.cfg.thresholds (compIx c))

/-- Whether the current of a comparator's output is above its threshold (R14: strictly above). -/
def currentAbove (s : State) (c : Comparator) : Bool := decide (thresholdOf s c < (tget s.mu.comp (compIx c)).current)

/-- A comparator at its output's switch-on (R14). -/
def compSwitchOn (e : CompEntry) : CompEntry :=
  match e.state with
  | .off => { e with state := .blanking }
  | _ => e

/-- A comparator at its output's switch-off, where the current ends (R14, R15, R17). -/
def compSwitchOff (e : CompEntry) : CompEntry :=
  match e.state with
  | .disabled => { e with current := 0, reading := 0 }
  | _ => { e with state := .off, current := 0, reading := 0 }

/-- T3 at the switch-on of a further light channel while the bank is on (R14). -/
def compFurtherOn (e : CompEntry) : CompEntry :=
  match e.state with
  | .blanking | .watch | .qualify => { e with state := .blanking }
  | _ => e

/-- A comparator after an event that took the part from `s` to `s'` (R14). -/
def compAfter (s s' : State) (c : Comparator) (e : CompEntry) : CompEntry :=
  if watchedOn s c then
    if watchedOn s' c then
      if (watchedBy c).any fun o => energized s' o && !(energized s o) then compFurtherOn e else e
    else compSwitchOff e
  else if watchedOn s' c then compSwitchOn e else e

/-- All six comparators after an event (log entry 10: DESIGN CHOICE). -/
def compsAfter (s s' : State) : Vector CompEntry 6 :=
  let f (c : Comparator) := compAfter s s' c (tget s'.mu.comp (compIx c))
  #v[f .t0, f .t1, f .t2, f .t3, f .t4, f .t5]

/-- The FC after an event: a switch-on counts a start, sets the switch-on time and begins the soft start; a switch-off
drops the latched drive and sets the last stop (R94, R95, R97) (log entry 10: DESIGN CHOICE). -/
def fridgeAfter (s s' : State) : FridgeUnit :=
  let f := s'.fc
  if energized s' .compressor && !(energized s .compressor) then
    { f with
      starts := min 65535 (f.starts + 1)
      switchOn := some (now s')
      phase := if f.state = .start then some (now s' + 20) else f.phase }
  else if energized s .compressor && !(energized s' .compressor) then
    { f with drive := false, lastStop := now s', switchOn := none }
  else f

/-- The HC's blower loop after an event: at the switch-on the duty is 400 per mille; while the blower is not energized it
is 0 and the fault checks are idle (R79) (log entries 10 and 16: DEDUCED and DESIGN CHOICE). -/
def blowerAfter (s s' : State) : HeaterUnit :=
  let h := s'.hc
  if energized s' .blower then
    if energized s .blower then h else { h with duty := 400, stallRun := 0, slowRun := 0 }
  else { h with duty := 0, stallRun := 0, slowRun := 0 }

/-- The state with every switch-on and switch-off of the event from `s` to `s'` taken (log entry 10: DESIGN CHOICE). -/
def settle (s s' : State) : State :=
  { s' with
    mu := { s'.mu with comp := compsAfter s s' }
    fc := fridgeAfter s s'
    hc := blowerAfter s s' }

end Sys2Proof.Machine
end

