-- ==== Sys2Proof/Machine/Views.lean ====
section
/-! DEFINITION. The content of the 26 records as the owners' chapters list it (R165, R166), field by field with each field's
type, policy and value, and the bytes a field travels in (R184, R185). -/

namespace Sys2Proof.Machine

/-- A field's type and range (R166): `int` and `opt` carry their range and whether their policy is CLAMP; `enum` and
`optEnum` are enumerations of `n` codes, the latter with absent; `oneOf` is a STRICT set of values; `raw` is a value of a
fixed width in bytes. -/
inductive FieldType where
  | flag
  | enum (n : Nat)
  | int (lo hi : Int) (clamp : Bool)
  | opt (lo hi : Int) (clamp : Bool)
  | optEnum (n : Nat)
  | oneOf (vals : List Int)
  | raw (width : Nat)
deriving DecidableEq, Repr

/-- One field: its type, whether the record's writing operations may write it, and its value (absent where `none`). -/
structure Field where
  ty  : FieldType
  wr  : Bool
  val : Option Int
deriving DecidableEq, Repr

/-- A record's contents in its listing order: a field outside lists; a fixed list whose entries' fields have field ids
of their own; further fields of that list's entries, which its chapter lists later (R119, R165); a list of varying length,
or shown whole, with one field id. -/
inductive Item where
  | one (f : Field)
  | group (rows : List (List Field))
  | more (rows : List (List Field))
  | rows (entries : List (List Field))
deriving DecidableEq, Repr

/-- A range's width in bytes (R184); no width above 4 is given, so an optional field that reaches the marker of 4 bytes keeps 4, and
its last value reads as absent (log entry 31: DESIGN CHOICE). -/
def rangeWidth (lo hi : Int) : Nat :=
  if 0 ≤ lo then (if hi ≤ 255 then 1 else if hi ≤ 65535 then 2 else 4)
  else if -32768 ≤ lo ∧ hi ≤ 32767 then 2 else 4

/-- A field's width in bytes (R184): an optional field whose range reaches its marker takes the next wider width, where there is
one (log entry 31: DESIGN CHOICE). -/
def fieldWidth : FieldType → Nat
  | .flag => 1
  | .enum _ => 1
  | .int lo hi _ => rangeWidth lo hi
  | .opt lo hi _ => if 0 ≤ lo then rangeWidth lo (hi + 1) else rangeWidth (lo - 1) hi
  | .optEnum _ => 1
  | .oneOf _ => 2
  | .raw w => w

/-- Whether a field is signed on the link: where its range reaches below 0, a temperature too (R184) (log entry 29: DESIGN CHOICE). -/
def fieldSigned : FieldType → Bool
  | .int lo _ _ => decide (lo < 0)
  | .opt lo _ _ => decide (lo < 0)
  | _ => false

/-- The absent marker of a field: all ones, or the most negative value of its width (R184). -/
def absentMarker (ty : FieldType) : Int :=
  if fieldSigned ty then -(128 * 256 ^ (fieldWidth ty - 1) : Nat) else (256 ^ fieldWidth ty : Nat) - 1

/-- The bytes of a field (R184). -/
def fieldBytes (f : Field) : List Byte := leBytes (fieldWidth f.ty) (f.val.getD (absentMarker f.ty))

/-- The value of a field taken from its bytes: the absent marker of an optional field reads as absent (R184). -/
def fieldOfBytes (ty : FieldType) (bs : List Byte) : Option Int :=
  let v : Int := if fieldSigned ty then ofLeSigned bs else (ofLe bs : Nat)
  match ty with
  | .opt _ _ _ | .optEnum _ => if v = absentMarker ty then none else some v
  | _ => some v

/-! ### Short forms of fields -/

/-- A flag's value. -/
def flagVal (b : Bool) : Int := if b then 1 else 0

/-- A read-only field. -/
def ro (ty : FieldType) (v : Int) : Field := ⟨ty, false, some v⟩

/-- A read-only field that may be absent. -/
def roOpt (ty : FieldType) (v : Option Int) : Field := ⟨ty, false, v⟩

/-- A writable field. -/
def rw (ty : FieldType) (v : Int) : Field := ⟨ty, true, some v⟩

/-- A writable field that may be absent. -/
def rwOpt (ty : FieldType) (v : Option Int) : Field := ⟨ty, true, v⟩

/-- A natural number that may be absent, as a field's value. -/
def natVal (o : Option Nat) : Option Int := o.map fun n => (n : Int)

/-- A read-only flag. -/
def roFlag (b : Bool) : Item := .one (ro .flag (flagVal b))

/-- A read-only number of a fixed width. -/
def roNum (w : Nat) (n : Nat) : Item := .one (ro (.raw w) n)

/-- A read-only enumeration of `n` codes. -/
def roEnum (n : Nat) (code : Nat) : Item := .one (ro (.enum n) code)

/-- A read-only enumeration of `n` codes that may be absent. -/
def roMayEnum (n : Nat) (o : Option Nat) : Item := .one (roOpt (.optEnum n) (o.map fun c => (c : Int)))

/-- A read-only number of one byte. -/
def roCode (n : Nat) : Item := .one (ro (.raw 1) n)

/-- A read-only signed number of two bytes. -/
def roInt2 (v : Int) : Item := .one (ro (.int (-32768) 32767 false) v)

/-- A read-only number that may be absent, with its largest value. -/
def roMay (hi : Nat) (o : Option Nat) : Item := .one (roOpt (.opt 0 hi false) (natVal o))

/-- A CLAMP field with its range. -/
def clampF (lo hi : Int) (v : Int) : Field := rw (.int lo hi true) v

/-- A STRICT field with its range. -/
def strictF (lo hi : Int) (v : Int) : Field := rw (.int lo hi false) v

/-- The code of an order mode. -/
def orderCode : OrderMode → Nat
  | .fixed => 0 | .rotating => 1

/-- The code of a line level. -/
def lineCode : LineLevel → Nat
  | .high => 0 | .low => 1

/-- The code of a range kind. -/
def rangeKindCode : RangeKind → Nat
  | .inRange => 0 | .short => 1 | .openLead => 2

/-- The code of a comparator's state. -/
def compCode : CompState → Nat
  | .disabled => 0 | .off => 1 | .blanking => 2 | .watch => 3 | .qualify => 4 | .tripped => 5

/-- The code of a key's state. -/
def keyStateCode : KeyState → Nat
  | .opened => 0 | .pressed => 1 | .contested => 2 | .ignored => 3

/-- The code of an entry's state. -/
def entryStateCode : EntryState → Nat
  | .armed => 0 | .done => 1 | .skipped => 2 | .disabled => 3

/-- The marks in force of a channel: bit 0 RANGE, bit 1 HOST (R7, R185). -/
def marksOf (e : ChanEntry) : Nat := bit e.rangeMark 0 + bit e.hostMark 1

/-- A set of classes as a byte, bit n for class n (R185). -/
def classBits (cs : List (Fin 8)) : Nat := (allClasses.map fun k => bit (cs.contains k) k.1).sum

/-- A consumer's output holds as a byte (R185). -/
def holdBits (c : Consumer) (holds : List Output) : Nat :=
  match c with
  | .heat => bit (holds.contains .glow) 0 + bit (holds.contains .pump) 1 + bit (holds.contains .blower) 2
  | _ => bit (!holds.isEmpty) 0

/-- A schedule action's five bytes as one number: its code, then its parameters (R185). -/
def actionValue : Action → Nat
  | .heatStart sp none => 1 + 256 * sp + 256 ^ 3 * 65535
  | .heatStart sp (some d) => 1 + 256 * sp + 256 ^ 3 * d
  | .heatStop => 2
  | .scene n => 3 + 256 * n
  | .chime p => 4 + 256 * p
  | .fridgeBoost => 5
  | .vent v => 6 + 256 * v

/-- A last result's flags, reason and cab time as one six-byte number (R185); an absent one has bits 0 and 1 set and sends 0 in its
UNSET bit, its reason and its cab time (log entry 31: DESIGN CHOICE). -/
def resultValue : Option EntryResult → Nat
  | none => 3
  | some r =>
    (if r.done then 0 else 1) + bit r.stamp.unset 7
      + 256 * (match r.reason with | some st => statusCode st | none => 255) + 65536 * r.stamp.cab

/-! ### The records -/

/-- IDENT (R194). R194 states values and no ranges for the first three fields: the part code, 0x00C4, travels in 2 bytes as the vendor
code does, the silicon revision in 1 (R184) (log entry 31: DESIGN CHOICE). -/
def viewIdent (s : State) : List Item :=
  [roNum 2 0x3A1C, roNum 2 0x00C4, roCode 1, roEnum 2 (if s.mc.lastReset = .powerOn then 0 else 1),
   roEnum 3 (modeCode s.mc.mode), roCode s.mc.silence, roEnum 2 (if s.mc.settingsValid then 0 else 1),
   roEnum 2 (if s.mc.heaterValid then 0 else 1)]

/-- CLOCK as a GET shows it (R164); the last delta travels in 4 bytes, modulo 2^32 (R184) (log entry 31: DESIGN CHOICE). -/
def viewClock (s : State) : List Item :=
  [roNum 4 (cabTime s), roFlag s.su.unset, roNum 4 s.su.elapsed,
   .one (roOpt (.opt (-2147483647) 2147483647 false) s.su.lastDelta)]

/-- BATTERY (R21). -/
def viewBattery (b : Battery) : List Item :=
  [.one (strictF 10000 800000 b.cap), .one (clampF 80 100 b.eta), .one (clampF 24000 30000 b.vFull),
   .one (clampF 0 1000 b.iTail), .group (b.ocv.toList.map fun (v : Nat) => [strictF 0 40000 v]),
   .one (clampF 10 60 b.reserve), .one (clampF 0 240 b.margin), .one (clampF 60 1440 b.horizon),
   .one (strictF 0 7 b.vLow), .one (strictF 0 7 b.vCut), .one (clampF 10 400 b.aLim), .one (clampF 0 100 b.aBase),
   .one (clampF 0 100 b.aRes)]

/-- The fields of a channel CHARGE shows: the filtered value and the status (R39). -/
def viewFiltered (s : State) (ch : Channel) : List Item :=
  let e := chanOf s ch
  [.one (roOpt (.opt 0 40000 false) e.filtered), roEnum 3 (sampleCode e.status)]

/-- CHARGE (R39), by the layout of R185. -/
def viewCharge (s : State) : List Item :=
  let cc := s.cc
  let b := s.cfg.battery
  [.one (roOpt (.opt 0 800000 false) (natVal cc.c)), .one (roOpt (.opt 0 1000 false) (natVal (cc.c.map (socOf b)))),
   .one (ro (.int (-359999) 359999 false) cc.residue), roEnum 2 (if cc.source = .counted then 0 else 1),
   roCode (bit cc.estimated 0 + bit (cc.c == some b.cap) 1 + bit (cc.c == some 0) 2 + bit cc.starting 3
     + bit cc.low.flag 4 + bit cc.cut.flag 5 + bit cc.sensorHold 6)]
  ++ viewFiltered s .vh ++ viewFiltered s .vs
  ++ [.one (roOpt (.opt (-300000) 300000 false) cc.iavg), .one (roOpt (.opt 0 65535 false) (natVal cc.endurance)),
   roNum 2 cc.horizon, roNum 4 (reserveCharge b), roNum 4 (fitCurrent b cc.c cc.horizon),
   roEnum 4 (levelCode cc.countTarget), roEnum 4 (levelCode cc.level), roCode cc.relief,
   roMayEnum 4 (cc.ceiling.map levelCode), roNum 2 cc.budget,
   roCode (classBits (classesAdmitted cc.level)), roCode cc.window.length,
   .rows (cc.window.map fun m =>
     [ro (.raw 4) m.stop.cab, ro (.raw 1) (bit m.stop.unset 7 : Nat), ro (.int (-300000) 300000 false) m.mean])]

/-- CONSUMERS (R60): PANEL's class is 0 and its mask clear. -/
def viewConsumers (cfg : Settings) : List Item :=
  [.group (allConsumers.map fun c =>
     [strictF 0 (if c = .panel then 0 else 7) (tget cfg.classes (consIx c)).1,
      rw (if c = .panel then .enum 1 else .flag) (flagVal (tget cfg.masks (consIx c)))]),
   .group (cfg.orders.toList.map fun m => [rw (.enum 2) (orderCode m)])]

/-- One consumer's entry of GRANTS, by the layout of R185; D and Dmin of an absent request are sent as 0
(log entry 31: DESIGN CHOICE). -/
def viewGrantEntry (s : State) (c : Consumer) : List Field :=
  let e := entryOf s c
  let steps := (e.request.bind (·.steps)).getD []
  [ro (.raw 1) (consIx c).1,
   ro (.raw 1) ((tget s.cfg.classes (consIx c)).1 + 16 * (effectiveClass s c).1 : Nat),
   ro (.raw 1) (bit (tget s.cfg.masks (consIx c)) 0 + bit e.request.isSome 1
     + bit ((e.request.map (·.safety)).getD false) 2 : Nat),
   ro (.raw 2) ((e.request.map (·.d)).getD 0), ro (.raw 2) ((e.request.map (·.dmin)).getD 0),
   ro (.raw 1) steps.length,
   ro (.raw 2) (steps.getD 0 0), ro (.raw 2) (steps.getD 1 0), ro (.raw 2) (steps.getD 2 0), ro (.raw 2) (steps.getD 3 0),
   ro (.raw 2) e.grant, ro (.enum 8) (consumerStateCode e.state), ro (.raw 1) e.tripCount, ro (.raw 1) e.retryStep,
   roOpt (.opt 0 65534 false) (natVal (e.retry.map (tenthsLeft s))), ro (.raw 1) (holdBits c e.holds)]

/-- GRANTS (R61); an order list travels as its length and its ids (log entry 31: DESIGN CHOICE). -/
def viewGrants (s : State) : List Item :=
  [roEnum 4 (levelCode s.ga.report.level), roNum 2 s.ga.report.budget, roCode (classBits s.ga.report.classes),
   roNum 2 s.ga.safetySum, roNum 2 s.ga.remainder, roNum 2 s.ga.passes,
   .rows (s.ga.lists.toList.map fun l => ro (.raw 1) l.length :: l.map fun c => ro (.raw 1) (consIx c).1),
   .group (allConsumers.map (viewGrantEntry s))]

/-- DEMANDS (R46). -/
def viewDemands (d : Demands) : List Item :=
  ([d.panel, d.check, d.start, d.stabilize, d.low, d.mid, d.high, d.purge, d.ventD, d.ventDmin]
    ++ d.fridge.toList ++ d.vent.toList ++ d.socket.toList).map fun (v : Nat) => .one (strictF 1 400 v)

/-- CHANNELS (R12). -/
def viewChannels (cfg : Settings) : List Item :=
  [.group (cfg.chan.toList.map fun c => [rw .flag (flagVal c.enabled), strictF 0 7 c.k])]

/-- A channel's value as a field: unsigned for the voltages, signed otherwise (R1, R184). -/
def valueType : Channel → FieldType
  | .vh | .vs => .opt 0 40000 false
  | _ => .opt (-32767) 32767 false

/-- SAMPLES (R12). -/
def viewSamples (s : State) : List Item :=
  [.group (allChannels.map fun ch =>
    let e := chanOf s ch
    [roOpt (.opt 0 4095 false) (natVal e.code), roOpt (.optEnum 3) (natVal (e.kind.map rangeKindCode)),
     roOpt (valueType ch) e.sample, roOpt (valueType ch) e.filtered, ro (.raw 1) e.outCount, ro (.raw 1) e.inCount,
     ro (.enum 3) (sampleCode e.status), ro (.raw 1) (marksOf e)])]

/-- TRIPS (R16): the last trip time is shown as a flags byte, bit 7 UNSET, and the cab time, both absent until the first trip
(R184) (log entry 31: DESIGN CHOICE). The flag shown is the one of the trip's moment, also after a SET CLOCK
(log entry 40: DESIGN CHOICE). -/
def viewTrips (s : State) : List Item :=
  [.group (allComparators.map fun c =>
    let e := tget s.mu.comp (compIx c)
    [strictF 0 15 ((tget s.cfg.thresholds (compIx c) : Nat) : Int), ro (.enum 6) (compCode e.state), ro (.raw 2) e.total,
     roOpt (.opt 0 128 false) (natVal (e.lastTrip.map fun t => bit t.unset 7)),
     roOpt (.opt 0 max32 false) (natVal (e.lastTrip.map (·.cab))), ro (.raw 1) e.reading])]

/-- HEATER_SET (R64). -/
def viewHeaterSet (h : HeaterSet) : List Item :=
  [.one (clampF 50 300 h.setpoint), .one (rw .flag (flagVal h.frost)), .one (clampF 20 100 h.threshold)]

/-- HEATER_TUNE (R64). -/
def viewHeaterTune (t : HeaterTune) : List Item :=
  [.one (clampF 20 120 t.preheatTime), .one (clampF 5 60 t.primeTime), .one (clampF 30 180 t.igniteLimit),
   .one (clampF 30 180 t.stabilizeTime), .one (clampF 50 600 t.startRate), .one (clampF 50 600 t.lowRate),
   .one (clampF 50 600 t.midRate), .one (clampF 50 600 t.highRate), .one (clampF 20 60 t.strokeWidth),
   .one (clampF 10 80 t.strokeVolume), .one (clampF 100 1000 t.flameRise), .one (clampF 50 400 t.margin),
   .one (clampF 500 3000 t.flameLoss), .one (clampF 800 6000 t.preheatTarget), .one (clampF 800 6000 t.lowTarget),
   .one (clampF 800 6000 t.midTarget), .one (clampF 800 6000 t.highTarget), .one (clampF 800 6000 t.purgeTarget),
   .one (clampF 800 6000 t.ventTarget)]

/-- Fuel in mL for a stroke count, with the stroke volume as it stands (R83). -/
def fuelMl (s : State) (strokes : Nat) : Nat := strokes * s.cfg.heaterTune.strokeVolume / 1000

/-- HEATER_STATUS (R89); the phase time remaining is the phase timer's alone, absent while PREHEAT waits for power and in PURGE; the
purge record travels as three optional fields, its exit, its fault and its entry time in whole elapsed seconds, each absent where
there is no record (log entries 15 and 31: DESIGN CHOICE). -/
def viewHeaterStatus (s : State) : List Item :=
  let h := s.hc
  [roEnum 13 (heaterCode h.state), roMayEnum 11 (h.lastFault.map faultCode), roCode h.attempt, roFlag h.frostRun,
   roFlag h.restartPending, roFlag h.durationEnd.isSome,
   roMay 720 (h.durationEnd.map fun e => shownMinutes (e - s.su.elapsed)), roInt2 (workingSetpoint s),
   roMayEnum 3 (h.tempStage.map stageCode), roMayEnum 3 (h.desired.map stageCode), roMayEnum 3 (h.effective.map stageCode),
   roNum 2 h.grant, roMayEnum 4 (h.purge.map fun p => exitCode p.exit),
   roMayEnum 11 (h.purge.bind fun p => p.fault.map faultCode), roMay 4294967294 (h.purge.map fun p => p.entry / 10),
   roMay 65534 (h.phase.map (tenthsLeft s)), roCode h.failed, roCode h.overheats, roFlag h.lockout, roCode h.flameOut,
   .one (roOpt (.opt (-400) 8000 false) h.igniteRef), roNum 2 (blowerTarget s), roNum 2 h.duty, roNum 2 s.mu.tach.speed,
   roNum 2 (pumpRate s.cfg.heaterTune h), roCode (tget s.mu.comp 0).reading, roNum 4 h.strokesRun,
   roNum 4 (fuelMl s h.strokesRun), roNum 4 h.strokesTotal, roNum 4 (fuelMl s h.strokesTotal)]

/-- FRIDGE_SET (R91); max speed, CLAMP over 1 to 4, is an integer to ADJUST and no enumeration (R166, R171)
(log entry 32: DESIGN CHOICE). -/
def viewFridgeSet (f : FridgeSet) : List Item :=
  [.one (rw .flag (flagVal f.enable)), .one (clampF (-180) 100 f.setpoint), .one (clampF 10 50 f.hyst),
   .one (clampF 0 50 f.offset), .one (clampF 120 600 f.minOff), .one (clampF 1 4 f.maxSpeed)]

/-- The seconds the door has been open, saturating (R103) (log entry 6: DESIGN CHOICE). -/
def secondsOpen (s : State) (since : Nat) : Nat := min 65535 (shownUnits 10 (now s - since))

/-- The end of the minimum off time, in tenths (R95). -/
def minOffEnd (s : State) : Nat := s.fc.lastStop + 10 * s.cfg.fridgeSet.minOff

/-- FRIDGE_STATUS (R106); the effective setpoint and the thresholds shown follow a written FRIDGE_SET at once, also where the
thermostat takes it from the next TF conversion (R91), the stall log's times are the whole elapsed seconds, and the wanted and
effective speeds are optional integers and no enumerations (R166, R171) (log entries 18, 31 and 32: DESIGN CHOICE). -/
def viewFridgeStatus (s : State) : List Item :=
  let f := s.fc
  let tf := chanOf s .tf
  [roEnum 9 (fridgeCode f.state), roEnum 3 (match f.reading with | .reading => 0 | .pending => 1 | .lost => 2),
   .one (roOpt (valueType .tf) tf.filtered), roEnum 3 (sampleCode tf.status), roInt2 (fridgeSetpoint s),
   roInt2 (upperThreshold s), roInt2 (lowerThreshold s), roEnum 4 (levelCode f.level), roFlag f.satisfied,
   roMay 60 (f.boostEnd.map fun e => shownMinutes (e - s.su.elapsed)), roMay 4 f.wanted, roMay 4 f.effective,
   roNum 2 f.grant, roMay 4294967294 (f.switchOn.map fun t => shownUnits 10 (now s - t)),
   roNum 2 (shownUnits 10 (minOffEnd s - now s)), roMay 65534 (f.phase.map (tenthsLeft s)),
   .rows (f.stallLog.map fun t => [ro (.raw 4) (t / 10 : Nat)]), roFlag (f.state == .fault), roNum 2 f.starts,
   roEnum 2 (if f.doorOpen then 1 else 0),
   roMay 65535 (f.openSince.map (secondsOpen s)), roCode f.alerts, roCode (tget s.mu.comp 2).reading]

/-- VENT (R104). -/
def viewVent (s : State) : List Item :=
  [.one (rw (.enum 4) s.fc.ventSpeed), .one (clampF 0 720 s.cfg.ventLimit),
   roMay 720 (s.fc.ventRunEnd.map fun e => shownMinutes (e - s.su.elapsed)), roEnum 4 s.fc.ventEff, roNum 2 s.fc.ventGrant]

/-- One socket's fields of SOCKETS (R47). -/
def viewSocket (s : State) (k : Socket) : List Field :=
  let e := tget s.ga.sockets (socketIx k)
  [rw .flag (flagVal e.on), clampF 0 720 ((tget s.cfg.socketLimit (socketIx k) : Nat) : Int),
   roOpt (.opt 0 720 false) (natVal (e.runEnd.map fun t => shownMinutes (t - s.su.elapsed)))]

/-- SOCKETS (R47). -/
def viewSockets (s : State) : List Item := [.group [viewSocket s .a, viewSocket s .b]]

/-- One group's read-only part of LIGHTS (R119): the caps in force are bit 0 for the conserve cap and bit 1 for the rest cap,
and the last trip is coded as in a TRIP notice (log entry 31: DESIGN CHOICE). -/
def viewGroup (s : State) (g : Group) : List Item :=
  let r := tget s.asked (consIx (groupConsumer g))
  let e := tget s.lc.group (groupIx g)
  let caps := match g with
    | .bunk => bit (s.lc.level == .conserve) 0
    | .cab => bit (s.lc.level == .conserve) 0 + bit (s.lc.resting && s.lc.entry == .idle) 1
  [roMay 400 (r.map (·.d)), roMay 400 (r.map (·.dmin)), roNum 2 e.grant, roCode caps,
   roMay 128 (e.lastTrip.map outcomeCode)]

/-- LIGHTS (R108, R119), its per-channel list in three places of the listing; a channel without a fade shows 0 steps done
and N 0 (log entry 31: DESIGN CHOICE). -/
def viewLights (s : State) : List Item :=
  let l := s.cfg.lights
  [.group (allLights.map fun i => [clampF 0 1000 (lightOf s i).target, clampF 1 1000 ((tget l.onLevel i : Nat) : Int)]),
   .one (clampF 0 255 l.fade), .one (clampF 0 1000 l.conserveBunk), .one (clampF 0 1000 l.conserveCab),
   .one (clampF 0 1000 l.restCab), .one (rwOpt (.opt 1 8 false) (natVal l.entryScene)),
   .more (allLights.map fun i =>
     let c := lightOf s i
     [ro (.raw 2) c.faded, ro .flag (flagVal c.fade.isSome), ro (.raw 1) ((c.fade.map (·.k)).getD 0),
      ro (.raw 1) ((c.fade.map (·.n)).getD 0), ro (.raw 2) (demandLevel c), ro (.raw 2) c.applied,
      ro .flag (flagVal (energized s (.light i)))])]
  ++ viewGroup s .bunk ++ viewGroup s .cab
  ++ [roEnum 4 (levelCode s.lc.level), roFlag s.lc.resting,
   roEnum 3 (match s.lc.door with | .unknown => 0 | .closed => 1 | .opened => 2),
   roEnum 3 (match s.lc.entry with | .idle => 0 | .active => 1 | .returning => 2),
   roMay 65534 (s.lc.timer.map (tenthsLeft s)),
   .more (allLights.map fun i => [roOpt (.opt 0 1000 false) (natVal (lightOf s i).saved)])]

/-- SCENES (R115). -/
def viewScenes (cfg : Settings) : List Item :=
  [.group (cfg.scenes.toList.map fun sc =>
    (sc.levels.toList.map fun l => rwOpt (.opt 0 1000 true) (natVal l)) ++ [clampF 0 255 sc.fade])]

/-- KEYMAP (R126); the report set travels as a number 0 to 7, bit 0 PRESS, bit 1 HOLD and bit 2 RELEASE, and is an enumeration of
those eight sets, STRICT and refused to ADJUST (R166, R171) (log entries 31 and 32: DESIGN CHOICE). -/
def viewKeymap (cfg : Settings) : List Item :=
  [.group (cfg.keymap.toList.map fun k =>
    [rw (.enum 12) (keyActionCode k.action), strictF 0 255 k.param, rw (.enum 8) k.report.toNat])]

/-- PANEL (R133); the ambiguous set travels as a mask of two bytes, bit k for key k, and the last action as key, action and
status, each absent where there is none (log entry 31: DESIGN CHOICE). -/
def viewPanel (s : State) : List Item :=
  let p := s.cfg.panel
  let u := s.pn
  [.one (rw (.enum 2) (if p.mode = .single then 0 else 1)), .one (rw .flag (flagVal p.click)),
   .one (clampF 0 1000 p.backlight), .one (clampF 0 1000 p.restBacklight),
   .group (u.keys.toList.map fun k => [ro (.enum 4) (keyStateCode k.state)]), roNum 2 u.ambig.toNat, roFlag u.ambiguous,
   roCode u.queue.length, roFlag u.overrun, roMay 15 (u.last.map fun a => a.key.1),
   roMayEnum 12 (u.last.map fun a => keyActionCode a.action), roMayEnum 13 (u.last.map fun a => statusCode a.status),
   roFlag u.resting, roFlag u.standby, roNum 2 u.grant]

/-- CONTACTS (R129). -/
def viewContacts (s : State) : List Item :=
  [.group (allContacts.map fun c =>
    let set := tget s.cfg.contacts (contactIx c)
    let cell := tget s.pn.contacts (contactIx c)
    [rw (.enum 2) (lineCode set.activeLevel), rw (.oneOf [20, 100, 500]) set.debounce, rw .flag (flagVal set.report),
     rw .flag (flagVal set.wake), ro (.enum 3) (contactCode cell.state),
     roOpt (.optEnum 2) (natVal (cell.level.map lineCode))])]

/-- The fields of a pattern as CHIMES shows it. -/
def patternFields (p : Pattern) : List Field :=
  [ro (.raw 1) p.tone, ro (.raw 2) p.onTime, ro (.raw 2) p.gap, ro (.raw 1) p.repeats, ro (.enum 4) p.priority]

/-- A pattern by its number: 0 to 7 built in, 8 and 9 the host's (R130). -/
def patternOf (cfg : Settings) (n : Fin 10) : Pattern :=
  if h : n.1 < 8 then tget builtInPatterns ⟨n.1, h⟩ else if n.1 = 8 then tget cfg.user 0 else tget cfg.user 1

/-- All ten patterns' numbers. -/
def allPatterns : List (Fin 10) := [0, 1, 2, 3, 4, 5, 6, 7, 8, 9]

/-- A user pattern's writable fields, which stand outside the lists of CHIMES (R133, R165). -/
def userFields (p : Pattern) : List Item :=
  [.one (strictF 0 7 p.tone), .one (clampF 10 1000 p.onTime), .one (clampF 0 1000 p.gap), .one (clampF 1 15 p.repeats),
   .one (rw (.enum 4) p.priority)]

/-- CHIMES (R133): the fields of USER1, then of USER2, the two lists, and the player, whose burst number and phase, ON 0 and
GAP 1, are absent while it is IDLE (log entry 31: DESIGN CHOICE). -/
def viewChimes (s : State) : List Item :=
  userFields (tget s.cfg.user 0) ++ userFields (tget s.cfg.user 1) ++
  [.group (allPatterns.map fun n => patternFields (patternOf s.cfg n)),
   .rows (s.pn.chimes.map fun r => [ro (.raw 1) r.pattern.1, ro (.enum 4) r.priority]),
   roMay 9 (s.pn.player.map fun p => p.pattern.1), roMay 15 (s.pn.player.map (·.burst)),
   roMayEnum 2 (s.pn.player.map fun p => if p.on then 0 else 1)]

/-- REST_PROFILE (R135). -/
def viewProfile (p : RestProfile) : List Item :=
  [.one (clampF 60 600 p.driveLimit), .one (clampF 1 60 p.wDrive), .one (clampF 15 120 p.breakTotal),
   .one (clampF 5 60 p.segMin), .one (clampF 10 600 p.stopConfirm), .one (clampF 300 900 p.tRest),
   .one (clampF 60 600 p.tS1), .one (clampF 240 900 p.tS2), .one (clampF 0 120 p.endWarn),
   .one (rw .flag (flagVal p.prewarm)), .one (clampF 5 120 p.lead), .one (clampF 50 300 p.wakeSetpoint),
   .one (rwOpt (.opt 1 8 false) (natVal p.wakeScene)), .one (clampF 20000 26000 p.starterGuard)]

/-- A segment's length in seconds, as it stands when read (R142). -/
def segLength (cab : Nat) (g : RestSeg) : Nat := g.stop.getD cab - g.start

/-- The start and the consumed flag of the open stop or rest segment (R141). -/
def openSegment (r : RestUnit) : Option (Nat × Bool) :=
  match r.stopSeg with
  | some g => some (g.start, g.consumed)
  | none =>
    match r.log.getLast? with
    | some g => if g.stop.isNone then some (g.start, g.consumed) else none
    | none => none

/-- REST_STATE (R152), its log times as cab times; the minutes of break still needed are the break total less the accumulator
alone, the open segment's length uncounted, and an optional cab time of 4,294,967,295 reads as absent in its 4 bytes
(log entries 22 and 31: DESIGN CHOICE). -/
def viewRestState (s : State) : List Item :=
  let r := s.rm
  let p := s.cfg.profile
  [roEnum 5 (restCode r.state), roFlag r.uncertain, roEnum 3 (contactCode r.move), roEnum 3 (contactCode r.ign),
   .one (strictF 0 999999 r.drive), roNum 2 (shownMinutes (p.driveLimit * 60 - r.drive)), roFlag r.soon, roFlag r.limit,
   .one (rw (.raw 2) r.acc), roCode (shownMinutes (p.breakTotal * 60 - r.acc)), roMay max32 r.candidate,
   roMay max32 (r.stopSeg.map (·.start)), roFlag (((openSegment r).map (·.2)).getD false),
   .rows (r.log.map fun g =>
     [ro (.raw 4) g.start, roOpt (.opt 0 4294967294 false) (natVal g.stop), ro (.raw 4) (segLength (cabTime s) g),
      ro .flag (flagVal g.split), ro .flag (flagVal g.consumed)]),
   roMay max32 r.plannedEnd, roMay max32 r.endSoon, roFlag r.endSoonRaised, roFlag r.done, roMay max32 r.starterHold,
   roFlag r.startRisk, roNum 2 r.horizon, roFlag r.placed]

/-- One slot's fields of SCHEDULE in the order of R156: origin, time, repeat, action, state, last result; a free slot's origin
is its free marker, 255 (R185), and the time is taken as STRICT over its range (log entry 32: DESIGN CHOICE). -/
def viewSlot (o : Option SchedEntry) : List Field :=
  match o with
  | none => [ro (.enum 2) 255, rw (.raw 4) 0, rw (.enum 2) 0, rw (.raw 5) 0, rw (.enum 4) 0, ro (.raw 6) 0]
  | some e =>
    [ro (.enum 2) (if e.rest then 1 else 0), rw (.raw 4) e.time, rw (.enum 2) (if e.daily then 1 else 0),
     rw (.raw 5) (actionValue e.action), rw (.enum 4) (entryStateCode e.state), ro (.raw 6) (resultValue e.last)]

/-- SCHEDULE (R156, R164). -/
def viewSchedule (s : State) : List Item := [.group (s.su.slots.toList.map viewSlot)]

/-- The content of a record by its id (R165); no content for an id outside the catalogue (log entry 31: DESIGN CHOICE). -/
def recordView (s : State) : Nat → Option (List Item)
  | 1 => some (viewIdent s)
  | 2 => some (viewClock s)
  | 3 => some (viewBattery s.cfg.battery)
  | 4 => some (viewCharge s)
  | 5 => some (viewConsumers s.cfg)
  | 6 => some (viewGrants s)
  | 7 => some (viewDemands s.cfg.demands)
  | 8 => some (viewChannels s.cfg)
  | 9 => some (viewSamples s)
  | 10 => some (viewTrips s)
  | 11 => some (viewHeaterSet s.cfg.heaterSet)
  | 12 => some (viewHeaterTune s.cfg.heaterTune)
  | 13 => some (viewHeaterStatus s)
  | 14 => some (viewFridgeSet s.cfg.fridgeSet)
  | 15 => some (viewFridgeStatus s)
  | 16 => some (viewVent s)
  | 17 => some (viewSockets s)
  | 18 => some (viewLights s)
  | 19 => some (viewScenes s.cfg)
  | 20 => some (viewKeymap s.cfg)
  | 21 => some (viewPanel s)
  | 22 => some (viewContacts s)
  | 23 => some (viewChimes s)
  | 24 => some (viewProfile s.cfg.profile)
  | 25 => some (viewRestState s)
  | 26 => some (viewSchedule s)
  | _ => none

/-- The content whose change advances a record's revision (R174): the record's content, the times it shows included, which
pass as its owner's change (R106, R152, R194); but CLOCK advances with its offset, UNSET and last delta alone (R164), and
REST_STATE with the open segment's length as well, a stop segment's too, which no field of it shows (R152)
(log entry 14: DEDUCED). -/
def revisionView (s : State) (r : Nat) : Option (List Item) :=
  if r = 2 then some [.one (ro (.raw 4) s.su.offset), roFlag s.su.unset, .one (roOpt (.raw 4) s.su.lastDelta)]
  else if r = 25 then
    (recordView s r).map fun items => roMay max32 ((openSegment s.rm).map fun g => cabTime s - g.1) :: items
  else recordView s r

/-- The revision of record `i + 1` after an event that took the part from `s` to `s'`: one owner update where the event
changed its content (R174). A record that an operation or a further event of its owner has already advanced (`operate`,
`ownerEvent`) had its changes counted there (log entry 14: DESIGN CHOICE). -/
def revisionAfter (s s' : State) (i : Fin 26) : Nat :=
  let r := tget s'.rev i
  if r ≠ tget s.rev i then r
  else if revisionView s (i.1 + 1) = revisionView s' (i.1 + 1) then r else (r + 1) % 256

/-- The revisions after an event, advanced for each of the records `which` whose content it changed (R174)
(log entry 14: DESIGN CHOICE). -/
def advance (which : List (Fin 26)) (s s' : State) : State :=
  { s' with rev := which.foldl (fun v i => tset v i (revisionAfter s s' i)) s'.rev }

/-- An event of an owner of its own, taken within the command that hands it: the records `rs` advance here for what it
changed (R174) (log entries 9 and 14: DESIGN CHOICE). -/
def ownerEvent (rs : List (Fin 26)) (f : State → State) (s : State) : State := advance rs s (f s)

/-- Such an event that answers with a status. -/
def ownerAct (rs : List (Fin 26)) (f : State → State × Status) (s : State) : State × Status :=
  (advance rs s (f s).1, (f s).2)

/-- All 26 records' indices. -/
def allRecords : List (Fin 26) :=
  [0, 1, 2, 3, 4, 5, 6, 7, 8, 9, 10, 11, 12, 13, 14, 15, 16, 17, 18, 19, 20, 21, 22, 23, 24, 25]

/-- One operation on record `i + 1`, or its owner's taking of one: the revision advances by 1 modulo 256 where it changed
the content (R174) (log entry 14: DESIGN CHOICE). -/
def operate (i : Fin 26) (f : State → State) (s : State) : State :=
  let s' := f s
  if revisionView s (i.1 + 1) = revisionView s' (i.1 + 1) then s'
  else { s' with rev := tset s'.rev i ((tget s'.rev i + 1) % 256) }

end Sys2Proof.Machine
end

