-- ==== Sys2Proof/Machine/Event.lean ====
section
/-! DEFINITION. The operating mode's plain changes (R186, R187) and the frame of an event: what every command taken by the
running part has around its own effect. -/

namespace Sys2Proof.Machine

/-- The MC posts the new mode to the blocks; the MU's next scan starts at once where none is in progress, and right after the
scan in progress otherwise (R2, R186) (log entry 10: DESIGN CHOICE). -/
def setMode (m : Mode) (s : State) : State :=
  let s1 := { s with mc := { s.mc with mode := m } }
  match s.mu.scanLeft with
  | [] => raise .scanStart s1
  | _ :: _ => { s1 with mu := { s1.mu with rescan := true } }

/-- Whether any light channel has a fade in progress. -/
def anyFade (s : State) : Bool := allLights.any fun i => (lightOf s i).fade.isSome

/-- Whether all conditions of R187 for DOZE hold. -/
def dozeReady (s : State) : Bool :=
  decide (s.mc.mode = .awake) && decide (120 ≤ s.mc.silence) && !(startSequence s.hc.state) && !(anyFade s)
    && s.pn.player.isNone && s.pn.chimes.isEmpty

/-- The MC enters DOZE at the first event at which all conditions of R187 hold. Where that event has taken a wake source in
AWAKE, the wake source is taken first: the silence time is 0 and the part stays AWAKE (R187) (log entry 10: DESIGN CHOICE). -/
def dozeCheck (s : State) : State :=
  if dozeReady s then
    (if s.mc.woken then { s with mc := { s.mc with silence := 0 } } else setMode .doze s)
  else s

/-- The MC enters AWAKE with the silence time 0, an event of its own (R187, R189) (log entry 10: DESIGN CHOICE). -/
def enterAwake (s : State) : State :=
  ownerEvent [0] (fun s => setMode .awake { s with mc := { s.mc with silence := 0 } }) s

/-- A wake source: in DOZE the MC enters AWAKE; in AWAKE it is marked for the DOZE judgement of its event, and changes nothing
else (R187) (log entry 10: DESIGN CHOICE). -/
def wakeFromDoze (s : State) : State :=
  match s.mc.mode with
  | .doze => enterAwake s
  | .awake => { s with mc := { s.mc with woken := true } }
  | .standby => s

/-- What an event leaves once its own effect `f` has taken the part from `s` to `f s`: the outputs it switched, the MC's
judgement for DOZE, and the revisions of the records it changed (log entries 10 and 14: DESIGN CHOICE). -/
def close (s s' : State) : State := advance allRecords s (ownerEvent [0] dozeCheck (settle s s'))

/-- An event begins: the command's handing is taken, and no wake source has been. -/
def startEvent (i : Instr) (s : State) : State := takeHanding i { s with mc := { s.mc with woken := false } }

/-- A command taken as one event of the running part: the event begins, its effect is made, and it is closed. A part held in
reset takes nothing (R190); what moves there all the same, the supply and the contact inputs, moves outside this frame
(log entry 12: DESIGN CHOICE). -/
def event (i : Instr) (f : State → State) (s : State) : Host.Outcome State Fault Refusal :=
  match s.mc.supply with
  | .held _ => .next s
  | .running => .next (close s (f (startEvent i s)))

end Sys2Proof.Machine
end

