-- ==== Sys2Proof/Machine/ChimeOps.lean ====
section
/-! DEFINITION. The chime queue and its player (R130, R131). -/

namespace Sys2Proof.Machine

/-- The PI's state with its fields changed. -/
def withPn (f : PanelUnit → PanelUnit) (s : State) : State := { s with pn := f s.pn }

/-- The tone index the sounder is driven at, absent while it is silent: the player's, in an ON phase while PANEL's gate is
open (R55, R130, R131), and none while the part is held in reset (R190) (log entry 36: DESIGN CHOICE). -/
def toneSounding (s : State) : Option Nat :=
  if energized s .panel then s.pn.player.bind fun p => if p.on then some p.shape.tone else none else none

/-- Whether a queued request may sound: in RESTING only where its pattern, as it stands, is a WARNING (R131). -/
def maySound (s : State) (r : ChimeRequest) : Bool :=
  !s.pn.resting || decide (3 ≤ (patternOf s.cfg r.pattern).priority)

/-- The player starts the queue's first request, or is IDLE where there is none (R131). In RESTING a request that no longer
sounds, its user pattern written below WARNING since it was queued, leaves the queue unheard (log entry 38: DESIGN CHOICE). -/
def startNext (s : State) : State :=
  match s.pn.chimes.dropWhile fun r => !(maySound s r) with
  | [] => withPn (fun p => { p with chimes := [], player := none }) s
  | r :: rest =>
    let shape := patternOf s.cfg r.pattern
    withPn (fun p => { p with chimes := rest, player := some ⟨r.pattern, shape, 1, true, shape.onTime, false⟩ }) s

/-- A request inserted after every request of equal or higher priority (R130, step 4). -/
def insertChime (r : ChimeRequest) : List ChimeRequest → List ChimeRequest
  | [] => [r]
  | q :: qs => if r.priority ≤ q.priority then q :: insertChime r qs else r :: q :: qs

/-- The lowest queued priority. -/
def lowestPriority (qs : List ChimeRequest) : Nat := qs.foldl (fun m q => min m q.priority) 3

/-- The queue less its request of the lowest priority that arrived latest (R130, step 6). -/
def evictLowest (qs : List ChimeRequest) : List ChimeRequest :=
  let low := qs.filter fun q => q.priority == lowestPriority qs
  let last := low.foldl (fun m q => max m q.arrival) 0
  qs.filter fun q => !(q.priority == lowestPriority qs && q.arrival == last)

/-- The player after an insertion of the given priority: an idle one starts, one playing below it is preempted (R131). -/
def afterInsertion (priority : Nat) (s : State) : State :=
  match s.pn.player with
  | none => startNext s
  | some p =>
    if p.shape.priority < priority then
      (if p.on then withPn (fun u => { u with player := some { p with ending := true } }) s else startNext s)
    else s

/-- A request joins the given queue (R130). It keeps the priority its pattern has at its arrival, for the order, the eviction and the
removal at a rest's entry, also where its user pattern's priority is written while it waits (log entry 38: DESIGN CHOICE). -/
def admitChime (pattern : Fin 10) (queue : List ChimeRequest) (s : State) : State :=
  let r : ChimeRequest := ⟨pattern, (patternOf s.cfg pattern).priority, s.pn.arrivals⟩
  afterInsertion r.priority
    (withPn (fun u => { u with chimes := insertChime r queue, arrivals := u.arrivals + 1 }) s)

/-- A chime request as judged at its arrival, and whether it is inserted or merged (R130). -/
def judgeChime (pattern : Fin 10) (s : State) : State × Bool :=
  let u := s.pn
  let prio := (patternOf s.cfg pattern).priority
  if u.grant = 0 ∨ u.standby then (s, false)
  else if u.resting ∧ prio < 3 then (s, false)
  else if u.chimes.any fun q => q.pattern == pattern then (s, true)
  else if u.chimes.length < 4 then (admitChime pattern u.chimes s, true)
  else if prio ≤ lowestPriority u.chimes then (s, false)
  else (admitChime pattern (evictLowest u.chimes) s, true)

/-- A chime request that must answer: OK where inserted or merged, STATE where dropped, RANGE for a pattern above 9. -/
def chimeStatus (pattern : Nat) (s : State) : State × Status :=
  if h : pattern < 10 then
    let r := judgeChime ⟨pattern, h⟩ s
    (r.1, if r.2 then .ok else .state)
  else (s, .range)

/-- The queue emptied and the player stopped at once (R131). -/
def stopChimes (s : State) : State := withPn (fun u => { u with chimes := [], player := none }) s

/-- A burst after its gap: the next one, or the chime's end. -/
def nextBurst (p : Player) (s : State) : State :=
  if p.burst < p.shape.repeats then
    withPn (fun u => { u with player := some { p with burst := p.burst + 1, on := true, phaseMs := p.shape.onTime } }) s
  else startNext s

/-- The end of the player's present phase; a gap of 0 ends as it begins (R131). -/
def chimePhase (s : State) : State :=
  match s.pn.player with
  | none => s
  | some p =>
    if p.on then
      (if p.ending then startNext s
       else if p.shape.gap = 0 then nextBurst p s
       else withPn (fun u => { u with player := some { p with on := false, phaseMs := p.shape.gap } }) s)
    else nextBurst p s

/-- A change into or out of RESTING handed to the PI: at the rest's entry everything below WARNING goes (R120, R131). -/
def panelResting (b : Bool) (s : State) : State :=
  let s1 := withPn (fun u => { u with resting := b }) s
  if b then
    let s2 := withPn (fun u => { u with chimes := u.chimes.filter fun q => decide (3 ≤ q.priority) }) s1
    match s2.pn.player with
    | some p => if p.shape.priority < 3 then startNext s2 else s2
    | none => s2
  else s1

/-- PANEL's grant report: a grant of 0 silences the chime (R131, R132). -/
def panelGrant (grant : Nat) (s : State) : State :=
  let s1 := withPn (fun u => { u with grant := grant }) s
  if grant = 0 then stopChimes s1 else s1

end Sys2Proof.Machine
end

