-- ==== Sys2Proof/Machine/FridgeOps.lean ====
section
/-! DEFINITION. The Fridge Controller's operations (R90 to R105): the compressor's states, the TF reading and its fallback,
stalls, boost, the door's supervision, and the roof vent. -/

namespace Sys2Proof.Machine

/-- The FC's state with its fields changed. -/
def withFc (f : FridgeUnit → FridgeUnit) (s : State) : State := { s with fc := f s.fc }

/-- The events of a FRIDGE notice, with the codes 0 to 3 in the order of R105's table. -/
inductive FridgeEvent where
  | stall | fault | fallback | resumed
deriving DecidableEq, Repr

/-- The code of a FRIDGE event. -/
def fridgeEventCode : FridgeEvent → Nat
  | .stall => 0 | .fault => 1 | .fallback => 2 | .resumed => 3

/-- The severity of a FRIDGE event (R105). -/
def fridgeSeverity : FridgeEvent → Severity
  | .stall => .attention | .fault => .warning | .fallback => .attention | .resumed => .info

/-- A FRIDGE notice with the state after the event (R105). -/
def fridgeNotice (e : FridgeEvent) (s : State) : State :=
  post .fridge .fc (fridgeSeverity e) [byte (fridgeEventCode e), byte (fridgeCode s.fc.state), byte s.fc.stallLog.length] s

/-- The FC commands the compressor off: the latched drive drops, and a compressor that was on has its last stop now
(R94, R95). -/
def commandOff (s : State) : State :=
  if energized s .compressor then withFc (fun f => { f with drive := false, lastStop := now s, switchOn := none }) s
  else withFc (fun f => { f with drive := false }) s

/-- The FC enters a state: its phase timer is stopped, the speeds stand only in START and RUN, and the request is
brought to the state's (R94) (log entry 18: DESIGN CHOICE). -/
def enterFridge (new : FridgeState) (upd : FridgeUnit → FridgeUnit) (s : State) : State :=
  let s1 := withFc (fun f => upd { f with state := new, phase := none, wanted := none, effective := none }) s
  ask .fridge (fridgeRequest s1.cfg.demands s1.fc) s1

/-- A speed as shown: absent where there is none. -/
def someSpeed (n : Nat) : Option Nat := if n = 0 then none else some n

/-- What the settings, the level and a boost give the thermostat now (R91, R92). -/
def useNow (s : State) : FridgeUse := ⟨fridgeSetpoint s, s.cfg.fridgeSet.hyst, s.cfg.fridgeSet.maxSpeed⟩

/-- The upper threshold the thermostat works with (R92). -/
def usedUpper (u : FridgeUse) : Int := u.setpoint + (ceilDiv u.hyst 2 : Nat)

/-- The lower threshold the thermostat works with (R92). -/
def usedLower (u : FridgeUse) : Int := u.setpoint - (u.hyst / 2 : Nat)

/-- The wanted speed for a filtered TF (R98). -/
def wantedSpeed (s : State) (tf : Int) : Nat := min (tempSpeed (tf - s.fc.used.setpoint)) s.fc.used.maxSpeed

/-- The effective speed for a wanted speed under the held grant (R98), absent where no speed's demand fits it
(log entry 18: DESIGN CHOICE). -/
def effectiveSpeed (s : State) (w : Nat) : Option Nat := someSpeed (speedWithin s.cfg.demands.fridge.toList w s.fc.grant)

/-- The latest filtered TF; 0 stands where none is held, which no caller meets while TF is VALID. -/
def latestTf (s : State) : Int := (chanOf s .tf).filtered.getD 0

/-- START, with the wanted speed formed from the latest filtered TF and the drive set (R94, R97). -/
def toStart (s : State) : State :=
  enterFridge .start (fun f => { f with wanted := some (wantedSpeed s (latestTf s)), drive := true }) s

/-- IDLE (R96). -/
def toIdle (s : State) : State := enterFridge .idle id s

/-- Whether the minimum off time has ended (R95). -/
def minOffOver (s : State) : Bool := decide (minOffEnd s ≤ now s)

/-- The end of WAIT_OFF, judged by the thresholds of the latest TF conversion (R91, R92, R96). -/
def waitOffEnd (s : State) : State :=
  if s.fc.reading = .reading ∧ usedUpper s.fc.used ≤ latestTf s then toStart s else toIdle s

/-- WAIT_OFF until the minimum off time ends; where it has ended, its end is taken at this event (R96)
(log entry 18: DESIGN CHOICE). -/
def toWaitOff (s : State) : State :=
  if minOffOver s then waitOffEnd s else enterFridge .waitOff (fun f => { f with phase := some (minOffEnd s) }) s

/-- FALLBACK_ON for 600 s, the drive as given (R102). -/
def toFallbackOn (drive : Bool) (s : State) : State :=
  enterFridge .fallbackOn (fun f => { f with phase := some (now s + 6000), drive := drive }) s

/-- FALLBACK_OFF until 1,200 s after the last stop; where they have passed, FALLBACK_ON at this event (R102)
(log entry 18: DESIGN CHOICE). -/
def toFallbackOff (s : State) : State :=
  if s.fc.lastStop + 12000 ≤ now s then toFallbackOn true s
  else enterFridge .fallbackOff (fun f => { f with phase := some (s.fc.lastStop + 12000) }) s

/-! ### Thermostat (R96 to R99) -/

/-- The request and speeds for the wanted speed of a TF conversion in START and RUN (R98). -/
def updateWanted (tf : Int) (s : State) : State :=
  let w := wantedSpeed s tf
  if s.fc.wanted = some w then s
  else
    let eff := if s.fc.state = .run then effectiveSpeed s w else none
    let s1 := withFc (fun f => { f with wanted := some w, effective := eff }) s
    ask .fridge (fridgeRequest s1.cfg.demands s1.fc) s1

/-- Whether the minimum on time of 60 s has passed since the switch-on (R95). -/
def minOnOver (s : State) : Bool :=
  match s.fc.switchOn with
  | some t => heldFor s t 600
  | none => false

/-- The thermostat stop (R99). -/
def thermostatStop (s : State) : State := toWaitOff (commandOff s)

/-- A TF conversion with TF VALID, in each state (R96, R97, R98, R99, R100). -/
def thermostat (tf : Int) (s : State) : State :=
  let sat := decide (tf ≤ usedLower s.fc.used)
  let s1 := withFc (fun f => { f with satisfied := sat }) s
  match s.fc.state with
  | .idle => if usedUpper s.fc.used ≤ tf then (if minOffOver s then toStart s1 else toWaitOff s1) else s1
  | .waitOff => s1
  | .stallWait => s1
  | .start => if sat && s.fc.phase.isNone && s.fc.drive then toIdle (commandOff s1) else updateWanted tf s1
  | .run => if sat && minOnOver s then thermostatStop s1 else updateWanted tf s1
  | .off | .fault | .fallbackOn | .fallbackOff => s

/-! ### The TF reading (R93, R102) -/

/-- The reading after a conversion or status report of TF (R93). -/
def readingAfter (old : TfReading) (st : SampleStatus) : TfReading :=
  match st with
  | .valid => .reading
  | .suspect => .lost
  | .stale => if old = .lost then .lost else .pending

/-- TF lost in each state (R102): a compressor in START or RUN keeps its command as it stands, a dropped drive dropped
(log entry 18: DESIGN CHOICE). -/
def tfLostState (s : State) : State :=
  match s.fc.state with
  | .idle | .waitOff => toFallbackOff s
  | .start | .run => toFallbackOn s.fc.drive s
  | _ => s

/-- The TF lost event, with its FRIDGE notice while enable is set (R102, R105). -/
def tfLost (s : State) : State :=
  let s1 := tfLostState (withFc (fun f => { f with reading := .lost }) s)
  if s.cfg.fridgeSet.enable then fridgeNotice .fallback s1 else s1

/-- What a report of TF brings the thermostat: its judgement at a VALID conversion, and nothing at a status report (R93). -/
def judgeTf (conv : Option Int) (s : State) : State :=
  match conv with
  | some tf => thermostat tf s
  | none => s

/-- RUN from FALLBACK_ON with the compressor on, its speeds formed from the given TF (R98, R102). -/
def resumeRun (tf : Int) (s : State) : State :=
  let w := wantedSpeed s tf
  enterFridge .run (fun f => { f with wanted := some w, effective := effectiveSpeed s w }) s

/-- TF regained in each state; `conv` is the regaining conversion's filtered TF, absent at a status report (R102). A status report
forms the speeds from the latest filtered TF, and a RUN or an IDLE it enters waits for the next event of R96 or R99; at a
conversion the RUN is judged for the thermostat stop at the same event (log entry 18: DESIGN CHOICE). -/
def tfRegainedState (conv : Option Int) (s : State) : State :=
  match s.fc.state with
  | .fallbackOn =>
    judgeTf conv (if energized s .compressor then resumeRun (conv.getD (latestTf s)) s else toIdle (commandOff s))
  | .fallbackOff =>
    let s1 := match conv with
      | some v => withFc (fun f => { f with satisfied := decide (v ≤ usedLower s.fc.used) }) s
      | none => s
    toWaitOff s1
  | .stallWait => judgeTf conv s
  | _ => s

/-- The TF regained event, with its FRIDGE notice while enable is set (R102, R105). -/
def tfRegained (conv : Option Int) (s : State) : State :=
  let s1 := tfRegainedState conv (withFc (fun f => { f with reading := .reading }) s)
  if s.cfg.fridgeSet.enable then fridgeNotice .resumed s1 else s1

/-- The reading returns from PENDING: a RUN takes the effective speed that the grant as it stands allows, which a report under
PENDING left as it was (R98) (log entry 18: DESIGN CHOICE). -/
def speedReturns (s : State) : State :=
  if s.fc.state = .run then withFc (fun f => { f with effective := effectiveSpeed s (s.fc.wanted.getD 1) }) s else s

/-- A conversion or status report of TF at the FC (R93); from a VALID conversion on the thermostat works with what the settings,
the level and a boost give it then (R91, R92). -/
def fridgeTf (isConversion : Bool) (s0 : State) : State :=
  let conv := if isConversion then validFiltered s0 .tf else none
  let s := if conv.isSome then withFc (fun f => { f with used := useNow s0 }) s0 else s0
  match s.fc.reading, readingAfter s.fc.reading (statusOf s .tf) with
  | .lost, .reading => tfRegained conv s
  | .reading, .lost | .pending, .lost => tfLost s
  | old, r =>
    let s1 := withFc (fun f => { f with reading := r }) s
    let s2 := if old = .pending ∧ r = .reading then speedReturns s1 else s1
    judgeTf conv s2

/-! ### Grants, stalls, faults (R97, R98, R100, R101) -/

/-- A grant report for FRIDGE (R97, R98, R102); under PENDING a RUN keeps its speeds, unless the grant finds none (R98)
(log entry 18: DESIGN CHOICE). -/
def fridgeGrant (grant : Nat) (s0 : State) : State :=
  let s := withFc (fun f => { f with grant := grant }) s0
  match s.fc.state with
  | .start => if grant = 0 ∧ (s.fc.phase.isSome ∨ s.fc.drive = false) then toWaitOff (commandOff s) else s
  | .run =>
    if grant < speedDemand s.cfg.demands 1 then toWaitOff (commandOff s)
    else if s.fc.reading = .pending then s
    else withFc (fun f => { f with effective := effectiveSpeed s (s.fc.wanted.getD 1) }) s
  | .fallbackOn =>
    if grant = 0 ∧ (s.fc.switchOn.isSome ∨ s.fc.drive = false) then toFallbackOff (commandOff s) else s
  | _ => s

/-- The third stall enters FAULT (R101). -/
def toFault (s : State) : State := chime 3 (fridgeNotice .fault (enterFridge .fault id (commandOff s)))

/-- A stall in any state but OFF and FAULT (R100). -/
def fridgeStall (s : State) : State :=
  match s.fc.state with
  | .off | .fault => s
  | _ =>
    let s1 := withFc (fun f => { f with stallLog := f.stallLog ++ [now s] }) s
    if 3 ≤ s1.fc.stallLog.length then toFault s1
    else fridgeNotice .stall (enterFridge .stallWait (fun f => { f with phase := some (now s + 600) }) (commandOff s1))

/-- The soft start's end: RUN with the effective speed formed, while the reading is PENDING as well (R97, R98)
(log entry 18: DESIGN CHOICE). -/
def softStartEnd (s : State) : State :=
  let w := s.fc.wanted.getD 1
  enterFridge .run (fun f => { f with wanted := some w, effective := effectiveSpeed s w }) s

/-- The stall wait's end (R100). -/
def stallWaitEnd (s : State) : State := if s.fc.reading = .lost then toFallbackOff s else toWaitOff s

/-- CLEAR FAULT: the stall log is emptied, and FAULT is left (R101). -/
def fridgeClearFault (s : State) : State :=
  let s1 := withFc (fun f => { f with stallLog := [] }) s
  if s.fc.state = .fault then
    if !s.cfg.fridgeSet.enable then enterFridge .off id s1
    else if s.fc.reading = .lost then toFallbackOff s1
    else toWaitOff s1
  else s1

/-! ### Boost (R92) -/

/-- A boost start and its status. -/
def boostStart (s : State) : State × Status :=
  if s.cfg.fridgeSet.enable then (withFc (fun f => { f with boostEnd := some (s.su.elapsed + 3600) }) s, .ok)
  else (s, .state)

/-- A boost ends. -/
def boostStop (s : State) : State := withFc (fun f => { f with boostEnd := none }) s

/-! ### Enable and the minimum off time (R95, R96, R103) -/

/-- Enable is cleared (R96, R103). -/
def fridgeDisable (s : State) : State :=
  let quiet (f : FridgeUnit) : FridgeUnit := { f with boostEnd := none, doorTimer := none, alerts := 0 }
  match s.fc.state with
  | .off | .fault => withFc quiet s
  | _ => enterFridge .off quiet (commandOff s)

/-- Enable is set (R96, R103). -/
def fridgeEnable (s : State) : State :=
  let s1 := if s.fc.doorOpen then withFc (fun f => { f with doorTimer := some (now s + 1200) }) s else s
  match s.fc.state with
  | .off => if s.fc.reading = .lost then toFallbackOff s1 else toIdle s1
  | _ => s1

/-- The FC takes a change of FRIDGE_SET (R91, R95, R96). -/
def fridgeSetEffect (old new : FridgeSet) (s : State) : State :=
  if old.enable && !new.enable then fridgeDisable s
  else
    let s1 := if !old.enable && new.enable then fridgeEnable s else s
    if old.minOff ≠ new.minOff ∧ s1.fc.state = .waitOff then
      (if minOffOver s1 then waitOffEnd s1 else withFc (fun f => { f with phase := some (minOffEnd s1) }) s1)
    else s1

/-! ### Door (R103) -/

/-- A DOOR notice (R185). -/
def doorNotice (opened : Bool) (sev : Severity) (secs alerts : Nat) (s : State) : State :=
  post .door .fc sev (byte (alerts + bit opened 7) :: leBytes 2 (secs : Int)) s

/-- FDOOR's contact change at the FC (R103). -/
def fridgeDoor (st : ContactState) (s : State) : State :=
  match st with
  | .active =>
    withFc (fun f => { f with
      doorOpen := true
      openSince := some (now s)
      alerts := 0
      doorTimer := if s.cfg.fridgeSet.enable then some (now s + 1200) else none }) s
  | .inactive =>
    let s1 := withFc (fun f => { f with doorOpen := false, doorTimer := none, alerts := 0, openSince := none }) s
    match s.fc.openSince with
    | some t => if 0 < s.fc.alerts then doorNotice false .info (secondsOpen s t) s.fc.alerts s1 else s1
    | none => s1
  | .unknown => s

/-- The door timer's expiry with the door open (R103). -/
def doorAlert (s : State) : State :=
  match s.fc.openSince, s.fc.doorTimer with
  | some t, some _ =>
    let n := min 5 (s.fc.alerts + 1)
    let s1 := withFc (fun f => { f with alerts := n, doorTimer := if n < 5 then some (now s + 600) else none }) s
    chime 2 (doorNotice true .attention (secondsOpen s t) n s1)
  | _, _ => s

/-! ### Roof vent (R104) -/

/-- The vent effective speed as the speed, the grant and the demands stand (R104); OFF as well where no speed's demand fits a grant
above 0 (log entry 18: DESIGN CHOICE). -/
def ventEffective (s : State) : Nat :=
  if s.fc.ventGrant = 0 then 0 else speedWithin s.cfg.demands.vent.toList s.fc.ventSpeed s.fc.ventGrant

/-- The run end of a vent switched on now. -/
def ventRunFrom (s : State) : Option Nat := if s.cfg.ventLimit = 0 then none else some (s.su.elapsed + 60 * s.cfg.ventLimit)

/-- The FC takes a change of the vent speed from `old` (R104). -/
def ventEffect (old : Nat) (s : State) : State :=
  if old = s.fc.ventSpeed then s
  else
    let run := if s.fc.ventSpeed = 0 then none else if old = 0 then ventRunFrom s else s.fc.ventRunEnd
    let s1 := withFc (fun f => { f with ventRunEnd := run, ventEff := ventEffective s }) s
    ask .vent (ventRequest s1.cfg.demands s1.fc.ventSpeed) s1

/-- The speed is written; the FC's consequences follow. -/
def setVentSpeed (v : Nat) (s : State) : State := ventEffect s.fc.ventSpeed (withFc (fun f => { f with ventSpeed := v }) s)

/-- The speed is written as one operation on VENT through the RMG on another block's behalf (R161, R174, R175). -/
def writeVentSpeed (v : Nat) (s : State) : State :=
  operate 15 (ventEffect s.fc.ventSpeed) (operate 15 (withFc fun f => { f with ventSpeed := v }) s)

/-- A write of the run limit while the speed is not OFF restarts the timing (R104). -/
def ventLimitEffect (s : State) : State :=
  if s.fc.ventSpeed = 0 then s else withFc (fun f => { f with ventRunEnd := ventRunFrom s }) s

/-- The run end is reached (R104) (log entry 11: DESIGN CHOICE). -/
def ventRunOut (s : State) : State := post .vent .fc .info [0] (setVentSpeed 0 s)

/-- A grant report for VENT (R104). -/
def ventGrantIn (grant : Nat) (s : State) : State :=
  let s1 := withFc (fun f => { f with ventGrant := grant }) s
  withFc (fun f => { f with ventEff := ventEffective s1 }) s1

end Sys2Proof.Machine
end

