-- ==== Sys2Proof/Machine/HeaterOps.lean ====
section
/-! DEFINITION. The Heater Controller's operations (R62 to R88): entering a state with everything that goes with it, faults,
purges, starts and stops, regulation, and what it does with the conversions and status changes of its channels. -/

namespace Sys2Proof.Machine

/-- The HC's state with its fields changed. -/
def withHc (f : HeaterUnit → HeaterUnit) (s : State) : State := { s with hc := f s.hc }

/-! ### Stroke generator (R82, R83) -/

/-- A stroke start: the next one is fixed one period later; where the pump's gate is open the stroke is pulsed and
counted. -/
def strokeAt (s : State) : State :=
  let h := s.hc
  let next := some (strokePeriod (pumpRate s.cfg.heaterTune h))
  if gateOpen s .pump then
    { s with hc := { h with
      stroke := next
      pulse := true
      strokesRun := min max32 (h.strokesRun + 1)
      strokesTotal := min max32 (h.strokesTotal + 1) } }
  else { s with hc := { h with stroke := next } }

/-! ### The heater part of the store (R84, R192) -/

/-- What the heater part of the store is to hold. -/
def heaterPartOf (h : HeaterUnit) : HeaterPart := ⟨h.failed, h.overheats, h.lockout⟩

/-- The heater part is written: a write begins with the values as they stand, or a further one is owed at the end of
the write under way (log entry 17: DESIGN CHOICE). -/
def writeHeater (s : State) : State :=
  match s.mc.heaterWrite with
  | none => { s with mc := { s.mc with heaterWrite := some (heaterPartOf s.hc) } }
  | some _ => { s with mc := { s.mc with heaterAgain := true } }

/-- The heater part is written where the event changed a counter or the lockout flag since `s` (log entry 17: DESIGN CHOICE). -/
def keepHeater (s s' : State) : State :=
  if heaterPartOf s.hc = heaterPartOf s'.hc then s' else writeHeater s'

/-! ### Entering a state -/

/-- The HC as it enters a state: what the states of R63 command, and the items that stand only inside a state (R62, R71,
R74, R75, R77, R87) (log entry 15: DESIGN CHOICE). -/
def heaterIn (new : HeaterState) (h : HeaterUnit) : HeaterUnit :=
  { h with
    state := new
    phase := none
    power := none
    purge := none
    restartPending := if new = .purge then h.restartPending else false
    tempStage := none
    desired := none
    effective := none
    pauseHold := none
    flameHold := none
    overHold := if burning new then h.overHold else none
    underHold := if burning new then h.underHold else none
    frostHold := if new = .off then h.frostHold else none
    glow := new = .check || new = .preheat || new = .prime || new = .ignite
    stroke := if burning new then h.stroke else none
    pulse := if burning new then h.pulse else false }

/-- The states at which a frost run ends (R87). -/
def endsFrost : HeaterState → Bool
  | .off => true | .pause => true | .dryCool => true | .lockout => true | .vent => true
  | _ => false

/-- A frost run ends: its flag and the class override are cleared, the clearing handed behind a request that the same event has
brought to its state, and before the request of a new start (R87) (log entry 15: DESIGN CHOICE). -/
def endFrost (s : State) : State :=
  if s.hc.frostRun then hand (.classOverride false) (withHc (fun h => { h with frostRun := false }) s) else s

/-- The frost run's end at the entry of a state; one that ends in OFF with a fault sets the back-off 15 min ahead. -/
def frostAtEntry (s : State) : State :=
  if s.hc.frostRun && endsFrost s.hc.state then
    let s1 := endFrost s
    if s.hc.state = .off ∧ s.hc.lastFault.isSome then
      withHc (fun h => { h with frostBackoff := some (s.su.elapsed + 900) }) s1
    else s1
  else s

/-- HEATER_STATE, posted at each change of state (R88). -/
def heaterNotice (s : State) : State :=
  let h := s.hc
  let third := match h.state with
    | .run => match h.effective with | some g => stageCode g | none => 0
    | _ => h.attempt
  post .heaterState .hc .info
    [byte (heaterCode h.state), byte (match h.lastFault with | some f => faultCode f | none => 255), byte third] s

/-- What else the entry of a state brings: DRY_COOL and LOCKOUT request the FAULT chime (R88), WAIT_POWER is a wake
source (R187). -/
def entrySigns (s : State) : State :=
  match s.hc.state with
  | .dryCool => chime 3 s
  | .lockout => chime 3 s
  | .waitPower => wakeFromDoze s
  | _ => s

/-- The heater enters a state, `upd` setting the items its rule gives: the generator starts with its first stroke, the
request is brought to the state's, and the change is posted (R63, R82, R88). -/
def enterHeater (new : HeaterState) (upd : HeaterUnit → HeaterUnit) (s : State) : State :=
  let s1 := withHc (fun h => upd (heaterIn new h)) s
  let s2 := if burning new && !(burning s.hc.state) then strokeAt s1 else s1
  let s3 := ask .heat (heaterRequest s2.cfg.demands s2.hc) s2
  entrySigns (heaterNotice (frostAtEntry s3))

/-! ### Faults (section 4.13, R88) -/

/-- Whether a fault closes a failed start (R84). -/
def countsFailed : Option HeaterFault → Bool
  | some .noIgnition => true
  | some .flameLoss => true
  | _ => false

/-- Whether the heater will be locked out for its counters at the end of a purge with this fault (R77)
(log entry 15: DESIGN CHOICE). -/
def leadsToLockout (f : HeaterFault) (h : HeaterUnit) : Bool :=
  decide (3 ≤ h.failed + (if countsFailed (some f) then 1 else 0)) || decide (3 ≤ h.overheats)

/-- The severity of a HEATER_FAULT notice (R88). -/
def faultSeverity (f : HeaterFault) (leads : Bool) : Severity :=
  match f with
  | .overheat => .warning
  | .blower => .warning
  | .purgeHot => .warning
  | _ => if leads then .warning else .attention

/-- HEATER_FAULT with the state the fault arose in (R88). -/
def postFault (f : HeaterFault) (arose : HeaterState) (leads : Bool) (s : State) : State :=
  post .heaterFault .hc (faultSeverity f leads) [byte (faultCode f), byte (heaterCode arose), byte s.hc.failed] s

/-- A fault is recorded as last fault and posted, before the notice of the state it leads to (log entry 15: DESIGN CHOICE). -/
def recordFault (f : HeaterFault) (arose : HeaterState) (leads : Bool) (s : State) : State :=
  postFault f arose leads (withHc (fun h => { h with lastFault := some f }) s)

/-- The heater goes to OFF with a fault that is not counted. -/
def offWith (f : HeaterFault) (s : State) : State := enterHeater .off id (recordFault f s.hc.state false s)

/-- The heater goes to OFF. -/
def heaterOff (s : State) : State := enterHeater .off id s

/-- The heater locks out: the flag is set (R84). -/
def toLockout (s : State) : State := enterHeater .lockout (fun h => { h with lockout := true }) s

/-- The heater enters PURGE with its purge record; a fault's notice is posted before the change of state's (R77, R88)
(log entry 15: DESIGN CHOICE). -/
def toPurge (exit : PurgeExit) (fault : Option HeaterFault) (s : State) : State :=
  let s1 := match fault with
    | some f => recordFault f s.hc.state (leadsToLockout f s.hc) s
    | none => s
  enterHeater .purge (fun h => { h with purge := some ⟨exit, fault, now s⟩, flameRestart := false }) s1

/-- OVERHEAT: the overheat counter gains 1, held at 3, and the heater purges (R70, R71, R84). -/
def toOverheat (s : State) : State :=
  let s1 := withHc (fun h => { h with overheats := min 3 (h.overheats + 1) }) s
  keepHeater s (toPurge .off (some .overheat) s1)

/-- The failed-start counter gains 1, held at 3 (R84). -/
def addFailed (h : HeaterUnit) : HeaterUnit := { h with failed := min 3 (h.failed + 1) }

/-- The failed start that a purge's fault closes is counted (R77, R80). -/
def countPurge (s : State) : State :=
  if countsFailed (s.hc.purge.bind (·.fault)) then withHc addFailed s else s

/-- The heater enters DRY_COOL with BLOWER: the 600 s timer runs, the lockout flag is set and stored, and a failed start
its purge would have closed is counted, before the notice that carries the counter (R80, R81, R88)
(log entry 15: DESIGN CHOICE). -/
def toDryCool (s : State) : State :=
  let s1 := recordFault .blower s.hc.state true (countPurge s)
  keepHeater s (enterHeater .dryCool (fun h => { h with phase := some (now s + 6000), lockout := true }) s1)

/-- A blower fault in each state (R80). -/
def blowerFault (s : State) : State :=
  match s.hc.state with
  | .prime | .ignite | .stabilize | .run | .purge => toDryCool s
  | .preheat | .vent => offWith .blower s
  | _ => s

/-! ### Start and stop (R65, R66, R67) -/

/-- WAIT_POWER with its 60 s timer (R67). -/
def toWaitPower (upd : HeaterUnit → HeaterUnit) (s : State) : State :=
  enterHeater .waitPower (fun h => upd { h with phase := some (now s + 600) }) s

/-- A new run (R65). -/
def newRun (s : State) : State :=
  toWaitPower (fun h => { h with lastFault := none, attempt := 1, flameOut := 0, strokesRun := 0 }) s

/-- The refusal with NO_POWER: no grant could reach the START demand (R65). -/
def noPowerRefusal (s : State) : Bool :=
  s.hc.level == .cutoff || (s.hc.level == .reserve && decide (s.cfg.battery.aRes < s.cfg.demands.start))
    || (entryOf s .heat).latched

/-- The refusal of a start, if any (R65). -/
def startRefusal (s : State) : Option Status :=
  match s.hc.state with
  | .dryCool | .lockout => some .state
  | .purge => if (s.hc.purge.bind (·.fault)).isSome then some .state else none
  | .off | .pause | .vent => if noPowerRefusal s then some .noPower else none
  | _ => none

/-- What an accepted start does in the present state (R65). -/
def startEffect (s : State) : State :=
  match s.hc.state with
  | .off | .pause | .vent => newRun s
  | .purge =>
    match s.hc.purge with
    | some p =>
      if p.exit = .off ∨ p.exit = .pause then withHc (fun h => { h with restartPending := true }) s else s
    | none => s
  | _ => s

/-- A start request from host, panel or schedule, and the status it is answered with (R65). -/
def heaterStart (setpoint duration : Option Nat) (s : State) : State × Status :=
  match startRefusal s with
  | some st => (s, st)
  | none =>
    let sp := setpoint.map fun v => clampInt 50 300 v
    let du := duration.map fun v => max 1 (min 720 v)
    let clamped := (sp != setpoint.map fun v => (v : Int)) || du != duration
    let s1 := { s with
      cfg := { s.cfg with heaterSet := { s.cfg.heaterSet with setpoint := sp.getD s.cfg.heaterSet.setpoint } }
      hc := { s.hc with durationEnd := du.map fun d => s.su.elapsed + 60 * d } }
    (startEffect (endFrost s1), if clamped then .clamped else .ok)

/-- A stop in each state (R66). -/
def heaterStop (s : State) : State :=
  match s.hc.state with
  | .off | .dryCool | .lockout => s
  | .vent | .waitPower | .check | .preheat | .pause => heaterOff s
  | .prime | .ignite | .stabilize | .run => toPurge .off none s
  | .purge =>
    match s.hc.purge with
    | some p =>
      if p.fault.isSome then s
      else withHc (fun h => { h with restartPending := false, purge := some { p with exit := .off } }) s
    | none => s

/-- Whether the panel's HEAT_TOGGLE is a stop (R65). -/
def toggleStops (h : HeaterUnit) : Bool :=
  match h.state with
  | .waitPower | .check | .preheat | .prime | .ignite | .stabilize | .run | .pause => true
  | .purge =>
    h.restartPending ||
      match h.purge with
      | some p => p.exit == .retry || p.exit == .restart
      | none => false
  | _ => false

/-- The panel's HEAT_TOGGLE and its status (R65, R66). -/
def heaterToggle (s : State) : State × Status :=
  if toggleStops s.hc then (heaterStop s, .ok) else heaterStart none none s

/-- The duration's expiry, a stop in a timed run (R66) (log entries 11 and 15: DESIGN CHOICE). -/
def durationStop (s : State) : State :=
  match s.hc.durationEnd with
  | none => s
  | some e =>
    if s.su.elapsed < e then s
    else
      match s.hc.state with
      | .off | .dryCool | .lockout | .vent => s
      | _ => heaterStop (withHc (fun h => { h with durationEnd := none }) s)

/-! ### The start sequence (R67 to R73) -/

/-- The entry of CHECK and what it finds (R68). Where it fails at once the heater goes from WAIT_POWER straight to OFF or PURGE: no
HEATER_STATE is posted for CHECK, which the HEATER_FAULT names as the state it arose in (R88) (log entry 15: DESIGN CHOICE). -/
def toCheck (s : State) : State :=
  if !(isValid s .tx) || !(isValid s .th) then enterHeater .off id (recordFault .sensor .check false s)
  else if validAbove s .tx 600 then toPurge .restart none s
  else enterHeater .check (fun h => { h with phase := some (now s + 50) }) s

/-- The glow test 2 s into CHECK (R68) (log entry 15: DESIGN CHOICE). -/
def glowTest (s : State) : State :=
  if s.hc.state = .check ∧ s.hc.glow then
    if 10 < (tget s.mu.comp 0).reading then withHc (fun h => { h with glow := false }) s
    else
      let s1 := withHc addFailed s
      let full := decide (3 ≤ s1.hc.failed)
      let s2 := recordFault .glowOpen .check full s1
      keepHeater s (if full then toLockout s2 else heaterOff s2)
  else s

/-- PREHEAT with its 60 s power timer (R69). -/
def toPreheat (s : State) : State := enterHeater .preheat (fun h => { h with power := some (now s + 600) }) s

/-- PRIME, for the PRIME time (R72). -/
def toPrime (s : State) : State :=
  enterHeater .prime (fun h => { h with phase := some (now s + 10 * s.cfg.heaterTune.primeTime) }) s

/-- IGNITE: the reference is the latest filtered TX (R72) (log entry 15: DESIGN CHOICE). -/
def toIgnite (s : State) : State :=
  enterHeater .ignite
    (fun h => { h with
      phase := some (now s + 10 * s.cfg.heaterTune.igniteLimit)
      igniteRef := (chanOf s .tx).filtered }) s

/-- STABILIZE (R73). -/
def toStabilize (s : State) : State :=
  enterHeater .stabilize (fun h => { h with phase := some (now s + 10 * s.cfg.heaterTune.stabilizeTime) }) s

/-- A failed attempt: a purge for a retry at attempt 1, NO_IGNITION at attempt 2 (R72, R73). -/
def attemptFailed (s : State) : State :=
  if s.hc.attempt ≤ 1 then toPurge .retry none s else toPurge .off (some .noIgnition) s

/-- RUN: the failed-start counter becomes 0, desired and effective stage become LOW (R73). -/
def toRun (s : State) : State :=
  keepHeater s
    (enterHeater .run
      (fun h => { h with
        failed := 0
        desired := some .low
        effective := some .low
        lastRise := some s.su.elapsed }) s)

/-! ### Run, pause and frost (R74, R75, R76, R87) -/

/-- The temperature stage of e (R74). -/
def stageOf (e : Int) : Stage := if 30 ≤ e then .high else if 10 ≤ e then .mid else .low

/-- One stage up. -/
def stageUp : Stage → Stage
  | .low => .mid | .mid => .high | .high => .high

/-- The desired stage of RUN becomes `g`: the request follows, and the effective stage (R74). -/
def setDesired (g : Stage) (s : State) : State :=
  if s.hc.desired = some g then s
  else
    let s1 := withHc (fun h => { h with desired := some g, effective := effectiveStage s.cfg.demands g h.grant }) s
    ask .heat (heaterRequest s1.cfg.demands s1.hc) s1

/-- The move of the desired stage toward the temperature stage (R74). -/
def moveStage (t : Stage) (s : State) : State :=
  let d := s.hc.desired.getD .low
  if stageCode t < stageCode d then setDesired t s
  else if stageCode d < stageCode t ∧ s.hc.lastRise.getD 0 + 60 ≤ s.su.elapsed then
    setDesired (stageUp d) (withHc (fun h => { h with lastRise := some s.su.elapsed }) s)
  else s

/-- The pause hold at a TC conversion (R75). -/
def pauseStep (e : Int) (s : State) : State :=
  if s.hc.desired = some .low ∧ e ≤ -15 then
    match s.hc.pauseHold with
    | none => withHc (fun h => { h with pauseHold := some (now s) }) s
    | some t => if heldFor s t 6000 then toPurge .pause none s else s
  else withHc (fun h => { h with pauseHold := none }) s

/-- RUN's regulation on a VALID filtered TC (R74, R75). -/
def regulate (tc : Int) (s : State) : State :=
  let e := workingSetpoint s - tc
  let s1 := withHc (fun h => { h with tempStage := some (stageOf e) }) s
  pauseStep e (moveStage (stageOf e) s1)

/-- The frost guard's start: checked for refusal, a new untimed run with the frost run flag and HEAT at class 0, the request
handed before the override (R87) (log entry 15: DESIGN CHOICE). -/
def frostStart (s : State) : State :=
  if noPowerRefusal s then
    postFault .noPower .off false (withHc (fun h => { h with frostBackoff := some (s.su.elapsed + 900) }) s)
  else
    hand (.classOverride true) (newRun (withHc (fun h => { h with durationEnd := none, frostRun := true }) s))

/-- Whether the frost guard acts (R87). -/
def frostActs (s : State) : Bool :=
  s.cfg.heaterSet.frost && s.hc.state == .off &&
    match s.hc.frostBackoff with
    | some e => decide (e ≤ s.su.elapsed)
    | none => true

/-- The frost hold at a VALID TC conversion in OFF, and the start it makes once met (R87) (log entry 15: DESIGN CHOICE). -/
def frostStep (tc : Int) (s : State) : State :=
  if tc < s.cfg.heaterSet.threshold then
    match s.hc.frostHold with
    | none => if frostActs s then withHc (fun h => { h with frostHold := some (now s) }) s else s
    | some t => if frostActs s && heldFor s t 600 then frostStart s else s
  else withHc (fun h => { h with frostHold := none }) s

/-- A TC conversion at the HC (R74, R76, R87). -/
def heaterTc (s : State) : State :=
  match validFiltered s .tc with
  | some tc =>
    if s.hc.frostRun ∧ s.cfg.heaterSet.threshold + 50 ≤ tc then heaterStop s
    else
      match s.hc.state with
      | .run => regulate tc s
      | .pause => if 10 ≤ workingSetpoint s - tc then newRun s else s
      | .off => frostStep tc s
      | _ => s
  | none =>
    match s.hc.state with
    | .pause => newRun s
    | _ => s

/-! ### The checks on VH, TH and TX (R62, R71, R72, R73, R75, R78, R81) -/

/-- The undervoltage hold, judged at VH conversions alone (R71) (log entry 15: DEDUCED). -/
def heaterVh (s : State) : State :=
  if burning s.hc.state then
    if validBelow s .vh 20000 then
      match s.hc.underHold with
      | none => withHc (fun h => { h with underHold := some (now s) }) s
      | some t => if heldFor s t 200 then toPurge .off (some .undervolt) s else s
    else withHc (fun h => { h with underHold := none }) s
  else s

/-- The overheat hold, judged at TH conversions alone (R71) (log entry 15: DEDUCED). -/
def heaterTh (s : State) : State :=
  if burning s.hc.state then
    if validAbove s .th 1200 then
      match s.hc.overHold with
      | none => withHc (fun h => { h with overHold := some (now s) }) s
      | some t => if heldFor s t 20 then toOverheat s else s
    else withHc (fun h => { h with overHold := none }) s
  else s

/-- What follows a purge by its exit, with restart-pending as it stands (R77) (log entry 15: DESIGN CHOICE). -/
def purgeExit (p : PurgeRecord) (s : State) : State :=
  match p.exit with
  | .retry => toWaitPower (fun h => { h with attempt := 2 }) s
  | .restart => toWaitPower (fun h => { h with attempt := if h.flameRestart then 1 else h.attempt }) s
  | .off =>
    if s.hc.restartPending then (if noPowerRefusal s then offWith .noPower s else newRun s) else heaterOff s
  | .pause =>
    if s.hc.restartPending then (if noPowerRefusal s then offWith .noPower s else newRun s) else enterHeater .pause id s

/-- The purge's end, in the order of R77. -/
def purgeEnd (s : State) : State :=
  match s.hc.purge with
  | none => s
  | some p =>
    let s1 := countPurge s
    keepHeater s (if 3 ≤ s1.hc.failed ∨ 3 ≤ s1.hc.overheats then toLockout s1 else purgeExit p s1)

/-- Whether the latest filtered TX is VALID and below the cool level. -/
def txCool (s : State) : Bool := validBelow s .tx 600

/-- The 300 s point of PURGE (R78). TX VALID and below 600 there, as after a CLEAR SUSPECT that no TX conversion has followed, is a
case that R78 gives no outcome: the purge ends by R77 (log entry 15: DESIGN CHOICE). -/
def purgeHot (s : State) : State :=
  match s.hc.state, s.hc.purge with
  | .purge, some p =>
    if txCool s then purgeEnd s
    else if isValid s .tx then keepHeater s (toLockout (recordFault .purgeHot .purge true s))
    else
      let s1 := if p.fault.isSome then s else recordFault .flameSensor .purge (leadsToLockout .flameSensor s.hc) s
      purgeEnd (withHc (fun h => { h with restartPending := false, purge := some { p with exit := .off } }) s1)
  | _, _ => s

/-- The flame has gone out (R75) (log entry 15: DESIGN CHOICE). -/
def flameGone (s : State) : State :=
  if s.hc.flameOut = 0 then
    withHc (fun h => { h with flameRestart := true })
      (toPurge .restart none (withHc (fun h => { h with flameOut := 1 }) s))
  else toPurge .off (some .flameLoss) s

/-- The flame-out hold at a TX conversion in RUN (R75). -/
def flameStep (tx : Int) (s : State) : State :=
  if tx < s.cfg.heaterTune.flameLoss then
    match s.hc.flameHold with
    | none => withHc (fun h => { h with flameHold := some (now s) }) s
    | some t => if heldFor s t 100 then flameGone s else s
  else withHc (fun h => { h with flameHold := none }) s

/-- The holds met as the clock moves on, at the first event at which a condition has held for its time: in RUN the pause hold
at 600 s and the flame-out hold at 10 s, in OFF the frost hold at 60 s (R62, R75, R87, R154) (log entry 15: DESIGN CHOICE). -/
def heaterHolds (s : State) : State :=
  match s.hc.state with
  | .run =>
    if holdMet s s.hc.pauseHold 6000 then toPurge .pause none s
    else if holdMet s s.hc.flameHold 100 then flameGone s
    else s
  | _ => if frostActs s && holdMet s s.hc.frostHold 600 then frostStart s else s

/-- Whether the present purge's entry lies 120 s or more back (R78). -/
def purgeLong (s : State) : Bool :=
  match s.hc.purge with
  | some p => heldFor s p.entry 1200
  | none => false

/-- A TX conversion in each state (R72, R73, R75, R78, R81). -/
def heaterTxState (s : State) : State :=
  match validFiltered s .tx with
  | none => s
  | some tx =>
    match s.hc.state with
    | .ignite =>
      match s.hc.igniteRef with
      | some r => if r + s.cfg.heaterTune.flameRise ≤ tx then toStabilize s else s
      | none => s
    | .stabilize =>
      match s.hc.igniteRef with
      | some r => if tx < r + s.cfg.heaterTune.margin then attemptFailed s else s
      | none => s
    | .run => flameStep tx s
    | .purge => if purgeLong s && decide (tx < 600) then purgeEnd s else s
    | .dryCool => if tx < 600 then toLockout s else s
    | _ => s

/-- A TX conversion at the HC: the first one after a reset purges a hot chamber (R62). -/
def heaterTx (s : State) : State :=
  if s.hc.firstTx then
    let s1 := withHc (fun h => { h with firstTx := false }) s
    if s.hc.state = .off ∧ validAbove s .tx 600 then toPurge .off none s1 else heaterTxState s1
  else heaterTxState s

/-- A conversion of one of the HC's channels. -/
def heaterConversion (ch : Channel) (s : State) : State :=
  match ch with
  | .vh => heaterVh s
  | .tc => heaterTc s
  | .th => heaterTh s
  | .tx => heaterTx s
  | _ => s

/-- One of the HC's channels has left VALID (R68, R69, R70, R71, R74, R76, R87). -/
def heaterLeft (ch : Channel) (s : State) : State :=
  match ch with
  | .vh => withHc (fun h => { h with underHold := none }) s
  | .th =>
    match s.hc.state with
    | .check | .preheat => offWith .sensor s
    | .prime | .ignite | .stabilize | .run => toOverheat s
    | _ => s
  | .tx =>
    match s.hc.state with
    | .check | .preheat => offWith .sensor s
    | .prime | .ignite | .stabilize | .run => toPurge .off (some .flameSensor) s
    | _ => s
  | .tc =>
    match s.hc.state with
    | .run => setDesired .low (withHc (fun h => { h with tempStage := some .low, pauseHold := none, frostHold := none }) s)
    | .pause => newRun s
    | _ => withHc (fun h => { h with frostHold := none }) s
  | _ => s

/-! ### Grants and trips (R67, R68, R69, R71, R74) -/

/-- A grant report at the HC. -/
def heaterGrant (grant : Nat) (s0 : State) : State :=
  let s := withHc (fun h => { h with grant := grant }) s0
  let d := s.cfg.demands
  match s.hc.state with
  | .waitPower => if d.check ≤ grant then toCheck s else s
  | .check => if grant = 0 then offWith .noPower s else s
  | .preheat =>
    match s.hc.phase with
    | none =>
      if grant = d.start then
        withHc (fun h => { h with phase := some (now s + 10 * s.cfg.heaterTune.preheatTime), power := none }) s
      else s
    | some _ => if grant = 0 then offWith .noPower s else s
  | .prime | .ignite | .stabilize => if grant = 0 then toPurge .off (some .noPower) s else s
  | .run =>
    if grant < d.low then toPurge .off (some .noPower) s
    else withHc (fun h => { h with effective := effectiveStage d (h.desired.getD .low) grant }) s
  | _ => s

/-- A trip report at the HC: T0 is a glow short, T1 a blower fault (R67, R68, R69, R71, R78, R80). -/
def heaterTrip (c : Comparator) (s : State) : State :=
  match c with
  | .t0 =>
    match s.hc.state with
    | .check | .preheat => offWith .glowShort s
    | .prime | .ignite | .stabilize | .run => toPurge .off (some .glowShort) s
    | _ => s
  | .t1 => blowerFault s
  | _ => s

/-! ### Blower loop (R79, R80) -/

/-- The duty one step toward the target, held within 150 to 1000 per mille (R79). -/
def nextDuty (duty speed target : Nat) : Nat :=
  max 150 (min 1000 (if speed < target then duty + 10 else if target < speed then duty - 10 else duty))

/-- One step of the blower loop and its two fault checks (R79, R80) (log entry 16: DEDUCED). -/
def blowerStep (s : State) : State :=
  if energized s .blower then
    let target := blowerTarget s
    let speed := s.mu.tach.speed
    let duty := nextDuty s.hc.duty speed target
    let stall := if 300 ≤ duty ∧ speed = 0 then s.hc.stallRun + 1 else 0
    let slow := if speed * 10 < target * 3 then s.hc.slowRun + 1 else 0
    let s1 := withHc (fun h => { h with duty := duty, stallRun := stall, slowRun := slow }) s
    if 5 ≤ stall ∨ 21 ≤ slow then blowerFault s1 else s1
  else s

/-! ### Vent mode and the lockout's clearing (R85, R86) -/

/-- HEAT VENT and its answer (R86). -/
def heatVent (on : Bool) (s : State) : State :=
  match on, s.hc.state with
  | true, .off => answer .ok [] (enterHeater .vent id s)
  | true, .vent => answer .ok [] s
  | true, _ => answer .state [] s
  | false, .vent => answer .ok [] (heaterOff s)
  | false, _ => answer .ok [] s

/-- CLEAR LOCKOUT and its answer (R85) (log entry 17: DESIGN CHOICE). -/
def clearLockout (s : State) : State :=
  match s.hc.state with
  | .purge | .dryCool => answer .state [] s
  | .lockout =>
    answer .ok [] (writeHeater
      (enterHeater .off (fun h => { h with failed := 0, overheats := 0, lockout := false, lastFault := none }) s))
  | _ => answer .ok [] (writeHeater (withHc (fun h => { h with failed := 0, overheats := 0 }) s))

end Sys2Proof.Machine
end

