-- ==== Sys2Proof/Machine/LightOps.lean ====
section
/-! DEFINITION. The Light Controller's operations (R107 to R118): target events and fades, the group requests, the applied
levels, scenes, and the entry scene. -/

namespace Sys2Proof.Machine

/-- The LC's state with its fields changed. -/
def withLc (f : LightUnit → LightUnit) (s : State) : State := { s with lc := f s.lc }

/-- The six channels, each changed. -/
def mapLights (f : Fin 6 → LightChan → LightChan) (s : State) : State :=
  let g (i : Fin 6) := f i (lightOf s i)
  withLc (fun l => { l with chan := #v[g 0, g 1, g 2, g 3, g 4, g 5] }) s

/-- The applied levels recomputed (R112). -/
def applyLevels (s : State) : State := mapLights (fun i c => { c with applied := appliedLevel s i }) s

/-- The group requests brought to the demand levels, BUNK's handed before CAB's, then the applied levels (R109, R111, R112)
(log entry 2: DESIGN CHOICE). -/
def lightsFollow (s : State) : State :=
  let s1 := ask .bunk (groupRequest s .bunk) s
  applyLevels (ask .cab (groupRequest s1 .cab) s1)

/-- A channel whose target has been changed: its fade of `n` steps starts from its faded level (R109). -/
def startFade (n : Nat) (c : LightChan) : LightChan :=
  if n = 0 then { c with faded := c.target, fade := none }
  else if c.fade = none ∧ c.target = c.faded then c
  else { c with fade := some ⟨c.faded, n, 0⟩ }

/-- Whether any saved target stands. -/
def anySaved (s : State) : Bool := allLights.any fun i => (lightOf s i).saved.isSome

/-- RETURNING with its set empty is IDLE (R118). -/
def entrySettles (s : State) : State :=
  if s.lc.entry = .returning ∧ anySaved s = false then withLc (fun l => { l with entry := .idle }) s else s

/-- The targets as they stand. -/
def targetsOf (s : State) : Vector Nat 6 := s.lc.chan.map (·.target)

/-- A target event whose targets have been set, `old` being those before it: the fades of the changed channels start; a
changed channel's saved target is marked none unless the event is the entry's own (R109, R118). -/
def targetEvent (old : Vector Nat 6) (n : Nat) (own : Bool) (s : State) : State :=
  let s1 := mapLights
    (fun i c =>
      if tget old i = c.target then c
      else startFade n { c with saved := if own then c.saved else none }) s
  lightsFollow (entrySettles s1)

/-- Targets set on the channels that `f` gives one. -/
def putTargets (f : Fin 6 → Option Nat) (s : State) : State :=
  mapLights (fun i c => { c with target := (f i).getD c.target }) s

/-- Targets set as one target event. -/
def setTargets (f : Fin 6 → Option Nat) (n : Nat) (own : Bool) (s : State) : State :=
  targetEvent (targetsOf s) n own (putTargets f s)

/-- The scene of a number 1 to 8, absent for any other. -/
def sceneOf (cfg : Settings) (n : Nat) : Option Scene :=
  if h : 1 ≤ n ∧ n ≤ 8 then some (tget cfg.scenes ⟨n - 1, by omega⟩) else none

/-- A scene is applied (R115). -/
def applyScene (sc : Scene) (own : Bool) (s : State) : State := setTargets (fun i => tget sc.levels i) sc.fade own s

/-- A scene request and its status (R115). -/
def sceneRequest (n : Nat) (s : State) : State × Status :=
  match sceneOf s.cfg n with
  | some sc => (applyScene sc false s, .ok)
  | none => (s, .range)

/-! ### Fades (R110) -/

/-- The faded level at step k. -/
def fadedAt (target : Nat) (f : Fade) (k : Nat) : Nat :=
  ((f.start : Int) + Int.tdiv (((target : Int) - (f.start : Int)) * (k : Int)) (f.n : Int)).toNat

/-- One step of a channel's fade; the last one ends it, and a returning channel leaves the returning set (R110, R118). -/
def fadeStep (i : Fin 6) (s : State) : State :=
  let c := lightOf s i
  match c.fade with
  | none => s
  | some f =>
    let k := f.k + 1
    if k < f.n then
      applyLevels (withLc (fun l => { l with chan := tset l.chan i { c with faded := fadedAt c.target f k, fade := some { f with k := k } } }) s)
    else
      let c1 := { c with
        faded := c.target
        fade := none
        saved := if s.lc.entry = .returning then none else c.saved }
      lightsFollow (entrySettles (withLc (fun l => { l with chan := tset l.chan i c1 }) s))

/-! ### Entry scene (R117, R118) -/

/-- Whether all four CAB targets are 0. -/
def cabDark (s : State) : Bool := (groupLights .cab).all fun i => (lightOf s i).target == 0

/-- An entry starts: the targets of the scene's channels are saved, the scene applied and the 120 s timer started. -/
def startEntry (sc : Scene) (s : State) : State :=
  let s1 := mapLights (fun i c => { c with saved := if (tget sc.levels i).isSome then some c.target else none }) s
  applyScene sc true (withLc (fun l => { l with entry := .active, timer := some (now s + 1200) }) s1)

/-- An opening of the cab door (R117). -/
def doorOpening (s : State) : State :=
  match s.lc.entry with
  | .active => withLc (fun l => { l with timer := some (now s + 1200) }) s
  | .idle | .returning =>
    match s.cfg.lights.entryScene.bind (sceneOf s.cfg) with
    | some sc => if cabDark s then startEntry sc s else s
    | none => s

/-- CDOOR's contact change at the LC: the first handing only sets the door (R117). -/
def lightsDoor (st : ContactState) (s : State) : State :=
  match st with
  | .unknown => s
  | .inactive => withLc (fun l => { l with door := .closed }) s
  | .active =>
    let s1 := withLc (fun l => { l with door := .opened }) s
    if s.lc.door = .unknown then s1 else doorOpening s1

/-- The entry timer's expiry: the channels still saved return, and those that start no fade leave the set (R118); with a LIGHTS fade
time of 0 that is every one of them, so the entry is IDLE at the expiry itself (log entry 44: DESIGN CHOICE). -/
def entryTimeout (s : State) : State :=
  if s.lc.entry = .active then
    let s1 := withLc (fun l => { l with timer := none, entry := if anySaved s then .returning else .idle }) s
    let s2 := setTargets (fun i => (lightOf s i).saved) s.cfg.lights.fade true s1
    let s3 := mapLights
      (fun i c => if c.fade.isNone || (lightOf s i).saved == some (lightOf s i).target then { c with saved := none } else c) s2
    lightsFollow (entrySettles s3)
  else s

/-! ### Handings (R112, R113, R114) -/

/-- A grant report for a group. -/
def lightsGrant (g : Group) (grant : Nat) (s : State) : State :=
  applyLevels
    (withLc (fun l => { l with group := tset l.group (groupIx g) { tget l.group (groupIx g) with grant := grant } }) s)

/-- The last trip of a group. -/
def lightsTrip (g : Group) (o : Option TripOutcome) (s : State) : State :=
  withLc (fun l => { l with group := tset l.group (groupIx g) { tget l.group (groupIx g) with lastTrip := o } }) s

/-- The shed level handed to the LC. -/
def lightsLevel (level : ShedLevel) (s : State) : State := applyLevels (withLc (fun l => { l with level := level }) s)

/-- A change into or out of RESTING handed to the LC. -/
def lightsResting (b : Bool) (s : State) : State := applyLevels (withLc (fun l => { l with resting := b }) s)

/-- The LC takes a write of LIGHTS: changed targets are a target event, and a cap applies at once (R108, R109). -/
def lightsWritten (old : Vector Nat 6) (s : State) : State := targetEvent old s.cfg.lights.fade false s

/-! ### The panel's toggle (R116, R175) -/

/-- LIGHT_TOGGLE: one FIELD WRITE of the group's targets, chosen inside it (R116, R175). -/
def panelToggle (g : Group) (s : State) : State :=
  let dark := (groupLights g).all fun i => (lightOf s i).target == 0
  let old := targetsOf s
  let s1 := operate 17
    (putTargets fun i =>
      if groupOf i = g then some (if dark then tget s.cfg.lights.onLevel i else 0) else none) s
  operate 17 (lightsWritten old) s1

end Sys2Proof.Machine
end

