-- ==== Sys2Proof/Machine/PassOps.lean ====
section
/-! DEFINITION. The Grant Arbiter's arbitration pass (R41, R42, R48 to R54): the order of the consumers, the three rounds and
what a pass leaves in the table. -/

namespace Sys2Proof.Machine

/-- The GA's state with its fields changed. -/
def withGa (f : GrantUnit → GrantUnit) (s : State) : State := { s with ga := f s.ga }

/-- One consumer's entry changed. -/
def withEntry (c : Consumer) (f : ConsumerEntry → ConsumerEntry) (s : State) : State :=
  withGa (fun g => { g with entries := tset g.entries (consIx c) (f (tget g.entries (consIx c))) }) s

/-! ### Order (R41, R42) -/

/-- The members of a class in the order a pass takes them (R42). -/
def classOrder (s : State) (k : Fin 8) : List Consumer :=
  match tget s.cfg.orders k with
  | .fixed => allConsumers.filter fun c => effectiveClass s c == k
  | .rotating => tget s.ga.lists k

/-- All consumers in priority order: ascending effective class, then by each class's order mode (R51). -/
def priorityOrder (s : State) : List Consumer := allClasses.flatMap (classOrder s)

/-- A consumer moved to the end of a class's list. -/
def moveToEnd (c : Consumer) (k : Fin 8) (s : State) : State :=
  withGa (fun g => { g with lists := tset g.lists k ((tget g.lists k).erase c ++ [c]) }) s

/-- A consumer leaves the list of its old effective class and joins the end of its new one's (R41). -/
def relist (c : Consumer) (old new : Fin 8) (s : State) : State :=
  if old = new then s
  else moveToEnd c new (withGa (fun g => { g with lists := tset g.lists old ((tget g.lists old).erase c) }) s)

/-! ### The pass (R49 to R54) -/

/-- The demand of a safety request, 0 for any other (R50). -/
def safetyDemand (e : ConsumerEntry) : Nat :=
  match e.request with
  | some r => if r.safety then r.d else 0
  | none => 0

/-- The sum of the safety grants (R50). -/
def safetyTotal (s : State) : Nat := (allConsumers.map fun c => safetyDemand (entryOf s c)).sum

/-- A consumer's request where it is a candidate of the floor and top-up rounds (R51). -/
def candidate (s : State) (c : Consumer) : Option Request :=
  let e := entryOf s c
  match e.request with
  | none => none
  | some r =>
    if r.safety || tget s.cfg.masks (consIx c) || e.latched || e.retry.isSome
      || !(s.ga.report.classes.contains (effectiveClass s c)) then none
    else some r

/-- What the rounds carry: every consumer's grant and R. -/
structure Share where
  grants : Vector Nat 8
  left   : Nat
deriving DecidableEq, Repr

/-- One candidate of the floor round (R51). -/
def floorStep (s : State) (sh : Share) (c : Consumer) : Share :=
  match candidate s c with
  | some r => if r.dmin ≤ sh.left then ⟨tset sh.grants (consIx c) r.dmin, sh.left - r.dmin⟩ else sh
  | none => sh

/-- What a candidate takes of an offer: all of it, or the largest of its steps within it (R52). -/
def takeOffer (r : Request) (grant offer : Nat) : Nat :=
  match r.steps with
  | none => offer
  | some steps => (steps.filter fun x => decide (x ≤ offer)).foldl max grant

/-- One candidate of the top-up round (R52): none below its floor is offered anything. -/
def topUpStep (s : State) (sh : Share) (c : Consumer) : Share :=
  match candidate s c with
  | some r =>
    let g := tget sh.grants (consIx c)
    if g = 0 then sh
    else
      let new := takeOffer r g (min r.d (g + sh.left))
      ⟨tset sh.grants (consIx c) new, sh.left - (new - g)⟩
  | none => sh

/-- The safety round: every safety request is granted its D, and R is what the budget leaves (R50). -/
def safetyRound (s : State) : Share where
  grants := s.ga.entries.map safetyDemand
  left := s.ga.report.budget - safetyTotal s

/-- The three rounds of a pass over the table as it stands (R49 to R52). -/
def passShare (s : State) : Share :=
  (priorityOrder s).foldl (topUpStep s) ((priorityOrder s).foldl (floorStep s) (safetyRound s))

/-- A consumer's state at the end of a pass, by the first line of R53 that applies. -/
def stateAfterPass (mask : Bool) (e : ConsumerEntry) (grant : Nat) : ConsumerState :=
  if e.latched then .latched
  else if e.retry.isSome then .tripped
  else
    match e.request with
    | some r =>
      if r.safety then .safety
      else if mask then .masked
      else if grant = 0 then .waiting
      else if grant = r.d then .granted
      else .reduced
    | none => if mask then .masked else .idle

/-- The grant report handed to a consumer's owner; the GA takes the sockets' own (R54). -/
def grantReport (c : Consumer) (grant : Nat) (st : ConsumerState) : Option Instr :=
  match c with
  | .panel => some (.panelGrantReport grant st)
  | .heat => some (.heaterGrantReport grant st)
  | .fridge => some (.fridgeGrantReport grant st)
  | .bunk => some (.lightGrantReport .bunk grant st)
  | .cab => some (.lightGrantReport .cab grant st)
  | .vent => some (.ventGrantReport grant st)
  | .socketA => none
  | .socketB => none

/-- One consumer at the end of a pass: its grant and state are set, and reported where the pass changed either (R53,
R54). -/
def concludeOne (sh : Share) (s : State) (c : Consumer) : State :=
  let e := entryOf s c
  let g := tget sh.grants (consIx c)
  let st := stateAfterPass (tget s.cfg.masks (consIx c)) e g
  let s1 := withEntry c (fun e => { e with grant := g, state := st }) s
  if e.grant = g ∧ e.state = st then s1
  else
    match grantReport c g st with
    | some i => hand i s1
    | none => s1

/-- Whether any consumer other than PANEL holds a grant above 0. -/
def anyLoadGranted (s : State) : Bool :=
  allConsumers.any fun c => c != .panel && decide (0 < (entryOf s c).grant)

/-- The table after a pass (R49, R52, R53, R54). -/
def passTable (s : State) : State :=
  let sh := passShare s
  let s1 := allConsumers.foldl (concludeOne sh) s
  withGa (fun g => { g with
    passes := (g.passes + 1) % 65536
    safetySum := safetyTotal s
    remainder := sh.left }) s1

end Sys2Proof.Machine
end

