-- ==== Sys2Proof/Machine/ScheduleOps.lean ====
section
/-! DEFINITION. The schedule (R156 to R163): finding and firing due entries, passing entries over, the REST-origin entry, and
the wake from STANDBY (R189), which fires the held entries. -/

namespace Sys2Proof.Machine

/-- The SU's state with its fields changed. -/
def withSu (f : ScheduleUnit → ScheduleUnit) (s : State) : State := { s with su := f s.su }

/-- A slot's entry. -/
def slotOf (s : State) (k : Fin 8) : Option SchedEntry := tget s.su.slots k

/-- A slot filled or freed. -/
def setSlot (k : Fin 8) (e : Option SchedEntry) (s : State) : State :=
  withSu (fun u => { u with slots := tset u.slots k e }) s

/-- Whether a slot's entry is due (R160). -/
def isDue (s : State) (k : Fin 8) : Bool :=
  match slotOf s k with
  | some e => !s.su.unset && e.state == .armed && decide (e.time ≤ cabTime s)
  | none => false

/-- A time 86,400 s later as often as it takes to lie after the cab time (R160, R162) (log entry 25: DESIGN CHOICE). -/
def nextDaily (t cab : Nat) : Nat := if cab < t then t else t + 86400 * ((cab - t) / 86400 + 1)

/-- An entry after its firing or passing over, with the result it takes (R160, R162) (log entry 25: DESIGN CHOICE). -/
def entryAfter (cab : Nat) (r : EntryResult) (e : SchedEntry) : SchedEntry :=
  if e.daily then
    if nextDaily e.time cab ≤ max32 then { e with time := nextDaily e.time cab, last := some r }
    else { e with state := .disabled, last := some r }
  else { e with state := if r.done then .done else .skipped, last := some r }

/-- A SCHEDULE notice (R164); the reason is a status, or CLOCK. -/
def scheduleNotice (k : Fin 8) (a : Action) (done : Bool) (reason : Option Status) (s : State) : State :=
  post .schedule .su (if done then .info else .attention)
    [byte k.1, byte (actionCode a), byte (match reason with | some st => statusCode st | none => 255)] s

/-- An entry's action handed to its target, an event of the target's own, and the status it is answered with (R161, R163)
(log entry 9: DESIGN CHOICE). -/
def runAction (a : Action) (s : State) : State × Status :=
  match a with
  | .heatStart sp du => ownerAct [10, 12] (heaterStart (some sp) du) s
  | .heatStop => ownerAct [12] (fun s => (heaterStop s, .ok)) s
  | .scene n => ownerAct [17] (sceneRequest n) s
  | .chime p => ownerAct [22] (chimeStatus p) s
  | .fridgeBoost => ownerAct [14] boostStart s
  | .vent v =>
    if v ≠ 0 ∧ effectiveClass s .vent ∉ s.ga.report.classes then (s, .noPower) else (writeVentSpeed v s, .ok)

/-- One due entry fires (R160). -/
def fireEntry (s : State) (k : Fin 8) : State :=
  match slotOf s k with
  | none => s
  | some e =>
    let r := runAction e.action s
    let done := r.2 == .ok || r.2 == .clamped
    let s1 := setSlot k (some (entryAfter (cabTime s) ⟨done, some r.2, stampNow s⟩ e)) r.1
    scheduleNotice k e.action done (some r.2) s1

/-- A slot put in its place by ascending time, then ascending slot (log entry 25: DESIGN CHOICE). -/
def insertDue (x : Nat × Fin 8) : List (Nat × Fin 8) → List (Nat × Fin 8)
  | [] => [x]
  | y :: ys => if x.1 < y.1 then x :: y :: ys else y :: insertDue x ys

/-- The due slots in the order they fire (R160). -/
def dueSlots (s : State) : List (Fin 8) :=
  let due := allSlots.filter (isDue s)
  let keyed := due.map fun k => (((slotOf s k).map (·.time)).getD 0, k)
  (keyed.foldl (fun acc x => insertDue x acc) []).map (·.2)

/-- Every due entry fires, one after another (R160) (log entry 24: DESIGN CHOICE). -/
def fireAll (s : State) : State := (dueSlots s).foldl fireEntry s

/-! ### The wake out of STANDBY (R163, R189) -/

/-- Whether a handing is one of PANEL's requests on its way to the GA. -/
def ofPanel : Instr → Bool
  | .placeRequest .panel _ => true
  | .changeRequest .panel _ => true
  | .withdrawRequest .panel => true
  | _ => false

/-- PANEL's request as the PI places it at the wake. -/
def panelPlacing (s : State) : Instr := .placeRequest .panel (panelRequest s.cfg.demands)

/-- The GA takes PANEL's request with its pass, and the PI the grant report that the pass hands it, each as an event of its
own (R45, R49, R54, R131). -/
def grantPanel (s : State) : State :=
  let s1 := ownerEvent [5] (fun s => passTable (withEntry .panel (fun e => { e with
    request := some (panelRequest s.cfg.demands) }) s)) (takeHanding (panelPlacing s) s)
  let e := entryOf s1 .panel
  let report : Instr := .panelGrantReport e.grant e.state
  if report ∈ s1.handed then ownerEvent [20, 22] (panelGrant e.grant) (takeHanding report s1) else s1

/-- Whether a slot's entry is a CHIME. -/
def holdsChime (s : State) (k : Fin 8) : Bool :=
  match slotOf s k with
  | some e => match e.action with | .chime _ => true | _ => false
  | none => false

/-- Before a held CHIME is requested, PANEL's request, placed again at the wake, may have been granted and the report taken, or
not yet: R163 gives both orders, and a free choice decides where the request is the PI's next handing to the GA
(log entries 5 and 24: DESIGN CHOICE). -/
def panelBefore (s : State) (k : Fin 8) : State :=
  if holdsChime s k ∧ s.handed.find? ofPanel = some (panelPlacing s) then
    let s1 := countChoices 1 s
    if Config.freeChoice s.choices % 2 = 0 then grantPanel s1 else s1
  else s

/-- The held entries, and any others then due, fire at the entry into AWAKE (R160, R163) (log entry 24: DESIGN CHOICE). -/
def fireHeld (s : State) : State := (dueSlots s).foldl (fun s k => fireEntry (panelBefore s k) k) s

/-- Channels 3 to 6 start as after a reset, their host marks kept (R3). -/
def wakeChannels (s : State) : State :=
  let again (v : Vector ChanEntry 7) (ch : Channel) : Vector ChanEntry 7 :=
    tset v (chanIx ch) (chanStart (tget v (chanIx ch)).hostMark)
  { s with mu := { s.mu with chan := [Channel.tc, .tf, .th, .tx].foldl again s.mu.chan } }

/-- The wake out of STANDBY: the MC enters AWAKE with the silence time 0, the MU's channels start again, the receiver
starts in SKIP, the PI scans and places PANEL's request again, and the SU fires its held entries, each an event of its own
(R177, R189) (log entries 9, 10 and 24: DESIGN CHOICE). -/
def wakeStandby (s : State) : State :=
  let s1 := ownerEvent [8] wakeChannels (enterAwake { s with lk := { s.lk with rx := .skip } })
  let s2 := ownerEvent [20] (withPn fun u => { u with standby := false }) s1
  ownerEvent [25] fireHeld (ask .panel (some (panelRequest s2.cfg.demands)) s2)

/-- A wake source of both R187 and R189: it wakes the part out of DOZE or out of STANDBY (log entry 24: DESIGN CHOICE). -/
def wakePart (s : State) : State :=
  match s.mc.mode with
  | .awake | .doze => wakeFromDoze s
  | .standby => wakeStandby s

/-- The SU's search for due entries at one event: what is due fires; in STANDBY it wakes the part first, and in AWAKE and DOZE
the firing is a wake source (R160, R163, R187) (log entry 24: DESIGN CHOICE). -/
def fireDue (s : State) : State :=
  match dueSlots s with
  | [] => s
  | _ :: _ =>
    match s.mc.mode with
    | .awake | .doze => fireAll (wakeFromDoze s)
    | .standby => wakeStandby s

/-! ### Host requests (R156, R157) -/

/-- The lowest free slot. -/
def freeSlot (s : State) : Option (Fin 8) := allSlots.find? fun k => (slotOf s k).isNone

/-- The number of host entries. -/
def hostEntries (s : State) : Nat :=
  (allSlots.filter fun k => match slotOf s k with | some e => !e.rest | none => false).length

/-- An action's parameters as taken: HEAT_START's clamped, the others refused out of range (R156). -/
def takeAction : Action → Option (Action × Bool)
  | .heatStart sp du =>
    let sp1 := max 50 (min 300 sp)
    let du1 := du.map fun d => max 1 (min 720 d)
    some (.heatStart sp1 du1, sp1 != sp || du1 != du)
  | .heatStop => some (.heatStop, false)
  | .scene n => if 1 ≤ n ∧ n ≤ 8 then some (.scene n, false) else none
  | .chime p => if p ≤ 9 then some (.chime p, false) else none
  | .fridgeBoost => some (.fridgeBoost, false)
  | .vent v => if v ≤ 3 then some (.vent v, false) else none

/-- ADD ENTRY, its answer and slot (R157) (log entry 25: DESIGN CHOICE). -/
def addEntry (time rep state : Nat) (action : Option Action) (s : State) : State :=
  match action.bind takeAction with
  | none => answer .range [] s
  | some (a, clamped) =>
    if max32 < time ∨ 1 < rep ∨ (state ≠ 0 ∧ state ≠ 3) then answer .range [] s
    else if 7 ≤ hostEntries s then answer .noRoom [] s
    else
      match freeSlot s with
      | none => answer .noRoom [] s
      | some k =>
        let e : SchedEntry := ⟨false, time, rep == 1, a, if state = 0 then .armed else .disabled, none⟩
        fireDue (answer (if clamped then .clamped else .ok) [byte k.1] (ownerEvent [25] (setSlot k (some e)) s))

/-- REMOVE ENTRY and its answer (R157). -/
def removeEntry (slot : Nat) (s : State) : State :=
  if h : slot < 8 then
    match slotOf s ⟨slot, h⟩ with
    | none => answer .ok [] s
    | some e => if e.rest then answer .owned [] s else answer .ok [] (setSlot ⟨slot, h⟩ none s)
  else answer .range [] s

/-! ### The REST-origin entry (R159) -/

/-- The slot of the REST-origin entry. -/
def restSlot (s : State) : Option (Fin 8) :=
  allSlots.find? fun k => match slotOf s k with | some e => e.rest | none => false

/-- The RM places the REST-origin entry in the lowest free slot (R159). A placing commanded while such an entry stands, which the RM
never makes, fills a further slot (R156) (log entry 25: DESIGN CHOICE). -/
def prewarmPlace (time setpoint duration : Nat) (s : State) : State :=
  match freeSlot s with
  | none => s
  | some k =>
    fireDue (ownerEvent [25] (setSlot k (some ⟨true, time, false, .heatStart setpoint (some duration), .armed, none⟩)) s)

/-- The RM moves it: its time and its action's parameters, its state kept. -/
def prewarmMove (time setpoint duration : Nat) (s : State) : State :=
  match restSlot s with
  | none => s
  | some k =>
    match slotOf s k with
    | none => s
    | some e =>
      fireDue (ownerEvent [25] (setSlot k (some { e with time := time, action := .heatStart setpoint (some duration) })) s)

/-- The RM removes it. -/
def prewarmRemove (s : State) : State :=
  match restSlot s with
  | none => s
  | some k => ownerEvent [25] (setSlot k none) s

/-! ### Clock jumps (R155, R162) -/

/-- Whether a host entry is passed at the present cab time. -/
def isPassed (s : State) (k : Fin 8) : Bool :=
  match slotOf s k with
  | some e => !e.rest && e.state == .armed && decide (e.time ≤ cabTime s)
  | none => false

/-- One host entry is passed over without firing. -/
def passOver (s : State) (k : Fin 8) : State :=
  match slotOf s k with
  | none => s
  | some e =>
    scheduleNotice k e.action false none
      (setSlot k (some (entryAfter (cabTime s) ⟨false, none, stampNow s⟩ e)) s)

/-- Every passed host entry is passed over, by ascending slot (R162) (log entry 25: DESIGN CHOICE). -/
def passOverAll (s : State) : State := (allSlots.filter (isPassed s)).foldl passOver s

/-- A daily time brought to no more than 86,400 s after the cab time (log entry 25: DESIGN CHOICE). -/
def pullBack (t cab : Nat) : Nat := if t ≤ cab + 86400 then t else t - 86400 * ceilDiv (t - cab - 86400) 86400

/-- An ARMED DAILY host entry after a backward jump to a cab time. -/
def pullEntry (cab : Nat) (e : SchedEntry) : SchedEntry :=
  if !e.rest && e.daily && e.state == .armed then { e with time := pullBack e.time cab } else e

/-- After a backward jump every ARMED DAILY host entry lies no more than a day ahead. -/
def pullEntries (s : State) : State :=
  withSu (fun u => { u with slots := u.slots.map (Option.map (pullEntry (cabTime s))) }) s

end Sys2Proof.Machine
end

