-- ==== Sys2Proof/Machine/RestOps.lean ====
section
/-! DEFINITION. The Rest Monitor's operations (R134 to R153): opening and closing a rest, driving time and breaks, the planned
end with what hangs on it, the starter guard, the restore, and the clock setting of R155, which shifts them. -/

namespace Sys2Proof.Machine

/-- The RM's state with its fields changed. -/
def withRm (f : RestUnit → RestUnit) (s : State) : State := { s with rm := f s.rm }

/-- The causes of a REST_CHANGE notice, with the codes 0 to 5 in the order of R136. -/
inductive RestCause where
  | move | stop | declared | ended | plannedEnd | restore
deriving DecidableEq, Repr

/-- The code of a cause. -/
def causeCode : RestCause → Nat
  | .move => 0 | .stop => 1 | .declared => 2 | .ended => 3 | .plannedEnd => 4 | .restore => 5

/-- A REST_CHANGE notice: the state it left, its cause and the segments removed (R136, R143). -/
def restNotice (old : RestState) (cause : RestCause) (removed : Nat) (s : State) : State :=
  post .restChange .rm .info [byte (restCode s.rm.state + 16 * restCode old), byte (causeCode cause), byte removed] s

/-- A change into or out of RESTING handed to the LC and to the PI, each taking it as an event of its own (R138, R139, R145)
(log entry 9: DESIGN CHOICE). -/
def handResting (b : Bool) (s : State) : State := ownerEvent [20, 22] (panelResting b) (ownerEvent [17] (lightsResting b) s)

/-! ### Horizon (R147) -/

/-- The horizon as it stands (log entry 22: DESIGN CHOICE). -/
def horizonOf (s : State) : Nat :=
  match s.rm.state, s.rm.plannedEnd with
  | .resting, some e => max 1 (ceilDiv (e - cabTime s) 60)
  | _, _ => s.cfg.battery.horizon

/-- The RM hands H to the CC where it differs from H handed (log entry 22: DESIGN CHOICE). -/
def handHorizon (s : State) : State :=
  let h := horizonOf s
  if h = s.rm.horizon then s else hand (.horizonChange h) (withRm (fun r => { r with horizon := h }) s)

/-! ### Breaks (R141) -/

/-- The open segment's consumed flag is set. -/
def consumeOpen (r : RestUnit) : RestUnit :=
  match r.stopSeg with
  | some g => { r with stopSeg := some { g with consumed := true } }
  | none => { r with log := r.log.map fun g => if g.stop.isNone then { g with consumed := true } else g }

/-- The break is taken: counters and flags are cleared and BREAK_DONE posted with the minutes of break, whose bytes are free above
65,535 (R141, R185) (log entries 22 and 42: DESIGN CHOICE). -/
def takeBreak (secs : Nat) (s : State) : State :=
  post .breakDone .rm .info (minuteBytes (shownMinutes secs))
    (withRm (fun r => { r with drive := 0, acc := 0, soon := false, limit := false, uncertain := false }) s)

/-- The open segment judged as a break. -/
def judgeBreak (s : State) : State :=
  let p := s.cfg.profile
  match openSegment s.rm with
  | some (start, false) =>
    let len := cabTime s - start
    if p.segMin * 60 ≤ len ∧ p.breakTotal * 60 ≤ s.rm.acc + len then
      takeBreak (s.rm.acc + len) (withRm consumeOpen s)
    else s
  | _ => s

/-- A closed segment's length joins the break accumulator. -/
def bankBreak (len : Nat) (consumed : Bool) (s : State) : State :=
  if !consumed && decide (s.cfg.profile.segMin * 60 ≤ len) then withRm (fun r => { r with acc := r.acc + len }) s else s

/-- The stop segment is closed. -/
def closeStop (s0 : State) : State :=
  let s := judgeBreak s0
  match s.rm.stopSeg with
  | some g => withRm (fun r => { r with stopSeg := none }) (bankBreak (cabTime s - g.start) g.consumed s)
  | none => s

/-! ### Driving (R140) -/

/-- DRIVE_LIMIT with its chime; the repeat timer starts. -/
def driveLimit (s : State) : State :=
  let s1 := hand (.noticePost ⟨.driveLimit, .rm, .warning, s.rm.uncertain,
    leBytes 2 (shownMinutes s.rm.drive : Int)⟩) s
  chime 5 (withRm (fun r => { r with repeatTimer := some (s.su.elapsed + 300) }) s1)

/-- Minutes from the drive counter to the drive limit (R140); a free value where the counter lies past the limit
(log entry 45: DESIGN CHOICE). -/
def minutesToLimit (s : State) : Nat :=
  let limit := s.cfg.profile.driveLimit * 60
  if s.rm.drive ≤ limit then shownMinutes (limit - s.rm.drive) else Config.minutesPastLimit (s.rm.drive - limit)

/-- DRIVE_SOON with its chime (R140) (log entry 45: DESIGN CHOICE). -/
def driveSoon (s : State) : State :=
  chime 4 (hand (.noticePost ⟨.driveSoon, .rm, .attention, s.rm.uncertain,
    packed12 (shownMinutes s.rm.drive) (minutesToLimit s)⟩) s)

/-- The warnings judged at a second that adds to the drive counter. -/
def judgeDriving (s : State) : State :=
  let p := s.cfg.profile
  let s1 := if s.rm.soon = false ∧ (p.driveLimit - p.wDrive) * 60 ≤ s.rm.drive then
      driveSoon (withRm (fun r => { r with soon := true }) s) else s
  if s1.rm.limit = false ∧ p.driveLimit * 60 ≤ s1.rm.drive then
    driveLimit (withRm (fun r => { r with soon := true, limit := true }) s1)
  else s1

/-- A second of driving (R140). -/
def driveSecond (s : State) : State :=
  if s.rm.state = .driving ∧ s.rm.move = .active then
    judgeDriving (withRm (fun r => { r with drive := min 999999 (r.drive + 1) }) s)
  else s

/-- DRIVING is entered: beyond the limit the warning comes again, behind the notice of the change (R136, R140)
(log entry 22: DESIGN CHOICE). -/
def toDriving (old : RestState) (s : State) : State :=
  let s1 := restNotice old .move 0 (withRm (fun r => { r with state := .driving }) s)
  if s1.rm.limit ∧ s.cfg.profile.driveLimit * 60 ≤ s1.rm.drive then driveLimit s1 else s1

/-- A new duty period (R136). -/
def newDuty (s : State) : State :=
  withRm (fun r => { r with
    log := []
    drive := 0
    acc := 0
    uncertain := false
    done := false
    soon := false
    limit := false }) s

/-! ### Planned end, end-soon and pre-warm (R144, R146, R148) -/

/-- Whether a closed segment in the log has its split-first flag set. -/
def anySplit (r : RestUnit) : Bool := r.log.any fun g => g.stop.isSome && g.split

/-- The start of the open rest segment. -/
def openStart (r : RestUnit) : Option Nat :=
  match r.log.getLast? with
  | some g => if g.stop.isNone then some g.start else none
  | none => none

/-- The planned end for an open rest's start (R144), the plain sum also where it passes 4,294,967,295, the last cab time, which no
rule speaks of; such an end is never reached (log entry 41: DESIGN CHOICE). -/
def plannedFor (s : State) (start : Nat) : Nat :=
  let p := s.cfg.profile
  if anySplit s.rm then min (start + p.tRest * 60) (start + p.tS2 * 60) else start + p.tRest * 60

/-- Minutes from the cab time to the planned end, for REST_END_SOON (R146) and REST_SHORT (R139); a free value where the planned end lies before the cab time
(log entry 43: DESIGN CHOICE). -/
def minutesToEnd (s : State) : Nat :=
  let e := s.rm.plannedEnd.getD 0
  if cabTime s ≤ e then shownMinutes (e - cabTime s) else Config.minutesPastEnd (cabTime s - e)

/-- The end-soon time is raised: REST_END_SOON (log entry 11: DESIGN CHOICE). -/
def raiseEndSoon (s : State) : State :=
  post .restEndSoon .rm .attention (leBytes 2 (minutesToEnd s : Int))
    (withRm (fun r => { r with endSoonRaised := true }) s)

/-- The end-soon time armed at the opening of a rest. -/
def armEndSoon (s : State) : State :=
  let p := s.cfg.profile.endWarn
  let t := match s.rm.plannedEnd with
    | some e => if 0 < p ∧ cabTime s + p * 60 < e then some (e - p * 60) else none
    | none => none
  withRm (fun r => { r with endSoon := t, endSoonRaised := false }) s

/-- An armed time not yet raised follows the planned end and P. -/
def moveEndSoon (s : State) : State :=
  let p := s.cfg.profile.endWarn
  match s.rm.endSoon, s.rm.plannedEnd with
  | some _, some e =>
    if s.rm.endSoonRaised then s
    else if p = 0 then withRm (fun r => { r with endSoon := none, endSoonRaised := false }) s
    else
      let s1 := withRm (fun r => { r with endSoon := some (e - p * 60) }) s
      if e - p * 60 ≤ cabTime s then raiseEndSoon s1 else s1
  | _, _ => s

/-- The pre-warm entry's time (R148), the plain difference also where it passes the last cab time (R156)
(log entry 41: DESIGN CHOICE). -/
def prewarmTime (s : State) : Nat := s.rm.plannedEnd.getD 0 - s.cfg.profile.lead * 60

/-- The pre-warm entry is placed where pre-warm enable is set (log entries 9 and 22: DESIGN CHOICE). -/
def placePrewarm (s : State) : State :=
  let p := s.cfg.profile
  if p.prewarm then
    prewarmPlace (prewarmTime s) p.wakeSetpoint (p.lead + 15) (withRm (fun r => { r with placed := true }) s)
  else s

/-- The pre-warm entry moved to its time and parameters as they stand (log entry 9: DESIGN CHOICE). -/
def movePrewarm (s : State) : State :=
  let p := s.cfg.profile
  if s.rm.placed then prewarmMove (prewarmTime s) p.wakeSetpoint (p.lead + 15) s else s

/-- The pre-warm entry is removed (log entry 9: DESIGN CHOICE). -/
def dropPrewarm (s : State) : State :=
  if s.rm.placed then prewarmRemove (withRm (fun r => { r with placed := false }) s) else s

/-- Whether the planned end is that of a split rest, an end that the full rest shares with it included (R145)
(log entry 22: DESIGN CHOICE). -/
def splitUsed (s : State) : Bool :=
  match openStart s.rm, s.rm.plannedEnd with
  | some start, some e => anySplit s.rm && e == start + s.cfg.profile.tS2 * 60
  | _, _ => false

/-- The planned end reached, in the order of R145; the bytes of REST_DONE's length are free above 65,535 min (R185)
(log entries 11, 22 and 42: DESIGN CHOICE). -/
def plannedReached (s : State) : State :=
  let s1 := handResting false (withRm (fun r => { r with
    state := .rested
    done := true
    endSoon := if r.endSoonRaised then r.endSoon else none }) s)
  let s2 := handHorizon s1
  let s3 := match s2.cfg.profile.wakeScene with
    | some n => ownerEvent [17] (fun s => (sceneRequest n s).1) s2
    | none => s2
  let len := cabTime s - (openStart s.rm).getD (cabTime s)
  let s4 := post .restDone .rm .attention
    (minuteBytes (shownMinutes len) ++ [byte (bit (splitUsed s) 0)]) (chime 7 s3)
  restNotice .resting .plannedEnd 0 s4

/-- The planned end computed again in RESTING, with what follows a change of it (R144). -/
def recompute (s : State) : State :=
  match s.rm.state, openStart s.rm with
  | .resting, some start =>
    let e := plannedFor s start
    let s1 := if s.rm.plannedEnd = some e then s
      else movePrewarm (moveEndSoon (withRm (fun r => { r with plannedEnd := some e }) s))
    if e ≤ cabTime s then plannedReached s1 else handHorizon s1
  | _, _ => s

/-! ### Opening and closing a rest (R138, R139, R143) -/

/-- The log less its oldest segment whose split-first flag is clear, or its oldest (R143). -/
def dropSegment (log : List RestSeg) : List RestSeg :=
  match log.find? fun g => !g.split with
  | some g => log.erase g
  | none => log.tail

/-- Steps 3 to 8 of R138 over a log that ends with the open segment. -/
def restOpened (old : RestState) (cause : RestCause) (removed : Nat) (s : State) : State :=
  let start := (openStart s.rm).getD (cabTime s)
  let s1 := armEndSoon (withRm (fun r => { r with plannedEnd := some (plannedFor s start) }) s)
  let s2 := handResting true (withRm (fun r => { r with startRisk := false, starterHold := none }) s1)
  restNotice old cause removed (placePrewarm (handHorizon s2))

/-- A rest is opened (R138). -/
def openRest (s : State) : State :=
  let full := decide (8 ≤ s.rm.log.length)
  let log := if full then dropSegment s.rm.log else s.rm.log
  restOpened s.rm.state .declared (if full then 1 else 0)
    (withRm (fun r => { r with state := .resting, log := log ++ [⟨cabTime s, none, false, false⟩] }) s)

/-- The open segment of the log closed at a cab time, with its split-first flag (R142). -/
def closeSegment (cab split : Nat) (g : RestSeg) : RestSeg :=
  if g.stop.isNone then { g with stop := some cab, split := decide (split * 60 ≤ cab - g.start) } else g

/-- A rest is closed, in the order of R139, leaving for the state `new`; `short` tells the close by MOVE. The minutes short
are free where the planned end lies before the cab time and is not yet taken (log entry 43: DESIGN CHOICE). -/
def closeRest (new : RestState) (short : Bool) (s0 : State) : State :=
  let s := judgeBreak s0
  let cab := cabTime s
  let len := cab - (openStart s.rm).getD cab
  let used := match s.rm.log.getLast? with | some g => g.consumed | none => true
  let s1 := bankBreak len used (withRm (fun r =>
    { r with log := r.log.map (closeSegment cab s.cfg.profile.tS1) }) s)
  let s2 := withRm (fun r => { r with
    state := new
    plannedEnd := none
    endSoon := none
    endSoonRaised := false
    starterHold := none }) (dropPrewarm s1)
  let s3 := handHorizon (if s.rm.state = .resting then handResting false s2 else s2)
  if short ∧ s.rm.state = .resting then
    chime 6 (post .restShort .rm .attention
      (packed12 (shownMinutes len) (minutesToEnd s)) s3)
  else s3

/-! ### Events (R136, R137) -/

/-- The MOVE contact handed to the RM (R136). -/
def restMove (st : ContactState) (s0 : State) : State :=
  let s := withRm (fun r => { r with move := st }) s0
  match st, s.rm.state with
  | .active, .unknown =>
    toDriving .unknown (withRm (fun r => { r with drive := 0, acc := 0, uncertain := true }) s)
  | .active, .driving => withRm (fun r => { r with candidate := none, stopTimer := none }) s
  | .active, .stopped => toDriving .stopped (closeStop (if s.rm.done then newDuty s else s))
  | .active, .resting => toDriving .resting (closeRest .driving true s)
  | .active, .rested => toDriving .rested (newDuty (closeRest .driving true s))
  | .inactive, .driving =>
    withRm (fun r => { r with
      candidate := some (cabTime s)
      stopTimer := some (s.su.elapsed + s.cfg.profile.stopConfirm) }) s
  | _, _ => s

/-- The stop confirm timer's expiry (R136). -/
def stopConfirmed (s : State) : State :=
  if s.rm.state = .driving ∧ s.rm.stopTimer.isSome then
    restNotice .driving .stop 0 (withRm (fun r => { r with
      state := .stopped
      stopSeg := some ⟨r.candidate.getD (cabTime s), false⟩
      candidate := none
      stopTimer := none
      repeatTimer := none }) s)
  else s

/-- DECLARE REST and its status (R137). -/
def declareRest (s : State) : State × Status :=
  match s.rm.state with
  | .stopped => (openRest (closeStop s), .ok)
  | .unknown =>
    if s.rm.move = .inactive then (openRest (withRm (fun r => { r with uncertain := true }) s), .ok) else (s, .state)
  | .driving => (s, .state)
  | .resting | .rested => (s, .ok)

/-- END REST and its status (R137). -/
def endRest (s : State) : State × Status :=
  match s.rm.state with
  | .resting | .rested =>
    let s1 := closeRest .stopped false s
    (restNotice s.rm.state .ended 0 (withRm (fun r => { r with stopSeg := some ⟨cabTime s, false⟩ }) s1), .ok)
  | _ => (s, .state)

/-- The panel's REST_TOGGLE (R137). -/
def restToggle (s : State) : State × Status :=
  match s.rm.state with
  | .resting | .rested => endRest s
  | _ => declareRest s

/-- The IGN contact handed to the RM (R149). -/
def restIgn (st : ContactState) (s : State) : State :=
  withRm (fun r => { r with ign := st, starterHold := if st = .active then none else r.starterHold }) s

/-- START_RISK with its chime (R149). -/
def startRisk (vs : Int) (s : State) : State :=
  chime 3 (post .startRisk .rm .warning (leBytes 2 vs) (withRm (fun r => { r with startRisk := true }) s))

/-- A VS conversion at the RM (R149). -/
def restVs (s : State) : State :=
  if s.rm.state = .resting ∨ s.rm.state = .rested then
    match validFiltered s .vs with
    | none => s
    | some vs =>
      if vs < s.cfg.profile.starterGuard then
        match s.rm.starterHold with
        | none => if s.rm.ign = .active then s else withRm (fun r => { r with starterHold := some (cabTime s) }) s
        | some t => if t + 60 ≤ cabTime s ∧ s.rm.startRisk = false then startRisk vs s else s
      else withRm (fun r => { r with starterHold := none }) s
  else s

/-- VS has left VALID (R149). -/
def restVsLeft (s : State) : State := withRm (fun r => { r with starterHold := none }) s

/-- What the RM does at a tick (R140, R141, R145, R146, R147) (log entry 11: DESIGN CHOICE). -/
def restTick (s : State) : State :=
  let s1 := judgeBreak (driveSecond s)
  let s2 := if s1.rm.state = .resting then handHorizon s1 else s1
  let s3 := match s2.rm.endSoon with
    | some t => if t ≤ cabTime s2 ∧ s2.rm.endSoonRaised = false then raise .endSoonReached s2 else s2
    | none => s2
  match s3.rm.state, s3.rm.plannedEnd with
  | .resting, some e => if e ≤ cabTime s3 then raise .plannedEndReached s3 else s3
  | _, _ => s3

/-! ### The profile (R135, R141, R142, R144, R146, R148) -/

/-- The split-first flags of the closed segments judged afresh (R142). -/
def judgeSplits (s : State) : State :=
  withRm (fun r => { r with log := r.log.map fun g =>
    match g.stop with
    | some e => { g with split := decide (s.cfg.profile.tS1 * 60 ≤ e - g.start) }
    | none => g }) s

/-- A write that lowers the break total to or below the accumulator takes the break where no open segment counts
(R141). -/
def lowerTotal (s : State) : State :=
  let p := s.cfg.profile
  let counts := match openSegment s.rm with
    | some (start, used) => !used && decide (p.segMin * 60 ≤ cabTime s - start)
    | none => false
  if !counts && decide (p.breakTotal * 60 ≤ s.rm.acc) then takeBreak s.rm.acc s else s

/-- The RM takes a change of REST_PROFILE from `old`; several fields of one write act in the order of the split flags, the planned
end, the end-soon time, the pre-warm entry and the break (R141, R142, R144, R146, R148) (log entry 22: DESIGN CHOICE). -/
def profileEffect (old : RestProfile) (s : State) : State :=
  let p := s.cfg.profile
  let s1 := if old.tS1 = p.tS1 then s else judgeSplits s
  let s2 := if old.tRest = p.tRest ∧ old.tS1 = p.tS1 ∧ old.tS2 = p.tS2 then s1 else recompute s1
  let s3 := if old.endWarn = p.endWarn then s2 else moveEndSoon s2
  let s4 :=
    if old.prewarm && !p.prewarm then dropPrewarm s3
    else if s3.rm.state = .resting then
      (if !old.prewarm && p.prewarm then placePrewarm s3
       else if old.lead = p.lead ∧ old.wakeSetpoint = p.wakeSetpoint then s3 else movePrewarm s3)
    else s3
  if old.breakTotal = p.breakTotal ∧ old.segMin = p.segMin then s4
  else
    let s5 := judgeBreak s4
    if p.breakTotal < old.breakTotal then lowerTotal s5 else s5

/-! ### Restore (R151) -/

/-- The segments of a restore as the log holds them: lengths and flags formed, consumed clear. -/
def restoredLog (split : Nat) (segs : List RestSpan) : List RestSeg :=
  segs.map fun g =>
    { start := g.start.toNat
      stop := g.stop.map Int.toNat
      split := match g.stop with | some e => decide (((split * 60 : Nat) : Int) ≤ e - g.start) | none => false
      consumed := false }

/-- The order of a restored log: each segment starts at or after the end of the one before it, and only the last may be
open. -/
def spansInOrder : List RestSpan → Bool
  | a :: b :: rest =>
    (match a.stop with | some e => decide (e ≤ b.start) | none => false) && spansInOrder (b :: rest)
  | _ => true

/-- Whether the contents of a restore are admitted (R151, R184) (log entry 33: DESIGN CHOICE). -/
def restoreOk (s : State) (drive acc : Nat) (log : List RestSpan) : Bool :=
  let cab : Int := cabTime s
  decide (drive ≤ 999999) && decide (acc < s.cfg.profile.breakTotal * 60) && decide (log.length ≤ 8)
    && log.all (fun g => decide (0 ≤ g.start) && decide (g.start ≤ cab) &&
        (match g.stop with | some e => decide (g.start ≤ e) && decide (e ≤ cab) | none => true))
    && spansInOrder log

/-- The refusal of a restore: STATE outside UNKNOWN and STOPPED, then RANGE (R151, R168). -/
def restoreRefusal (s : State) (drive acc : Nat) (log : List RestSpan) : Option Status :=
  match s.rm.state with
  | .unknown | .stopped => if restoreOk s drive acc log then none else some .range
  | _ => some .state

/-- The written part replaced, the first step of a restore (R151). -/
def restoreContent (drive acc : Nat) (log : List RestSpan) (s : State) : State :=
  withRm (fun r => { r with drive := drive, acc := acc, log := restoredLog s.cfg.profile.tS1 log }) s

/-- The later steps of an accepted restore, with one REST_CHANGE, posted before what a planned end already reached brings (R151)
(log entry 33: DESIGN CHOICE). An empty log, which ends neither open nor closed, is taken as one that ends closed (log entry 33:
DESIGN CHOICE). -/
def restoreEffect (s0 : State) : State :=
  let p := s0.cfg.profile
  let s := withRm (fun r => { r with
    uncertain := false
    done := false
    soon := decide ((p.driveLimit - p.wDrive) * 60 ≤ r.drive)
    limit := decide (p.driveLimit * 60 ≤ r.drive) }) s0
  if (openStart s.rm).isSome then
    let s1 := restOpened s.rm.state .restore 0 (withRm (fun r => { r with state := .resting, stopSeg := none }) s)
    match s1.rm.plannedEnd with
    | some e => if e ≤ cabTime s1 then plannedReached s1 else s1
    | none => s1
  else
    restNotice s.rm.state .restore 0 (withRm (fun r => { r with
      state := .stopped
      stopSeg := if r.state = .stopped then r.stopSeg else some ⟨cabTime s, false⟩ }) s)

/-! ### The cab clock (R150, R155) -/

/-- Every cab time the RM holds. -/
def restTimes (r : RestUnit) : List Nat :=
  r.log.flatMap (fun g => g.start :: g.stop.toList) ++ (r.stopSeg.map (·.start)).toList ++ r.candidate.toList
    ++ r.plannedEnd.toList ++ r.endSoon.toList ++ r.starterHold.toList

/-- A cab time moved by the delta. -/
def shiftTime (d : Int) (t : Nat) : Nat := ((t : Int) + d).toNat

/-- The RM's instants moved with the clock (R150). -/
def shiftRest (d : Int) (r : RestUnit) : RestUnit :=
  { r with
    log := r.log.map fun g => { g with start := shiftTime d g.start, stop := g.stop.map (shiftTime d) }
    stopSeg := r.stopSeg.map fun g => { g with start := shiftTime d g.start }
    candidate := r.candidate.map (shiftTime d)
    plannedEnd := r.plannedEnd.map (shiftTime d)
    endSoon := r.endSoon.map (shiftTime d)
    starterHold := r.starterHold.map (shiftTime d) }

/-- The REST-origin entry's time moved with the clock (R155). -/
def shiftEntry (d : Int) (e : SchedEntry) : SchedEntry := if e.rest then { e with time := shiftTime d e.time } else e

/-- The time of the REST-origin entry. -/
def restEntryTime (s : State) : Option Nat := (restSlot s).bind fun k => (slotOf s k).map (·.time)

/-- Whether a delta keeps a cab time in range. -/
def staysInRange (d : Int) (t : Nat) : Bool := decide (0 ≤ (t : Int) + d) && decide ((t : Int) + d ≤ (max32 : Nat))

/-- The delta a new time makes (R155). -/
def clockDelta (time : Nat) (s : State) : Int := (time : Int) - (cabTime s : Int)

/-- Whether SET CLOCK is refused with RANGE (R155). -/
def clockRefused (time : Nat) (s : State) : Bool :=
  decide (max32 < time)
    || !((restTimes s.rm ++ (restEntryTime s).toList).all (staysInRange (clockDelta time s)))

/-- Steps 2 to 6 of an accepted SET CLOCK, the search for due entries apart (R155, R162) (log entry 9: DESIGN CHOICE). -/
def shiftClock (time : Nat) (s : State) : State :=
  let d := clockDelta time s
  let s1 := withSu (fun u => { u with
    offset := (time : Int) - (u.elapsed : Int)
    lastDelta := some d
    unset := false
    slots := u.slots.map (Option.map (shiftEntry d)) }) (withRm (shiftRest d) s)
  let s2 := if s.su.unset = false ∧ 1 ≤ d ∧ d ≤ 120 then s1 else passOverAll s1
  if d < 0 then pullEntries s2 else s2

/-- An accepted SET CLOCK: the shift, and then what is due fires (R155, R160). -/
def moveClock (time : Nat) (s : State) : State := fireDue (ownerEvent [1, 24, 25] (shiftClock time) s)

/-- SET CLOCK and its answer (R155). -/
def setClock (time : Nat) (s : State) : State :=
  if clockRefused time s then answer .range [] s else answer .ok [] (moveClock time s)

end Sys2Proof.Machine
end

