-- ==== Sys2Proof/Machine/ChargeOps.lean ====
section
/-! DEFINITION. The Charge Counter's operations (R20 to R38): counting, setting the charge from voltage, the minute window, the
evaluations, the voltage guard, the shed level with its budget, and the suspect inputs. -/

namespace Sys2Proof.Machine

/-- The CC's state with its fields changed. -/
def withCc (f : ChargeUnit → ChargeUnit) (s : State) : State := { s with cc := f s.cc }

/-! ### Level and budget (R34, R35, R36) -/

/-- The causes of a SHED_LEVEL notice, with the codes 0 to 5 in the order of R36. -/
inductive LevelCause where
  | count | guardLow | guardCut | empty | sensors | relief
deriving DecidableEq, Repr

/-- The code of a cause. -/
def levelCauseCode : LevelCause → Nat
  | .count => 0 | .guardLow => 1 | .guardCut => 2 | .empty => 3 | .sensors => 4 | .relief => 5

/-- The severity of a SHED_LEVEL notice by its new level (R36). -/
def levelSeverity : ShedLevel → Severity
  | .normal => .info | .conserve => .attention | .reserve => .warning | .cutoff => .warning

/-- B as the level, the charge, the horizon and the settings stand (R35). -/
def budgetNow (s : State) : Nat := budgetOf s.cfg.battery s.cc.level s.cc.c s.cc.horizon

/-- The budget report as the CC stands (R36). -/
def reportNow (s : State) : BudgetReport := ⟨s.cc.level, s.cc.budget, classesAdmitted s.cc.level⟩

/-- B recomputed with the level unchanged; a change is reported (R35, R36) (log entry 21: DESIGN CHOICE). -/
def updateBudget (s : State) : State :=
  let b := budgetNow s
  if b = s.cc.budget then s
  else
    let s1 := withCc (fun c => { c with budget := b }) s
    hand (.budgetReport (reportNow s1)) s1

/-- The level moves: B follows, the report goes to the GA, the level to the LC, the FC and the HC, and SHED_LEVEL is
posted (R35, R36) (log entry 21: DESIGN CHOICE). -/
def moveLevel (new : ShedLevel) (cause : LevelCause) (s : State) : State :=
  let old := s.cc.level
  let s1 := withCc (fun c => { c with level := new }) s
  let s2 := withCc (fun c => { c with budget := budgetNow s1 }) s1
  let s3 := hand (.budgetReport (reportNow s2)) s2
  let s4 := hand (.heaterLevelChange new) (hand (.fridgeLevelChange new) (hand (.lightLevelChange new) s3))
  post .shedLevel .cc (levelSeverity new)
    [byte (levelCode new), byte (levelCode old), byte (levelCauseCode cause)] s4

/-- The combined target (R32). -/
def combinedTarget (c : ChargeUnit) : ShedLevel :=
  let t1 := if c.low.flag then worse c.countTarget .reserve else c.countTarget
  let t2 := if c.cut.flag then worse t1 .cutoff else t1
  if c.c = some 0 then worse t2 .cutoff else t2

/-- The cause of a raise: the first item that calls for the new level (R36). -/
def raiseCause (c : ChargeUnit) (new : ShedLevel) : LevelCause :=
  if c.cut.flag ∧ new = .cutoff then .guardCut
  else if c.c = some 0 ∧ new = .cutoff then .empty
  else if c.low.flag ∧ new = .reserve then .guardLow
  else .count

/-- Whether the combined target is more severe than the level and may move it (R34, R38). -/
def callsRaise (s : State) : Bool :=
  !s.cc.sensorHold && decide (levelCode s.cc.level < levelCode (combinedTarget s.cc))

/-- The level raised to the combined target, the relief count and ceiling cleared (R34). -/
def raiseNow (s : State) : State :=
  let t := combinedTarget s.cc
  moveLevel t (raiseCause s.cc t) (withCc (fun c => { c with relief := 0, ceiling := none }) s)

/-- The raise made where it is called for. -/
def raiseCheck (s : State) : State := if callsRaise s then raiseNow s else s

/-! ### Evaluation (R30, R32, R34) -/

/-- Iavg over a window (R30). -/
def averageDraw (w : List MinuteRecord) : Option Int :=
  if w = [] then none else some (-(Int.tdiv ((w.map (·.mean)).sum) (w.length : Int)))

/-- E from C and Iavg (R30). -/
def enduranceOf (b : Battery) (ihValid : Bool) (c : Option Nat) (iavg : Option Int) : Option Nat :=
  match c, iavg with
  | some c, some i =>
    if !ihValid then none
    else if i ≤ 0 then some 65535
    else if c ≤ reserveCharge b then some 0
    else some (min 65534 ((c - reserveCharge b) * 60 / i.toNat))
  | _, _ => none

/-- The count target (R32). -/
def countTargetOf (s : State) (e : Option Nat) : ShedLevel :=
  match s.cc.c with
  | none => if s.cc.starting ∧ s.su.elapsed < 30 then .normal else .reserve
  | some c =>
    if c ≤ reserveCharge s.cfg.battery then .reserve
    else
      match e with
      | none => .normal
      | some e => if s.cc.horizon + s.cfg.battery.margin ≤ e then .normal else .conserve

/-- Iavg, E and the count target recomputed (R30, R32). -/
def reckon (s : State) : State :=
  let i := averageDraw s.cc.window
  let e := enduranceOf s.cfg.battery (isValid s .ih) s.cc.c i
  withCc (fun c => { c with iavg := i, endurance := e, countTarget := countTargetOf s e }) s

/-- A raise-only evaluation (R32, R34). -/
def evaluateRaise (s : State) : State :=
  let s1 := reckon s
  if callsRaise s1 then raiseNow s1 else updateBudget s1

/-- Hold and relief at a full evaluation whose target calls for no raise (R34). -/
def relieve (s : State) : State :=
  let t := combinedTarget s.cc
  if t = s.cc.level then updateBudget (withCc (fun c => { c with relief := 0, ceiling := none }) s)
  else
    let top := match s.cc.ceiling with | some k => worse k t | none => t
    if 4 ≤ s.cc.relief then moveLevel top .relief (withCc (fun c => { c with relief := 0, ceiling := none }) s)
    else updateBudget (withCc (fun c => { c with relief := c.relief + 1, ceiling := some top }) s)

/-- A full evaluation (R32, R34, R38). -/
def evaluateFull (s : State) : State :=
  let s1 := reckon s
  if s1.cc.sensorHold then updateBudget s1
  else if callsRaise s1 then raiseNow s1
  else relieve s1

/-! ### Counting (R23, R24) -/

/-- The contribution of a sample I with interval factor f and efficiency η (R23). -/
def contribution (eta f : Nat) (i : Int) : Int := if 0 < i then i * (f * eta : Nat) else i * (f * 100 : Nat)

/-- C and residue after whole mAh have moved out of a residue, with the clamps at Cap and at 0 (R24)
(log entry 21: DESIGN CHOICE). -/
def moveCharge (cap c : Nat) (residue : Int) : Nat × Int :=
  let q := Int.tdiv residue 360000
  let n := (c : Int) + q
  if (cap : Int) < n then (cap, 0) else if n < 0 then (0, 0) else (n.toNat, residue - q * 360000)

/-- A VALID IH sample accounted: C, the residue, and the raise where C has become 0 (R23, R24). -/
def countCharge (i : Int) (s : State) : State :=
  match s.cc.c with
  | none => s
  | some c =>
    let b := s.cfg.battery
    let m := moveCharge b.cap c (s.cc.residue + contribution b.eta (intervalFactor s.mu.scanMode) i)
    let s1 := withCc (fun u => { u with c := some m.1, residue := m.2 }) s
    if m.1 = 0 ∧ c ≠ 0 then raiseCheck s1 else s1

/-! ### Setting the charge (R25 to R28, R37) -/

/-- The kinds of a CHARGE_SYNC notice, with the codes 0 to 3 in the order of R26. -/
inductive SyncKind where
  | start | full | ocv | capacity
deriving DecidableEq, Repr

/-- The code of a sync kind. -/
def syncCode : SyncKind → Nat
  | .start => 0 | .full => 1 | .ocv => 2 | .capacity => 3

/-- CHARGE_SYNC with S as it stands (R26). -/
def syncNotice (k : SyncKind) (s : State) : State :=
  post .chargeSync .cc .info
    (byte (syncCode k) :: leBytes 2 ((((s.cc.c.map (socOf s.cfg.battery)).getD 0 : Nat)) : Int)) s

/-- C set from the lookup on the latest filtered VH (R25). -/
def setFromOcv (vh : Int) (s : State) : State :=
  let b := s.cfg.battery
  withCc (fun c => { c with c := some (chargeFromOcv b (ocvLookup b vh)), residue := 0, source := .ocv }) s

/-- The start estimate at a VALID VH conversion at 30 s or later (R26). -/
def startEstimate (vh : Int) (s : State) : State :=
  if s.cc.starting ∧ 30 ≤ s.su.elapsed then
    syncNotice .start
      (evaluateRaise (withCc (fun c => { c with estimated := true, starting := false }) (setFromOcv vh s)))
  else s

/-- Whether the full-sync condition holds at an IH conversion with sample I (R27). -/
def fullCondition (i : Option Int) (s : State) : Bool :=
  match validFiltered s .vh, i with
  | some vh, some i =>
    isValid s .ih && decide ((s.cfg.battery.vFull : Int) ≤ vh) && decide (0 ≤ i)
      && decide (i ≤ (s.cfg.battery.iTail : Int))
  | _, _ => false

/-- The full sync's hold at an IH conversion, and the sync it makes once met for 120 s (R27). -/
def fullSync (i : Option Int) (s : State) : State :=
  if fullCondition i s then
    match s.cc.fullHold with
    | none => withCc (fun c => { c with fullHold := some s.su.elapsed }) s
    | some t =>
      if t + 120 ≤ s.su.elapsed then
        syncNotice .full (evaluateRaise (withCc (fun c => { c with
          c := some s.cfg.battery.cap
          residue := 0
          source := .counted
          estimated := false
          fullHold := some s.su.elapsed }) s))
      else s
  else withCc (fun c => { c with fullHold := none }) s

/-- The rest hold at a VALID IH conversion (R28). -/
def restHoldStep (i : Int) (s : State) : State :=
  if -20 ≤ i ∧ i ≤ 20 then
    match s.cc.restHold with
    | none => withCc (fun c => { c with restHold := some s.su.elapsed }) s
    | some _ => s
  else withCc (fun c => { c with restHold := none }) s

/-- An IH conversion at the CC (R23, R27, R28, R29) (log entry 21: DESIGN CHOICE). -/
def chargeIh (s : State) : State :=
  let i := (chanOf s .ih).sample
  match isValid s .ih, i with
  | true, some v =>
    let s1 := countCharge v s
    let s2 := withCc (fun c => { c with accSum := c.accSum + v, accCount := c.accCount + 1 }) s1
    restHoldStep v (fullSync i s2)
  | _, _ => fullSync i s

/-! ### Voltage guard (R33) -/

/-- One guard at a filtered VH (R33). -/
def guardAfter (level : Nat) (vh : Int) (elapsed : Nat) (g : Guard) : Guard :=
  if g.flag then
    if (level : Int) + 400 < vh then
      match g.recover with
      | none => { g with recover := some elapsed }
      | some t => if t + 300 ≤ elapsed then { g with flag := false, recover := none } else g
    else { g with recover := none }
  else if vh < (level : Int) then
    match g.qualify with
    | none => { g with qualify := some elapsed }
    | some t => if t + 10 ≤ elapsed then { g with flag := true, qualify := none } else g
  else { g with qualify := none }

/-- A guard step at a VALID VH conversion (R33, R34). -/
def guardStep (vh : Int) (s : State) : State :=
  let b := s.cfg.battery
  raiseCheck (withCc (fun c => { c with
    low := guardAfter (guardLevel b.vLow) vh s.su.elapsed c.low
    cut := guardAfter (guardLevel b.vCut) vh s.su.elapsed c.cut }) s)

/-- A VH conversion at the CC (R26, R33) (log entry 21: DESIGN CHOICE). -/
def chargeVh (s : State) : State :=
  match validFiltered s .vh with
  | some vh => startEstimate vh (guardStep vh s)
  | none => s

/-- A conversion of one of the CC's channels. -/
def chargeConversion (ch : Channel) (s : State) : State :=
  match ch with
  | .vh => chargeVh s
  | .ih => chargeIh s
  | _ => s

/-! ### Suspect inputs (R37, R38) -/

/-- The sensor hold comes into force: the level becomes RESERVE (R38). -/
def sensorHoldOn (s : State) : State :=
  let s1 := withCc (fun c => { c with sensorHold := true, relief := 0, ceiling := none }) s
  if s1.cc.level = .reserve then updateBudget s1 else moveLevel .reserve .sensors s1

/-- A guard's holds become none, its flag kept. -/
def dropHolds (g : Guard) : Guard := { g with qualify := none, recover := none }

/-- VH or IH has left VALID (R37, R38). The sensor hold comes into force where the other is not VALID, also where that one has not
been VALID since the reset (log entry 21: DESIGN CHOICE). -/
def chargeLeft (ch : Channel) (s : State) : State :=
  match ch with
  | .ih =>
    let s1 := withCc (fun c => { c with
      accSum := 0
      accCount := 0
      fullHold := none
      restHold := none
      endurance := none }) s
    if isValid s .vh then s1 else sensorHoldOn s1
  | .vh =>
    let s1 := withCc (fun c => { c with low := dropHolds c.low, cut := dropHolds c.cut, fullHold := none }) s
    if isValid s .ih then s1 else sensorHoldOn s1
  | _ => s

/-- VH or IH has returned to VALID: the sensor hold ends with the level as it is (R38). -/
def chargeRegained (ch : Channel) (s : State) : State :=
  match ch with
  | .vh | .ih => withCc (fun c => { c with sensorHold := false }) s
  | _ => s

/-! ### Minute end (R28, R29, R37) -/

/-- The minute record of a minute end, where one is formed; the accumulator is emptied (R29). -/
def closeMinute (s : State) : State :=
  let u := s.cc
  let w := if isValid s .ih ∧ 0 < u.accCount then
      u.window ++ [⟨stampNow s, Int.tdiv (u.accSum * 10) (u.accCount : Int)⟩] else u.window
  withCc (fun c => { c with
    window := if 16 < w.length then w.tail else w
    accSum := 0
    accCount := 0 }) s

/-- The lookup of a minute end without a VALID IH (R37). -/
def fallbackLookup (s : State) : State :=
  match validFiltered s .vh with
  | some vh =>
    if isValid s .ih then s
    else withCc (fun c => { c with estimated := true, starting := false }) (setFromOcv vh s)
  | none => s

/-- The OCV resync of a minute end (R28). With C absent there is no S to compare with, and no resync is made; the start estimate is
what sets C then (log entry 21: DESIGN CHOICE). -/
def ocvResync (s : State) : State :=
  match s.cc.restHold, validFiltered s .vh, s.cc.c with
  | some t, some vh, some c =>
    let b := s.cfg.battery
    let socv : Int := ocvLookup b vh
    let soc : Int := socOf b c
    if t + 3600 ≤ s.su.elapsed ∧ (50 < socv - soc ∨ 50 < soc - socv) then syncNotice .ocv (setFromOcv vh s) else s
  | _, _, _ => s

/-- A minute end, in the order of R29. -/
def minuteEnd (s : State) : State := evaluateFull (ocvResync (fallbackLookup (closeMinute s)))

/-- A new horizon (R31). -/
def takeHorizon (minutes : Nat) (s : State) : State := evaluateFull (withCc (fun c => { c with horizon := minutes }) s)

/-! ### BATTERY (R22) -/

/-- The RM takes up a default horizon that has been written, and the CC the H it hands, for the evaluation of the same event; the
full evaluation at the new H follows with the handing (R22, R31, R147) (log entry 21: DESIGN CHOICE). -/
def takeDefault (s : State) : State :=
  let s1 := handHorizon s
  if s1.rm.horizon = s.rm.horizon then s1 else withCc (fun u => { u with horizon := s1.rm.horizon }) s1

/-- The CC takes a change of BATTERY from `old`. -/
def batteryEffect (old : Battery) (s : State) : State :=
  let b := s.cfg.battery
  let s1 := match s.cc.c with
    | some c =>
      if old.cap = b.cap then s
      else syncNotice .capacity
        (withCc (fun u => { u with c := some (c * b.cap / old.cap), residue := 0, estimated := true }) s)
    | none => s
  let s2 := if old.vFull = b.vFull ∧ old.iTail = b.iTail then s1 else withCc (fun u => { u with fullHold := none }) s1
  let s3 := if old.vLow = b.vLow ∧ old.vCut = b.vCut then s2
    else withCc (fun u => { u with low := dropHolds u.low, cut := dropHolds u.cut }) s2
  let s4 := if old.horizon = b.horizon then s3 else takeDefault s3
  evaluateRaise s4

end Sys2Proof.Machine
end

