-- ==== Sys2Proof/Machine/Charge.lean ====
section
/-! DEFINITION. The meanings of the commands of the Charge Counter. -/

namespace Sys2Proof.Machine

/-- MINUTE_END (R29, R32). -/
def execMinuteEnd (s : State) : Host.Outcome State Fault Refusal :=
  event .minuteEnd minuteEnd s

/-- HORIZON_CHANGE (R31). -/
def execHorizonChange (minutes : Nat) (s : State) : Host.Outcome State Fault Refusal :=
  event (.horizonChange minutes) (takeHorizon minutes) s

end Sys2Proof.Machine
end

