-- ==== Sys2Proof/Machine/GrantOps.lean ====
section
/-! DEFINITION. The Grant Arbiter's operations (R41 to R60): the events that make a pass, the order lists, trips and their
clearing, and the sockets. -/

namespace Sys2Proof.Machine

/-- One arbitration pass; in STANDBY one that grants a load wakes the part (R49, R189). The GA's event has taken the part from
`s0` to `s` before the pass: its records advance before the wake's own events do (R174) (log entry 14: DESIGN CHOICE). -/
def pass (s0 s : State) : State :=
  let s1 := passTable s
  if s1.mc.mode = .standby ∧ anyLoadGranted s1 then wakeStandby (advance allRecords s0 s1) else s1

/-! ### Requests (R41, R42, R45, R48) -/

/-- A request placed or changed. -/
def setRequest (c : Consumer) (r : Request) (s : State) : State := pass s (withEntry c (fun e => { e with request := some r }) s)

/-- A request withdrawn; while its grant is above 0 that is a release, which in a ROTATING class moves it to the end. -/
def withdraw (c : Consumer) (s : State) : State :=
  let e := entryOf s c
  let k := effectiveClass s c
  let released := e.request.isSome && decide (0 < e.grant) && tget s.cfg.orders k == .rotating
  let s1 := if released then moveToEnd c k s else s
  pass s (withEntry c (fun e => { e with request := none }) s1)

/-- HEAT's class override set or cleared (R41). -/
def setOverride (on : Bool) (s : State) : State :=
  let s1 := withEntry .heat (fun e => { e with boosted := on }) s
  pass s (relist .heat (effectiveClass s .heat) (effectiveClass s1 .heat) s1)

/-! ### Trips (R56 to R59) -/

/-- A consumer's entry at a counted trip (R57). -/
def countTrip (t : Nat) (e : ConsumerEntry) : ConsumerEntry :=
  let count := match e.window with | some _ => min 3 (e.tripCount + 1) | none => 1
  let window := match e.window with | some w => some w | none => some t
  let step := match e.lastTrip with
    | some l => if t ≤ l + 600 then min 3 (e.retryStep + 1) else 1
    | none => 1
  let delay := if step = 1 then 20 else if step = 2 then 40 else 80
  { e with
    tripCount := count
    window := window
    retryStep := step
    lastTrip := some t
    latched := 3 ≤ count
    retry := if 3 ≤ count then none else some (t + delay) }

/-- The outcome of a trip as the entry stands after it. -/
def tripOutcome (e : ConsumerEntry) : TripOutcome := if e.latched then .latched else .tripped e.retryStep

/-- The trip handed to the consumer's owner (R56). -/
def tripHanding (c : Consumer) (cmp : Comparator) (o : TripOutcome) : Option Instr :=
  match c with
  | .heat => some (.heaterTripReport cmp o)
  | .fridge => some (.stall o)
  | .bunk => some (.lightTripReport .bunk o)
  | .cab => some (.lightTripReport .cab o)
  | _ => none

/-- The number of a comparator as a code. -/
def compNumber (cmp : Comparator) : Nat := (compIx cmp).1

/-- A trip at one consumer it names: the watched output is held off, the trip counted unless the consumer is LATCHED, the
notice posted, the FAULT chime requested on a new latch, and the owner told (R56, R57, R59). -/
def tripOne (cmp : Comparator) (s : State) (c : Consumer) : State :=
  let e := entryOf s c
  let added := (outputsOf c).filter fun o => (watchedBy cmp).contains o && !(e.holds.contains o)
  let e1 := { e with holds := e.holds ++ added }
  let e2 := if e.latched then e1 else countTrip (now s) e1
  let o := tripOutcome e2
  let s1 := post .trip .ga (if e2.latched then .warning else .attention)
    [byte (consIx c).1, byte (compNumber cmp), byte (outcomeCode o)] (withEntry c (fun _ => e2) s)
  let s2 := if e2.latched && !e.latched then chime 3 s1 else s1
  match tripHanding c cmp o with
  | some i => hand i s2
  | none => s2

/-- A trip report: the consumers it names, in either order, then a pass (R56) (log entries 5 and 20: DESIGN CHOICE). -/
def takeTrip (cmp : Comparator) (s : State) : State :=
  let named := namedBy cmp
  let s1 := if 2 ≤ named.length then countChoices named.length s else s
  pass s ((anyOrder s named).foldl (tripOne cmp) s1)

/-- A retry timer's expiry (R58). -/
def retryOver (c : Consumer) (s : State) : State :=
  if (entryOf s c).retry.isSome then pass s (withEntry c (fun e => { e with retry := none, holds := [] }) s) else s

/-- A trip window's end (R57). -/
def windowOver (c : Consumer) (s : State) : State :=
  if (entryOf s c).window.isSome then withEntry c (fun e => { e with tripCount := 0, window := none }) s else s

/-- The trip-cleared report at the owner: the LC's last trip becomes none, and it changes nothing elsewhere (R59, R100,
R114) (log entry 9: DESIGN CHOICE). -/
def tripCleared (c : Consumer) (s : State) : State :=
  match c with
  | .bunk => lightsTrip .bunk none s
  | .cab => lightsTrip .cab none s
  | _ => s

/-- An accepted CLEAR TRIP (R59). -/
def clearTripOf (c : Consumer) (s : State) : State :=
  pass s (tripCleared c (withEntry c (fun e => { e with
    retry := none
    holds := []
    latched := false
    tripCount := 0
    retryStep := 0
    window := none
    lastTrip := none }) s))

/-- The consumer of an id. -/
def consumerById (id : Nat) : Option Consumer := allConsumers[id]?

/-- CLEAR TRIP and its answer (R59). -/
def clearTrip (id : Nat) (s : State) : State :=
  match consumerById id with
  | some c => answer .ok [] (clearTripOf c s)
  | none => answer .range [] s

/-! ### CONSUMERS and DEMANDS (R41, R42, R43, R46, R60) -/

/-- The lists after the classes changed from `old` (R41): each consumer whose effective class changed, ascending
(log entry 20: DESIGN CHOICE). -/
def reclass (old : Vector (Fin 8) 8) (s : State) : State :=
  allConsumers.foldl (fun s c =>
    if (entryOf s c).boosted then s else relist c (tget old (consIx c)) (tget s.cfg.classes (consIx c)) s) s

/-- The lists after the order modes changed from `old`: each changed one is put into ascending id (R42)
(log entry 20: DESIGN CHOICE). -/
def remode (old : Vector OrderMode 8) (s : State) : State :=
  allClasses.foldl (fun s k =>
    if tget old k = tget s.cfg.orders k then s
    else withGa (fun g => { g with
      lists := tset g.lists k (allConsumers.filter fun c => (tget g.lists k).contains c) }) s) s

/-- The GA takes a change of CONSUMERS as one event with one pass (R60) (log entry 20: DESIGN CHOICE). -/
def consumersEffect (old : Settings) (s : State) : State := pass s (remode old.orders (reclass old.classes s))

/-- Whether a handing places, changes or withdraws a consumer's request (R45). -/
def movesRequest (c : Consumer) : Instr → Bool
  | .placeRequest d _ => d == c
  | .changeRequest d _ => d == c
  | .withdrawRequest d => d == c
  | _ => false

/-- A socket's request formed anew from DEMANDS (R46): at this event where the table holds the request as placed, and by a
change handed as well where handings of the socket's request are still on their way, so that it stands behind them
(log entry 20: DESIGN CHOICE). -/
def redemandSocket (s : State) (k : Socket) : State × Bool :=
  let c := socketConsumer k
  let new := socketRequest s.cfg.demands k
  match tget s.asked (consIx c) with
  | none => (s, false)
  | some old =>
    if old = new then (s, false)
    else
      let held := (entryOf s c).request == some old
      let s1 := if held then withEntry c (fun e => { e with request := some new }) s else s
      if held && !(s.handed.any (movesRequest c)) then ({ s1 with asked := tset s1.asked (consIx c) (some new) }, true)
      else (ask c (some new) s1, held)

/-- A change of DEMANDS: every owner replaces its request, and a pass follows where a socket's was replaced (R46)
(log entry 20: DESIGN CHOICE). -/
def demandsEffect (s : State) : State :=
  let d := s.cfg.demands
  let s1 := if (tget s.asked 0).isSome then ask .panel (some (panelRequest d)) s else s
  let s2 := ask .heat (heaterRequest d s1.hc) s1
  let s3 := ask .fridge (fridgeRequest d s2.fc) s2
  let s4 := ask .vent (ventRequest d s3.fc.ventSpeed) s3
  let a := redemandSocket s4 .a
  let b := redemandSocket a.1 .b
  if a.2 || b.2 then pass s b.1 else b.1

/-! ### Sockets (R47) -/

/-- One socket's working state changed. -/
def withSocket (k : Socket) (f : SocketEntry → SocketEntry) (s : State) : State :=
  withGa (fun g => { g with sockets := tset g.sockets (socketIx k) (f (tget g.sockets (socketIx k))) }) s

/-- The end of a run-limit timing that starts now. -/
def socketRunFrom (s : State) (k : Socket) : Option Nat :=
  let limit := tget s.cfg.socketLimit (socketIx k)
  if limit = 0 then none else some (s.su.elapsed + 60 * limit)

/-- The GA takes a write of one socket's switch and run limit, which stood at `wasOn` and `oldLimit` (R47)
(log entry 20: DESIGN CHOICE). -/
def socketEffect (k : Socket) (wasOn : Bool) (oldLimit : Nat) (s : State) : State :=
  let on := (tget s.ga.sockets (socketIx k)).on
  if !wasOn && on then
    ask (socketConsumer k) (some (socketRequest s.cfg.demands k))
      (withSocket k (fun e => { e with runEnd := socketRunFrom s k }) s)
  else if wasOn && !on then ask (socketConsumer k) none (withSocket k (fun e => { e with runEnd := none }) s)
  else if on && oldLimit != tget s.cfg.socketLimit (socketIx k) then
    withSocket k (fun e => { e with runEnd := socketRunFrom s k }) s
  else s

/-- The run limit's expiry: the switch goes OFF, the request is withdrawn and SOCKET posted (R47)
(log entry 11: DESIGN CHOICE). -/
def socketRunOut (k : Socket) (s : State) : State :=
  match (tget s.ga.sockets (socketIx k)).runEnd with
  | none => s
  | some e =>
    if s.su.elapsed < e then s
    else
      post .socket .ga .info [byte (socketIx k).1, 0]
        (ask (socketConsumer k) none (withSocket k (fun _ => ⟨false, none⟩) s))

end Sys2Proof.Machine
end

