-- ==== Sys2Proof/Machine/MeasureOps.lean ====
section
/-! DEFINITION. The Measurement Unit's operations (R2 to R19): conversions with their filter and status, what the users take,
the trip comparators, the load current readings and the tach capture. -/

namespace Sys2Proof.Machine

/-- The MU's state with its fields changed. -/
def withMu (f : MeasureUnit → MeasureUnit) (s : State) : State := { s with mu := f s.mu }

/-! ### Conversion and filter (R4, R5, R6, R8) -/

/-- The ends of a channel's value range (section 1.1). -/
def valueRange : Channel → Int × Int
  | .vh => (0, 40000)
  | .ih => (-30000, 30000)
  | .vs => (0, 40000)
  | .tc => (-400, 850)
  | .tf => (-400, 500)
  | .th => (-400, 2000)
  | .tx => (-400, 8000)

/-- An in-range code scaled to its channel's value range (R4). -/
def scaled (ch : Channel) (code : Nat) : Int :=
  (valueRange ch).1 + (((code : Int) - 16) * ((valueRange ch).2 - (valueRange ch).1)) / 4063

/-- The class of a code (R4, R5). -/
def rangeKindOf (code : Nat) : RangeKind := if code < 16 then .short else if 4079 < code then .openLead else .inRange

/-- The filtered value after an in-range sample (R6). -/
def filterStep (k : Nat) (old : Option Int) (sample : Int) : Int :=
  match old with
  | none => sample
  | some f => f + Int.tdiv (sample - f) (2 ^ k)

/-- A channel's working state after a conversion, its status apart (R4, R5, R6, R8). -/
def convertEntry (ch : Channel) (k code : Nat) (e : ChanEntry) : ChanEntry :=
  match rangeKindOf code with
  | .inRange =>
    let v := scaled ch code
    let cleared := e.rangeMark && decide (10 ≤ e.inCount + 1)
    { e with
      code := some code
      kind := some .inRange
      sample := some v
      filtered := some (filterStep k e.filtered v)
      outCount := 0
      inCount := if e.rangeMark && !cleared then e.inCount + 1 else 0
      rangeMark := e.rangeMark && !cleared }
  | kind =>
    { e with
      code := some code
      kind := some kind
      outCount := min 3 (e.outCount + 1)
      inCount := 0
      rangeMark := e.rangeMark || decide (3 ≤ e.outCount + 1) }

/-- Whether a channel is converted in the present mode (R3) (log entry 35: DESIGN CHOICE). -/
def isConverted (s : State) (ch : Channel) : Bool :=
  (tget s.cfg.chan (chanIx ch)).enabled && sampledIn s.mc.mode ch

/-- A channel's status from its working state (R7) (log entry 35: DESIGN CHOICE). -/
def statusFrom (converted : Bool) (e : ChanEntry) : SampleStatus :=
  if !converted || (e.sample.isNone && !e.rangeMark) then .stale
  else if e.rangeMark || e.hostMark then .suspect
  else .valid

/-- A channel's working state set, its status re-derived (R7). -/
def setChannel (ch : Channel) (e : ChanEntry) (s : State) : State :=
  withMu (fun m => { m with
    chan := tset m.chan (chanIx ch) { e with status := statusFrom (isConverted s ch) e } }) s

/-! ### Handing to the users (R10, R11) -/

/-- The SENSOR notice of a status change into SUSPECT, or from SUSPECT into VALID (R11); it is posted before the notices that the
channel's users post at the same event (log entry 9: DESIGN CHOICE). -/
def sensorNotice (ch : Channel) (old : SampleStatus) (s : State) : State :=
  let e := chanOf s ch
  let data := [byte (chanIx ch).1, byte (sampleCode e.status), byte (marksOf e)]
  if old ≠ .suspect ∧ e.status = .suspect then post .sensor .mu .attention data s
  else if old = .suspect ∧ e.status = .valid then post .sensor .mu .info data s
  else s

/-- What the users of a channel do when its status leaves VALID, or returns to it; TF's user judges its reading. -/
def statusChange (ch : Channel) (old : SampleStatus) (s : State) : State :=
  let new := statusOf s ch
  if old = .valid ∧ new ≠ .valid then
    let s1 := heaterLeft ch (chargeLeft ch s)
    if ch = .vs then restVsLeft s1 else s1
  else if old ≠ .valid ∧ new = .valid then chargeRegained ch s
  else s

/-- A status report to the users, without a conversion (R10) (log entry 9: DESIGN CHOICE). -/
def statusReport (ch : Channel) (old : SampleStatus) (s : State) : State :=
  if statusOf s ch = old then s
  else
    ownerEvent [3, 12, 14, 24] (fun s =>
      let s1 := statusChange ch old s
      if ch = .tf then fridgeTf false s1 else s1) s

/-- A sample report to the users (R10): the CC and the HC, the FC, and the RM's starter guard (log entry 9: DESIGN CHOICE). -/
def sampleReport (ch : Channel) (old : SampleStatus) (s : State) : State :=
  let s1 := heaterConversion ch (chargeConversion ch (statusChange ch old s))
  match ch with
  | .tf => fridgeTf true s1
  | .vs => restVs s1
  | _ => s1

/-- Channels leave the scan in progress; where it so ends, and the mode has changed during it, the next one follows at once
(R2). -/
def leaveScan (chs : List Channel) (s : State) : State :=
  let left := s.mu.scanLeft.filter fun ch => !(chs.contains ch)
  let s1 := withMu (fun m => { m with scanLeft := left }) s
  if s.mu.scanLeft ≠ [] ∧ left = [] ∧ s.mu.rescan then raise .scanStart s1 else s1

/-- A conversion completes: the scan in progress converts its channels once each, in ascending number, so a conversion of
another channel than its next is none of the part's (R2, R4 to R11) (log entry 35: DESIGN CHOICE). The SENSOR notice comes first
and the users' notices of the same event behind it, for which no rule gives an order (log entry 9: DESIGN CHOICE). -/
def convert (ch : Channel) (code : Nat) (s : State) : State :=
  if s.mu.scanLeft.head? = some ch then
    let old := statusOf s ch
    let s1 := setChannel ch (convertEntry ch (tget s.cfg.chan (chanIx ch)).k code (chanOf s ch)) s
    leaveScan [ch] (sampleReport ch old (sensorNotice ch old s1))
  else s

/-- A scan starts, where none is in progress (R2). -/
def startScan (s : State) : State :=
  match s.mu.scanLeft with
  | [] => withMu (fun m => { m with scanMode := s.mc.mode, scanLeft := scanOf s.cfg s.mc.mode, rescan := false }) s
  | _ :: _ => s

/-! ### Host marks and enabling (R3, R9, R12) -/

/-- The channel of a number. -/
def channelById (n : Nat) : Option Channel := allChannels[n]?

/-- A channel's host mark set or cleared, with its consequences and the answer (R9); as at a conversion, the SENSOR notice comes
before the users' notices (log entry 9: DESIGN CHOICE). -/
def setHostMark (n : Nat) (mark : Bool) (s : State) : State :=
  match channelById n with
  | none => answer .range [] s
  | some ch =>
    let old := statusOf s ch
    let s1 := setChannel ch { chanOf s ch with hostMark := mark } s
    answer .ok [] (statusReport ch old (sensorNotice ch old s1))

/-- Channels that start again, or stop being converted: their working state is discarded, their host marks kept (R3). -/
def discardChannels (chs : List Channel) (s : State) : State :=
  chs.foldl (fun s ch => setChannel ch (chanStart (chanOf s ch).hostMark) s) s

/-- Channels cease to be converted: the state of all is discarded, and then the STALE status of each is handed to the users, in
ascending channel order (R3, R10) (log entry 9: DESIGN CHOICE). -/
def stopChannels (chs : List Channel) (s : State) : State :=
  chs.foldl (fun s' ch => statusReport ch (statusOf s ch) s') (discardChannels chs s)

/-- The MU takes a change of CHANNELS from `old`: a channel that is stopped leaves the scan in progress as well, and one that
is started joins the next (R2, R3, R12) (log entry 35: DESIGN CHOICE). -/
def channelsEffect (old : Vector ChanSet 7) (s : State) : State :=
  let on (v : Vector ChanSet 7) (ch : Channel) : Bool := (tget v (chanIx ch)).enabled
  let stopped := allChannels.filter fun ch => on old ch && !(on s.cfg.chan ch)
  let started := allChannels.filter fun ch => !(on old ch) && on s.cfg.chan ch
  leaveScan stopped (stopChannels stopped (discardChannels started s))

/-! ### Trip comparators (R14, R16) -/

/-- One comparator's entry changed. -/
def withComp (c : Comparator) (f : CompEntry → CompEntry) (s : State) : State :=
  withMu (fun m => { m with comp := tset m.comp (compIx c) (f (tget m.comp (compIx c))) }) s

/-- One comparator's entry. -/
def compOf (s : State) (c : Comparator) : CompEntry := tget s.mu.comp (compIx c)

/-- The output's current is now `ma`; it has none while the output is off. -/
def setCurrent (c : Comparator) (ma : Nat) (s : State) : State :=
  if watchedOn s c then withComp c (fun e => { e with current := ma }) s else s

/-- A current that rises above the threshold starts the qualify timer in WATCH (R14). -/
def currentRises (c : Comparator) (ma : Nat) (s : State) : State :=
  let s1 := setCurrent c ma s
  if (compOf s1 c).state = .watch ∧ currentAbove s1 c then withComp c (fun e => { e with state := .qualify }) s1 else s1

/-- A current that falls to or below the threshold returns QUALIFY to WATCH (R14). -/
def currentFalls (c : Comparator) (ma : Nat) (s : State) : State :=
  let s1 := setCurrent c ma s
  if (compOf s1 c).state = .qualify ∧ currentAbove s1 c = false then withComp c (fun e => { e with state := .watch }) s1
  else s1

/-- The blanking timer's expiry (R14). -/
def blankingOver (c : Comparator) (s : State) : State :=
  if (compOf s c).state = .blanking then
    withComp c (fun e => { e with state := if currentAbove s c then .qualify else .watch }) s
  else s

/-- The qualify timer's expiry: the trip is counted and handed to the GA with its cab time (R14, R16)
(log entry 20: DESIGN CHOICE). The last trip time keeps the UNSET flag it is stamped with, a SET CLOCK that comes later
notwithstanding (log entry 40: DESIGN CHOICE). -/
def qualifyOver (c : Comparator) (s : State) : State :=
  if (compOf s c).state = .qualify then
    hand (.tripReport ⟨c, stampNow s⟩) (withComp c (fun e => { e with
      state := .tripped
      total := min 65535 (e.total + 1)
      lastTrip := some (stampNow s) }) s)
  else s

/-- A comparator's state at a threshold write (R14). -/
def compRewritten (on above : Bool) (n : Nat) (st : CompState) : CompState :=
  if n = 0 then .disabled
  else
    match st with
    | .disabled => if on then (if above then .qualify else .watch) else .off
    | .watch => if above then .qualify else .watch
    | .qualify => if above then .qualify else .watch
    | st => st

/-- The MU takes a change of the thresholds from `old` (R14). -/
def tripsEffect (old : Vector Nat 6) (s : State) : State :=
  allComparators.foldl (fun s c =>
    let n := tget s.cfg.thresholds (compIx c)
    if tget old (compIx c) = n then s
    else withComp c (fun e => { e with state := compRewritten (watchedOn s c) (currentAbove s c) n e.state }) s) s

/-! ### Load current readings (R17) -/

/-- A reading: the mean truncated to d-amps, held at the full scale, 0 while the output is off. -/
def readingOf (s : State) (c : Comparator) (mean : Nat) : Nat :=
  if watchedOn s c then min (match c with | .t1 => 40 | _ => 120) (mean / 100) else 0

/-- The mean of one input. -/
def meanOf (r : LoadMeans) : Comparator → Nat
  | .t0 => r.t0 | .t1 => r.t1 | .t2 => r.t2 | .t3 => r.t3 | .t4 => r.t4 | .t5 => r.t5

/-- A load current reading is formed for each input; 100 ms have passed since the last one, and the heater's holds are judged at
the time now reached (R17, R62) (log entries 11 and 15: DESIGN CHOICE). -/
def loadReading (r : LoadMeans) (s : State) : State :=
  let s1 := allComparators.foldl (fun s' c => withComp c (fun e => { e with reading := readingOf s c (meanOf r c) }) s') s
  heaterHolds (withSu (fun u => { u with tenth := min 9 (u.tenth + 1) }) s1)

/-! ### Tach capture (R18, R19) -/

/-- The speed of a period (R18). -/
def tachSpeed (period : Nat) : Nat := min 9999 (30000000 / period)

/-- A tach edge at a time in µs (R18); one that comes later than 1 s finds the capture expired (R19), and one within the same
microsecond gives the shortest period, 1 µs, and the speed 9,999 (log entry 37: DESIGN CHOICE). -/
def tachEdge (us : Nat) (t : Tach) : Tach :=
  match t.lastEdge with
  | none => { t with lastEdge := some us }
  | some l =>
    if 1000000 < us - l then ⟨some us, none, 0⟩
    else
      let p := max 1 (min 999999 (us - l))
      ⟨some us, some p, tachSpeed p⟩

end Sys2Proof.Machine
end

