-- ==== Sys2Proof/Machine/PanelOps.lean ====
section
/-! DEFINITION. The bunk panel's keys, their events and actions (R121 to R127), and the contact inputs (R128, R129). -/

namespace Sys2Proof.Machine

/-- A key. -/
def keyOf (s : State) (k : Fin 16) : KeyCell := tget s.pn.keys k

/-- A key changed. -/
def withKey (k : Fin 16) (f : KeyCell → KeyCell) (s : State) : State :=
  withPn (fun u => { u with keys := tset u.keys k (f (tget u.keys k)) }) s

/-! ### Key queue (R125) -/

/-- An entry offered to the key queue: it joins and posts KEYS_WAITING, or sets OVERRUN. -/
def offerKey (k : Fin 16) (ev : KeyEvent) (s : State) : State :=
  if 8 ≤ s.pn.queue.length then withPn (fun u => { u with overrun := true }) s
  else
    let s1 := withPn (fun u => { u with queue := u.queue ++ [⟨k, ev, stampNow s⟩] }) s
    post .keysWaiting .pi .info [byte s1.pn.queue.length] s1

/-- The code of a key event (R185). -/
def keyEventCode : KeyEvent → Nat
  | .press => 0 | .hold => 1 | .release => 2

/-- One entry of a READ KEYS reply (R185). -/
def keyBytes (e : KeyReport) : List Byte :=
  byte (e.key.1 + 16 * keyEventCode e.event + bit e.stamp.unset 7) :: leBytes 4 (e.stamp.cab : Int)

/-- READ KEYS and its answer (R125) (log entry 29: DESIGN CHOICE). -/
def readKeys (s : State) : State :=
  match s.pn.queue with
  | [] => answer .empty [] s
  | q =>
    answer .ok (byte (bit s.pn.overrun 0) :: byte (q.take 8).length :: (q.take 8).flatMap keyBytes)
      (withPn (fun u => { u with queue := u.queue.drop 8, overrun := false }) s)

/-! ### Actions (R126, R127, R175) -/

/-- The event an action runs on; NONE runs on none (R126). -/
def runsOn : KeyAction → Option KeyEvent
  | .none => none
  | .heatToggle => some .hold
  | .restToggle => some .hold
  | _ => some .press

/-- The group of a light action's parameter. -/
def groupParam (n : Nat) : Group := if n = 0 then .bunk else .cab

/-- One ADJUST of the HEATER_SET setpoint on the panel's behalf, taken by the HC as an event of its own, at which HEATER_STATUS's
working setpoint follows (R64, R89, R175) (log entry 14: DESIGN CHOICE). -/
def panelHeat (delta : Int) (s : State) : State × Status :=
  let sum := s.cfg.heaterSet.setpoint + delta
  let v := clampInt 50 300 sum
  (ownerEvent [12]
      (operate 10 fun s => { s with cfg := { s.cfg with heaterSet := { s.cfg.heaterSet with setpoint := v } } }) s,
    if v = sum then .ok else .clamped)

/-- The speed VENT_STEP moves to (R104). -/
def ventNext (v : Nat) : Nat := if v < 3 then v + 1 else 0

/-- One ADJUST of a channel's target on a key's behalf (R108, R116): `target` is the first field of LIGHTS
(log entry 31: DESIGN CHOICE). -/
def dimOperation (k : Fin 16) (delta : Int) (i : Fin 6) : Instr := .adjust (.panel k 18) 1 (some i.1) delta

/-- LIGHT_UP and LIGHT_DOWN: one ADJUST per channel of the group, in ascending channel order, each handed to the RMG as an operation
of its own, so that a host operation between two of them has its own place (R116, R173) (log entry 39: DESIGN CHOICE). -/
def panelDim (k : Fin 16) (a : KeyAction) (delta : Int) (g : Group) (s : State) : State :=
  (groupLights g).foldl (fun s i => hand (dimOperation k delta i) s)
    (withPn (fun u => { u with dims := u.dims ++ [⟨k, a, (groupLights g).length, .ok⟩] }) s)

/-- A key's action carried out, with the status it ends with, or none while its operations are on their way; an action at another
block is an event of that block's own (R126, R127, R174) (log entries 9 and 39: DESIGN CHOICE). -/
def runKeyAction (k : Fin 16) (e : KeyEntry) (s : State) : State × Option Status :=
  let ends (r : State × Status) : State × Option Status := (r.1, some r.2)
  match e.action with
  | .none => (s, some .ok)
  | .lightToggle => (panelToggle (groupParam e.param) s, some .ok)
  | .lightUp => (panelDim k .lightUp 100 (groupParam e.param) s, none)
  | .lightDown => (panelDim k .lightDown (-100) (groupParam e.param) s, none)
  | .scene => ends (ownerAct [17] (sceneRequest e.param) s)
  | .heatToggle => ends (ownerAct [10, 12] heaterToggle s)
  | .heatUp => ends (panelHeat 5 s)
  | .heatDown => ends (panelHeat (-5) s)
  | .fridgeBoost => ends (ownerAct [14] boostStart s)
  | .ventStep => (writeVentSpeed (ventNext s.fc.ventSpeed) s, some .ok)
  | .restToggle => ends (ownerAct [24] restToggle s)
  | .silence => (stopChimes s, some .ok)

/-- Whether a status is an acceptance. -/
def accepted (st : Status) : Bool := st == .ok || st == .clamped

/-- A key's action has ended with a status: it is the last action, and a refusal posts PANEL (R127). -/
def endAction (k : Fin 16) (a : KeyAction) (st : Status) (s : State) : State :=
  let s1 := withPn (fun u => { u with last := some ⟨k, a, st⟩ }) s
  if accepted st then s1
  else post .panel .pi .info [byte (k.1 + 16), byte (keyActionCode a), byte (statusCode st)] s1

/-- A key's action, and its end where it has ended, with its status (R127). -/
def keyAction (k : Fin 16) (e : KeyEntry) (s : State) : State × Option Status :=
  let r := runKeyAction k e s
  (match r.2 with
    | some st => endAction k e.action st r.1
    | none => r.1, r.2)

/-- The light actions under way after one more operation of key `k` has ended with a status, and the action that it ends: the
oldest of the key's own is the one it belongs to (R116, R127). -/
def dimStep (k : Fin 16) (st : Status) : List DimRun → Option DimRun × List DimRun
  | [] => (none, [])
  | r :: rs =>
    if r.key = k then
      let r1 := { r with left := r.left - 1, status := if st = .ok then r.status else st }
      if r1.left = 0 then (some r1, rs) else (none, r1 :: rs)
    else ((dimStep k st rs).1, r :: (dimStep k st rs).2)

/-- An operation of a key's light action has ended with a status; the action ends with its last one (R127). -/
def dimEnded (k : Fin 16) (st : Status) (s : State) : State :=
  let r := dimStep k st s.pn.dims
  let s1 := withPn (fun u => { u with dims := r.2 }) s
  match r.1 with
  | some run => endAction k run.action run.status s1
  | none => s1

/-- Whether a key event is in a report set, which holds PRESS in bit 0, HOLD in bit 1 and RELEASE in bit 2 (R126)
(log entry 31: DESIGN CHOICE). -/
def reports (set : BitVec 3) : KeyEvent → Bool
  | .press => set.getLsbD 0
  | .hold => set.getLsbD 1
  | .release => set.getLsbD 2

/-- The feedback of a PRESS (R127). -/
def clicks (s : State) (a : KeyAction) : Bool := s.cfg.panel.click && a != .none && a != .silence

/-- A key event handled: report, action, feedback, in this order (R124). -/
def issue (ev : KeyEvent) (s : State) (k : Fin 16) : State :=
  let e := tget s.cfg.keymap k
  let s1 := if reports e.report ev then offerKey k ev s else s
  let runs := runsOn e.action == some ev
  let r := if runs then keyAction k e s1 else (s1, none)
  match ev with
  | .press => if clicks r.1 e.action then chime 0 r.1 else r.1
  | .hold => if r.2.any accepted then chime 1 r.1 else r.1
  | .release => r.1

/-- A key becomes PRESSED: its hold timer starts and PRESS is issued (R124). -/
def pressKey (s : State) (k : Fin 16) : State :=
  issue .press (withKey k (fun c => { c with state := .pressed, hold := true }) s) k

/-- An accepted opening: the key is OPEN, and a PRESSED one issues RELEASE; another key, which issued no PRESS, issues nothing,
in MULTI mode as in SINGLE (R122, R123) (log entry 38: DESIGN CHOICE). -/
def openKey (s : State) (k : Fin 16) : State :=
  let s1 := withKey k (fun c => { c with state := .opened, hold := false }) s
  if (keyOf s k).state = .pressed then issue .release s1 k else s1

/-! ### Scanning (R121, R122, R123) -/

/-- Whether a key's accepted condition is closed (R121). -/
def acceptedClosed : KeyState → Bool
  | .opened => false
  | _ => true

/-- Whether a key reads closed. -/
def readsClosed (reads : BitVec 16) (k : Fin 16) : Bool := reads.getLsbD k.1

/-- The corner of a row and a column. -/
def corner (row col : Nat) (reads : BitVec 16) : Bool := reads.getLsbD (4 * row + col)

/-- Whether a key forms a rectangle with three other keys that read closed (R123). -/
def inRectangle (reads : BitVec 16) (k : Fin 16) : Bool :=
  let r := k.1 / 4
  let c := k.1 % 4
  readsClosed reads k &&
    [0, 1, 2, 3].any fun r2 => [0, 1, 2, 3].any fun c2 =>
      r2 != r && c2 != c && corner r2 c reads && corner r c2 reads && corner r2 c2 reads

/-- The number of keys that read closed. -/
def closedCount (reads : BitVec 16) : Nat := (allKeys.filter (readsClosed reads)).length

/-- The keys that join the ambiguous set at a scan in MULTI mode (R123). -/
def ghosts (s : State) (reads : BitVec 16) : BitVec 16 :=
  allKeys.foldl (fun v k =>
    if inRectangle reads k && (keyOf s k).state != .pressed then v ||| (1#16 <<< k.1) else v) 0#16

/-- The ambiguous set and AMBIGUOUS after a scan's reads (R123). -/
def ambiguity (reads : BitVec 16) (s : State) : State :=
  match s.cfg.panel.mode with
  | .single => s
  | .multi =>
    if closedCount reads < 3 then withPn (fun u => { u with ambig := 0, ambiguous := false }) s
    else
      let g := ghosts s reads
      withPn (fun u => { u with ambig := u.ambig ||| g, ambiguous := u.ambiguous || g != 0 }) s

/-- A key's read and run at a scan; `held` keeps a closure run at 0 (R121, R123). -/
def scanKey (reads : BitVec 16) (held : BitVec 16) (k : Fin 16) (c : KeyCell) : KeyCell :=
  let r := readsClosed reads k
  let acc := acceptedClosed c.state
  let run := if r == acc || (r && held.getLsbD k.1) then 0 else c.run + 1
  { c with closed := r, run := run }

/-- All keys' reads and runs at a scan (log entry 5: DESIGN CHOICE). -/
def scanKeys (reads held : BitVec 16) (s : State) : State :=
  withPn (fun u => { u with
    keys := allKeys.foldl (fun v k => tset v k (scanKey reads held k (tget v k))) u.keys }) s

/-- The keys whose change is accepted at this scan. -/
def acceptedKeys (s : State) : List (Fin 16) := allKeys.filter fun k => decide (2 ≤ (keyOf s k).run)

/-- The runs of the accepted changes return to 0. -/
def clearRuns (ks : List (Fin 16)) (s : State) : State := ks.foldl (fun s k => withKey k (fun c => { c with run := 0 }) s) s

/-- Whether any key is PRESSED or CONTESTED. -/
def anyHeld (s : State) : Bool :=
  allKeys.any fun k => (keyOf s k).state == .pressed || (keyOf s k).state == .contested

/-- The accepted closures of one scan in SINGLE mode, taken together (R122). -/
def singleClosures (ks : List (Fin 16)) (s : State) : State :=
  let all (st : KeyState) (s : State) : State := ks.foldl (fun s k => withKey k (fun c => { c with state := st }) s) s
  if anyHeld s then all .ignored s
  else
    match ks with
    | [] => s
    | [k] => pressKey s k
    | _ => all .contested s

/-- The end of a scan in SINGLE mode: a single CONTESTED key becomes PRESSED where none is (R122). -/
def singleEnd (s : State) : State :=
  if allKeys.any fun k => (keyOf s k).state == .pressed then s
  else
    match allKeys.filter fun k => (keyOf s k).state == .contested with
    | [k] => pressKey s k
    | _ => s

/-- The accepted changes of one scan in SINGLE mode; openings and closures of one scan come in either order. -/
def singleScan (closures openings : List (Fin 16)) (s : State) : State :=
  let doOpen (s : State) : State := openings.foldl openKey s
  match closures, openings with
  | [], _ => singleEnd (doOpen s)
  | _, [] => singleEnd (singleClosures closures s)
  | _, _ =>
    let s1 := countChoices 2 s
    match anyOrder s [true, false] with
    | false :: _ => singleEnd (doOpen (singleClosures closures s1))
    | _ => singleEnd (singleClosures closures (doOpen s1))

/-- The accepted changes of one scan in MULTI mode, each key on its own, in either order (R123, R124). -/
def multiScan (closures : List (Fin 16)) (ks : List (Fin 16)) (s : State) : State :=
  let s1 := if 2 ≤ ks.length then countChoices ks.length s else s
  (anyOrder s ks).foldl (fun s k => if closures.contains k then pressKey s k else openKey s k) s1

/-- A key scan (R121 to R123); in STANDBY there is none. The ambiguous keys are found from the reads before the closures of the
scan are accepted (log entry 38: DESIGN CHOICE). -/
def keyScan (reads : BitVec 16) (s : State) : State :=
  if s.pn.standby then s
  else
    let s1 := ambiguity reads s
    let s2 := scanKeys reads (s.pn.ambig ||| s1.pn.ambig) s1
    let ks := acceptedKeys s2
    let closures := ks.filter fun k => !(acceptedClosed (keyOf s2 k).state)
    let openings := ks.filter fun k => acceptedClosed (keyOf s2 k).state
    let s3 := clearRuns ks s2
    let s4 := if closures.isEmpty then s3 else wakeFromDoze s3
    match s.cfg.panel.mode with
    | .single => singleScan closures openings s4
    | .multi => multiScan closures ks s4

/-- PANEL's revision where the event from `s` to `s'` handed the resting flag back to the PI: the handing advanced it as an event
of its own (`handResting`), and the rest of what the PI changed is one more update (R174) (log entry 14: DESIGN CHOICE). -/
def countPanel (s s' : State) : State :=
  if s.pn.resting = s'.pn.resting ∨ viewPanel s = viewPanel (withPn (fun u => { u with resting := s.pn.resting }) s') then s'
  else { s' with rev := tset s'.rev 20 ((tget s'.rev 20 + 1) % 256) }

/-- The hold timer's expiry with the key still PRESSED (R124). -/
def holdOver (k : Fin 16) (s : State) : State :=
  if (keyOf s k).state = .pressed ∧ (keyOf s k).hold then
    countPanel s (issue .hold (withKey k (fun c => { c with hold := false }) s) k)
  else s

/-- Every PRESSED key issues RELEASE (R121, R123). -/
def releaseAll (s : State) : State :=
  let ks := allKeys.filter fun k => (keyOf s k).state == .pressed
  let s1 := if 2 ≤ ks.length then countChoices ks.length s else s
  (anyOrder s ks).foldl openKey s1

/-- The keys and the ambiguous set set anew, each key by `f` (R121, R123) (log entry 5: DESIGN CHOICE). -/
def resetKeys (f : KeyCell → KeyCell) (s : State) : State :=
  withPn (fun u => { u with keys := u.keys.map f, ambig := 0, ambiguous := false }) s

/-- A write of the panel mode (R123). -/
def panelModeEffect (s : State) : State :=
  resetKeys (fun c => { c with state := if c.closed then .ignored else .opened, run := 0, hold := false }) (releaseAll s)

/-- The PI takes the entry into STANDBY (R121, R131, R132). -/
def panelStandby (s : State) : State :=
  let s1 := resetKeys (fun _ => keyReset) (releaseAll (withPn (fun u => { u with standby := true }) s))
  ask .panel none (stopChimes s1)

/-! ### Contacts (R128, R129) -/

/-- A contact. -/
def contactOf (s : State) (c : Contact) : ContactCell := tget s.pn.contacts (contactIx c)

/-- A contact changed. -/
def withContact (c : Contact) (f : ContactCell → ContactCell) (s : State) : State :=
  withPn (fun u => { u with contacts := tset u.contacts (contactIx c) (f (tget u.contacts (contactIx c))) }) s

/-- The handing of a contact's state to its owner (section 7.6); AUX1 and AUX2 go to none. -/
def contactHanding (c : Contact) (st : ContactState) : Option Instr :=
  match c with
  | .move => some (.moveHanding st)
  | .ign => some (.ignHanding st)
  | .fdoor => some (.fdoorHanding st)
  | .cdoor => some (.cdoorHanding st)
  | _ => none

/-- A contact's initial handing or contact change: handed, reported, and used for wake (R129). -/
def handContact (c : Contact) (initial : Bool) (s : State) : State :=
  let st := (contactOf s c).state
  let set := tget s.cfg.contacts (contactIx c)
  let s1 := match contactHanding c st with
    | some i => hand i s
    | none => s
  let s2 := if set.report then
      post .contact .pi .info [byte (contactIx c).1, byte (contactCode st), byte (if initial then 0 else 1)] s1 else s1
  if set.wake && !initial then wakePart s2 else s2

/-- A contact's input changes level: the debounce timer starts, or stops where the level is the debounced one (R128). -/
def contactInput (c : Contact) (l : LineLevel) (s : State) : State :=
  let cell := contactOf s c
  if cell.pin = l then s
  else
    let t := if cell.level = some l then none else some (tget s.cfg.contacts (contactIx c)).debounce
    withContact c (fun x => { x with pin := l, timer := t }) s

/-- A contact's input stands at another level while the part is held in reset. The input is the wiring's and no state of the
part, so it is followed there as well; no debounce timer runs before the end of the reset, and the first expiry after it takes
the level the input then has (R128, R190) (log entry 12: DESIGN CHOICE). -/
def pinInReset (c : Contact) (l : LineLevel) (s : State) : State := withContact c (fun x => { x with pin := l }) s

/-- A state by a debounced level and an active level (R128). -/
def judgeContact (active level : LineLevel) : ContactState := if level = active then .active else .inactive

/-- A debounce timer's expiry (R128). -/
def debounceOver (c : Contact) (s : State) : State :=
  let cell := contactOf s c
  match cell.timer with
  | none => s
  | some _ =>
    let st := judgeContact (tget s.cfg.contacts (contactIx c)).activeLevel cell.pin
    let s1 := withContact c (fun x => { x with level := some x.pin, state := st, timer := none }) s
    if cell.state = .unknown then handContact c true s1
    else if cell.state = st then s1
    else handContact c false s1

/-- A write of a contact's active level re-judges its state (R129). -/
def rejudgeContact (old : Vector ContactSet 6) (s : State) (c : Contact) : State :=
  let set := tget s.cfg.contacts (contactIx c)
  let cell := contactOf s c
  if (tget old (contactIx c)).activeLevel = set.activeLevel ∨ cell.state = .unknown then s
  else
    match cell.level with
    | none => s
    | some l =>
      let st := judgeContact set.activeLevel l
      if st = cell.state then s else handContact c false (withContact c (fun x => { x with state := st }) s)

/-- The PI takes a change of CONTACTS from `old`; several contacts it changes are taken in ascending contact order (R129)
(log entry 38: DESIGN CHOICE). -/
def contactsEffect (old : Vector ContactSet 6) (s : State) : State := allContacts.foldl (rejudgeContact old) s

end Sys2Proof.Machine
end

