-- ==== Sys2Proof/Machine/ModeOps.lean ====
section
/-! DEFINITION. The Mode Controller's operations (R154, R186 to R193): the tick, STANDBY, the settings store, the power-on
reset, RESTART and the supply monitor. -/

namespace Sys2Proof.Machine

/-- The MC's state with its fields changed. -/
def withMc (f : ModeUnit → ModeUnit) (s : State) : State := { s with mc := f s.mc }

/-! ### The tick of the elapsed counter (R154) -/

/-- The clocks at a tick: the elapsed counter gains 1, and the silence time up to 120 (R154, R187)
(log entries 7 and 11: DESIGN CHOICE). -/
def tickClocks (s : State) : State :=
  let next := if s.su.elapsed < max32 then s.su.elapsed + 1 else Config.elapsedAfterLast
  withMc (fun m => { m with silence := min 120 (m.silence + 1) })
    (withSu (fun u => { u with elapsed := next, tenth := 0 }) s)

/-- A handing raised where a held instant of the elapsed counter has come. -/
def raiseAt (o : Option Nat) (i : Instr) (s : State) : State := if o = some s.su.elapsed then raise i s else s

/-- The expiries of the elapsed counter that are steps of their own (R29, R47, R66, R92, R104) (log entry 11: DESIGN CHOICE). -/
def raiseExpiries (s : State) : State :=
  let s1 := if s.su.elapsed % 60 = 0 then raise .minuteEnd s else s
  let s2 := raiseAt s.hc.durationEnd .durationExpiry s1
  let s3 := raiseAt s.fc.boostEnd .boostEnd s2
  let s4 := raiseAt s.fc.ventRunEnd .ventRunEnd s3
  let s5 := raiseAt (tget s.ga.sockets 0).runEnd (.socketRunLimitExpiry .a) s4
  raiseAt (tget s.ga.sockets 1).runEnd (.socketRunLimitExpiry .b) s5

/-- What the blocks do at the tick itself: the clocks, the MC's judgement for DOZE, the RM's second, the expiries that have
come, and the heater's holds (R62, R140, R154, R187). -/
def tickBlocks (s : State) : State := heaterHolds (raiseExpiries (restTick (dozeCheck (tickClocks s))))

/-- A tick: an event at every block, and then the schedule's search for due entries, whose firing is the targets' own
(R154, R160, R163) (log entry 11: DESIGN CHOICE). -/
def tick (s : State) : State := fireDue (ownerEvent allRecords tickBlocks s)

/-! ### Wake sources and STANDBY (R187, R188, R189) -/

/-- A start bit on RXD in AWAKE or DOZE: the silence time is 0, and DOZE is left (R187). -/
def startBit (s : State) : State :=
  match s.mc.mode with
  | .standby => s
  | _ => wakeFromDoze (withMc (fun m => { m with silence := 0 }) s)

/-- An edge that wakes the part out of STANDBY alone (R177, R121, R189). -/
def wakeEdge (s : State) : State :=
  match s.mc.mode with
  | .standby => wakeStandby s
  | _ => s

/-- Whether STANDBY is refused (R188). -/
def standbyRefused (s : State) : Bool :=
  !(s.hc.state == .off || s.hc.state == .lockout) || s.fc.state != .off || anyLoadGranted s
    || (contactOf s .ign).state == .active

/-- The entry into STANDBY: the mode, the channels that are no longer converted, and the PI (R3, R121, R131, R132, R188). -/
def enterStandby (s : State) : State :=
  let stopped := [Channel.tc, .tf, .th, .tx].filter fun ch => (tget s.cfg.chan (chanIx ch)).enabled
  panelStandby (stopChannels stopped (setMode .standby s))

/-- STANDBY and its answer (R188); it is judged in DOZE as in AWAKE (log entry 10: DESIGN CHOICE). -/
def standby (s : State) : State :=
  match s.mc.mode with
  | .standby => answer .ok [] s
  | _ => if standbyRefused s then answer .state [] s else answer .ok [] (enterStandby s)

/-! ### Settings store (R191, R192) -/

/-- What the store keeps of a slot: its host entry. -/
def storedEntry (o : Option SchedEntry) : Option StoredEntry :=
  o.bind fun e => if e.rest then none else some ⟨e.time, e.daily, e.action, e.state == .disabled⟩

/-- The settings part as it stands (log entry 27: DESIGN CHOICE). -/
def imageOf (s : State) : Image := ⟨s.cfg, s.su.slots.map storedEntry⟩

/-- SAVE SETTINGS takes its image and the write begins; it is answered at the write's end (R192)
(log entry 27: DESIGN CHOICE). -/
def saveSettings (s : State) : State := withMc (fun m => { m with saving := some (imageOf s) }) s

/-- Whether a store write is under way. -/
def storeBusy (m : ModeUnit) : Bool := m.saving.isSome || m.heaterWrite.isSome

/-- The settings part's write is complete: the store holds the image, its status is VALID and the save answers OK
(log entry 27: DESIGN CHOICE). -/
def settingsWritten (s : State) : State :=
  match s.mc.saving with
  | none => s
  | some img =>
    answer .ok [] (withMc (fun m => { m with settingsPart := some img, settingsValid := true, saving := none }) s)

/-- The heater part's write is complete; a change made during it starts a further write
(log entries 17 and 27: DESIGN CHOICE). -/
def heaterWritten (s : State) : State :=
  match s.mc.heaterWrite with
  | none => s
  | some p =>
    withMc (fun m => { m with
      heaterPart := some p
      heaterValid := true
      heaterWrite := if m.heaterAgain then some (heaterPartOf s.hc) else none
      heaterAgain := false }) s

/-- A write under way that is cut off leaves its part failing its check (R192) (log entries 26 and 27: DESIGN CHOICE). -/
def cutStore (m : ModeUnit) : ModeUnit :=
  { m with
    settingsPart := if m.saving.isSome then none else m.settingsPart
    heaterPart := if m.heaterWrite.isSome then none else m.heaterPart
    saving := none
    heaterWrite := none
    heaterAgain := false }

/-! ### Resets (R190, R191, R193) -/

/-- The part after a reset whose store check finds the parts of `m`, the CC and the clock as the kind of reset leaves
them: every block at its values after a reset, the restored settings in force, RESET_DONE the first notice
(log entries 23 and 26: DEDUCED and DESIGN CHOICE). -/
def resetPart (kind : ResetKind) (m : ModeUnit) (cc : Settings → ChargeUnit) (offset : Int) (unset : Bool)
    (s : State) : State :=
  let cfg := match m.settingsPart with
    | some img => img.settings
    | none => settingsDefault
  let stamp : Stamp := ⟨min max32 offset.toNat, unset⟩
  { s with
    cfg := cfg
    mu := muReset cfg
    cc := cc cfg
    ga := gaReset cfg
    asked := askedReset cfg
    hc := heaterReset (m.heaterPart.getD heaterPartDefault)
    fc := fridgeReset cfg
    lc := lightsReset
    pn := panelReset cfg (s.pn.contacts.map (·.pin))
    rm := restReset cfg
    su := { scheduleReset m.settingsPart with offset := offset, unset := unset }
    rev := revReset
    lk := linkReset (resetNotices kind stamp (m.settingsPart.isNone || m.heaterPart.isNone))
    mc := modeReset kind m.settingsPart m.heaterPart
    handed := [.placeRequest .panel (panelRequest cfg.demands)] }

/-- The power-on reset; a store write cut off by it, or by the fall before it, has failed its part. A part held in reset whose
100 ms count does not run stays held: its supply has not stood above 9.0 V (R190, R191) (log entry 26: DESIGN CHOICE). -/
def powerOn (s : State) : State :=
  match s.mc.supply with
  | .held false => s
  | _ => resetPart .powerOn (cutStore s.mc) ccReset 0 true s

/-- What the CC keeps through a RESTART: C, held to the restored Cap, the residue, the source, ESTIMATED and the window,
with Iavg derived and the start period in force while C is absent (R20) (log entry 23: DEDUCED). -/
def ccRestart (old : ChargeUnit) (cfg : Settings) : ChargeUnit :=
  { ccReset cfg with
    c := old.c.map (min cfg.battery.cap)
    residue := old.residue
    source := old.source
    estimated := old.estimated
    starting := old.c.isNone
    window := old.window
    iavg := averageDraw old.window }

/-- RESTART's reset: the cab clock carries on, and the restored entries already passed are passed over (R154, R162,
R193) (log entry 23: DEDUCED). -/
def restartReset (s : State) : State :=
  let s1 := resetPart .restart (cutStore s.mc) (ccRestart s.cc) (cabTime s) s.su.unset s
  if s.su.unset then s1 else passOverAll s1

/-- Whether RESTART is refused (R193). -/
def restartRefused (h : HeaterState) : Bool :=
  match h with
  | .waitPower | .check | .preheat | .prime | .ignite | .stabilize | .run | .pause | .purge | .dryCool => true
  | .off | .lockout | .vent => false

/-- RESTART and its answer: the reset waits for its reply's last byte, or, quiet, for the store alone (R193)
(log entry 23: DEDUCED). One accepted while an earlier one still waits takes the earlier one's place: there is one reset, and it
waits as the later RESTART does (log entry 23: DESIGN CHOICE). -/
def restart (quiet : Bool) (s : State) : State :=
  if restartRefused s.hc.state then answer .state [] s
  else answer .ok [] (withMc (fun m => { m with restart := if quiet then .store else .reply }) s)

/-- The reset of an accepted RESTART in the running part, once its reply has been sent and no store write is under way
(R192, R193) (log entry 23: DEDUCED). -/
def restartDue (s : State) : State :=
  if s.mc.supply = .running ∧ s.mc.restart = .store ∧ storeBusy s.mc = false then restartReset s else s

/-- An event after which the reset of a RESTART may begin (log entry 23: DEDUCED). -/
def resettingEvent (i : Instr) (f : State → State) (s : State) : Host.Outcome State Fault Refusal :=
  match event i f s with
  | .next t => .next (restartDue t)
  | .fault e => .fault e
  | .refused r => .refused r

/-! ### Supply monitor (R190) -/

/-- The supply now stands at `mv`: below 8.0 V a running part enters reset; a part in reset counts its 100 ms while the
supply stands above 9.0 V (log entries 12 and 26: DESIGN CHOICE). -/
def supplyAt (mv : Nat) (s : State) : State :=
  match s.mc.supply with
  | .running =>
    if mv < 8000 then { s with mc := { cutStore s.mc with supply := .held false }, handed := [] } else s
  | .held _ => withMc (fun m => { m with supply := .held (decide (9000 < mv)) }) s

end Sys2Proof.Machine
end

