-- ==== Sys2Proof/Machine/RecordOps.lean ====
section
/-! DEFINITION. The Record Manager (R165 to R175): how the fields of a record are addressed, how a writing operation is judged
and applied, what each owner does with an accepted change, and what each record operation answers. -/

namespace Sys2Proof.Machine

/-! ### Addressing (R165) -/

/-- A field as an operation names it: its field id, its element index where it stands in a list, and the field. -/
structure Slot where
  id    : Nat
  elem  : Option Nat
  field : Field
deriving DecidableEq, Repr

/-- The number of fields of each entry of a fixed list. -/
def rowWidth (rows : List (List Field)) : Nat := (rows.headD []).length

/-- The fields of one entry of a fixed list (log entry 31: DESIGN CHOICE). -/
def rowSlots (elem : Nat) : Nat → List Field → List Slot
  | _, [] => []
  | id, f :: fs => ⟨id, some elem, f⟩ :: rowSlots elem (id + 1) fs

/-- The fields of a fixed list's entries from an element on (log entry 31: DESIGN CHOICE). -/
def groupSlots (id : Nat) : Nat → List (List Field) → List Slot
  | _, [] => []
  | elem, row :: rows => rowSlots elem id row ++ groupSlots id (elem + 1) rows

/-- The addressable fields of a record's items, field ids counted from `id`: a list of varying length takes one id and has
no addressable field (R165, R170). -/
def slotsFrom : Nat → List Item → List Slot
  | _, [] => []
  | id, .one f :: rest => ⟨id, none, f⟩ :: slotsFrom (id + 1) rest
  | id, .group rows :: rest => groupSlots id 0 rows ++ slotsFrom (id + rowWidth rows) rest
  | id, .more rows :: rest => groupSlots id 0 rows ++ slotsFrom (id + rowWidth rows) rest
  | id, .rows _ :: rest => slotsFrom (id + 1) rest

/-- The addressable fields of a record as it stands (log entry 31: DESIGN CHOICE). -/
def recordSlots (s : State) (r : Nat) : List Slot :=
  match recordView s r with
  | some items => slotsFrom 1 items
  | none => []

/-- The field an operation names. -/
def slotAt (s : State) (r field : Nat) (elem : Option Nat) : Option Slot :=
  (recordSlots s r).find? fun x => x.id == field && x.elem == elem

/-- The records of access RO (R165). -/
def readOnlyRecords : List Nat := [1, 2, 4, 6, 9, 13, 15]

/-- The records whose PUT names one element (R169). -/
def elementRecords : List Nat := [5, 8, 10, 17, 19, 20, 22, 26]

/-- A record's revision as a reply carries it, 0 for an unknown record (R167, R185). -/
def revByte (s : State) (r : Nat) : Byte := if r = 0 then 0 else byte ((s.rev.toList[r - 1]?).getD 0)

/-! ### Values (R166) -/

/-- A value as its field's type takes it, and whether it was clamped; `none` where it is refused with RANGE, as a number that
does not fit a fixed width is, the time of a SCHEDULE entry among them (R156, R158, R166) (log entry 32: DESIGN CHOICE). -/
def judgeValue (ty : FieldType) (v : Option Int) : Option (Option Int × Bool) :=
  match ty, v with
  | .flag, some x => some (some (if x = 0 then 0 else 1), false)
  | .enum n, some x => if 0 ≤ x ∧ x < n then some (some x, false) else none
  | .int lo hi clamp, some x =>
    if lo ≤ x ∧ x ≤ hi then some (some x, false)
    else if clamp then some (some (clampInt lo hi x), true) else none
  | .opt _ _ _, none => some (none, false)
  | .optEnum _, none => some (none, false)
  | .optEnum n, some x => if 0 ≤ x ∧ x < n then some (some x, false) else none
  | .opt lo hi clamp, some x =>
    if lo ≤ x ∧ x ≤ hi then some (some x, false)
    else if clamp then some (some (clampInt lo hi x), true) else none
  | .oneOf vals, some x => if x ∈ vals then some (some x, false) else none
  | .raw w, some x => if 0 ≤ x ∧ x < (256 ^ w : Nat) then some (some x, false) else none
  | _, none => none

/-- The action a SCHEDULE action field's five bytes spell; unused bytes are ignored (R185) (log entry 32: DESIGN CHOICE), and a
HEAT_START setpoint is read unsigned (log entry 29: DESIGN CHOICE). -/
def actionOf (v : Nat) : Option Action :=
  let wide := v / 256 % 65536
  let dur := v / 256 ^ 3 % 65536
  let narrow := v / 256 % 256
  match v % 256 with
  | 1 => some (.heatStart wide (if dur = 65535 then none else some dur))
  | 2 => some .heatStop
  | 3 => some (.scene narrow)
  | 4 => some (.chime narrow)
  | 5 => some .fridgeBoost
  | 6 => some (.vent narrow)
  | _ => none

/-- An action field's value as taken: HEAT_START's parameters clamped, the others STRICT (R156). -/
def judgeAction (v : Option Int) : Option (Option Int × Bool) :=
  match v with
  | none => none
  | some x =>
    match (actionOf x.toNat).bind takeAction with
    | some (a, clamped) => some (some (actionValue a : Nat), clamped)
    | none => none

/-- A SCHEDULE state as taken: ARMED or DISABLED alone (R158). -/
def judgeEntryState (v : Option Int) : Option (Option Int × Bool) :=
  if v = some 0 ∨ v = some 3 then some (v, false) else none

/-- A named field's value as taken. -/
def judgeSlot (r : Nat) (x : Slot) (v : Option Int) : Option (Option Int × Bool) :=
  if r = 26 ∧ x.id = 4 then judgeAction v
  else if r = 26 ∧ x.id = 5 then judgeEntryState v
  else judgeValue x.field.ty v

/-! ### Content: the written fields set in the record -/

/-- The entry of a table at an element index, changed; no entry for an index outside the table. -/
def setElem {α : Type} {n : Nat} (v : Vector α n) (e : Option Nat) (f : α → α) : Vector α n :=
  match e with
  | some i => if h : i < n then tset v ⟨i, h⟩ (f (tget v ⟨i, h⟩)) else v
  | none => v

/-- A written value as a natural number; an absent or negative one counts 0, and no such value reaches a field of this
kind. -/
def natOf (v : Option Int) : Nat := (v.getD 0).toNat

/-- BATTERY. -/
def pokeBattery (w : FieldWrite) (b : Battery) : Battery :=
  let n := natOf w.value
  match w.field with
  | 1 => { b with cap := n }
  | 2 => { b with eta := n }
  | 3 => { b with vFull := n }
  | 4 => { b with iTail := n }
  | 5 => { b with ocv := setElem b.ocv w.elem fun _ => n }
  | 6 => { b with reserve := n }
  | 7 => { b with margin := n }
  | 8 => { b with horizon := n }
  | 9 => { b with vLow := n }
  | 10 => { b with vCut := n }
  | 11 => { b with aLim := n }
  | 12 => { b with aBase := n }
  | 13 => { b with aRes := n }
  | _ => b

/-- CONSUMERS. -/
def pokeConsumers (w : FieldWrite) (c : Settings) : Settings :=
  let n := natOf w.value
  match w.field with
  | 1 => { c with classes := setElem c.classes w.elem fun k => if h : n < 8 then ⟨n, h⟩ else k }
  | 2 => { c with masks := setElem c.masks w.elem fun _ => n != 0 }
  | 3 => { c with orders := setElem c.orders w.elem fun _ => if n = 0 then .fixed else .rotating }
  | _ => c

/-- DEMANDS. -/
def pokeDemands (w : FieldWrite) (d : Demands) : Demands :=
  let n := natOf w.value
  match w.field with
  | 1 => { d with panel := n }
  | 2 => { d with check := n }
  | 3 => { d with start := n }
  | 4 => { d with stabilize := n }
  | 5 => { d with low := n }
  | 6 => { d with mid := n }
  | 7 => { d with high := n }
  | 8 => { d with purge := n }
  | 9 => { d with ventD := n }
  | 10 => { d with ventDmin := n }
  | 11 => { d with fridge := tset d.fridge 0 n }
  | 12 => { d with fridge := tset d.fridge 1 n }
  | 13 => { d with fridge := tset d.fridge 2 n }
  | 14 => { d with fridge := tset d.fridge 3 n }
  | 15 => { d with vent := tset d.vent 0 n }
  | 16 => { d with vent := tset d.vent 1 n }
  | 17 => { d with vent := tset d.vent 2 n }
  | 18 => { d with socket := tset d.socket 0 n }
  | 19 => { d with socket := tset d.socket 1 n }
  | _ => d

/-- CHANNELS. -/
def pokeChannels (w : FieldWrite) (v : Vector ChanSet 7) : Vector ChanSet 7 :=
  let n := natOf w.value
  match w.field with
  | 1 => setElem v w.elem fun c => { c with enabled := n != 0 }
  | 2 => setElem v w.elem fun c => { c with k := n }
  | _ => v

/-- HEATER_SET. -/
def pokeHeaterSet (w : FieldWrite) (h : HeaterSet) : HeaterSet :=
  match w.field with
  | 1 => { h with setpoint := w.value.getD 0 }
  | 2 => { h with frost := natOf w.value != 0 }
  | 3 => { h with threshold := w.value.getD 0 }
  | _ => h

/-- HEATER_TUNE. -/
def pokeHeaterTune (w : FieldWrite) (t : HeaterTune) : HeaterTune :=
  let n := natOf w.value
  match w.field with
  | 1 => { t with preheatTime := n }
  | 2 => { t with primeTime := n }
  | 3 => { t with igniteLimit := n }
  | 4 => { t with stabilizeTime := n }
  | 5 => { t with startRate := n }
  | 6 => { t with lowRate := n }
  | 7 => { t with midRate := n }
  | 8 => { t with highRate := n }
  | 9 => { t with strokeWidth := n }
  | 10 => { t with strokeVolume := n }
  | 11 => { t with flameRise := w.value.getD 0 }
  | 12 => { t with margin := w.value.getD 0 }
  | 13 => { t with flameLoss := w.value.getD 0 }
  | 14 => { t with preheatTarget := n }
  | 15 => { t with lowTarget := n }
  | 16 => { t with midTarget := n }
  | 17 => { t with highTarget := n }
  | 18 => { t with purgeTarget := n }
  | 19 => { t with ventTarget := n }
  | _ => t

/-- FRIDGE_SET. -/
def pokeFridgeSet (w : FieldWrite) (f : FridgeSet) : FridgeSet :=
  let n := natOf w.value
  match w.field with
  | 1 => { f with enable := n != 0 }
  | 2 => { f with setpoint := w.value.getD 0 }
  | 3 => { f with hyst := n }
  | 4 => { f with offset := n }
  | 5 => { f with minOff := n }
  | 6 => { f with maxSpeed := n }
  | _ => f

/-- The settings fields of LIGHTS. -/
def pokeLightSet (w : FieldWrite) (l : LightSet) : LightSet :=
  let n := natOf w.value
  match w.field with
  | 2 => { l with onLevel := setElem l.onLevel w.elem fun _ => n }
  | 3 => { l with fade := n }
  | 4 => { l with conserveBunk := n }
  | 5 => { l with conserveCab := n }
  | 6 => { l with restCab := n }
  | 7 => { l with entryScene := w.value.map Int.toNat }
  | _ => l

/-- One scene: fields 1 to 6 are its levels, field 7 its fade time. -/
def pokeScene (field : Nat) (v : Option Int) (sc : Scene) : Scene :=
  if field = 7 then { sc with fade := natOf v }
  else { sc with levels := setElem sc.levels (some (field - 1)) fun _ => v.map Int.toNat }

/-- The action of a code (R126). -/
def keyActionOf (n : Nat) : KeyAction :=
  match n with
  | 1 => .lightToggle | 2 => .lightUp | 3 => .lightDown | 4 => .scene | 5 => .heatToggle | 6 => .heatUp | 7 => .heatDown
  | 8 => .fridgeBoost | 9 => .ventStep | 10 => .restToggle | 11 => .silence | _ => .none

/-- One KEYMAP entry. -/
def pokeKey (field n : Nat) (e : KeyEntry) : KeyEntry :=
  match field with
  | 1 => { e with action := keyActionOf n }
  | 2 => { e with param := n }
  | 3 => { e with report := BitVec.ofNat 3 n }
  | _ => e

/-- The settings fields of PANEL. -/
def pokePanelSet (w : FieldWrite) (p : PanelSet) : PanelSet :=
  let n := natOf w.value
  match w.field with
  | 1 => { p with mode := if n = 0 then .single else .multi }
  | 2 => { p with click := n != 0 }
  | 3 => { p with backlight := n }
  | 4 => { p with restBacklight := n }
  | _ => p

/-- One contact's settings. -/
def pokeContact (field n : Nat) (c : ContactSet) : ContactSet :=
  match field with
  | 1 => { c with activeLevel := if n = 0 then .high else .low }
  | 2 => { c with debounce := n }
  | 3 => { c with report := n != 0 }
  | 4 => { c with wake := n != 0 }
  | _ => c

/-- One user pattern. -/
def pokePattern (field n : Nat) (p : Pattern) : Pattern :=
  match field with
  | 1 => { p with tone := n }
  | 2 => { p with onTime := n }
  | 3 => { p with gap := n }
  | 4 => { p with repeats := n }
  | 5 => { p with priority := n }
  | _ => p

/-- CHIMES: fields 1 to 5 are USER1's, 6 to 10 USER2's. -/
def pokeUser (w : FieldWrite) (c : Settings) : Settings :=
  let n := natOf w.value
  if w.field ≤ 5 then { c with user := tset c.user 0 (pokePattern w.field n (tget c.user 0)) }
  else { c with user := tset c.user 1 (pokePattern (w.field - 5) n (tget c.user 1)) }

/-- REST_PROFILE. -/
def pokeProfile (w : FieldWrite) (p : RestProfile) : RestProfile :=
  let n := natOf w.value
  match w.field with
  | 1 => { p with driveLimit := n }
  | 2 => { p with wDrive := n }
  | 3 => { p with breakTotal := n }
  | 4 => { p with segMin := n }
  | 5 => { p with stopConfirm := n }
  | 6 => { p with tRest := n }
  | 7 => { p with tS1 := n }
  | 8 => { p with tS2 := n }
  | 9 => { p with endWarn := n }
  | 10 => { p with prewarm := n != 0 }
  | 11 => { p with lead := n }
  | 12 => { p with wakeSetpoint := n }
  | 13 => { p with wakeScene := w.value.map Int.toNat }
  | 14 => { p with starterGuard := n }
  | _ => p

/-- The settings of a record with one field set. -/
def pokeSettings (r : Nat) (w : FieldWrite) (c : Settings) : Settings :=
  let n := natOf w.value
  match r with
  | 3 => { c with battery := pokeBattery w c.battery }
  | 5 => pokeConsumers w c
  | 7 => { c with demands := pokeDemands w c.demands }
  | 8 => { c with chan := pokeChannels w c.chan }
  | 10 => { c with thresholds := setElem c.thresholds w.elem fun _ => n }
  | 11 => { c with heaterSet := pokeHeaterSet w c.heaterSet }
  | 12 => { c with heaterTune := pokeHeaterTune w c.heaterTune }
  | 14 => { c with fridgeSet := pokeFridgeSet w c.fridgeSet }
  | 16 => { c with ventLimit := n }
  | 17 => { c with socketLimit := setElem c.socketLimit w.elem fun _ => n }
  | 18 => { c with lights := pokeLightSet w c.lights }
  | 19 => { c with scenes := setElem c.scenes w.elem (pokeScene w.field w.value) }
  | 20 => { c with keymap := setElem c.keymap w.elem (pokeKey w.field n) }
  | 21 => { c with panel := pokePanelSet w c.panel }
  | 22 => { c with contacts := setElem c.contacts w.elem (pokeContact w.field n) }
  | 23 => pokeUser w c
  | 24 => { c with profile := pokeProfile w c.profile }
  | _ => c

/-- One field of a schedule entry set (R158). -/
def pokeEntry (w : FieldWrite) (e : SchedEntry) : SchedEntry :=
  let n := natOf w.value
  match w.field with
  | 2 => { e with time := n }
  | 3 => { e with daily := n != 0 }
  | 4 => { e with action := (actionOf n).getD e.action }
  | 5 => { e with state := if n = 0 then .armed else .disabled }
  | _ => e

/-- A record with one field set. -/
def poke (r : Nat) (s : State) (w : FieldWrite) : State :=
  if r = 16 ∧ w.field = 1 then withFc (fun f => { f with ventSpeed := natOf w.value }) s
  else if r = 17 ∧ w.field = 1 then
    withGa (fun g => { g with sockets := setElem g.sockets w.elem fun e => { e with on := natOf w.value != 0 } }) s
  else if r = 18 ∧ w.field = 1 then
    withLc (fun l => { l with chan := setElem l.chan w.elem fun c => { c with target := natOf w.value } }) s
  else if r = 26 then withSu (fun u => { u with slots := setElem u.slots w.elem (Option.map (pokeEntry w)) }) s
  else { s with cfg := pokeSettings r w s.cfg }

/-- Whether a field id is among those written. -/
def names (field : Nat) (ws : List FieldWrite) : Bool := ws.any fun w => w.field == field

/-- A written entry that stood DONE or SKIPPED is armed, where its state is not written (R158) (log entry 32: DESIGN CHOICE). -/
def rearm (ws : List FieldWrite) (e : SchedEntry) : SchedEntry :=
  if (e.state = .done ∨ e.state = .skipped) ∧ names 5 ws = false then { e with state := .armed } else e

/-- Every named field set at once (log entry 32: DESIGN CHOICE). -/
def pokeAll (r : Nat) (ws : List FieldWrite) (s : State) : State :=
  let s1 := ws.foldl (poke r) s
  if r = 26 then
    withSu (fun u => { u with
      slots := ws.foldl (fun v w => setElem v w.elem (Option.map (rearm ws))) u.slots }) s1
  else s1

/-! ### STRICT conditions over several fields (R21, R46, R126, R166) -/

/-- Whether a list of numbers rises strictly. -/
def risesStrictly : List Nat → Bool
  | a :: b :: rest => decide (a < b) && risesStrictly (b :: rest)
  | _ => true

/-- The demand orderings (R46). -/
def demandsOrdered (d : Demands) : Bool :=
  risesStrictly [d.low, d.mid, d.high] && risesStrictly d.fridge.toList && risesStrictly d.vent.toList
    && decide (d.ventDmin ≤ d.ventD)

/-- A keymap entry's parameter in its action's set; where the action takes none, any number of its field's range
(R126) (log entry 38: DESIGN CHOICE). -/
def keyEntryOk (e : KeyEntry) : Bool :=
  match e.action with
  | .lightToggle | .lightUp | .lightDown => decide (e.param ≤ 1)
  | .scene => decide (1 ≤ e.param) && decide (e.param ≤ 8)
  | _ => true

/-- The STRICT conditions of a record as an operation would leave it. -/
def conditionsMet (r : Nat) (s : State) : Bool :=
  match r with
  | 3 => risesStrictly s.cfg.battery.ocv.toList && decide (s.cfg.battery.vCut < s.cfg.battery.vLow)
  | 7 => demandsOrdered s.cfg.demands
  | 20 => s.cfg.keymap.toList.all keyEntryOk
  | _ => true

/-! ### Judgement (R168) -/

/-- Whether some field is named twice. -/
def namedTwice : List FieldWrite → Bool
  | [] => false
  | w :: ws => (ws.any fun x => x.field == w.field && x.elem == w.elem) || namedTwice ws

/-- The SCHEDULE slots named (log entry 32: DESIGN CHOICE). -/
def slotsNamed (ws : List FieldWrite) : List Nat := (ws.filterMap (·.elem)).dedup

/-- The checks on a SCHEDULE slot: not free, and not the REST-origin entry's (log entry 32: DESIGN CHOICE). -/
def scheduleRefusal (s : State) (ws : List FieldWrite) : Option Status :=
  match slotsNamed ws with
  | [] => none
  | [k] =>
    match (s.su.slots.toList[k]?).join with
    | none => some .range
    | some e => if e.rest then some .owned else none
  | _ => some .range

/-- The first checks of R168, in their order: the record, the fields and elements, the SCHEDULE slot, and whether the
record and its fields may be written by this operation. -/
def placeRefusal (s : State) (r : Nat) (ws : List FieldWrite) : Option Status :=
  if (recordView s r).isNone then some .unknownRecord
  else
    let slots := ws.map fun w => slotAt s r w.field w.elem
    if slots.any (·.isNone) || namedTwice ws then some .range
    else
      match (if r = 26 then scheduleRefusal s ws else none) with
      | some st => some st
      | none =>
        if readOnlyRecords.contains r || r == 25 || (slots.filterMap id).any (fun x => !x.field.wr) then some .readOnly
        else none

/-- The judgement of an operation's values: refused with a status, or the fields as taken and whether any was clamped. -/
inductive Verdict where
  | refuse (st : Status)
  | take (ws : List FieldWrite) (clamped : Bool)
deriving DecidableEq, Repr

/-- One more field judged. -/
def judgeOne (s : State) (r : Nat) (v : Verdict) (w : FieldWrite) : Verdict :=
  match v with
  | .refuse st => .refuse st
  | .take ws clamped =>
    match (slotAt s r w.field w.elem).bind fun x => judgeSlot r x w.value with
    | some (val, c) => .take (ws ++ [{ w with value := val }]) (clamped || c)
    | none => .refuse .range

/-- The last check of R168: every STRICT field, and every STRICT condition on the record as the operation would leave
it. -/
def judgeValues (s : State) (r : Nat) (ws : List FieldWrite) : Verdict :=
  match ws.foldl (judgeOne s r) (.take [] false) with
  | .refuse st => .refuse st
  | .take taken clamped => if conditionsMet r (pokeAll r taken s) then .take taken clamped else .refuse .range

/-! ### Applying (R173, R174) -/

/-- What a record's owner does with an accepted change from `old`, the fields written being `ws`; where one SOCKETS write
switches both sockets, SOCKET A's request is handed before SOCKET B's (log entries 9, 20 and 32: DESIGN CHOICE). -/
def ownerEffect (r : Nat) (old : State) (ws : List FieldWrite) (s : State) : State :=
  match r with
  | 3 => batteryEffect old.cfg.battery s
  | 5 => consumersEffect old.cfg s
  | 7 => demandsEffect s
  | 8 => channelsEffect old.cfg.chan s
  | 10 => tripsEffect old.cfg.thresholds s
  | 11 => if names 3 ws then withHc (fun h => { h with frostHold := none }) s else s
  | 14 => fridgeSetEffect old.cfg.fridgeSet s.cfg.fridgeSet s
  | 16 =>
    let s1 := ventEffect old.fc.ventSpeed s
    if names 2 ws then ventLimitEffect s1 else s1
  | 17 =>
    socketEffect .b (tget old.ga.sockets 1).on (tget old.cfg.socketLimit 1)
      (socketEffect .a (tget old.ga.sockets 0).on (tget old.cfg.socketLimit 0) s)
  | 18 => lightsWritten (targetsOf old) s
  | 21 => if old.cfg.panel.mode = s.cfg.panel.mode then s else panelModeEffect s
  | 22 => contactsEffect old.cfg.contacts s
  | 24 => profileEffect old.cfg.profile s
  | 26 => fireDue s
  | _ => s

/-- One operation on the record of an id (R174) (log entry 14: DESIGN CHOICE). -/
def operateRecord (r : Nat) (f : State → State) (s : State) : State :=
  if h : 1 ≤ r ∧ r ≤ 26 then operate ⟨r - 1, by omega⟩ f s else f s

/-- The owner of the record of an id takes a change of it: one update of the record more where that changes its content again and
no event within has advanced it already, as the wake does for what it fires (R174, R189) (log entry 14: DESIGN CHOICE). -/
def ownerTakes (r : Nat) (f : State → State) (s : State) : State :=
  if h : 1 ≤ r ∧ r ≤ 26 then ownerEvent [⟨r - 1, by omega⟩] f s else f s

/-- An accepted operation: the content is changed and the revision advanced, the reply is formed with `data` after the
revision, and then the owner takes the change, where the operation changed content (R173); a field written to the value it
holds makes none of its own (log entry 32: DESIGN CHOICE). -/
def accept (r : Nat) (ws : List FieldWrite) (st : Status) (data : List Byte) (s : State) : State :=
  let s1 := operateRecord r (pokeAll r ws) s
  let s2 := answer st (revByte s1 r :: data) s1
  if recordView s r = recordView s1 r then s2 else ownerTakes r (ownerEffect r s ws) s2

/-- A refused operation: its status and the revision (R168, R185). -/
def refuse (r : Nat) (st : Status) (s : State) : State := answer st [revByte s r] s

/-- The status of an accepted operation. -/
def acceptedStatus (clamped : Bool) : Status := if clamped then .clamped else .ok

/-- FIELD WRITE (R170) (log entry 34: DESIGN CHOICE). One that names no field is accepted with OK and changes nothing, and is
refused with READ_ONLY on a record that takes no FIELD WRITE (log entry 32: DESIGN CHOICE). -/
def fieldWriteOp (r : Nat) (ws : List FieldWrite) (s : State) : State :=
  match placeRefusal s r ws with
  | some st => refuse r st s
  | none =>
    match judgeValues s r ws with
    | .refuse st => refuse r st s
    | .take taken clamped => accept r taken (acceptedStatus clamped) [] s

/-- Whether ADJUST applies to a field: an integer, or an optional one that is present (R171). A set of values is an integer of
those values, and a byte that packs flags or codes is one as well; KEYMAP's report set is an enumeration
(log entry 32: DESIGN CHOICE). -/
def adjustable (f : Field) : Bool :=
  match f.ty with
  | .int _ _ _ | .opt _ _ _ | .oneOf _ => f.val.isSome
  | .raw w => decide (w ≤ 4) && f.val.isSome
  | .flag | .enum _ | .optEnum _ => false

/-- A field's bytes with another value. -/
def valueBytes (x : Slot) (v : Option Int) : List Byte := fieldBytes { x.field with val := v }

/-- ADJUST (R171). -/
def adjustOp (r field : Nat) (elem : Option Nat) (delta : Int) (s : State) : State :=
  match slotAt s r field elem with
  | none => refuse r (if (recordView s r).isNone then .unknownRecord else .range) s
  | some x =>
    if !(adjustable x.field) || decide (delta < -32768) || decide (32767 < delta) then refuse r .range s
    else
      let old := x.field.val.getD 0
      let w : FieldWrite := ⟨field, elem, some (old + delta)⟩
      match placeRefusal s r [w] with
      | some st => refuse r st s
      | none =>
        match judgeValues s r [w] with
        | .refuse st => refuse r st s
        | .take taken clamped =>
          let new := (taken.head?.bind (·.value)).getD old
          accept r (if new = old then [] else taken) (acceptedStatus clamped)
            (valueBytes x (some old) ++ valueBytes x (some new) ++ [byte (bit clamped 0)]) s

/-- An operation that the PI makes for key `k`: judged, applied and counted as a host's, its status goes back to the PI, and the host
gets no answer (R127, R175) (log entry 39: DESIGN CHOICE). -/
def panelOperation (k : Fin 16) (op : State → State) (s : State) : State :=
  let t := op s
  dimEnded k ((t.answer.map (·.status)).getD .ok) { t with answer := s.answer }

/-- ADJUST, the host's or the PI's (R171, R175). -/
def adjustFor (record : AdjustRecord) (field : Nat) (elem : Option Nat) (delta : Int) (s : State) : State :=
  match record with
  | .host r => adjustOp r field elem delta s
  | .panel k r => panelOperation k (adjustOp r field elem delta) s

/-- EXCHANGE (R172). -/
def exchangeOp (r field : Nat) (elem : Option Nat) (value : Option Int) (s : State) : State :=
  let w : FieldWrite := ⟨field, elem, value⟩
  match placeRefusal s r [w], slotAt s r field elem with
  | some st, _ => refuse r st s
  | none, none => refuse r .range s
  | none, some x =>
    match judgeValues s r [w] with
    | .refuse st => refuse r st s
    | .take taken clamped => accept r taken (acceptedStatus clamped) (valueBytes x x.field.val) s

/-- COMPARE-WRITE (R172). The expected value is compared as the number sent: an expected flag of 2 to 255, or an expected SCHEDULE
action with unused bytes other than 0, equals no value held (log entry 32: DESIGN CHOICE). -/
def compareOp (r field : Nat) (elem : Option Nat) (expected value : Option Int) (s : State) : State :=
  let w : FieldWrite := ⟨field, elem, value⟩
  match placeRefusal s r [w], slotAt s r field elem with
  | some st, _ => refuse r st s
  | none, none => refuse r .range s
  | none, some x =>
    if x.field.val = expected then
      match judgeValues s r [w] with
      | .refuse st => refuse r st s
      | .take taken clamped =>
        accept r taken (acceptedStatus clamped) (valueBytes x x.field.val ++ [byte (bit clamped 0 + 2)]) s
    else answer .ok (revByte s r :: (valueBytes x x.field.val ++ [0])) s

/-! ### PUT (R151, R169) -/

/-- The fields a PUT of a record, or of one element, carries, in their order; a SCHEDULE slot's in that of its layout, the action
last, behind the state (R169, R185) (log entry 32: DESIGN CHOICE). -/
def putSlots (s : State) (r : Nat) (elem : Option Nat) : List Slot :=
  let xs := (recordSlots s r).filter fun x => x.field.wr && (elem.isNone || x.elem == elem)
  if r = 26 then xs.filter (fun x => x.id != 4) ++ xs.filter (fun x => x.id == 4) else xs

/-- The present lengths of a record's lists. -/
def listLengths (items : List Item) : List Nat :=
  items.filterMap fun i =>
    match i with
    | .group rows => some rows.length
    | .rows entries => some entries.length
    | .one _ | .more _ => none

/-- Whether a PUT names an element where its record needs one, within its list (R168), and none elsewhere (R169). One on a read-only
record may name none, or an index within a list of the record, and is refused by its access then (log entry 32: DESIGN CHOICE). -/
def putElementOk (s : State) (r : Nat) (elem : Option Nat) : Bool :=
  if elementRecords.contains r then elem.isSome && (recordSlots s r).any (fun x => x.elem == elem)
  else if readOnlyRecords.contains r then
    elem.all fun n => (listLengths ((recordView s r).getD [])).any fun len => decide (n < len)
  else elem.isNone

/-- Whether an expected revision is given and differs from the record's. -/
def revisionMissed (s : State) (r : Nat) (expected : Option Nat) : Bool :=
  match expected with
  | some e => e != (s.rev.toList[r - 1]?).getD 0
  | none => false

/-- A REST_STATE restore (R151): refused with STATE, MISMATCH or RANGE, in this order; an accepted one makes all of R151's steps, one
whose values equal those held as well, whose replacement changes nothing and advances no revision (R169)
(log entry 33: DESIGN CHOICE). -/
def restPut (expected : Option Nat) (drive acc : Nat) (log : List RestSpan) (s : State) : State :=
  let missed := revisionMissed s 25 expected
  match restoreRefusal s drive acc log with
  | some .state => refuse 25 .state s
  | some st => refuse 25 (if missed then .mismatch else st) s
  | none =>
    if missed then refuse 25 .mismatch s
    else
      let s1 := operate 24 (restoreContent drive acc log) s
      operate 24 restoreEffect (answer .ok [revByte s1 25] s1)

/-- The segments a restore's values carry: a start and an end, or absent, for each. -/
def spansOf : List (Option Int) → Option (List RestSpan)
  | [] => some []
  | some a :: b :: rest => (spansOf rest).map fun segs => ⟨a, b⟩ :: segs
  | _ => none

/-- A restore by its values: the drive counter, the accumulator, then the segments. A negative counter is out of its range,
as 1,000,000 is (log entry 33: DESIGN CHOICE). -/
def restPutValues (expected : Option Nat) (values : List (Option Int)) (s : State) : State :=
  match values with
  | some drive :: some acc :: rest =>
    match spansOf rest with
    | some log =>
      if drive < 0 ∨ acc < 0 then restPut expected 1000000 0 [] s else restPut expected drive.toNat acc.toNat log s
    | none => refuse 25 .badLength s
  | _ => refuse 25 .badLength s

/-- PUT (R169), judged in the order of R168: the element before the access (log entry 32: DESIGN CHOICE). -/
def putOp (r : Nat) (elem expected : Option Nat) (values : List (Option Int)) (s : State) : State :=
  if (recordView s r).isNone then refuse r .unknownRecord s
  else if !(putElementOk s r elem) then refuse r .range s
  else if readOnlyRecords.contains r then refuse r .readOnly s
  else if r = 25 then restPutValues expected values s
  else
    let slots := putSlots s r elem
    if values.length ≠ slots.length then refuse r .badLength s
    else
      let ws : List FieldWrite := List.zipWith (fun (x : Slot) v => ⟨x.id, x.elem, v⟩) slots values
      match placeRefusal s r ws with
      | some st => refuse r st s
      | none =>
        if revisionMissed s r expected then refuse r .mismatch s
        else
          match judgeValues s r ws with
          | .refuse st => refuse r st s
          | .take taken clamped => accept r taken (acceptedStatus clamped) [] s

/-! ### GET (R167, R184, R185) -/

/-- A field's bytes in a GET of its record: REST_STATE's drive counter travels in 3 (R184). -/
def shownBytes (r : Nat) (x : Slot) : List Byte :=
  if r = 25 ∧ x.id = 5 then leBytes 3 (x.field.val.getD 0) else fieldBytes x.field

/-- A record's fields outside its lists, in their order. -/
def singleBytes (r : Nat) (items : List Item) : List Byte :=
  ((slotsFrom 1 items).filter fun x => x.elem.isNone).flatMap (shownBytes r)

/-- The entries of a fixed list with the further fields that the record lists later. -/
def withMore (items : List Item) (rows : List (List Field)) : List (List Field) :=
  items.foldl (fun acc i => match i with | .more m => List.zipWith (· ++ ·) acc m | _ => acc) rows

/-- The entries of the record's list that has further fields. -/
def mainRows (items : List Item) : List (List Field) :=
  (items.findSome? fun i => match i with | .group rows => some rows | _ => none).getD []

/-- The entries of the list a field id names, of the record's items `items`. -/
def listAt (items : List Item) : Nat → List Item → Nat → Option (List (List Field))
  | _, [], _ => none
  | id, .one _ :: rest, l => listAt items (id + 1) rest l
  | id, .group rows :: rest, l =>
    if id ≤ l ∧ l < id + rowWidth rows then some (withMore items rows) else listAt items (id + rowWidth rows) rest l
  | id, .more rows :: rest, l =>
    if id ≤ l ∧ l < id + rowWidth rows then some (withMore items (mainRows items))
    else listAt items (id + rowWidth rows) rest l
  | id, .rows entries :: rest, l => if l = id then some entries else listAt items (id + 1) rest l

/-- A log time as an age in 3 bytes, 0xFFFFFF where absent (R184); an age that does not fit is sent modulo 2^24, and one of
16,777,215 s reads as absent (log entry 31: DESIGN CHOICE). -/
def ageBytes (cab : Nat) (f : Field) : List Byte :=
  leBytes 3 (match f.val with | some t => (cab : Int) - t | none => 16777215)

/-- One entry's bytes: SCHEDULE sends its state before its action, REST_STATE its log times as ages (R184, R185). -/
def entryBytes (r cab : Nat) (entry : List Field) : List Byte :=
  match r, entry with
  | 26, [origin, time, rep, action, state, last] => [origin, time, rep, state, action, last].flatMap fieldBytes
  | 25, start :: stop :: rest => ageBytes cab start ++ ageBytes cab stop ++ rest.flatMap fieldBytes
  | _, fs => fs.flatMap fieldBytes

/-- As many whole entries as fit in the bytes left (log entry 31: DESIGN CHOICE). -/
def fitEntries : Nat → List (List Byte) → List (List Byte)
  | _, [] => []
  | room, e :: es => if e.length ≤ room then e :: fitEntries (room - e.length) es else []

/-- The bytes a GET reply has for its entries: 60 less CTRL, TAG, KIND, the status, the revision and the three numbers
(log entry 31: DESIGN CHOICE). -/
def entryRoom : Nat := 52

/-- GET (R167); a list field id that names no list of the record is refused with RANGE (log entry 31: DESIGN CHOICE). -/
def getOp (r list start count : Nat) (s : State) : State :=
  match recordView s r with
  | none => refuse r .unknownRecord s
  | some items =>
    if list = 0 then answer .ok (revByte s r :: singleBytes r items) s
    else
      match listAt items 1 items list with
      | none => refuse r .range s
      | some entries =>
        if entries.length < start then refuse r .range s
        else
          let got := fitEntries entryRoom (((entries.drop start).take count).map (entryBytes r (cabTime s)))
          answer .ok
            (revByte s r :: byte entries.length :: byte start :: byte got.length :: got.flatMap id) s

end Sys2Proof.Machine
end

