-- ==== Sys2Proof/Machine/LinkOps.lean ====
section
/-! DEFINITION. The Link Controller's operations (R176 to R185): the receiver, the receive queue, the taking and answering of
requests, the notice queue and ATTN. -/

namespace Sys2Proof.Machine

/-- The LK's state with its fields changed. -/
def withLk (f : LinkUnit → LinkUnit) (s : State) : State := { s with lk := f s.lk }

/-! ### Notices (R181, R182, R183) -/

/-- The coalescing kinds (R181). -/
def coalesces : NoticeKind → Bool
  | .shedLevel | .keysWaiting | .heaterState | .linkOverrun => true
  | _ => false

/-- A posting as a notice, with the UNSET flag and the cab time of its arrival (log entry 30: DESIGN CHOICE). -/
def noticeOf (s : State) (p : Posting) : Notice :=
  ⟨p.kind, p.source, p.severity, p.uncertain, stampNow s, p.data⟩

/-- A queued notice with a further posting of its kind and source: LINK_OVERRUN's counts add up, held at 255 (R178,
R181). -/
def coalesced (old new : Notice) : Notice :=
  if new.kind = .linkOverrun then { new with data := [byte (min 255 (ofLe old.data + ofLe new.data))] } else new

/-- The severity of the entry a full queue gives up: INFO, else ATTENTION, else WARNING. -/
def evictedSeverity (q : List Notice) : Severity :=
  if q.any fun n => n.severity == .info then .info
  else if q.any fun n => n.severity == .attention then .attention
  else .warning

/-- The queue less the oldest entry of the severity it gives up. -/
def evictNotice (q : List Notice) : List Notice := q.eraseP fun n => n.severity == evictedSeverity q

/-- A posting at the LK (R181) (log entry 30: DESIGN CHOICE). -/
def queueNotice (p : Posting) (s : State) : State :=
  let n := noticeOf s p
  let same (x : Notice) : Bool := x.kind == n.kind && x.source == n.source
  if coalesces p.kind && s.lk.notices.any same then
    withLk (fun l => { l with notices := l.notices.map fun x => if same x then coalesced x n else x }) s
  else if s.lk.notices.length < 16 then withLk (fun l => { l with notices := l.notices ++ [n] }) s
  else withLk (fun l => { l with notices := evictNotice l.notices ++ [n], overflow := true }) s

/-- A notice entry on the link (R185). -/
def noticeBytes (n : Notice) : List Byte :=
  [byte (noticeCode n.kind), byte (sourceCode n.source),
   byte (severityCode n.severity + bit n.uncertain 6 + bit n.stamp.unset 7), byte n.data.length]
  ++ leBytes 4 (n.stamp.cab : Int) ++ (n.data ++ [0, 0, 0]).take 3

/-- FETCH NOTICES and its answer (R182) (log entry 29: DESIGN CHOICE). -/
def fetch (s : State) : State :=
  let taken := s.lk.notices.take 4
  let left := s.lk.notices.drop 4
  answer (if taken = [] then .empty else .ok)
    (byte (bit s.lk.overflow 0) :: byte taken.length :: byte left.length :: taken.flatMap noticeBytes)
    (withLk (fun l => { l with notices := left, overflow := false }) s)

/-- ATTN is asserted while the notice queue is not empty and no 50 µs release is running (R183), and off while the part is held
in reset (R190) (log entries 30 and 36: DESIGN CHOICE). -/
def attnAsserted (s : State) : Bool := s.mc.supply == .running && !s.lk.notices.isEmpty && !s.lk.pulse

/-! ### The receiver (R176, R177, R178) -/

/-- The LK takes the next request at the first event at which none is in hand and a frame is queued (R179)
(log entry 28: DESIGN CHOICE). -/
def nextRequest (s : State) : State :=
  if s.lk.inHand.isNone && !s.lk.queue.isEmpty then raise .requestTake s else s

/-- A complete frame: a reply frame is discarded, a request joins the queue, or is discarded with LINK_OVERRUN
(log entry 28: DESIGN CHOICE). -/
def frameComplete (body : List Byte) (s : State) : State :=
  if (body.headD 0).getLsbD 1 then s
  else if s.lk.queue.length < 4 then nextRequest (withLk (fun l => { l with queue := l.queue ++ [body] }) s)
  else post .linkOverrun .lk .attention [1] s

/-- A received byte (R176); in STANDBY the receiver is stopped and the byte discarded (R177). -/
def receive (b : Byte) (s : State) : State :=
  if s.mc.mode = .standby then s
  else
    match s.lk.rx with
    | .hunt => if b = 0xC3 then withLk (fun l => { l with rx := .length }) s else s
    | .length =>
      let n := b.toNat
      withLk (fun l => { l with rx := if 3 ≤ n ∧ n ≤ 60 then .body n [] else .skip }) s
    | .body len got =>
      let got1 := got ++ [b]
      withLk (fun l => { l with rx := if len ≤ got1.length then .check len got1 else .body len got1 }) s
    | .check len got =>
      let s1 := withLk (fun l => { l with rx := .hunt }) s
      if b = crc8 (byte len :: got) then frameComplete got s1 else s1
    | .skip => s

/-- A gap above 5 ms: a frame begun is discarded, and the receiver hunts (R176). -/
def rxGap (s : State) : State := withLk (fun l => { l with rx := .hunt }) s

/-- A link break (R176, R178). -/
def linkBroken (s : State) : State := withLk (fun l => { l with rx := .skip, queue := [] }) s

/-! ### Requests (R179, R185) -/

/-- A payload whose length does not fit its kind: the status alone is answered, to a record operation's frame as well, which
never reaches the RMG (R168, R179, R185) (log entry 29: DESIGN CHOICE). -/
def badLength (s : State) : State := answer .badLength [] s

/-- An element byte: 0xFF names none (R185). -/
def elemOf (b : Byte) : Option Nat := if b = 0xFF then none else some b.toNat

/-- The type, and with it the width, of a field id of a record, where the id names a field with one. A list of varying length has
none, so the length of a payload that names its id is left unjudged, as for an unknown id (R179), and the Record Manager refuses
the operation with RANGE (R168, R170, R172) (log entry 29: DESIGN CHOICE). -/
def fieldTypeAt (slots : List Slot) (id : Nat) : Option FieldType := (slots.find? fun x => x.id == id).map (·.field.ty)

/-- What a payload that follows the fields it names comes to: a command's operands, a length that does not fit, or a length
left unjudged, which the Record Manager's checks refuse. -/
inductive Parsed (α : Type) where
  | fits (a : α)
  | bad
  | unjudged (a : α)
deriving Repr

/-- The fields of a FIELD WRITE payload, with what was read so far. -/
def parseFields (slots : List Slot) : Nat → List Byte → List FieldWrite → Parsed (List FieldWrite)
  | _, [], acc => .fits acc
  | 0, _ :: _, _ => .bad
  | fuel + 1, bs, acc =>
    match bs with
    | id :: elem :: rest =>
      match fieldTypeAt slots id.toNat with
      | none => .unjudged (acc ++ [⟨id.toNat, elemOf elem, none⟩])
      | some ty =>
        if rest.length < fieldWidth ty then .bad
        else
          let w : FieldWrite := ⟨id.toNat, elemOf elem, fieldOfBytes ty (rest.take (fieldWidth ty))⟩
          parseFields slots fuel (rest.drop (fieldWidth ty)) (acc ++ [w])
    | [id] =>
      match fieldTypeAt slots id.toNat with
      | none => .unjudged (acc ++ [⟨id.toNat, none, none⟩])
      | some _ => .bad
    | [] => .fits acc

/-- FIELD WRITE from its payload. -/
def serveFieldWrite (p : List Byte) (s : State) : State :=
  match p with
  | r :: rest =>
    if (recordView s r.toNat).isNone then fieldWriteOp r.toNat [] s
    else
      match parseFields (recordSlots s r.toNat) rest.length rest [] with
      | .fits ws => fieldWriteOp r.toNat ws s
      | .unjudged ws => fieldWriteOp r.toNat ws s
      | .bad => badLength s
  | [] => badLength s

/-- The values of a PUT payload by the types of its fields. -/
def parseValues : List FieldType → List Byte → Option (List (Option Int))
  | [], [] => some []
  | [], _ :: _ => none
  | ty :: tys, bs =>
    if bs.length < fieldWidth ty then none
    else (parseValues tys (bs.drop (fieldWidth ty))).map (fieldOfBytes ty (bs.take (fieldWidth ty)) :: ·)

/-- The segments of a restore's payload, 6 bytes each, their ages turned into cab times (R184) (log entry 33: DESIGN CHOICE). -/
def parseAges (cab : Nat) : Nat → List Byte → Option (List RestSpan)
  | _, [] => some []
  | 0, _ :: _ => none
  | fuel + 1, bs =>
    if bs.length < 6 then none
    else
      let start := ofLe (bs.take 3)
      let stop := ofLe ((bs.drop 3).take 3)
      (parseAges cab fuel (bs.drop 6)).map
        (⟨(cab : Int) - start, if stop = 16777215 then none else some ((cab : Int) - stop)⟩ :: ·)

/-- The values of a PUT's payload, whose length follows from the widths of the record's writable fields, or of one element's, the
same for every element (R169, R184). -/
def putValues (s : State) (id : Nat) (elem : Option Nat) (vals : List Byte) : Option (List (Option Int)) :=
  let e := if elementRecords.contains id then (if putElementOk s id elem then elem else some 0) else none
  parseValues ((putSlots s id e).map (·.field.ty)) vals

/-- PUT from its payload: an unknown record's length is left unjudged (R179) (log entry 29: DESIGN CHOICE), and any expected-revision
flag byte other than 0 says that the revision is given (R185) (log entry 29: DESIGN CHOICE). -/
def servePut (p : List Byte) (s : State) : State :=
  match p with
  | [] => badLength s
  | r :: rest =>
    let id := r.toNat
    if (recordView s id).isNone then putOp id none none [] s
    else
      match rest with
      | elem :: flag :: rev :: vals =>
        let e := elemOf elem
        let expected := if flag = 0 then none else some rev.toNat
        if readOnlyRecords.contains id then putOp id e expected [] s
        else if id = 25 then
          match parseAges (cabTime s) 8 (vals.drop 5) with
          | some log =>
            if vals.length < 5 then badLength s
            else if e.isSome then putOp id e expected [] s
            else restPut expected (ofLe (vals.take 3)) (ofLe ((vals.drop 3).take 2)) log s
          | none => badLength s
        else
          match putValues s id e vals with
          | some values => putOp id e expected values s
          | none => badLength s
      | _ => badLength s

/-- EXCHANGE or COMPARE-WRITE, `both` telling the latter, of one field from the bytes after its header. -/
def serveValue (both : Bool) (id f : Nat) (e : Option Nat) (ty : FieldType) (rest : List Byte) (s : State) : State :=
  let w := fieldWidth ty
  if both then
    (if rest.length = 2 * w then
      compareOp id f e (fieldOfBytes ty (rest.take w)) (fieldOfBytes ty (rest.drop w)) s
    else badLength s)
  else if rest.length = w then exchangeOp id f e (fieldOfBytes ty rest) s
  else badLength s

/-- EXCHANGE and COMPARE-WRITE from their payloads; where the record or the field is unknown, the length is left unjudged, and
the Record Manager's checks refuse the operation (R179). -/
def serveOneField (both : Bool) (p : List Byte) (s : State) : State :=
  match p with
  | [] => badLength s
  | r :: rest =>
    let id := r.toNat
    if (recordView s id).isNone then exchangeOp id 0 none none s
    else
      match rest with
      | [] => badLength s
      | field :: tail =>
        match fieldTypeAt (recordSlots s id) field.toNat with
        | none => exchangeOp id field.toNat ((tail.head?).bind elemOf) none s
        | some ty =>
          match tail with
          | elem :: vals => serveValue both id field.toNat (elemOf elem) ty vals s
          | [] => badLength s

/-- ADJUST from its payload, which has five bytes (R185). -/
def serveAdjust (p : List Byte) (s : State) : State :=
  match p with
  | [r, field, elem, d0, d1] => adjustOp r.toNat field.toNat (elemOf elem) (ofLeSigned [d0, d1]) s
  | _ => badLength s

/-- A HEAT START duration or a HEAT_START entry's: 0xFFFF is absent (R185). -/
def durationOf (bs : List Byte) : Option Nat := if ofLe bs = 65535 then none else some (ofLe bs)

/-- HEAT START and its answer (R65). -/
def heatStartRequest (setpoint : Nat) (duration : Option Nat) (s : State) : State :=
  let r := heaterStart (some setpoint) duration s
  answer r.2 [] r.1

/-- FRIDGE BOOST and its answer (R92). -/
def boostRequest (on : Bool) (s : State) : State :=
  if on then (let r := boostStart s; answer r.2 [] r.1) else answer .ok [] (boostStop s)

/-- A request whose status alone is its answer. -/
def answerWith (r : State × Status) : State := answer r.2 [] r.1

/-- CLEAR KEYS and its answer (R125). -/
def clearKeys (s : State) : State := answer .ok [] (withPn (fun u => { u with queue := [], overrun := false }) s)

/-- ADD ENTRY from its payload: the parameters' length follows from the action's code, and a HEAT_START setpoint is read
unsigned (R185) (log entry 29: DESIGN CHOICE). -/
def serveAddEntry (p : List Byte) (s : State) : State :=
  match p with
  | t0 :: t1 :: t2 :: t3 :: rep :: state :: code :: params =>
    let time := ofLe [t0, t1, t2, t3]
    let add (a : Option Action) : State := addEntry time rep.toNat state.toNat a s
    match code.toNat, params with
    | 1, [a, b, c, d] => add (some (.heatStart (ofLe [a, b]) (durationOf [c, d])))
    | 2, [] => add (some .heatStop)
    | 3, [n] => add (some (.scene n.toNat))
    | 4, [n] => add (some (.chime n.toNat))
    | 5, [] => add (some .fridgeBoost)
    | 6, [n] => add (some (.vent n.toNat))
    | c, _ => if 1 ≤ c ∧ c ≤ 6 then badLength s else add none
  | _ => badLength s

/-- A request without a payload. -/
def bare (p : List Byte) (f : State → State) (s : State) : State := if p = [] then f s else badLength s

/-- A request with one payload byte. -/
def oneByte (p : List Byte) (f : Nat → State → State) (s : State) : State :=
  match p with
  | [b] => f b.toNat s
  | _ => badLength s

/-- A switch byte: 1 on, 0 off; another value is refused with RANGE (R185) (log entry 29: DESIGN CHOICE). -/
def onOff (f : Bool → State → State) (n : Nat) (s : State) : State :=
  if n = 0 then f false s else if n = 1 then f true s else answer .range [] s

/-- A taken request handed to its target, which answers (R179); SAVE SETTINGS leaves its answer to the end of the write.
HEAT START's setpoint is read unsigned (R185) (log entry 29: DESIGN CHOICE). -/
def serve (quiet : Bool) (kind : Nat) (p : List Byte) (s : State) : State :=
  match kind with
  | 0x01 =>
    match p with
    | [r, l, st, n] => getOp r.toNat l.toNat st.toNat n.toNat s
    | _ => badLength s
  | 0x02 => servePut p s
  | 0x03 => serveFieldWrite p s
  | 0x04 => serveAdjust p s
  | 0x05 => serveOneField false p s
  | 0x06 => serveOneField true p s
  | 0x10 => bare p fetch s
  | 0x11 => bare p readKeys s
  | 0x12 => bare p clearKeys s
  | 0x20 => oneByte p (setHostMark · true) s
  | 0x21 => oneByte p (setHostMark · false) s
  | 0x22 => oneByte p clearTrip s
  | 0x30 =>
    match p with
    | [a, b, c, d] => heatStartRequest (ofLe [a, b]) (durationOf [c, d]) s
    | _ => badLength s
  | 0x31 => bare p (fun s => answer .ok [] (heaterStop s)) s
  | 0x32 => oneByte p (onOff heatVent) s
  | 0x33 => bare p clearLockout s
  | 0x38 => oneByte p (onOff boostRequest) s
  | 0x39 => bare p (fun s => answer .ok [] (fridgeClearFault s)) s
  | 0x40 => oneByte p (fun n s => answerWith (sceneRequest n s)) s
  | 0x48 => oneByte p (fun n s => answerWith (chimeStatus n s)) s
  | 0x49 => bare p (fun s => answer .ok [] (stopChimes s)) s
  | 0x50 => bare p (fun s => answerWith (declareRest s)) s
  | 0x51 => bare p (fun s => answerWith (endRest s)) s
  | 0x58 =>
    match p with
    | [a, b, c, d] => setClock (ofLe [a, b, c, d]) s
    | _ => badLength s
  | 0x59 => serveAddEntry p s
  | 0x5A => oneByte p removeEntry s
  | 0x60 => bare p standby s
  | 0x61 => bare p (restart quiet) s
  | 0x62 => bare p saveSettings s
  | _ => answer .unknownKind [] s

/-! ### Replies (R179, R180) -/

/-- A reply frame: the reply flag set, TAG and KIND echoed, the status first in its payload (R179, R185)
(log entry 28: DESIGN CHOICE). -/
def replyFrame (tag kind : Byte) (a : Answer) : List Byte :=
  let body : List Byte := [2, tag, kind, byte (statusCode a.status)] ++ a.data
  let checked := byte body.length :: body
  0xC3 :: (checked ++ [crc8 checked])

/-- The kinds that are always answered: GET, READ KEYS and FETCH NOTICES (R180) (log entry 28: DESIGN CHOICE). -/
def alwaysAnswered (kind : Byte) : Bool := kind == 0x01 || kind == 0x11 || kind == 0x10

/-- The request in hand has ended. -/
def endRequest (s : State) : State := nextRequest (withLk (fun l => { l with inHand := none }) s)

/-- The target has answered the request in hand: its reply begins, or, where it is quiet, it ends with nothing or with
QUIET_ERROR (R179, R180) (log entries 8 and 28: DESIGN CHOICE). -/
def deliver (s : State) : State :=
  match s.lk.inHand, s.answer with
  | some h, some a =>
    if h.reply.isSome then s
    else if h.quiet && !(alwaysAnswered h.kind) then
      let s1 := if accepted a.status then s
        else post .quietError .lk .attention [h.kind, byte (statusCode a.status)] s
      endRequest s1
    else withLk (fun l => { l with inHand := some { h with reply := some (replyFrame h.tag h.kind a) } }) s
  | _, _ => s

/-- The LK takes the oldest queued frame, where no request is in hand, and hands it to its target (R179)
(log entries 1, 8 and 28: DESIGN CHOICE). -/
def takeRequest (s : State) : State :=
  match s.lk.inHand, s.lk.queue with
  | none, (ctrl :: tag :: kind :: payload) :: rest =>
    let quiet := ctrl.getLsbD 0
    let s1 := { withLk (fun l => { l with queue := rest, inHand := some ⟨tag, kind, quiet, none⟩ }) s with answer := none }
    deliver (serve (quiet && !(alwaysAnswered kind)) kind.toNat payload s1)
  | none, _ :: rest => nextRequest (withLk (fun l => { l with queue := rest }) s)
  | _, _ => s

/-- The request in hand whose reply has been sent: a FETCH reply's ATTN pulse begins, and the request ends (R179, R183). -/
def replyEnded (s : State) : State :=
  match s.lk.inHand with
  | some h =>
    if h.reply.isSome then endRequest (if h.kind = 0x10 then withLk (fun l => { l with pulse := true }) s else s) else s
  | none => s

/-- The last byte of a reply has been sent: the silence time is 0, and an accepted RESTART waits for the store alone (R187,
R193) (log entries 23 and 30: DEDUCED and DESIGN CHOICE). -/
def replySent (s : State) : State :=
  replyEnded (withMc (fun m => { m with
    silence := 0
    restart := if m.restart = .reply then .store else m.restart }) s)

/-- The end of the 50 µs release (R183). -/
def pulseOver (s : State) : State := withLk (fun l => { l with pulse := false }) s

/-- A store write is complete; the save in hand is answered (R179, R192) (log entry 23: DEDUCED). -/
def storeWritten (part : StorePart) (s : State) : State :=
  match part with
  | .settings =>
    if s.mc.saving.isNone then s
    else
      let s1 := settingsWritten s
      match s1.lk.inHand with
      | some h => if h.kind = 0x62 then deliver s1 else s1
      | none => s1
  | .heater => heaterWritten s

end Sys2Proof.Machine
end

