-- ==== Sys2Proof/Machine/Clock.lean ====
section
/-! DEFINITION. The meanings of the commands of the Mode Controller and the clocks: supply, resets, the tick, STANDBY, RESTART, SAVE SETTINGS and the start bit. -/

namespace Sys2Proof.Machine

/-- SUPPLY_CHANGE (R190): taken by a running part and by one held in reset. -/
def execSupplyChange (mv : Nat) (s : State) : Host.Outcome State Fault Refusal := .next (supplyAt mv s)

/-- POWER_ON_RESET (R190, R191) (log entry 26: DESIGN CHOICE). -/
def execPowerOnReset (s : State) : Host.Outcome State Fault Refusal := .next (powerOn s)

/-- ELAPSED_TICK (R154). -/
def execElapsedTick (s : State) : Host.Outcome State Fault Refusal :=
  event .elapsedTick tick s

/-- STANDBY (R188). -/
def execStandby (s : State) : Host.Outcome State Fault Refusal :=
  event .standby standby s

/-- RESTART (R193). -/
def execRestart (quiet : Bool) (s : State) : Host.Outcome State Fault Refusal :=
  resettingEvent (.restart quiet) (restart quiet) s

/-- SAVE_SETTINGS (R192). -/
def execSaveSettings (s : State) : Host.Outcome State Fault Refusal :=
  event .saveSettings saveSettings s

/-- STORE_WRITE_DONE (R192, R193). -/
def execStoreWriteDone (part : StorePart) (s : State) : Host.Outcome State Fault Refusal :=
  resettingEvent (.storeWriteDone part) (storeWritten part) s

/-- RX_START_BIT (R187). -/
def execRxStartBit (s : State) : Host.Outcome State Fault Refusal :=
  event .rxStartBit startBit s

end Sys2Proof.Machine
end

