-- ==== Sys2Proof/Machine/Fridge.lean ====
section
/-! DEFINITION. The meanings of the commands of the Fridge Controller and the roof vent. -/

namespace Sys2Proof.Machine

/-- An expiry that acts in one fridge state alone. -/
def inFridge (st : FridgeState) (f : State → State) (s : State) : State := if s.fc.state = st then f s else s

/-- The boost end is reached (R92). -/
def boostOver (s : State) : State :=
  match s.fc.boostEnd with
  | some e => if e ≤ s.su.elapsed then boostStop s else s
  | none => s

/-- The vent's run end is reached (R104). -/
def ventRunReached (s : State) : State :=
  match s.fc.ventRunEnd with
  | some e => if e ≤ s.su.elapsed then ventRunOut s else s
  | none => s

/-- FRIDGE_GRANT_REPORT (R97, R98, R102). -/
def execFridgeGrantReport (grant : Nat) (st : ConsumerState) (s : State) : Host.Outcome State Fault Refusal :=
  event (.fridgeGrantReport grant st) (fridgeGrant grant) s

/-- STALL (R100, R101): whatever the outcome. -/
def execStall (o : TripOutcome) (s : State) : Host.Outcome State Fault Refusal :=
  event (.stall o) fridgeStall s

/-- FRIDGE_LEVEL_CHANGE (R92). -/
def execFridgeLevelChange (level : ShedLevel) (s : State) : Host.Outcome State Fault Refusal :=
  event (.fridgeLevelChange level) (withFc fun f => { f with level := level }) s

/-- TF_STALE_EXPIRY (R93, R102) (log entry 18: DESIGN CHOICE). -/
def execTfStaleExpiry (s : State) : Host.Outcome State Fault Refusal :=
  event .tfStaleExpiry (fun s => if s.fc.reading = .pending ∧ statusOf s .tf = .stale then tfLost s else s) s

/-- FRIDGE_BOOST (R92). -/
def execFridgeBoost (on : Bool) (s : State) : Host.Outcome State Fault Refusal :=
  event (.fridgeBoost on) (boostRequest on) s

/-- BOOST_END (R92). -/
def execBoostEnd (s : State) : Host.Outcome State Fault Refusal :=
  event .boostEnd boostOver s

/-- CLEAR_FAULT (R101). -/
def execClearFault (s : State) : Host.Outcome State Fault Refusal :=
  event .clearFault (fun s => answer .ok [] (fridgeClearFault s)) s

/-- WAIT_OFF_END (R95, R96) (log entry 4: DESIGN CHOICE). -/
def execWaitOffEnd (s : State) : Host.Outcome State Fault Refusal :=
  event .waitOffEnd (inFridge .waitOff waitOffEnd) s

/-- SOFT_START_END (R97). -/
def execSoftStartEnd (s : State) : Host.Outcome State Fault Refusal :=
  event .softStartEnd (inFridge .start fun s => if s.fc.phase.isSome then softStartEnd s else s) s

/-- MIN_ON_TIME_END (R95, R99); while the reading is PENDING nothing is decided (R93) (log entry 19: DEDUCED). -/
def execMinOnTimeEnd (s : State) : Host.Outcome State Fault Refusal :=
  event .minOnTimeEnd (inFridge .run fun s => if s.fc.satisfied && s.fc.reading == .reading then thermostatStop s else s) s

/-- STALL_WAIT_END (R100). -/
def execStallWaitEnd (s : State) : Host.Outcome State Fault Refusal :=
  event .stallWaitEnd (inFridge .stallWait stallWaitEnd) s

/-- STALL_LOG_EXPIRY (R100): in every state but FAULT. -/
def execStallLogExpiry (s : State) : Host.Outcome State Fault Refusal :=
  event .stallLogExpiry (fun s => if s.fc.state = .fault then s else withFc (fun f => { f with stallLog := f.stallLog.tail }) s) s

/-- FALLBACK_ON_END (R102). -/
def execFallbackOnEnd (s : State) : Host.Outcome State Fault Refusal :=
  event .fallbackOnEnd (inFridge .fallbackOn fun s => toFallbackOff (commandOff s)) s

/-- FALLBACK_OFF_END (R102). -/
def execFallbackOffEnd (s : State) : Host.Outcome State Fault Refusal :=
  event .fallbackOffEnd (inFridge .fallbackOff (toFallbackOn true)) s

/-- FDOOR_HANDING (R103). -/
def execFdoorHanding (st : ContactState) (s : State) : Host.Outcome State Fault Refusal :=
  event (.fdoorHanding st) (fridgeDoor st) s

/-- DOOR_TIMER_EXPIRY (R103). -/
def execDoorTimerExpiry (s : State) : Host.Outcome State Fault Refusal :=
  event .doorTimerExpiry doorAlert s

/-- VENT_RUN_END (R104). -/
def execVentRunEnd (s : State) : Host.Outcome State Fault Refusal :=
  event .ventRunEnd ventRunReached s

/-- VENT_GRANT_REPORT (R104). -/
def execVentGrantReport (grant : Nat) (st : ConsumerState) (s : State) : Host.Outcome State Fault Refusal :=
  event (.ventGrantReport grant st) (ventGrantIn grant) s

end Sys2Proof.Machine
end

