-- ==== Sys2Proof/Machine/Grant.lean ====
section
/-! DEFINITION. The meanings of the commands of the Grant Arbiter. -/

namespace Sys2Proof.Machine

/-- BUDGET_REPORT (R48). -/
def execBudgetReport (r : BudgetReport) (s : State) : Host.Outcome State Fault Refusal :=
  event (.budgetReport r) (fun s => pass s (withGa (fun g => { g with report := r }) s)) s

/-- PLACE_REQUEST (R45). -/
def execPlaceRequest (c : Consumer) (r : Request) (s : State) : Host.Outcome State Fault Refusal :=
  event (.placeRequest c r) (setRequest c r) s

/-- CHANGE_REQUEST (R45). -/
def execChangeRequest (c : Consumer) (r : Request) (s : State) : Host.Outcome State Fault Refusal :=
  event (.changeRequest c r) (setRequest c r) s

/-- WITHDRAW_REQUEST (R42, R45). -/
def execWithdrawRequest (c : Consumer) (s : State) : Host.Outcome State Fault Refusal :=
  event (.withdrawRequest c) (withdraw c) s

/-- CLASS_OVERRIDE (R41). -/
def execClassOverride (on : Bool) (s : State) : Host.Outcome State Fault Refusal :=
  event (.classOverride on) (setOverride on) s

/-- TRIP_REPORT (R56, R57, R59). -/
def execTripReport (r : TripReport) (s : State) : Host.Outcome State Fault Refusal :=
  event (.tripReport r) (takeTrip r.comparator) s

/-- RETRY_TIMER_EXPIRY (R58) (log entry 4: DESIGN CHOICE). -/
def execRetryTimerExpiry (c : Consumer) (s : State) : Host.Outcome State Fault Refusal :=
  event (.retryTimerExpiry c) (retryOver c) s

/-- TRIP_WINDOW_EXPIRY (R57). -/
def execTripWindowExpiry (c : Consumer) (s : State) : Host.Outcome State Fault Refusal :=
  event (.tripWindowExpiry c) (windowOver c) s

/-- CLEAR_TRIP (R59). -/
def execClearTrip (id : Nat) (s : State) : Host.Outcome State Fault Refusal :=
  event (.clearTrip id) (clearTrip id) s

/-- SOCKET_RUN_LIMIT_EXPIRY (R47). -/
def execSocketRunLimitExpiry (k : Socket) (s : State) : Host.Outcome State Fault Refusal :=
  event (.socketRunLimitExpiry k) (socketRunOut k) s

end Sys2Proof.Machine
end

