-- ==== Sys2Proof/Machine/Heater.lean ====
section
/-! DEFINITION. The meanings of the commands of the Heater Controller. -/

namespace Sys2Proof.Machine

/-- An expiry that acts in one heater state alone. -/
def inHeater (st : HeaterState) (f : State → State) (s : State) : State := if s.hc.state = st then f s else s

/-- HEATER_GRANT_REPORT (R67 to R74). -/
def execHeaterGrantReport (grant : Nat) (st : ConsumerState) (s : State) : Host.Outcome State Fault Refusal :=
  event (.heaterGrantReport grant st) (heaterGrant grant) s

/-- HEATER_TRIP_REPORT (R67 to R71, R80). -/
def execHeaterTripReport (c : Comparator) (o : TripOutcome) (s : State) : Host.Outcome State Fault Refusal :=
  event (.heaterTripReport c o) (heaterTrip c) s

/-- HEATER_LEVEL_CHANGE (R36, R65). -/
def execHeaterLevelChange (level : ShedLevel) (s : State) : Host.Outcome State Fault Refusal :=
  event (.heaterLevelChange level) (withHc fun h => { h with level := level }) s

/-- HEAT_START (R65). -/
def execHeatStart (setpoint : Nat) (duration : Option Nat) (s : State) : Host.Outcome State Fault Refusal :=
  event (.heatStart setpoint duration) (heatStartRequest setpoint duration) s

/-- HEAT_STOP (R66). -/
def execHeatStop (s : State) : Host.Outcome State Fault Refusal :=
  event .heatStop (fun s => answer .ok [] (heaterStop s)) s

/-- HEAT_VENT (R86). -/
def execHeatVent (on : Bool) (s : State) : Host.Outcome State Fault Refusal :=
  event (.heatVent on) (heatVent on) s

/-- CLEAR_LOCKOUT (R85). -/
def execClearLockout (s : State) : Host.Outcome State Fault Refusal :=
  event .clearLockout clearLockout s

/-- WAIT_POWER_TIMEOUT (R67). -/
def execWaitPowerTimeout (s : State) : Host.Outcome State Fault Refusal :=
  event .waitPowerTimeout (inHeater .waitPower (offWith .noPower)) s

/-- GLOW_TEST (R68). -/
def execGlowTest (s : State) : Host.Outcome State Fault Refusal :=
  event .glowTest glowTest s

/-- CHECK_PHASE_END (R68, R69) (log entry 4: DESIGN CHOICE). -/
def execCheckPhaseEnd (s : State) : Host.Outcome State Fault Refusal :=
  event .checkPhaseEnd (inHeater .check toPreheat) s

/-- PREHEAT_POWER_TIMEOUT (R69): the power timer stops at the START grant. -/
def execPreheatPowerTimeout (s : State) : Host.Outcome State Fault Refusal :=
  event .preheatPowerTimeout (inHeater .preheat fun s => if s.hc.power.isSome then offWith .noPower s else s) s

/-- PREHEAT_PHASE_END (R69): the phase timer runs from the START grant. -/
def execPreheatPhaseEnd (s : State) : Host.Outcome State Fault Refusal :=
  event .preheatPhaseEnd (inHeater .preheat fun s => if s.hc.phase.isSome then toPrime s else s) s

/-- PRIME_PHASE_END (R72). -/
def execPrimePhaseEnd (s : State) : Host.Outcome State Fault Refusal :=
  event .primePhaseEnd (inHeater .prime toIgnite) s

/-- IGNITE_LIMIT_EXPIRY (R72). -/
def execIgniteLimitExpiry (s : State) : Host.Outcome State Fault Refusal :=
  event .igniteLimitExpiry (inHeater .ignite attemptFailed) s

/-- STABILIZE_PHASE_END (R73). -/
def execStabilizePhaseEnd (s : State) : Host.Outcome State Fault Refusal :=
  event .stabilizePhaseEnd (inHeater .stabilize toRun) s

/-- DURATION_EXPIRY (R66). -/
def execDurationExpiry (s : State) : Host.Outcome State Fault Refusal :=
  event .durationExpiry durationStop s

/-- PURGE_END (R78): the 120 s expiry (log entry 4: DESIGN CHOICE). -/
def execPurgeEnd (s : State) : Host.Outcome State Fault Refusal :=
  event .purgeEnd (inHeater .purge fun s => if txCool s then purgeEnd s else s) s

/-- PURGE_HOT_TIMEOUT (R78). -/
def execPurgeHotTimeout (s : State) : Host.Outcome State Fault Refusal :=
  event .purgeHotTimeout purgeHot s

/-- DRY_COOL_TIMEOUT (R81). -/
def execDryCoolTimeout (s : State) : Host.Outcome State Fault Refusal :=
  event .dryCoolTimeout (inHeater .dryCool toLockout) s

/-- BLOWER_STEP (R79, R80) (log entry 4: DESIGN CHOICE). -/
def execBlowerStep (s : State) : Host.Outcome State Fault Refusal :=
  event .blowerStep blowerStep s

/-- STROKE_START (R82, R83): while the generator runs (log entry 4: DESIGN CHOICE). -/
def execStrokeStart (s : State) : Host.Outcome State Fault Refusal :=
  event .strokeStart (fun s => if s.hc.stroke.isSome then strokeAt s else s) s

/-- STROKE_PULSE_END (R82) (log entry 36: DESIGN CHOICE). -/
def execStrokePulseEnd (s : State) : Host.Outcome State Fault Refusal :=
  event .strokePulseEnd (withHc fun h => { h with pulse := false }) s

end Sys2Proof.Machine
end

