-- ==== Sys2Proof/Machine/Light.lean ====
section
/-! DEFINITION. The meanings of the commands of the Light Controller. -/

namespace Sys2Proof.Machine

/-- LIGHT_GRANT_REPORT (R112). -/
def execLightGrantReport (g : Group) (grant : Nat) (st : ConsumerState) (s : State) : Host.Outcome State Fault Refusal :=
  event (.lightGrantReport g grant st) (lightsGrant g grant) s

/-- LIGHT_TRIP_REPORT (R114). -/
def execLightTripReport (g : Group) (o : TripOutcome) (s : State) : Host.Outcome State Fault Refusal :=
  event (.lightTripReport g o) (lightsTrip g (some o)) s

/-- LIGHT_LEVEL_CHANGE (R113). -/
def execLightLevelChange (level : ShedLevel) (s : State) : Host.Outcome State Fault Refusal :=
  event (.lightLevelChange level) (lightsLevel level) s

/-- FADE_STEP (R110). -/
def execFadeStep (ch : Fin 6) (s : State) : Host.Outcome State Fault Refusal :=
  event (.fadeStep ch) (fadeStep ch) s

/-- LIGHT_SCENE (R115). -/
def execLightScene (n : Nat) (s : State) : Host.Outcome State Fault Refusal :=
  event (.lightScene n) (fun s => answerWith (sceneRequest n s)) s

/-- CDOOR_HANDING (R117). -/
def execCdoorHanding (st : ContactState) (s : State) : Host.Outcome State Fault Refusal :=
  event (.cdoorHanding st) (lightsDoor st) s

/-- ENTRY_TIMER_EXPIRY (R118). -/
def execEntryTimerExpiry (s : State) : Host.Outcome State Fault Refusal :=
  event .entryTimerExpiry entryTimeout s

end Sys2Proof.Machine
end

