-- ==== Sys2Proof/Machine/Link.lean ====
section
/-! DEFINITION. The meanings of the commands of the Link Controller. -/

namespace Sys2Proof.Machine

/-- RX_BYTE (R176, R177, R178). -/
def execRxByte (b : Byte) (s : State) : Host.Outcome State Fault Refusal :=
  event (.rxByte b) (receive b) s

/-- RX_GAP_TIMEOUT (R176). -/
def execRxGapTimeout (s : State) : Host.Outcome State Fault Refusal :=
  event .rxGapTimeout rxGap s

/-- LINK_BREAK (R176, R178). -/
def execLinkBreak (s : State) : Host.Outcome State Fault Refusal :=
  event .linkBreak linkBroken s

/-- RXD_WAKE_EDGE (R177, R189). -/
def execRxdWakeEdge (s : State) : Host.Outcome State Fault Refusal :=
  event .rxdWakeEdge wakeEdge s

/-- REQUEST_TAKE (R179, R180). -/
def execRequestTake (s : State) : Host.Outcome State Fault Refusal :=
  resettingEvent .requestTake takeRequest s

/-- REPLY_SENT (R179, R183, R187, R193). -/
def execReplySent (s : State) : Host.Outcome State Fault Refusal :=
  resettingEvent .replySent replySent s

/-- NOTICE_POST (R181). -/
def execNoticePost (p : Posting) (s : State) : Host.Outcome State Fault Refusal :=
  event (.noticePost p) (queueNotice p) s

/-- FETCH_NOTICES (R182). -/
def execFetchNotices (s : State) : Host.Outcome State Fault Refusal :=
  event .fetchNotices fetch s

/-- ATTN_PULSE_END (R183) (log entry 36: DESIGN CHOICE). -/
def execAttnPulseEnd (s : State) : Host.Outcome State Fault Refusal :=
  event .attnPulseEnd pulseOver s

end Sys2Proof.Machine
end

