-- ==== Sys2Proof/Machine/Measure.lean ====
section
/-! DEFINITION. The meanings of the commands of the Measurement Unit. -/

namespace Sys2Proof.Machine

/-- SCAN_START (R2). -/
def execScanStart (s : State) : Host.Outcome State Fault Refusal :=
  event .scanStart startScan s

/-- CONVERSION (R4 to R8, R10, R11). -/
def execConversion (ch : Channel) (code : Nat) (s : State) : Host.Outcome State Fault Refusal :=
  event (.conversion ch code) (convert ch code) s

/-- SUSPECT_CHANNEL (R9). -/
def execSuspectChannel (channel : Nat) (s : State) : Host.Outcome State Fault Refusal :=
  event (.suspectChannel channel) (setHostMark channel true) s

/-- CLEAR_SUSPECT (R9). -/
def execClearSuspect (channel : Nat) (s : State) : Host.Outcome State Fault Refusal :=
  event (.clearSuspect channel) (setHostMark channel false) s

/-- CURRENT_RISE (R14). -/
def execCurrentRise (c : Comparator) (ma : Nat) (s : State) : Host.Outcome State Fault Refusal :=
  event (.currentRise c ma) (currentRises c ma) s

/-- CURRENT_FALL (R14). -/
def execCurrentFall (c : Comparator) (ma : Nat) (s : State) : Host.Outcome State Fault Refusal :=
  event (.currentFall c ma) (currentFalls c ma) s

/-- BLANKING_EXPIRY (R14). -/
def execBlankingExpiry (c : Comparator) (s : State) : Host.Outcome State Fault Refusal :=
  event (.blankingExpiry c) (blankingOver c) s

/-- QUALIFY_EXPIRY (R14, R16). -/
def execQualifyExpiry (c : Comparator) (s : State) : Host.Outcome State Fault Refusal :=
  event (.qualifyExpiry c) (qualifyOver c) s

/-- LOAD_CURRENT_READING (R17). -/
def execLoadCurrentReading (r : LoadMeans) (s : State) : Host.Outcome State Fault Refusal :=
  event (.loadCurrentReading r) (loadReading r) s

/-- TACH_EDGE (R18, R19). -/
def execTachEdge (us : Nat) (s : State) : Host.Outcome State Fault Refusal :=
  event (.tachEdge us) (withMu fun m => { m with tach := tachEdge us m.tach }) s

/-- TACH_TIMEOUT (R19). -/
def execTachTimeout (s : State) : Host.Outcome State Fault Refusal :=
  event .tachTimeout (withMu fun m => { m with tach := ⟨none, none, 0⟩ }) s

end Sys2Proof.Machine
end

