-- ==== Sys2Proof/Machine/Panel.lean ====
section
/-! DEFINITION. The meanings of the commands of the Panel Interface. -/

namespace Sys2Proof.Machine

/-- KEY_SCAN (R121 to R127). -/
def execKeyScan (reads : BitVec 16) (s : State) : Host.Outcome State Fault Refusal :=
  event (.keyScan reads) (keyScan reads) s

/-- HOLD_TIMER_EXPIRY (R124). -/
def execHoldTimerExpiry (k : Fin 16) (s : State) : Host.Outcome State Fault Refusal :=
  event (.holdTimerExpiry k) (holdOver k) s

/-- COLUMN_WAKE_EDGE (R121, R189). -/
def execColumnWakeEdge (s : State) : Host.Outcome State Fault Refusal :=
  event .columnWakeEdge wakeEdge s

/-- READ_KEYS (R125). -/
def execReadKeys (s : State) : Host.Outcome State Fault Refusal :=
  event .readKeys readKeys s

/-- CLEAR_KEYS (R125). -/
def execClearKeys (s : State) : Host.Outcome State Fault Refusal :=
  event .clearKeys clearKeys s

/-- CONTACT_INPUT_CHANGE (R128); in a part held in reset the input alone moves (R190) (log entry 12: DESIGN CHOICE). -/
def execContactInputChange (c : Contact) (l : LineLevel) (s : State) : Host.Outcome State Fault Refusal :=
  match s.mc.supply with
  | .held _ => .next (pinInReset c l s)
  | .running => event (.contactInputChange c l) (contactInput c l) s

/-- DEBOUNCE_EXPIRY (R128, R129) (log entry 4: DESIGN CHOICE). -/
def execDebounceExpiry (c : Contact) (s : State) : Host.Outcome State Fault Refusal :=
  event (.debounceExpiry c) (debounceOver c) s

/-- CHIME_REQUEST (R130). -/
def execChimeRequest (pattern : Fin 10) (s : State) : Host.Outcome State Fault Refusal :=
  event (.chimeRequest pattern) (fun s => (judgeChime pattern s).1) s

/-- PLAY_CHIME (R130). -/
def execPlayChime (pattern : Nat) (s : State) : Host.Outcome State Fault Refusal :=
  event (.playChime pattern) (fun s => answerWith (chimeStatus pattern s)) s

/-- SILENCE_CHIME (R131). -/
def execSilenceChime (s : State) : Host.Outcome State Fault Refusal :=
  event .silenceChime (fun s => answer .ok [] (stopChimes s)) s

/-- CHIME_PHASE_END (R131). -/
def execChimePhaseEnd (s : State) : Host.Outcome State Fault Refusal :=
  event .chimePhaseEnd chimePhase s

/-- PANEL_GRANT_REPORT (R131, R132). -/
def execPanelGrantReport (grant : Nat) (st : ConsumerState) (s : State) : Host.Outcome State Fault Refusal :=
  event (.panelGrantReport grant st) (panelGrant grant) s

end Sys2Proof.Machine
end

