-- ==== Sys2Proof/Machine/Record.lean ====
section
/-! DEFINITION. The meanings of the commands of the Record Manager: the six record operations, and the writes of each record. -/

namespace Sys2Proof.Machine

/-- The ids of the records with no behaviour of their own at a write (R165) (log entry 34: DESIGN CHOICE). -/
def plainId : PlainRecord → Nat
  | .heaterTune => 12
  | .scenes => 19
  | .keymap => 20
  | .chimes => 23

/-- GET (R167). -/
def execGet (record : Nat) (list : Nat) (start : Nat) (count : Nat) (s : State) : Host.Outcome State Fault Refusal :=
  event (.get record list start count) (getOp record list start count) s

/-- PUT (R169). -/
def execPut (record : Nat) (elem : Option Nat) (expected : Option Nat) (values : List (Option Int)) (s : State) : Host.Outcome State Fault Refusal :=
  event (.put record elem expected values) (putOp record elem expected values) s

/-- FIELD_WRITE (R170). -/
def execFieldWrite (record : Nat) (ws : List FieldWrite) (s : State) : Host.Outcome State Fault Refusal :=
  event (.fieldWrite record ws) (fieldWriteOp record ws) s

/-- ADJUST (R171), the host's or the PI's (R116, R175). -/
def execAdjust (record : AdjustRecord) (field : Nat) (elem : Option Nat) (delta : Int) (s : State) :
    Host.Outcome State Fault Refusal :=
  event (.adjust record field elem delta) (adjustFor record field elem delta) s

/-- EXCHANGE (R172). -/
def execExchange (record : Nat) (field : Nat) (elem : Option Nat) (value : Option Int) (s : State) : Host.Outcome State Fault Refusal :=
  event (.exchange record field elem value) (exchangeOp record field elem value) s

/-- COMPARE_WRITE (R172). -/
def execCompareWrite (record : Nat) (field : Nat) (elem : Option Nat) (expected : Option Int) (value : Option Int) (s : State) : Host.Outcome State Fault Refusal :=
  event (.compareWrite record field elem expected value) (compareOp record field elem expected value) s

/-- BATTERY_WRITE (R21, R22): a FIELD WRITE of record 3 (log entry 34: DESIGN CHOICE). -/
def execBatteryWrite (ws : List FieldWrite) (s : State) : Host.Outcome State Fault Refusal :=
  event (.batteryWrite ws) (fieldWriteOp 3 ws) s

/-- CHANNELS_WRITE (R3, R12): a FIELD WRITE of record 8. -/
def execChannelsWrite (ws : List FieldWrite) (s : State) : Host.Outcome State Fault Refusal :=
  event (.channelsWrite ws) (fieldWriteOp 8 ws) s

/-- TRIPS_WRITE (R13, R14): a FIELD WRITE of record 10. -/
def execTripsWrite (ws : List FieldWrite) (s : State) : Host.Outcome State Fault Refusal :=
  event (.tripsWrite ws) (fieldWriteOp 10 ws) s

/-- CONSUMERS_WRITE (R41, R42, R43, R60): a FIELD WRITE of record 5. -/
def execConsumersWrite (ws : List FieldWrite) (s : State) : Host.Outcome State Fault Refusal :=
  event (.consumersWrite ws) (fieldWriteOp 5 ws) s

/-- DEMANDS_WRITE (R46): a FIELD WRITE of record 7. -/
def execDemandsWrite (ws : List FieldWrite) (s : State) : Host.Outcome State Fault Refusal :=
  event (.demandsWrite ws) (fieldWriteOp 7 ws) s

/-- SOCKETS_WRITE (R47): a FIELD WRITE of record 17. -/
def execSocketsWrite (ws : List FieldWrite) (s : State) : Host.Outcome State Fault Refusal :=
  event (.socketsWrite ws) (fieldWriteOp 17 ws) s

/-- HEATER_SET_WRITE (R64, R87): a FIELD WRITE of record 11. -/
def execHeaterSetWrite (ws : List FieldWrite) (s : State) : Host.Outcome State Fault Refusal :=
  event (.heaterSetWrite ws) (fieldWriteOp 11 ws) s

/-- FRIDGE_SET_WRITE (R91, R95, R96, R103): a FIELD WRITE of record 14. -/
def execFridgeSetWrite (ws : List FieldWrite) (s : State) : Host.Outcome State Fault Refusal :=
  event (.fridgeSetWrite ws) (fieldWriteOp 14 ws) s

/-- VENT_WRITE (R104): a FIELD WRITE of record 16. -/
def execVentWrite (ws : List FieldWrite) (s : State) : Host.Outcome State Fault Refusal :=
  event (.ventWrite ws) (fieldWriteOp 16 ws) s

/-- LIGHTS_WRITE (R108, R109): a FIELD WRITE of record 18. -/
def execLightsWrite (ws : List FieldWrite) (s : State) : Host.Outcome State Fault Refusal :=
  event (.lightsWrite ws) (fieldWriteOp 18 ws) s

/-- PANEL_WRITE (R123, R133): a FIELD WRITE of record 21. -/
def execPanelWrite (ws : List FieldWrite) (s : State) : Host.Outcome State Fault Refusal :=
  event (.panelWrite ws) (fieldWriteOp 21 ws) s

/-- CONTACTS_WRITE (R129): a FIELD WRITE of record 22. -/
def execContactsWrite (ws : List FieldWrite) (s : State) : Host.Outcome State Fault Refusal :=
  event (.contactsWrite ws) (fieldWriteOp 22 ws) s

/-- REST_PROFILE_WRITE (R135, R141, R142, R144, R146, R148): a FIELD WRITE of record 24. -/
def execRestProfileWrite (ws : List FieldWrite) (s : State) : Host.Outcome State Fault Refusal :=
  event (.restProfileWrite ws) (fieldWriteOp 24 ws) s

/-- REST_STATE_PUT (R151). -/
def execRestStatePut (drive : Nat) (acc : Nat) (log : List RestSpan) (s : State) : Host.Outcome State Fault Refusal :=
  event (.restStatePut drive acc log) (restPut none drive acc log) s

/-- SCHEDULE_WRITE (R158): a FIELD WRITE of record 26. -/
def execScheduleWrite (ws : List FieldWrite) (s : State) : Host.Outcome State Fault Refusal :=
  event (.scheduleWrite ws) (fieldWriteOp 26 ws) s

/-- RECORD_WRITE (R64, R115, R126, R130). -/
def execRecordWrite (r : PlainRecord) (ws : List FieldWrite) (s : State) : Host.Outcome State Fault Refusal :=
  event (.recordWrite r ws) (fieldWriteOp (plainId r) ws) s

end Sys2Proof.Machine
end

