-- ==== Sys2Proof/Machine/Rest.lean ====
section
/-! DEFINITION. The meanings of the commands of the Rest Monitor. -/

namespace Sys2Proof.Machine

/-- The limit repeat timer's expiry: the DRIVE_LIMIT chime, and the next 300 s (R140). -/
def limitRepeats (s : State) : State :=
  if s.rm.state = .driving ∧ s.rm.repeatTimer.isSome then
    chime 5 (withRm (fun r => { r with repeatTimer := some (s.su.elapsed + 300) }) s)
  else s

/-- The cab time has reached the planned end in RESTING (R145). -/
def plannedEndNow (s : State) : State :=
  match s.rm.state, s.rm.plannedEnd with
  | .resting, some e => if e ≤ cabTime s then plannedReached s else s
  | _, _ => s

/-- The cab time has reached the armed end-soon time in RESTING (R146). -/
def endSoonNow (s : State) : State :=
  match s.rm.state, s.rm.endSoon with
  | .resting, some t => if t ≤ cabTime s ∧ s.rm.endSoonRaised = false then raiseEndSoon s else s
  | _, _ => s

/-- MOVE_HANDING (R136). -/
def execMoveHanding (st : ContactState) (s : State) : Host.Outcome State Fault Refusal :=
  event (.moveHanding st) (restMove st) s

/-- IGN_HANDING (R149). -/
def execIgnHanding (st : ContactState) (s : State) : Host.Outcome State Fault Refusal :=
  event (.ignHanding st) (restIgn st) s

/-- STOP_CONFIRM_EXPIRY (R136). -/
def execStopConfirmExpiry (s : State) : Host.Outcome State Fault Refusal :=
  event .stopConfirmExpiry stopConfirmed s

/-- DECLARE_REST (R137). -/
def execDeclareRest (s : State) : Host.Outcome State Fault Refusal :=
  event .declareRest (fun s => answerWith (declareRest s)) s

/-- END_REST (R137). -/
def execEndRest (s : State) : Host.Outcome State Fault Refusal :=
  event .endRest (fun s => answerWith (endRest s)) s

/-- LIMIT_REPEAT_EXPIRY (R140). -/
def execLimitRepeatExpiry (s : State) : Host.Outcome State Fault Refusal :=
  event .limitRepeatExpiry limitRepeats s

/-- PLANNED_END_REACHED (R145). -/
def execPlannedEndReached (s : State) : Host.Outcome State Fault Refusal :=
  event .plannedEndReached plannedEndNow s

/-- END_SOON_REACHED (R146). -/
def execEndSoonReached (s : State) : Host.Outcome State Fault Refusal :=
  event .endSoonReached endSoonNow s

end Sys2Proof.Machine
end

