-- ==== Sys2Proof/Machine/Schedule.lean ====
section
/-! DEFINITION. The meanings of the commands of the Schedule Unit. -/

namespace Sys2Proof.Machine

/-- SET_CLOCK (R150, R155, R162). -/
def execSetClock (time : Nat) (s : State) : Host.Outcome State Fault Refusal :=
  event (.setClock time) (setClock time) s

/-- ADD_ENTRY (R157). -/
def execAddEntry (time : Nat) (rep : Nat) (state : Nat) (action : Option Action) (s : State) : Host.Outcome State Fault Refusal :=
  event (.addEntry time rep state action) (addEntry time rep state action) s

/-- REMOVE_ENTRY (R157). -/
def execRemoveEntry (slot : Nat) (s : State) : Host.Outcome State Fault Refusal :=
  event (.removeEntry slot) (removeEntry slot) s

/-- PREWARM_ENTRY_PLACE (R148, R159). -/
def execPrewarmEntryPlace (time : Nat) (setpoint : Nat) (duration : Nat) (s : State) : Host.Outcome State Fault Refusal :=
  event (.prewarmEntryPlace time setpoint duration) (prewarmPlace time setpoint duration) s

/-- PREWARM_ENTRY_MOVE (R148, R159). -/
def execPrewarmEntryMove (time : Nat) (setpoint : Nat) (duration : Nat) (s : State) : Host.Outcome State Fault Refusal :=
  event (.prewarmEntryMove time setpoint duration) (prewarmMove time setpoint duration) s

/-- PREWARM_ENTRY_REMOVE (R148, R159). -/
def execPrewarmEntryRemove (s : State) : Host.Outcome State Fault Refusal :=
  event .prewarmEntryRemove prewarmRemove s

end Sys2Proof.Machine
end

