-- ==== Sys2Proof/Machine/Dispatch.lean ====
section
/-! DEFINITION. The one dispatch: each command of the table to its meaning. -/

namespace Sys2Proof.Machine

def exec (i : Instr) (s : State) : Host.Outcome State Fault Refusal :=
  match i with
  | .supplyChange mv => Sys2Proof.Machine.execSupplyChange mv s
  | .powerOnReset => Sys2Proof.Machine.execPowerOnReset s
  | .elapsedTick => Sys2Proof.Machine.execElapsedTick s
  | .scanStart => Sys2Proof.Machine.execScanStart s
  | .conversion ch code => Sys2Proof.Machine.execConversion ch code s
  | .suspectChannel channel => Sys2Proof.Machine.execSuspectChannel channel s
  | .clearSuspect channel => Sys2Proof.Machine.execClearSuspect channel s
  | .currentRise c ma => Sys2Proof.Machine.execCurrentRise c ma s
  | .currentFall c ma => Sys2Proof.Machine.execCurrentFall c ma s
  | .blankingExpiry c => Sys2Proof.Machine.execBlankingExpiry c s
  | .qualifyExpiry c => Sys2Proof.Machine.execQualifyExpiry c s
  | .loadCurrentReading r => Sys2Proof.Machine.execLoadCurrentReading r s
  | .tachEdge us => Sys2Proof.Machine.execTachEdge us s
  | .tachTimeout => Sys2Proof.Machine.execTachTimeout s
  | .minuteEnd => Sys2Proof.Machine.execMinuteEnd s
  | .horizonChange minutes => Sys2Proof.Machine.execHorizonChange minutes s
  | .budgetReport r => Sys2Proof.Machine.execBudgetReport r s
  | .placeRequest c r => Sys2Proof.Machine.execPlaceRequest c r s
  | .changeRequest c r => Sys2Proof.Machine.execChangeRequest c r s
  | .withdrawRequest c => Sys2Proof.Machine.execWithdrawRequest c s
  | .classOverride on => Sys2Proof.Machine.execClassOverride on s
  | .tripReport r => Sys2Proof.Machine.execTripReport r s
  | .retryTimerExpiry c => Sys2Proof.Machine.execRetryTimerExpiry c s
  | .tripWindowExpiry c => Sys2Proof.Machine.execTripWindowExpiry c s
  | .clearTrip id => Sys2Proof.Machine.execClearTrip id s
  | .socketRunLimitExpiry k => Sys2Proof.Machine.execSocketRunLimitExpiry k s
  | .heaterGrantReport grant st => Sys2Proof.Machine.execHeaterGrantReport grant st s
  | .heaterTripReport c o => Sys2Proof.Machine.execHeaterTripReport c o s
  | .heaterLevelChange level => Sys2Proof.Machine.execHeaterLevelChange level s
  | .heatStart setpoint duration => Sys2Proof.Machine.execHeatStart setpoint duration s
  | .heatStop => Sys2Proof.Machine.execHeatStop s
  | .heatVent on => Sys2Proof.Machine.execHeatVent on s
  | .clearLockout => Sys2Proof.Machine.execClearLockout s
  | .waitPowerTimeout => Sys2Proof.Machine.execWaitPowerTimeout s
  | .glowTest => Sys2Proof.Machine.execGlowTest s
  | .checkPhaseEnd => Sys2Proof.Machine.execCheckPhaseEnd s
  | .preheatPowerTimeout => Sys2Proof.Machine.execPreheatPowerTimeout s
  | .preheatPhaseEnd => Sys2Proof.Machine.execPreheatPhaseEnd s
  | .primePhaseEnd => Sys2Proof.Machine.execPrimePhaseEnd s
  | .igniteLimitExpiry => Sys2Proof.Machine.execIgniteLimitExpiry s
  | .stabilizePhaseEnd => Sys2Proof.Machine.execStabilizePhaseEnd s
  | .durationExpiry => Sys2Proof.Machine.execDurationExpiry s
  | .purgeEnd => Sys2Proof.Machine.execPurgeEnd s
  | .purgeHotTimeout => Sys2Proof.Machine.execPurgeHotTimeout s
  | .dryCoolTimeout => Sys2Proof.Machine.execDryCoolTimeout s
  | .blowerStep => Sys2Proof.Machine.execBlowerStep s
  | .strokeStart => Sys2Proof.Machine.execStrokeStart s
  | .strokePulseEnd => Sys2Proof.Machine.execStrokePulseEnd s
  | .fridgeGrantReport grant st => Sys2Proof.Machine.execFridgeGrantReport grant st s
  | .stall o => Sys2Proof.Machine.execStall o s
  | .fridgeLevelChange level => Sys2Proof.Machine.execFridgeLevelChange level s
  | .tfStaleExpiry => Sys2Proof.Machine.execTfStaleExpiry s
  | .fridgeBoost on => Sys2Proof.Machine.execFridgeBoost on s
  | .boostEnd => Sys2Proof.Machine.execBoostEnd s
  | .clearFault => Sys2Proof.Machine.execClearFault s
  | .waitOffEnd => Sys2Proof.Machine.execWaitOffEnd s
  | .softStartEnd => Sys2Proof.Machine.execSoftStartEnd s
  | .minOnTimeEnd => Sys2Proof.Machine.execMinOnTimeEnd s
  | .stallWaitEnd => Sys2Proof.Machine.execStallWaitEnd s
  | .stallLogExpiry => Sys2Proof.Machine.execStallLogExpiry s
  | .fallbackOnEnd => Sys2Proof.Machine.execFallbackOnEnd s
  | .fallbackOffEnd => Sys2Proof.Machine.execFallbackOffEnd s
  | .fdoorHanding st => Sys2Proof.Machine.execFdoorHanding st s
  | .doorTimerExpiry => Sys2Proof.Machine.execDoorTimerExpiry s
  | .ventRunEnd => Sys2Proof.Machine.execVentRunEnd s
  | .ventGrantReport grant st => Sys2Proof.Machine.execVentGrantReport grant st s
  | .lightGrantReport g grant st => Sys2Proof.Machine.execLightGrantReport g grant st s
  | .lightTripReport g o => Sys2Proof.Machine.execLightTripReport g o s
  | .lightLevelChange level => Sys2Proof.Machine.execLightLevelChange level s
  | .fadeStep ch => Sys2Proof.Machine.execFadeStep ch s
  | .lightScene n => Sys2Proof.Machine.execLightScene n s
  | .cdoorHanding st => Sys2Proof.Machine.execCdoorHanding st s
  | .entryTimerExpiry => Sys2Proof.Machine.execEntryTimerExpiry s
  | .keyScan reads => Sys2Proof.Machine.execKeyScan reads s
  | .holdTimerExpiry k => Sys2Proof.Machine.execHoldTimerExpiry k s
  | .columnWakeEdge => Sys2Proof.Machine.execColumnWakeEdge s
  | .readKeys => Sys2Proof.Machine.execReadKeys s
  | .clearKeys => Sys2Proof.Machine.execClearKeys s
  | .contactInputChange c l => Sys2Proof.Machine.execContactInputChange c l s
  | .debounceExpiry c => Sys2Proof.Machine.execDebounceExpiry c s
  | .chimeRequest pattern => Sys2Proof.Machine.execChimeRequest pattern s
  | .playChime pattern => Sys2Proof.Machine.execPlayChime pattern s
  | .silenceChime => Sys2Proof.Machine.execSilenceChime s
  | .chimePhaseEnd => Sys2Proof.Machine.execChimePhaseEnd s
  | .panelGrantReport grant st => Sys2Proof.Machine.execPanelGrantReport grant st s
  | .moveHanding st => Sys2Proof.Machine.execMoveHanding st s
  | .ignHanding st => Sys2Proof.Machine.execIgnHanding st s
  | .stopConfirmExpiry => Sys2Proof.Machine.execStopConfirmExpiry s
  | .declareRest => Sys2Proof.Machine.execDeclareRest s
  | .endRest => Sys2Proof.Machine.execEndRest s
  | .limitRepeatExpiry => Sys2Proof.Machine.execLimitRepeatExpiry s
  | .plannedEndReached => Sys2Proof.Machine.execPlannedEndReached s
  | .endSoonReached => Sys2Proof.Machine.execEndSoonReached s
  | .setClock time => Sys2Proof.Machine.execSetClock time s
  | .addEntry time rep state action => Sys2Proof.Machine.execAddEntry time rep state action s
  | .removeEntry slot => Sys2Proof.Machine.execRemoveEntry slot s
  | .prewarmEntryPlace time setpoint duration => Sys2Proof.Machine.execPrewarmEntryPlace time setpoint duration s
  | .prewarmEntryMove time setpoint duration => Sys2Proof.Machine.execPrewarmEntryMove time setpoint duration s
  | .prewarmEntryRemove => Sys2Proof.Machine.execPrewarmEntryRemove s
  | .rxByte b => Sys2Proof.Machine.execRxByte b s
  | .rxGapTimeout => Sys2Proof.Machine.execRxGapTimeout s
  | .linkBreak => Sys2Proof.Machine.execLinkBreak s
  | .rxdWakeEdge => Sys2Proof.Machine.execRxdWakeEdge s
  | .requestTake => Sys2Proof.Machine.execRequestTake s
  | .replySent => Sys2Proof.Machine.execReplySent s
  | .noticePost p => Sys2Proof.Machine.execNoticePost p s
  | .fetchNotices => Sys2Proof.Machine.execFetchNotices s
  | .attnPulseEnd => Sys2Proof.Machine.execAttnPulseEnd s
  | .get record list start count => Sys2Proof.Machine.execGet record list start count s
  | .put record elem expected values => Sys2Proof.Machine.execPut record elem expected values s
  | .fieldWrite record ws => Sys2Proof.Machine.execFieldWrite record ws s
  | .adjust record field elem delta => Sys2Proof.Machine.execAdjust record field elem delta s
  | .exchange record field elem value => Sys2Proof.Machine.execExchange record field elem value s
  | .compareWrite record field elem expected value => Sys2Proof.Machine.execCompareWrite record field elem expected value s
  | .batteryWrite ws => Sys2Proof.Machine.execBatteryWrite ws s
  | .channelsWrite ws => Sys2Proof.Machine.execChannelsWrite ws s
  | .tripsWrite ws => Sys2Proof.Machine.execTripsWrite ws s
  | .consumersWrite ws => Sys2Proof.Machine.execConsumersWrite ws s
  | .demandsWrite ws => Sys2Proof.Machine.execDemandsWrite ws s
  | .socketsWrite ws => Sys2Proof.Machine.execSocketsWrite ws s
  | .heaterSetWrite ws => Sys2Proof.Machine.execHeaterSetWrite ws s
  | .fridgeSetWrite ws => Sys2Proof.Machine.execFridgeSetWrite ws s
  | .ventWrite ws => Sys2Proof.Machine.execVentWrite ws s
  | .lightsWrite ws => Sys2Proof.Machine.execLightsWrite ws s
  | .panelWrite ws => Sys2Proof.Machine.execPanelWrite ws s
  | .contactsWrite ws => Sys2Proof.Machine.execContactsWrite ws s
  | .restProfileWrite ws => Sys2Proof.Machine.execRestProfileWrite ws s
  | .restStatePut drive acc log => Sys2Proof.Machine.execRestStatePut drive acc log s
  | .scheduleWrite ws => Sys2Proof.Machine.execScheduleWrite ws s
  | .recordWrite r ws => Sys2Proof.Machine.execRecordWrite r ws s
  | .standby => Sys2Proof.Machine.execStandby s
  | .restart quiet => Sys2Proof.Machine.execRestart quiet s
  | .saveSettings => Sys2Proof.Machine.execSaveSettings s
  | .storeWriteDone part => Sys2Proof.Machine.execStoreWriteDone part s
  | .rxStartBit => Sys2Proof.Machine.execRxStartBit s

end Sys2Proof.Machine
end

