-- ==== Sys2Proof/Machine/Step.lean ====
section
/-! DEFINITION. One step: the front command of the queue, else the oldest handing between blocks, else nothing. -/

namespace Sys2Proof.Machine

/-- One step. A waiting command is taken first in, first out. On an empty queue the oldest handing in flight between the
blocks is taken, as the event it is; with none in flight the part idles (log entry 2). -/
def step (s : State) : Host.Outcome State Fault Refusal :=
  match s.pending with
  | c :: rest => exec c { s with pending := rest }
  | [] =>
    match s.handed with
    | i :: _ => exec i s
    | [] => .next s

/-- The state with the command a word spells at the front of its queue; unchanged where the word spells none. -/
def State.withFetchWord (s : State) (nbits w : Nat) : State :=
  match decodeTableWord nbits w with
  | some c => { s with pending := c :: s.pending }
  | none => s

end Sys2Proof.Machine
end

