-- ==== Sys2Proof/Safety.lean ====
section
/-! DEFINITION. What counts as a sound state of the part, block by block, and what a command may change. The statements and
their proofs are written in these terms. -/

namespace Sys2Proof.Machine

/-! ### What a command may change -/

/-- The parts of the state a frame speaks of. `mode` is the operating mode and `mc` the rest of the Mode Controller. -/
inductive Part where
  | cfg | mu | cc | ga | asked | hc | fc | lc | pn | rm | su | lk | mc | mode | rev | answer | handed | choices | pending
deriving DecidableEq, Repr

/-- The HC's state less the blower loop's duty and fault counts, which follow the blower's output at every event (R79). -/
def heaterCore (h : HeaterUnit) : HeaterUnit := { h with duty := 0, stallRun := 0, slowRun := 0 }

/-- The MC's state less the mode, which the DOZE judgement may change at every event, and the mark of a wake source, which every
event begins without (R187). -/
def modeCore (m : ModeUnit) : ModeUnit := { m with mode := .awake, woken := false }

/-- The MU's state less the mark of a mode change during a scan, which the DOZE judgement may set at every event (R2, R187). -/
def measureCore (m : MeasureUnit) : MeasureUnit := { m with rescan := false }

/-- Two states agree on a part. -/
def agrees (s t : State) : Part → Prop
  | .cfg => t.cfg = s.cfg
  | .mu => measureCore t.mu = measureCore s.mu
  | .cc => t.cc = s.cc
  | .ga => t.ga = s.ga
  | .asked => t.asked = s.asked
  | .hc => heaterCore t.hc = heaterCore s.hc
  | .fc => t.fc = s.fc
  | .lc => t.lc = s.lc
  | .pn => t.pn = s.pn
  | .rm => t.rm = s.rm
  | .su => t.su = s.su
  | .lk => t.lk = s.lk
  | .mc => modeCore t.mc = modeCore s.mc
  | .mode => t.mc.mode = s.mc.mode
  | .rev => t.rev = s.rev
  | .answer => t.answer = s.answer
  | .handed => t.handed = s.handed
  | .choices => t.choices = s.choices
  | .pending => t.pending = s.pending

/-- The states agree on every part but those listed. -/
def changesOnly (ps : List Part) (s t : State) : Prop := ∀ p, p ∉ ps → agrees s t p

/-- The parts that the firing of schedule entries may change: the actions' targets, the entries, and the outputs they
switch (R160, R161). -/
def firingParts : List Part := [.cfg, .mu, .asked, .hc, .fc, .lc, .pn, .su, .mc]

/-- The parts that a wake out of STANDBY may change, where the part is in it: those of R189, with the held entries fired and
PANEL's request taken before one or after (R163). -/
def wakeParts (s : State) : List Part := if s.mc.mode = .standby then [.lk, .ga, .choices] ++ firingParts else []

/-- Everything a reset sets (R190, R191, R193), and the free choices of a request served before it. -/
def allButPending : List Part :=
  [.cfg, .mu, .cc, .ga, .asked, .hc, .fc, .lc, .pn, .rm, .su, .lk, .mc, .answer, .choices]

/-- What a writing record operation may change, whatever record it names: everything but the link's own state, which a
wake alone touches. -/
def writeParts (s : State) : List Part :=
  [.cfg, .mu, .cc, .ga, .asked, .hc, .fc, .lc, .pn, .rm, .su, .mc, .answer, .choices] ++ wakeParts s

/-- The parts a command may change in a state, beside the mode, the revisions and the handings, which follow every event.
Each line is the block that takes the command, the owners of what it hands within the event, and the outputs it
switches. -/
def footprint (s : State) : Instr → List Part
  | .supplyChange _ => [.mc]
  | .powerOnReset => allButPending
  | .elapsedTick => [.su, .mc, .rm] ++ firingParts ++ wakeParts s
  | .scanStart => [.mu]
  | .conversion _ _ => [.mu, .cc, .hc, .fc, .rm, .asked, .mc]
  | .suspectChannel _ => [.mu, .cc, .hc, .fc, .rm, .asked, .mc, .answer]
  | .clearSuspect _ => [.mu, .cc, .hc, .fc, .rm, .asked, .mc, .answer]
  | .currentRise _ _ => [.mu]
  | .currentFall _ _ => [.mu]
  | .blankingExpiry _ => [.mu]
  | .qualifyExpiry _ => [.mu]
  | .loadCurrentReading _ => [.mu, .su, .hc, .asked, .mc]
  | .tachEdge _ => [.mu]
  | .tachTimeout => [.mu]
  | .minuteEnd => [.cc]
  | .horizonChange _ => [.cc]
  | .budgetReport _ => [.ga, .mu, .fc] ++ wakeParts s
  | .placeRequest _ _ => [.ga, .mu, .fc] ++ wakeParts s
  | .changeRequest _ _ => [.ga, .mu, .fc] ++ wakeParts s
  | .withdrawRequest _ => [.ga, .mu, .fc] ++ wakeParts s
  | .classOverride _ => [.ga, .mu, .fc] ++ wakeParts s
  | .tripReport _ => [.ga, .mu, .fc, .choices] ++ wakeParts s
  | .retryTimerExpiry _ => [.ga, .mu, .fc] ++ wakeParts s
  | .tripWindowExpiry _ => [.ga]
  | .clearTrip _ => [.ga, .mu, .fc, .lc, .answer] ++ wakeParts s
  | .socketRunLimitExpiry _ => [.ga, .asked, .mu]
  | .heaterGrantReport _ _ => [.hc, .asked, .mu]
  | .heaterTripReport _ _ => [.hc, .asked, .mu, .mc]
  | .heaterLevelChange _ => [.hc]
  | .heatStart _ _ => [.hc, .asked, .mu, .mc, .cfg, .answer]
  | .heatStop => [.hc, .asked, .mu, .answer]
  | .heatVent _ => [.hc, .asked, .mu, .answer]
  | .clearLockout => [.hc, .asked, .mu, .mc, .answer]
  | .waitPowerTimeout => [.hc, .asked, .mu]
  | .glowTest => [.hc, .asked, .mu, .mc]
  | .checkPhaseEnd => [.hc, .asked, .mu]
  | .preheatPowerTimeout => [.hc, .asked, .mu]
  | .preheatPhaseEnd => [.hc, .asked, .mu]
  | .primePhaseEnd => [.hc, .asked, .mu]
  | .igniteLimitExpiry => [.hc, .asked, .mu]
  | .stabilizePhaseEnd => [.hc, .asked, .mu, .mc]
  | .durationExpiry => [.hc, .asked, .mu]
  | .purgeEnd => [.hc, .asked, .mu, .mc]
  | .purgeHotTimeout => [.hc, .asked, .mu, .mc]
  | .dryCoolTimeout => [.hc, .asked, .mu]
  | .blowerStep => [.hc, .asked, .mu, .mc]
  | .strokeStart => [.hc]
  | .strokePulseEnd => [.hc]
  | .fridgeGrantReport _ _ => [.fc, .asked, .mu]
  | .stall _ => [.fc, .asked, .mu]
  | .fridgeLevelChange _ => [.fc]
  | .tfStaleExpiry => [.fc, .asked, .mu]
  | .fridgeBoost _ => [.fc, .answer]
  | .boostEnd => [.fc]
  | .clearFault => [.fc, .asked, .mu, .answer]
  | .waitOffEnd => [.fc, .asked, .mu]
  | .softStartEnd => [.fc, .asked, .mu]
  | .minOnTimeEnd => [.fc, .asked, .mu]
  | .stallWaitEnd => [.fc, .asked, .mu]
  | .stallLogExpiry => [.fc]
  | .fallbackOnEnd => [.fc, .asked, .mu]
  | .fallbackOffEnd => [.fc, .asked, .mu]
  | .fdoorHanding _ => [.fc]
  | .doorTimerExpiry => [.fc]
  | .ventRunEnd => [.fc, .asked]
  | .ventGrantReport _ _ => [.fc]
  | .lightGrantReport _ _ _ => [.lc, .mu]
  | .lightTripReport _ _ => [.lc]
  | .lightLevelChange _ => [.lc, .mu]
  | .fadeStep _ => [.lc, .asked, .mu]
  | .lightScene _ => [.lc, .asked, .mu, .answer]
  | .cdoorHanding _ => [.lc, .asked, .mu]
  | .entryTimerExpiry => [.lc, .asked, .mu]
  | .keyScan _ => [.pn, .rm, .choices] ++ firingParts ++ wakeParts s
  | .holdTimerExpiry _ => [.pn, .rm] ++ firingParts ++ wakeParts s
  | .columnWakeEdge => wakeParts s
  | .readKeys => [.pn, .answer]
  | .clearKeys => [.pn, .answer]
  | .contactInputChange _ _ => [.pn]
  | .debounceExpiry _ => [.pn, .mc] ++ wakeParts s
  | .chimeRequest _ => [.pn]
  | .playChime _ => [.pn, .answer]
  | .silenceChime => [.pn, .answer]
  | .chimePhaseEnd => [.pn]
  | .panelGrantReport _ _ => [.pn]
  | .moveHanding _ => [.rm, .lc, .pn, .su, .mu]
  | .ignHanding _ => [.rm]
  | .stopConfirmExpiry => [.rm]
  | .declareRest => [.rm, .answer] ++ firingParts ++ wakeParts s
  | .endRest => [.rm, .lc, .pn, .su, .mu, .answer]
  | .limitRepeatExpiry => [.rm]
  | .plannedEndReached => [.rm, .lc, .pn, .asked, .mu]
  | .endSoonReached => [.rm]
  | .setClock _ => [.rm, .answer] ++ firingParts ++ wakeParts s
  | .addEntry _ _ _ _ => [.answer] ++ firingParts ++ wakeParts s
  | .removeEntry _ => [.su, .answer]
  | .prewarmEntryPlace _ _ _ => firingParts ++ wakeParts s
  | .prewarmEntryMove _ _ _ => firingParts ++ wakeParts s
  | .prewarmEntryRemove => [.su]
  | .rxByte _ => [.lk]
  | .rxGapTimeout => [.lk]
  | .linkBreak => [.lk]
  | .rxdWakeEdge => wakeParts s
  | .requestTake => allButPending
  | .replySent => allButPending
  | .noticePost _ => [.lk]
  | .fetchNotices => [.lk, .answer]
  | .attnPulseEnd => [.lk]
  | .get _ _ _ _ => [.answer]
  | .put _ _ _ _ => writeParts s
  | .fieldWrite _ _ => writeParts s
  | .adjust _ _ _ _ => writeParts s
  | .exchange _ _ _ _ => writeParts s
  | .compareWrite _ _ _ _ _ => writeParts s
  | .batteryWrite _ => [.cfg, .cc, .rm, .answer]
  | .channelsWrite _ => [.cfg, .mu, .cc, .hc, .fc, .rm, .asked, .mc, .answer]
  | .tripsWrite _ => [.cfg, .mu, .answer]
  | .consumersWrite _ => [.cfg, .ga, .mu, .fc, .answer] ++ wakeParts s
  | .demandsWrite _ => [.cfg, .ga, .asked, .mu, .fc, .answer] ++ wakeParts s
  | .socketsWrite _ => [.cfg, .ga, .asked, .mu, .answer]
  | .heaterSetWrite _ => [.cfg, .hc, .answer]
  | .fridgeSetWrite _ => [.cfg, .fc, .asked, .mu, .answer]
  | .ventWrite _ => [.cfg, .fc, .asked, .answer]
  | .lightsWrite _ => [.cfg, .lc, .asked, .mu, .answer]
  | .panelWrite _ => [.cfg, .pn, .choices, .answer]
  | .contactsWrite _ => [.cfg, .pn, .mc, .answer] ++ wakeParts s
  | .restProfileWrite _ => [.rm, .answer] ++ firingParts ++ wakeParts s
  | .restStatePut _ _ _ => [.rm, .answer] ++ firingParts ++ wakeParts s
  | .scheduleWrite _ => [.answer] ++ firingParts ++ wakeParts s
  | .recordWrite _ _ => [.cfg, .mu, .answer]
  | .standby => [.pn, .mu, .cc, .hc, .fc, .rm, .asked, .mc, .choices, .answer]
  | .restart _ => allButPending
  | .saveSettings => [.mc]
  | .storeWriteDone _ => allButPending
  | .rxStartBit => [.mc]

/-- The parts that follow every event. -/
def everyEvent : List Part := [.mode, .rev, .handed]

/-- The commands after which the part may have been reset. -/
def mayReset : Instr → Bool
  | .supplyChange _ => true
  | .powerOnReset => true
  | .restart _ => true
  | .requestTake => true
  | .replySent => true
  | .storeWriteDone _ => true
  | _ => false

/-! ### Sound blocks -/

/-- The heater: the glow plug is commanded only from CHECK to IGNITE, strokes run exactly in the burning states, the purge
record stands exactly in PURGE and the desired stage exactly in RUN, the lockout flag exactly in DRY_COOL and LOCKOUT
(R62, R63, R80, R82, R84), and both counters are held at 3, in the store as well (R84). -/
def heaterSound (s : State) : Prop :=
  let h := s.hc
  let small (p : HeaterPart) : Prop := p.failed ≤ 3 ∧ p.overheats ≤ 3
  (h.glow = true → h.state = .check ∨ h.state = .preheat ∨ h.state = .prime ∨ h.state = .ignite)
    ∧ h.stroke.isSome = burning h.state
    ∧ (h.pulse = true → burning h.state = true)
    ∧ h.purge.isSome = (h.state == .purge)
    ∧ h.desired.isSome = (h.state == .run)
    ∧ h.lockout = (h.state == .dryCool || h.state == .lockout)
    ∧ (h.restartPending = true → h.state = .purge)
    ∧ small (heaterPartOf h)
    ∧ (∀ p, s.mc.heaterPart = some p → small p)
    ∧ (∀ p, s.mc.heaterWrite = some p → small p)

/-- The fridge: the compressor is commanded only in START, RUN and FALLBACK_ON, a wanted speed stands exactly in START and
RUN, and three stalls stand only in FAULT (R90, R94, R98, R101); at most five door alerts (R103). -/
def fridgeSound (s : State) : Prop :=
  let f := s.fc
  (f.drive = true → f.state = .start ∨ f.state = .run ∨ f.state = .fallbackOn)
    ∧ f.wanted.isSome = (f.state == .start || f.state == .run)
    ∧ (f.state ≠ .fault → f.stallLog.length < 3)
    ∧ f.stallLog.length ≤ 3
    ∧ f.alerts ≤ 5

/-- The Charge Counter: C within 0 to Cap and the residue strictly between -360,000 and 360,000 (R24), at most 16 minute
records (R29), a relief count below 5 (R34). -/
def chargeSound (s : State) : Prop :=
  (∀ c, s.cc.c = some c → c ≤ s.cfg.battery.cap)
    ∧ -360000 < s.cc.residue ∧ s.cc.residue < 360000
    ∧ s.cc.window.length ≤ 16
    ∧ s.cc.relief < 5

/-- The sum of all grants. -/
def grantSum (s : State) : Nat := (allConsumers.map fun c => (entryOf s c).grant).sum

/-- The Grant Arbiter: the grants together stay within the budget, or within the safety grants where those exceed it, and
a grant above 0 stands only for a request that is a safety one or whose consumer is unmasked, neither latched nor waiting
for a retry, and of an admitted class (R50, R51, R52). -/
def grantSound (s : State) : Prop :=
  grantSum s ≤ max s.ga.report.budget s.ga.safetySum
    ∧ ∀ c, 0 < (entryOf s c).grant →
        ∃ r, (entryOf s c).request = some r ∧
          (r.safety = true ∨
            (tget s.cfg.masks (consIx c) = false ∧ (entryOf s c).latched = false ∧ (entryOf s c).retry = none
              ∧ effectiveClass s c ∈ s.ga.report.classes))

/-- The lights: a channel without a fade stands at its target, a fade's steps done lie below its steps, and every applied
level is the one R112 computes from the faded level, the grant and the caps (R107, R110, R112). -/
def lightsSound (s : State) : Prop :=
  ∀ i, ((lightOf s i).fade = none → (lightOf s i).faded = (lightOf s i).target)
    ∧ (∀ f, (lightOf s i).fade = some f → f.k < f.n)
    ∧ (lightOf s i).applied = appliedLevel s i

/-- Every owner's request is the one its state calls for (R45, R46, R47, R63, R94, R104, R111, R120). -/
def requestsSound (s : State) : Prop :=
  tget s.asked (consIx .panel) = (if s.pn.standby then none else some (panelRequest s.cfg.demands))
    ∧ tget s.asked (consIx .heat) = heaterRequest s.cfg.demands s.hc
    ∧ tget s.asked (consIx .fridge) = fridgeRequest s.cfg.demands s.fc
    ∧ tget s.asked (consIx .bunk) = groupRequest s .bunk
    ∧ tget s.asked (consIx .cab) = groupRequest s .cab
    ∧ tget s.asked (consIx .vent) = ventRequest s.cfg.demands s.fc.ventSpeed
    ∧ ∀ k, tget s.asked (consIx (socketConsumer k)) =
        if (tget s.ga.sockets (socketIx k)).on then some (socketRequest s.cfg.demands k) else none

/-- The queues of fixed depth: four received frames, sixteen notices, eight key events and eight rest segments; the silence
time stops at 120 s and every revision is a byte (R125, R134, R174, R176, R181, R187). -/
def queuesSound (s : State) : Prop :=
  s.lk.queue.length ≤ 4 ∧ s.lk.notices.length ≤ 16 ∧ s.pn.queue.length ≤ 8 ∧ s.rm.log.length ≤ 8
    ∧ s.mc.silence ≤ 120 ∧ ∀ i, tget s.rev i < 256

/-- No flame without its sensors: a channel that is not converted is STALE (R3, R7), and the heater is in none of CHECK,
PREHEAT, PRIME, IGNITE, STABILIZE and RUN unless TX and TH are VALID (R68, R70). -/
def flameGuarded (s : State) : Prop :=
  (∀ ch, isConverted s ch = false → statusOf s ch = .stale)
    ∧ ((s.hc.state = .check ∨ s.hc.state = .preheat ∨ burning s.hc.state = true) →
        statusOf s .tx = .valid ∧ statusOf s .th = .valid)

/-- The order lists: each class's list holds every consumer of that effective class once, and no other (R41, R42). -/
def listsSound (s : State) : Prop :=
  ∀ k : Fin 8, (tget s.ga.lists k).Nodup ∧ ∀ c, c ∈ tget s.ga.lists k ↔ effectiveClass s c = k

/-- Right after a step that entered DOZE, all conditions of R187 hold. -/
def dozeAllowed (s : State) : Prop :=
  120 ≤ s.mc.silence ∧ startSequence s.hc.state = false ∧ anyFade s = false ∧ s.pn.player = none ∧ s.pn.chimes = []

/-! ### Terms of the statements -/

/-- An in-range code for the scan's next channel, which is converted and carries no mark: the conversion leaves it VALID
(R2, R4, R7). -/
def validNext (s : State) (ch : Channel) (code : Nat) : Prop :=
  s.mu.scanLeft.head? = some ch ∧ 16 ≤ code ∧ code ≤ 4079 ∧ isConverted s ch = true
    ∧ (chanOf s ch).rangeMark = false ∧ (chanOf s ch).hostMark = false

/-- What R151 admits of a restore: the drive counter within its range and the accumulator below the break total, at most eight
segments, each of them ended not before its start and within the cab time, or open and so started, in order and not overlapping,
and none but the last one open. -/
abbrev restoreAdmitted (s : State) (drive acc : Nat) (log : List RestSpan) : Prop :=
  drive ≤ 999999 ∧ acc < s.cfg.profile.breakTotal * 60 ∧ log.length ≤ 8
    ∧ (∀ g ∈ log, 0 ≤ g.start ∧ g.start ≤ (cabTime s : Int)
        ∧ g.stop.all (fun e => decide (g.start ≤ e ∧ e ≤ (cabTime s : Int))) = true)
    ∧ ∀ ab ∈ log.zip log.tail, ab.1.stop.any (fun e => decide (e ≤ ab.2.start)) = true

/-- The commands that restore REST_STATE with an expected revision or none: the PUT of record 25, which carries each segment's start
and end, and, where no revision is expected, the row of its own (R151, R169). -/
def restoresOf (drive acc : Nat) (log : List RestSpan) (expected : Option Nat) : List Instr :=
  .put 25 none expected (some (drive : Int) :: some (acc : Int) :: log.flatMap fun g => [some g.start, g.stop])
    :: if expected = none then [.restStatePut drive acc log] else []

/-- The filtered value that an in-range conversion of a channel leaves (R4, R6). -/
def filteredAt (s : State) (ch : Channel) (code : Nat) : Int :=
  let v := (valueRange ch).1 + (((code : Int) - 16) * ((valueRange ch).2 - (valueRange ch).1)) / 4063
  match (chanOf s ch).filtered with
  | none => v
  | some f => f + Int.tdiv (v - f) (2 ^ (tget s.cfg.chan (chanIx ch)).k)

/-- The combined target of the shed level: the count target, at least RESERVE with the low guard's flag, at least CUTOFF with
the cut guard's or with C at 0 (R32). -/
def targetLevel (u : ChargeUnit) : ShedLevel :=
  if u.cut.flag = true ∨ u.c = some 0 then .cutoff
  else if u.low.flag = true ∧ u.countTarget ≠ .cutoff then .reserve
  else u.countTarget

/-- A full evaluation took the Charge Counter from `s` to `t` (R30 to R35, R38). -/
def fullyEvaluated (s t : State) : Prop :=
  let u := t.cc
  let b := s.cfg.battery
  u.iavg = (if u.window = [] then none else some (-(Int.tdiv ((u.window.map (·.mean)).sum) (u.window.length : Int))))
    ∧ u.endurance = (match u.c, u.iavg with
        | some c, some i =>
          if statusOf s .ih ≠ .valid then none
          else if i ≤ 0 then some 65535
          else if c ≤ b.cap * b.reserve / 100 then some 0
          else some (min 65534 ((c - b.cap * b.reserve / 100) * 60 / i.toNat))
        | _, _ => none)
    ∧ u.countTarget = (match u.c with
        | none => if u.starting = true ∧ s.su.elapsed < 30 then .normal else .reserve
        | some c =>
          if c ≤ b.cap * b.reserve / 100 then .reserve
          else if u.endurance.any (fun e => e < u.horizon + b.margin) then .conserve else .normal)
    ∧ (s.cc.sensorHold = true → u.level = s.cc.level)
    ∧ (s.cc.sensorHold = false → levelCode s.cc.level < levelCode (targetLevel u) →
        u.level = targetLevel u ∧ u.relief = 0 ∧ u.ceiling = none)
    ∧ (s.cc.sensorHold = false → s.cc.level = targetLevel u → u.level = s.cc.level ∧ u.relief = 0 ∧ u.ceiling = none)
    ∧ (s.cc.sensorHold = false → levelCode (targetLevel u) < levelCode s.cc.level →
        let top := match s.cc.ceiling with | some k => worse k (targetLevel u) | none => targetLevel u
        (s.cc.relief < 4 → u.level = s.cc.level ∧ u.relief = s.cc.relief + 1 ∧ u.ceiling = some top)
          ∧ (4 ≤ s.cc.relief → u.level = top ∧ u.relief = 0 ∧ u.ceiling = none))
    ∧ u.budget = (match u.level with
        | .normal => b.aLim - b.aBase
        | .conserve => min b.aLim (fitCurrent b u.c u.horizon / 100) - b.aBase
        | .reserve => b.aRes
        | .cutoff => 0)

/-- The request by which a consumer is a candidate of a pass under a budget report (R51). -/
def candidateUnder (s : State) (r : BudgetReport) (c : Consumer) : Option Request :=
  match (entryOf s c).request with
  | none => none
  | some q =>
    if q.safety = true ∨ tget s.cfg.masks (consIx c) = true ∨ (entryOf s c).latched = true ∨ (entryOf s c).retry.isSome = true
      ∨ effectiveClass s c ∉ r.classes then none
    else some q

/-- Whether one consumer is served before another: ascending effective class, and within a class by id where it is FIXED, by
the class's list where it is ROTATING (R42, R51). -/
def servedBefore (s : State) (c c' : Consumer) : Bool :=
  let k := effectiveClass s c
  if effectiveClass s c' = k then
    match tget s.cfg.orders k with
    | .fixed => decide ((consIx c).1 < (consIx c').1)
    | .rotating => decide ((tget s.ga.lists k).idxOf c < (tget s.ga.lists k).idxOf c')
  else decide (k.1 < (effectiveClass s c').1)

/-- The sum of an amount over the candidates of a pass that `p` keeps. -/
def candidateSum (s : State) (r : BudgetReport) (p : Consumer → Bool) (amount : Request → Nat) : Nat :=
  (allConsumers.map fun c => match candidateUnder s r c with
    | some q => if p c then amount q else 0
    | none => 0).sum

/-- Whether a wake out of STANDBY finds no CHIME among the held entries that are due: PANEL's request is then placed and not
yet granted when the event ends (R163, log entry 24). -/
def noChimeHeld (s : State) : Prop := s.mc.mode = .standby → ∀ k ∈ allSlots, isDue s k = true → holdsChime s k = false

/-- Whether a handing is neither one of PANEL's requests nor a grant report for PANEL: a wake out of STANDBY leaves such a one
in flight (R163, log entry 24). -/
def notPanels (i : Instr) : Bool :=
  match i with
  | .panelGrantReport _ _ => false
  | j => !ofPanel j

/-! ### What a key's action does (R126, R127) -/

/-- A key's action has ended with a status: it is the last action, and a refusal is posted with its mark REFUSED (R127). -/
def actionEnds (k : Fin 16) (a : KeyAction) (st : Status) (t : State) : Prop :=
  t.pn.last = some ⟨k, a, st⟩
    ∧ (st ≠ .ok → st ≠ .clamped →
        .noticePost ⟨.panel, .pi, .info, false, [byte (k.1 + 16), byte (keyActionCode a), byte (statusCode st)]⟩ ∈ t.handed)

/-- A group's ADJUSTs as a key's LIGHT_UP or LIGHT_DOWN hands them, in ascending channel order: field 1 of LIGHTS is the target
(R116; the field id is log entry 31's choice). -/
def groupAdjusts (k : Fin 16) (g : Group) (delta : Int) : List Instr :=
  (match g with | .bunk => [0, 1] | .cab => [2, 3, 4, 5]).map fun i => .adjust (.panel k 18) 1 (some i) delta

/-- The PRESS of a key with LIGHT_UP or LIGHT_DOWN: the group's ADJUSTs are handed one behind the other with CLICK behind them,
no target has moved yet, and the action is under way with no status (R116, R127, R173; log entry 39). -/
def dimsHanded (k : Fin 16) (a : KeyAction) (g : Group) (delta : Int) (s t : State) : Prop :=
  (∃ before behind, t.handed = before ++ groupAdjusts k g delta ++ behind
      ∧ (s.cfg.panel.click = true → .chimeRequest 0 ∈ behind))
    ∧ (∀ i, (lightOf t i).target = (lightOf s i).target)
    ∧ t.pn.dims = s.pn.dims ++ [⟨k, a, (groupAdjusts k g delta).length, .ok⟩]
    ∧ t.pn.last = s.pn.last

/-- `n` steps lead from `s` to `t`. -/
def afterSteps : Nat → State → State → Prop
  | 0, s, t => t = s
  | n + 1, s, t => ∃ u, step s = .next u ∧ afterSteps n u t

/-- The targets of a group's channels are moved by `delta`, each held within 0 to 1,000 and the others as they were; the
status is CLAMPED where one was held (R116, R127). -/
def groupDimmed (k : Fin 16) (a : KeyAction) (g : Group) (delta : Int) (s t : State) : Prop :=
  let held (i : Fin 6) : Int := max 0 (min 1000 ((lightOf s i).target + delta))
  (∀ i, ((lightOf t i).target : Int) = if groupOf i = g then held i else ((lightOf s i).target : Int))
    ∧ actionEnds k a (if ∀ i, groupOf i = g → held i = (lightOf s i).target + delta then .ok else .clamped) t

/-- What the PRESS of a key with entry `e` does at the action's target, from `s` to `t` (R92, R104, R115, R116, R126, R175). -/
def pressAction (k : Fin 16) (e : KeyEntry) (s t : State) : Prop :=
  let g : Group := if e.param = 0 then .bunk else .cab
  let stepped (d : Int) : Int := max 50 (min 300 (s.cfg.heaterSet.setpoint + d))
  let heats (d : Int) : Prop :=
    t.cfg = { s.cfg with heaterSet := { s.cfg.heaterSet with setpoint := stepped d } }
      ∧ actionEnds k e.action (if stepped d = s.cfg.heaterSet.setpoint + d then .ok else .clamped) t
  match e.action with
  | .none | .heatToggle | .restToggle => t.pn.last = s.pn.last
  | .silence => t.pn.chimes = [] ∧ t.pn.player = none ∧ actionEnds k .silence .ok t
  | .lightToggle =>
    (∀ i, (lightOf t i).target =
        if groupOf i = g then (if ∀ j, groupOf j = g → (lightOf s j).target = 0 then tget s.cfg.lights.onLevel i else 0)
        else (lightOf s i).target)
      ∧ actionEnds k .lightToggle .ok t
  | .lightUp => dimsHanded k .lightUp g 100 s t
  | .lightDown => dimsHanded k .lightDown g (-100) s t
  | .scene => ∀ n : Fin 8, e.param = n.1 + 1 →
      (∀ i, (lightOf t i).target = (tget (tget s.cfg.scenes n).levels i).getD (lightOf s i).target)
        ∧ actionEnds k .scene .ok t
  | .heatUp => heats 5
  | .heatDown => heats (-5)
  | .fridgeBoost =>
    t.fc.boostEnd = (if s.cfg.fridgeSet.enable then some (s.su.elapsed + 3600) else s.fc.boostEnd)
      ∧ actionEnds k .fridgeBoost (if s.cfg.fridgeSet.enable then .ok else .state) t
  | .ventStep => t.fc.ventSpeed = (if s.fc.ventSpeed < 3 then s.fc.ventSpeed + 1 else 0) ∧ actionEnds k .ventStep .ok t

/-- A HOLD's action has ended: as any action, with the CONFIRM chime asked for where it was carried out, and with none where it
was refused (R127). -/
def holdEnds (k : Fin 16) (a : KeyAction) (st : Status) (s t : State) : Prop :=
  actionEnds k a st t ∧ (st = .ok → .chimeRequest 1 ∈ t.handed)
    ∧ (st ≠ .ok → .chimeRequest 1 ∉ s.handed → .chimeRequest 1 ∉ t.handed)

/-- Whether no grant could reach the START demand (R65). -/
def noStart (s : State) : Prop :=
  s.hc.level = .cutoff ∨ (s.hc.level = .reserve ∧ s.cfg.battery.aRes < s.cfg.demands.start) ∨ (entryOf s .heat).latched = true

/-- What the HOLD of a key with entry `e` does at the action's target, from `s` to `t` (R65, R66, R126, R137). -/
def holdAction (k : Fin 16) (e : KeyEntry) (s t : State) : Prop :=
  match e.action with
  | .heatToggle =>
    (s.hc.state = .waitPower ∨ s.hc.state = .check ∨ s.hc.state = .preheat ∨ s.hc.state = .pause →
        t.hc.state = .off ∧ holdEnds k .heatToggle .ok s t)
      ∧ (burning s.hc.state = true →
        t.hc.state = .purge ∧ t.hc.purge = some ⟨.off, none, now s⟩ ∧ holdEnds k .heatToggle .ok s t)
      ∧ (s.hc.state = .off ∨ s.hc.state = .vent →
        (noStart s → t.hc.state = s.hc.state ∧ holdEnds k .heatToggle .noPower s t)
          ∧ (¬noStart s → t.hc.state = .waitPower ∧ t.hc.durationEnd = none ∧ t.cfg = s.cfg ∧ holdEnds k .heatToggle .ok s t))
      ∧ (s.hc.state = .dryCool ∨ s.hc.state = .lockout → t.hc.state = s.hc.state ∧ holdEnds k .heatToggle .state s t)
      ∧ (s.hc.state = .purge → ∀ p, s.hc.purge = some p → p.fault = none →
        t.hc.state = .purge ∧ holdEnds k .heatToggle .ok s t
          ∧ (s.hc.restartPending = true ∨ p.exit = .retry ∨ p.exit = .restart →
              t.hc.purge = some { p with exit := .off } ∧ t.hc.restartPending = false)
          ∧ (s.hc.restartPending = false → p.exit ≠ .retry → p.exit ≠ .restart →
              t.hc.purge = some p ∧ t.hc.restartPending = true))
  | .restToggle =>
    (s.rm.state = .resting ∨ s.rm.state = .rested → t.rm.state = .stopped ∧ holdEnds k .restToggle .ok s t)
      ∧ ((s.rm.state = .stopped ∧ s.rm.stopSeg.isSome) ∨ (s.rm.state = .unknown ∧ s.rm.move = .inactive) →
        t.rm.state = .resting ∧ holdEnds k .restToggle .ok s t)
      ∧ (s.rm.state = .driving ∨ (s.rm.state = .unknown ∧ s.rm.move ≠ .inactive) →
        t.rm = s.rm ∧ holdEnds k .restToggle .state s t)
  | _ => t.pn.last = s.pn.last

end Sys2Proof.Machine
end

