-- ==== Sys2Proof/WellFormed.lean ====
section
/-! DEFINITION. What a command may carry, by the ranges the chapters give. The meanings take any operands; these checks say
which a sender of the spec can send. -/

namespace Sys2Proof

/-- Whether a list of numbers rises strictly. -/
def ascends : List Nat → Bool
  | a :: b :: rest => decide (a < b) && ascends (b :: rest)
  | _ => true

/-- A request of an owner is well formed (R44). -/
def Request.ok (r : Request) : Bool :=
  decide (1 ≤ r.d) && decide (r.d ≤ 400) && decide (1 ≤ r.dmin) && decide (r.dmin ≤ r.d) &&
    match r.steps with
    | none => true
    | some xs =>
      decide (1 ≤ xs.length) && decide (xs.length ≤ 4) && ascends xs && xs.head? == some r.dmin
        && xs.getLast? == some r.d

/-- A budget report (R36): B is at most 400 d-amps and no class is listed twice. -/
def BudgetReport.ok (r : BudgetReport) : Bool := decide (r.budget ≤ 400) && decide r.classes.Nodup

/-- An outcome of a trip (R57): the retry step is 1 to 3. -/
def TripOutcome.ok : TripOutcome → Bool
  | .tripped step => decide (1 ≤ step) && decide (step ≤ 3)
  | .latched => true

/-- A number of `n` bits. -/
def fitsBits (n v : Nat) : Bool := decide (v < 2 ^ n)

/-- An element of a record operation: a byte other than 0xFF, or none (R185). -/
def elemFits (e : Option Nat) : Bool := e.all fun x => decide (x < 255)

/-- One field named in a writing operation (R170, R185). -/
def FieldWrite.ok (w : FieldWrite) : Bool := fitsBits 8 w.field && elemFits w.elem

/-- A duration as a request carries it, 0xFFFF being absent (R185). -/
def durationFits (d : Option Nat) : Bool := d.all fun x => decide (x < 65535)

/-- A schedule action's parameters in the widths of R185. -/
def Action.ok : Action → Bool
  | .heatStart sp d => fitsBits 16 sp && durationFits d
  | .heatStop => true
  | .scene n => fitsBits 8 n
  | .chime p => fitsBits 8 p
  | .fridgeBoost => true
  | .vent v => fitsBits 8 v

/-- Whether a command is one a sender of the spec can send. -/
def Instr.wellFormed : Instr → Bool
  | .conversion _ code => fitsBits 12 code
  | .horizonChange m => decide (1 ≤ m) && decide (m ≤ 1440)
  | .budgetReport r => r.ok
  | .placeRequest _ r => r.ok
  | .changeRequest _ r => r.ok
  | .heaterGrantReport g _ => decide (g ≤ 400)
  | .heaterTripReport c o => (c == .t0 || c == .t1) && o.ok
  | .stall o => o.ok
  | .lightTripReport _ o => o.ok
  | .fridgeGrantReport g _ => decide (g ≤ 400)
  | .ventGrantReport g _ => decide (g ≤ 400)
  | .lightGrantReport _ g _ => decide (g ≤ 400)
  | .panelGrantReport g _ => decide (g ≤ 400)
  | .suspectChannel n => fitsBits 8 n
  | .clearSuspect n => fitsBits 8 n
  | .clearTrip n => fitsBits 8 n
  | .lightScene n => fitsBits 8 n
  | .playChime n => fitsBits 8 n
  | .removeEntry n => fitsBits 8 n
  | .heatStart sp d => fitsBits 16 sp && durationFits d
  | .setClock t => fitsBits 32 t
  | .addEntry t rep st a => fitsBits 32 t && fitsBits 8 rep && fitsBits 8 st && a.all Action.ok
  | .prewarmEntryPlace t sp d => fitsBits 32 t && decide (50 ≤ sp) && decide (sp ≤ 300) && decide (1 ≤ d) && decide (d ≤ 720)
  | .prewarmEntryMove t sp d => fitsBits 32 t && decide (50 ≤ sp) && decide (sp ≤ 300) && decide (1 ≤ d) && decide (d ≤ 720)
  | .noticePost p => decide (p.data.length ≤ 3)
  | .get r l st n => fitsBits 8 r && fitsBits 8 l && fitsBits 8 st && fitsBits 8 n
  | .put r e x _ => fitsBits 8 r && elemFits e && x.all (fitsBits 8)
  | .fieldWrite r ws => fitsBits 8 r && ws.all FieldWrite.ok
  | .adjust (.host r) f e d => fitsBits 8 r && fitsBits 8 f && elemFits e && decide (-32768 ≤ d) && decide (d ≤ 32767)
  | .adjust (.panel _ r) f e d => r == 18 && f == 1 && e.any (fun x => decide (x < 6)) && (d == 100 || d == -100)
  | .exchange r f e _ => fitsBits 8 r && fitsBits 8 f && elemFits e
  | .compareWrite r f e _ _ => fitsBits 8 r && fitsBits 8 f && elemFits e
  | .batteryWrite ws => ws.all FieldWrite.ok
  | .channelsWrite ws => ws.all FieldWrite.ok
  | .tripsWrite ws => ws.all FieldWrite.ok
  | .consumersWrite ws => ws.all FieldWrite.ok
  | .demandsWrite ws => ws.all FieldWrite.ok
  | .socketsWrite ws => ws.all FieldWrite.ok
  | .heaterSetWrite ws => ws.all FieldWrite.ok
  | .fridgeSetWrite ws => ws.all FieldWrite.ok
  | .ventWrite ws => ws.all FieldWrite.ok
  | .lightsWrite ws => ws.all FieldWrite.ok
  | .panelWrite ws => ws.all FieldWrite.ok
  | .contactsWrite ws => ws.all FieldWrite.ok
  | .restProfileWrite ws => ws.all FieldWrite.ok
  | .restStatePut d a log => fitsBits 24 d && fitsBits 16 a && decide (log.length ≤ 8)
  | .scheduleWrite ws => ws.all FieldWrite.ok
  | .recordWrite _ ws => ws.all FieldWrite.ok
  | .supplyChange _ => true
  | .powerOnReset => true
  | .elapsedTick => true
  | .scanStart => true
  | .currentRise _ _ => true
  | .currentFall _ _ => true
  | .blankingExpiry _ => true
  | .qualifyExpiry _ => true
  | .loadCurrentReading _ => true
  | .tachEdge _ => true
  | .tachTimeout => true
  | .minuteEnd => true
  | .withdrawRequest _ => true
  | .classOverride _ => true
  | .tripReport r => fitsBits 32 r.time.cab
  | .retryTimerExpiry _ => true
  | .tripWindowExpiry _ => true
  | .socketRunLimitExpiry _ => true
  | .heaterLevelChange _ => true
  | .heatStop => true
  | .heatVent _ => true
  | .clearLockout => true
  | .waitPowerTimeout => true
  | .glowTest => true
  | .checkPhaseEnd => true
  | .preheatPowerTimeout => true
  | .preheatPhaseEnd => true
  | .primePhaseEnd => true
  | .igniteLimitExpiry => true
  | .stabilizePhaseEnd => true
  | .durationExpiry => true
  | .purgeEnd => true
  | .purgeHotTimeout => true
  | .dryCoolTimeout => true
  | .blowerStep => true
  | .strokeStart => true
  | .strokePulseEnd => true
  | .fridgeLevelChange _ => true
  | .tfStaleExpiry => true
  | .fridgeBoost _ => true
  | .boostEnd => true
  | .clearFault => true
  | .waitOffEnd => true
  | .softStartEnd => true
  | .minOnTimeEnd => true
  | .stallWaitEnd => true
  | .stallLogExpiry => true
  | .fallbackOnEnd => true
  | .fallbackOffEnd => true
  | .fdoorHanding _ => true
  | .doorTimerExpiry => true
  | .ventRunEnd => true
  | .lightLevelChange _ => true
  | .fadeStep _ => true
  | .cdoorHanding _ => true
  | .entryTimerExpiry => true
  | .keyScan _ => true
  | .holdTimerExpiry _ => true
  | .columnWakeEdge => true
  | .readKeys => true
  | .clearKeys => true
  | .contactInputChange _ _ => true
  | .debounceExpiry _ => true
  | .chimeRequest _ => true
  | .silenceChime => true
  | .chimePhaseEnd => true
  | .moveHanding _ => true
  | .ignHanding _ => true
  | .stopConfirmExpiry => true
  | .declareRest => true
  | .endRest => true
  | .limitRepeatExpiry => true
  | .plannedEndReached => true
  | .endSoonReached => true
  | .prewarmEntryRemove => true
  | .rxByte _ => true
  | .rxGapTimeout => true
  | .linkBreak => true
  | .rxdWakeEdge => true
  | .requestTake => true
  | .replySent => true
  | .fetchNotices => true
  | .attnPulseEnd => true
  | .standby => true
  | .restart _ => true
  | .saveSettings => true
  | .storeWriteDone _ => true
  | .rxStartBit => true

end Sys2Proof
end

