-- ==== Sys2Proof/Certificates/Slice0/Obligations.lean ====
section
/-! DEFINITION. The statements for the provers, in the terms of Safety.lean. Unless a statement says otherwise it speaks of a
running part. -/

section Statements

open Sys2Proof Sys2Proof.Machine

/-! ### The step -/

/-- A waiting command is taken first in, first out: a step runs the front command on the state with the queue's rest. -/
def Obligations.StepRunsFrontCommand : Prop :=
  ∀ (c : Instr) (rest : List Instr) (s : State), s.pending = c :: rest →
    Machine.step s = Machine.exec c { s with pending := rest }

/-- With no command waiting a step takes the oldest handing between blocks as the event it is, and with none in flight it
changes nothing; a command that resets nothing takes its own handing out of those in flight and adds what it hands behind the
rest, but that a wake from STANDBY with a CHIME held may take PANEL's request and its grant report as well. The queue is the
model's choice of log entry 2, the wake's taking log entry 24's. -/
def Obligations.HandingsAreTakenInOrder : Prop :=
  ((∀ (i : Instr) (rest : List Instr) (s : State), s.pending = [] → s.handed = i :: rest →
      Machine.step s = Machine.exec i s)
    ∧ ∀ s : State, s.pending = [] → s.handed = [] → Machine.step s = .next s)
    ∧ (∀ (i : Instr) (s t : State), s.mc.supply = .running → mayReset i = false → Machine.exec i s = .next t →
      s.mc.mode ≠ .standby → ∃ new, t.handed = s.handed.erase i ++ new)
    ∧ ∀ (i : Instr) (s t : State), s.mc.supply = .running → mayReset i = false → Machine.exec i s = .next t →
        ∃ new, t.handed.filter notPanels = (s.handed.erase i).filter notPanels ++ new

/-! ### Invariants that every step keeps -/

/-- Every step keeps the heater sound: glow, strokes, purge record, stages and lockout flag stand exactly in their
states. -/
def Obligations.StepKeepsHeaterSound : Prop :=
  ∀ s t : State, heaterSound s → Machine.step s = .next t → heaterSound t

/-- Every step keeps the flame guarded: no state from CHECK to RUN without TX and TH VALID (R70). -/
def Obligations.StepKeepsFlameGuarded : Prop :=
  ∀ s t : State, flameGuarded s → Machine.step s = .next t → flameGuarded t

/-- Every step keeps the bounded quantities: the fridge's drive, speeds, stall log and door alerts, C within 0 to Cap with
its residue, window and relief count, and the queues within their depths. -/
def Obligations.StepKeepsBoundsSound : Prop :=
  (∀ s t : State, fridgeSound s → Machine.step s = .next t → fridgeSound t)
    ∧ (∀ s t : State, chargeSound s → Machine.step s = .next t → chargeSound t)
    ∧ (∀ s t : State, queuesSound s → Machine.step s = .next t → queuesSound t)

/-- Every step keeps the grants within the budget, and no grant to a consumer that may not hold one; and every step keeps the
order lists sound, each class's list holding every consumer of that effective class once (R41, R42). -/
def Obligations.StepKeepsGrantSound : Prop :=
  (∀ s t : State, grantSound s → Machine.step s = .next t → grantSound t)
    ∧ (∀ s t : State, listsSound s → Machine.step s = .next t → listsSound t)

/-- Every step keeps the lights at the levels R110 and R112 compute, and every owner's request the one its state calls
for. -/
def Obligations.StepKeepsLightsAndRequestsSound : Prop :=
  (∀ s t : State, lightsSound s → Machine.step s = .next t → lightsSound t)
    ∧ (∀ s t : State, requestsSound s → Machine.step s = .next t → requestsSound t)

/-- The state after reset meets every invariant. -/
def Obligations.ResetIsSound : Prop :=
  heaterSound State.reset ∧ flameGuarded State.reset ∧ fridgeSound State.reset ∧ chargeSound State.reset
    ∧ grantSound State.reset ∧ listsSound State.reset ∧ lightsSound State.reset ∧ requestsSound State.reset ∧ queuesSound State.reset

/-! ### Rules of the whole machine -/

/-- A command changes no part of the state outside its footprint, but for the mode, the revisions and the handings. -/
def Obligations.CommandStaysInItsFootprint : Prop :=
  ∀ (i : Instr) (s t : State), Machine.exec i s = .next t → changesOnly (footprint s i ++ everyEvent) s t

/-- DOZE is entered from AWAKE alone, and only with all conditions of R187 met. That the conditions are judged at the close
of every command is log entry 10's choice. -/
def Obligations.DozeEnteredOnlyWhenAllowed : Prop :=
  ∀ (i : Instr) (s t : State), Machine.exec i s = .next t → t.mc.mode = .doze → s.mc.mode ≠ .doze →
    s.mc.mode = .awake ∧ dozeAllowed t

/-- Which changes of content advance a revision (R174). A record's content is all that a GET of it shows: where a command
changes it, the revision afterwards is another, the times that pass by themselves included, as R106 says of FRIDGE_STATUS, R152
of REST_STATE and R194 of IDENT's silence time. CLOCK alone is another matter: its revision changes with its offset, UNSET and
last delta, and with nothing else (R164). That a shown time is content in every record but CLOCK is log entry 14's inference,
and the counting is its choice. -/
def Obligations.ChangedRecordAdvancesRevision : Prop :=
  ∀ (i : Instr) (s t : State), s.mc.supply = .running → mayReset i = false → Machine.exec i s = .next t →
    (∀ r : Fin 26, r ≠ 1 → recordView s (r.1 + 1) ≠ recordView t (r.1 + 1) → tget t.rev r ≠ tget s.rev r)
      ∧ (t.su.offset ≠ s.su.offset ∨ t.su.unset ≠ s.su.unset ∨ t.su.lastDelta ≠ s.su.lastDelta →
          tget t.rev 1 ≠ tget s.rev 1)
      ∧ (t.su.offset = s.su.offset → t.su.unset = s.su.unset → t.su.lastDelta = s.su.lastDelta →
          tget t.rev 1 = tget s.rev 1)

/-- A change of the shed level is handed to the LC, the FC and the HC, with the new budget report to the GA (R36). A handed
level is held by the owner that takes it: by the HC and the FC with nothing else changed, by the LC with every applied level
formed again under the caps then in force (R112, R113). The level falls in two ways alone: by the fifth relief, at a minute end
or a horizon change with no sensor hold in force (R34), or out of CUTOFF into RESERVE as a sensor hold comes into force (R38).
Handings are read in `handed`, the model's own field (log entry 2). -/
def Obligations.LevelChangeIsHandedAndHeld : Prop :=
  (∀ (i : Instr) (s t : State), s.mc.supply = .running → mayReset i = false → Machine.exec i s = .next t →
    t.cc.level ≠ s.cc.level →
    .lightLevelChange t.cc.level ∈ t.handed ∧ .fridgeLevelChange t.cc.level ∈ t.handed
      ∧ .heaterLevelChange t.cc.level ∈ t.handed
      ∧ .budgetReport ⟨t.cc.level, t.cc.budget, classesAdmitted t.cc.level⟩ ∈ t.handed)
    ∧ ((∀ (l : ShedLevel) (s : State), s.mc.supply = .running →
      ∃ t, Machine.exec (.heaterLevelChange l) s = .next t ∧ heaterCore t.hc = heaterCore { s.hc with level := l }
        ∧ changesOnly (.hc :: everyEvent) s t)
    ∧ (∀ (l : ShedLevel) (s : State), s.mc.supply = .running →
      ∃ t, Machine.exec (.fridgeLevelChange l) s = .next t ∧ t.fc = { s.fc with level := l }
        ∧ changesOnly (.fc :: everyEvent) s t)
    ∧ ∀ (l : ShedLevel) (s : State), s.mc.supply = .running →
        ∃ t, Machine.exec (.lightLevelChange l) s = .next t ∧ t.lc.level = l ∧ t.asked = s.asked
          ∧ ∀ i, (lightOf t i).applied = appliedLevel t i ∧ (lightOf t i).faded = (lightOf s i).faded
              ∧ (lightOf t i).target = (lightOf s i).target)
    ∧ ∀ (i : Instr) (s t : State), s.mc.supply = .running → mayReset i = false → Machine.exec i s = .next t →
        levelCode t.cc.level < levelCode s.cc.level →
        ((i = .minuteEnd ∨ ∃ m, i = .horizonChange m) ∧ 4 ≤ s.cc.relief ∧ s.cc.sensorHold = false)
          ∨ (s.cc.level = .cutoff ∧ t.cc.level = .reserve ∧ t.cc.sensorHold = true ∧ t.cc.relief = 0)

/-- A burning heater leaves the burning states only through PURGE or DRY_COOL, a reset excepted (R82). -/
def Obligations.BurningEndsInPurgeOrDryCool : Prop :=
  ∀ (i : Instr) (s t : State), mayReset i = false → burning s.hc.state = true → Machine.exec i s = .next t →
    burning t.hc.state = true ∨ t.hc.state = .purge ∨ t.hc.state = .dryCool

/-! ### Mode Controller, clocks and settings store -/

/-- What the spec gives the state right after a power-on reset with a store never written. The revisions' start at 0 is log
entry 14's choice, the reset with a store never written log entry 13's. -/
def Obligations.ResetLeavesSpecValues : Prop :=
  let s := State.reset
  s.mc.mode = .awake ∧ s.mc.silence = 0 ∧ s.mc.supply = .running ∧ s.mc.lastReset = .powerOn
    ∧ s.mc.settingsValid = false ∧ s.mc.heaterValid = false ∧ s.cfg = settingsDefault
    ∧ (∀ ch ∈ allChannels, statusOf s ch = .stale) ∧ (∀ c ∈ allComparators, (compOf s c).state = .off)
    ∧ s.mu.tach = ⟨none, none, 0⟩
    ∧ s.cc.c = none ∧ s.cc.level = .normal ∧ s.cc.horizon = 480 ∧ s.cc.budget = 242
    ∧ (∀ c ∈ allConsumers, (entryOf s c).grant = 0 ∧ (entryOf s c).request = none) ∧ s.ga.passes = 0
    ∧ s.hc.state = .off ∧ s.hc.failed = 0 ∧ s.hc.overheats = 0 ∧ s.hc.lockout = false
    ∧ s.fc.state = .idle ∧ s.fc.reading = .pending ∧ s.fc.ventSpeed = 0
    ∧ (∀ i ∈ allLights, (lightOf s i).target = 0 ∧ (lightOf s i).applied = 0)
    ∧ (∀ k ∈ allKeys, (keyOf s k).state = .opened) ∧ (∀ c ∈ allContacts, (contactOf s c).state = .unknown)
    ∧ s.rm.state = .unknown ∧ s.rm.log = []
    ∧ s.su.elapsed = 0 ∧ s.su.offset = 0 ∧ s.su.unset = true ∧ (∀ k ∈ allSlots, slotOf s k = none)
    ∧ (∀ r ∈ allRecords, tget s.rev r = 0)
    ∧ s.lk.notices = [⟨.resetDone, .mc, .attention, false, ⟨0, true⟩, [0]⟩,
        ⟨.settingsDefaulted, .mc, .warning, false, ⟨0, true⟩, []⟩]

/-- The supply monitor (R190): below 8.0 V a running part enters reset with every output off and the store writes under way
failed, from 8.0 V up it runs on; in reset the 100 ms count runs while the supply stands above 9.0 V, a contact input that
changes stands at its new level with no timer started and nothing else changed, and every command but these and the power-on
reset leaves the part as it is; once the count is complete, which POWER_ON_RESET stands for (log entry 26), the power-on reset
releases the part, running and AWAKE, with the elapsed counter at 0. Handings are read in `handed`, the model's own field (log
entry 2). That the handings in flight are dropped is log entry 26's choice, what a part in reset follows log entry 12's. -/
def Obligations.SupplyMonitorHoldsAndReleases : Prop :=
  ((∀ (mv : Nat) (s : State), s.mc.supply = .running → mv < 8000 →
      ∃ t, Machine.exec (.supplyChange mv) s = .next t ∧ t.mc.supply = .held false ∧ (∀ o, energized t o = false)
        ∧ t.handed = [] ∧ t.mc.saving = none ∧ t.mc.heaterWrite = none
        ∧ t.mc.settingsPart = (if s.mc.saving.isSome then none else s.mc.settingsPart)
        ∧ t.mc.heaterPart = (if s.mc.heaterWrite.isSome then none else s.mc.heaterPart))
    ∧ (∀ (mv : Nat) (s : State), s.mc.supply = .running → 8000 ≤ mv → Machine.exec (.supplyChange mv) s = .next s)
    ∧ ∀ (mv : Nat) (s : State) (counting : Bool), s.mc.supply = .held counting →
        ∃ t, Machine.exec (.supplyChange mv) s = .next t ∧ t.mc.supply = .held (decide (9000 < mv)))
    ∧ ((∀ (i : Instr) (s : State) (counting : Bool), s.mc.supply = .held counting → i ≠ .powerOnReset →
      (∀ mv, i ≠ .supplyChange mv) → (∀ c l, i ≠ .contactInputChange c l) → Machine.exec i s = .next s)
    ∧ ∀ (c : Contact) (l : LineLevel) (s : State) (counting : Bool), s.mc.supply = .held counting →
        ∃ t, Machine.exec (.contactInputChange c l) s = .next t ∧ contactOf t c = { contactOf s c with pin := l }
          ∧ (∀ c', c' ≠ c → contactOf t c' = contactOf s c') ∧ t = { s with pn := { s.pn with contacts := t.pn.contacts } })
    ∧ ∀ s : State, s.mc.supply = .held true →
        ∃ t, Machine.exec .powerOnReset s = .next t ∧ t.mc.supply = .running ∧ t.mc.mode = .awake
          ∧ t.mc.lastReset = .powerOn ∧ t.su.elapsed = 0

/-- The power-on reset (R190, R191): each store part that checks is applied, each that fails leaves its owners at their
defaults and SETTINGS_DEFAULTED behind RESET_DONE, the clock is unset, C is absent and nothing is granted. The revisions'
start at 0 is log entry 14's choice. A part held in reset whose 100 ms count does not run, since its supply has not stood above
9.0 V, takes no power-on reset; that a running part takes one is log entry 26's choice. -/
def Obligations.PowerOnResetRestoresTheStore : Prop :=
  (∀ s : State, s.mc.supply = .held false → Machine.exec .powerOnReset s = .next s)
    ∧ ∀ s : State, s.mc.supply ≠ .held false → ∃ t, Machine.exec .powerOnReset s = .next t
    ∧ t.mc.supply = .running ∧ t.mc.mode = .awake ∧ t.mc.silence = 0 ∧ t.mc.lastReset = .powerOn
    ∧ (s.mc.saving = none → ∀ img, s.mc.settingsPart = some img → t.cfg = img.settings ∧ t.mc.settingsValid = true)
    ∧ (s.mc.saving.isSome ∨ s.mc.settingsPart = none → t.cfg = settingsDefault ∧ t.mc.settingsValid = false)
    ∧ (s.mc.heaterWrite = none → ∀ p, s.mc.heaterPart = some p →
        t.hc.failed = p.failed ∧ t.hc.overheats = p.overheats ∧ t.hc.lockout = p.lockout
          ∧ t.hc.state = (if p.lockout then .lockout else .off) ∧ t.mc.heaterValid = true)
    ∧ (s.mc.heaterWrite.isSome ∨ s.mc.heaterPart = none →
        t.hc.failed = 0 ∧ t.hc.overheats = 0 ∧ t.hc.lockout = false ∧ t.hc.state = .off ∧ t.mc.heaterValid = false)
    ∧ t.lk.notices.map (·.kind) =
        (if t.mc.settingsValid && t.mc.heaterValid then [.resetDone] else [.resetDone, .settingsDefaulted])
    ∧ t.su.elapsed = 0 ∧ t.su.unset = true ∧ t.cc.c = none ∧ grantSum t = 0 ∧ (∀ r, tget t.rev r = 0)
    ∧ ∀ c, (compOf t c).state = if tget t.cfg.thresholds (compIx c) = 0 then .disabled else .off

/-- A tick below the last count (R154): the elapsed counter gains 1, the expiries that fall on it are handed, and with no
entry armed and no frost hold running the silence time gains 1 up to 120. A second of driving adds to the drive counter, raising DRIVE_SOON and
DRIVE_LIMIT with their chimes where it reaches their thresholds (R140); an open segment that completes the break is taken as
BREAK_DONE (R141); in RESTING the horizon follows the planned end and is handed where it changes (R147), and the planned end
and the end-soon time, once come, are handed (R145, R146); every entry then due fires, and no other entry changes (R160).
Handings are read in `handed`, the model's own field (log entry 2). How time passes is log entry 11's choice, the firing
within a tick in STANDBY log entry 24's, that BREAK_DONE carries the accumulator with the open segment's length in it log entry
22's, the rounding of every minute a notice carries log entry 6's, the free bytes of more than 65,535 min log entry 42's, and
the free minutes of DRIVE_SOON past the limit log entry 45's. -/
def Obligations.TickAdvancesTheClock : Prop :=
  ∀ s : State, s.mc.supply = .running → s.su.elapsed < 4294967295 →
    ∃ t, Machine.exec .elapsedTick s = .next t ∧ t.su.elapsed = s.su.elapsed + 1 ∧ t.su.tenth = 0
      ∧ ((s.su.elapsed + 1) % 60 = 0 → .minuteEnd ∈ t.handed)
      ∧ (s.hc.durationEnd = some (s.su.elapsed + 1) → .durationExpiry ∈ t.handed)
      ∧ (s.fc.boostEnd = some (s.su.elapsed + 1) → .boostEnd ∈ t.handed)
      ∧ (s.fc.ventRunEnd = some (s.su.elapsed + 1) → .ventRunEnd ∈ t.handed)
      ∧ (∀ k, (tget s.ga.sockets (socketIx k)).runEnd = some (s.su.elapsed + 1) → .socketRunLimitExpiry k ∈ t.handed)
      ∧ ((∀ k e, slotOf s k = some e → e.state ≠ .armed) → s.hc.frostHold = none → t.mc.silence = min 120 (s.mc.silence + 1))
      ∧ (let cab := cabTime { s with su := { s.su with elapsed := s.su.elapsed + 1 } }
         let p := s.cfg.profile
         let drive := min 999999 (s.rm.drive + 1)
         (s.rm.state = .driving → s.rm.move = .active → openSegment s.rm = none →
            t.rm.drive = drive
            ∧ t.rm.soon = (s.rm.soon || decide ((p.driveLimit - p.wDrive) * 60 ≤ drive))
            ∧ t.rm.limit = (s.rm.limit || decide (p.driveLimit * 60 ≤ drive))
            ∧ (s.rm.soon = false → (p.driveLimit - p.wDrive) * 60 ≤ drive → .chimeRequest 4 ∈ t.handed
                ∧ .noticePost ⟨.driveSoon, .rm, .attention, s.rm.uncertain,
                    packed12 (shownMinutes drive) (if drive ≤ p.driveLimit * 60 then shownMinutes (p.driveLimit * 60 - drive)
                      else Config.minutesPastLimit (drive - p.driveLimit * 60))⟩ ∈ t.handed)
            ∧ (s.rm.limit = false → p.driveLimit * 60 ≤ drive → t.rm.repeatTimer = some (s.su.elapsed + 301)
                ∧ .chimeRequest 5 ∈ t.handed
                ∧ .noticePost ⟨.driveLimit, .rm, .warning, s.rm.uncertain, leBytes 2 (shownMinutes drive : Int)⟩ ∈ t.handed))
          ∧ (s.rm.state ≠ .driving ∨ s.rm.move ≠ .active → ∀ start, openSegment s.rm = some (start, false) →
              (p.segMin * 60 ≤ cab - start → p.breakTotal * 60 ≤ s.rm.acc + (cab - start) →
                t.rm.drive = 0 ∧ t.rm.acc = 0 ∧ t.rm.soon = false ∧ t.rm.limit = false ∧ t.rm.uncertain = false
                ∧ .noticePost ⟨.breakDone, .rm, .info, false,
                    minuteBytes (shownMinutes (s.rm.acc + (cab - start)))⟩ ∈ t.handed)
              ∧ (cab - start < p.segMin * 60 ∨ s.rm.acc + (cab - start) < p.breakTotal * 60 →
                t.rm.drive = s.rm.drive ∧ t.rm.acc = s.rm.acc))
          ∧ (s.rm.state = .resting → ∀ e, s.rm.plannedEnd = some e →
              t.rm.horizon = max 1 ((e - cab + 59) / 60)
              ∧ (t.rm.horizon ≠ s.rm.horizon → .horizonChange t.rm.horizon ∈ t.handed)
              ∧ (e ≤ cab → .plannedEndReached ∈ t.handed))
          ∧ (∀ e, s.rm.endSoon = some e → e ≤ cab → s.rm.endSoonRaised = false → .endSoonReached ∈ t.handed)
          ∧ ∀ k e, slotOf s k = some e →
              (e.state = .armed → s.su.unset = false → e.time ≤ cab →
                (∃ sev reason, .noticePost ⟨.schedule, .su, sev, false, [byte k.1, byte (actionCode e.action), reason]⟩ ∈ t.handed)
                ∧ ∃ e', slotOf t k = some e' ∧ e'.action = e.action ∧ e'.last.isSome
                  ∧ (e.daily = false → e'.state = .done ∨ e'.state = .skipped)
                  ∧ (e.daily = true → cab < e'.time ∨ e'.state = .disabled))
              ∧ (e.state ≠ .armed ∨ s.su.unset = true ∨ cab < e.time → slotOf t k = some e))

/-- STANDBY (R188): accepted in AWAKE with the heater in OFF or LOCKOUT, the fridge OFF, no load granted and IGN not ACTIVE,
refused with STATE otherwise, and answered OK with nothing changed in STANDBY; that it is judged in DOZE as in AWAKE is log
entry 10's choice. A start bit in AWAKE or DOZE makes the silence time 0 and leaves AWAKE (R187); an edge on RXD or on a key
column in STANDBY wakes the part with the silence time 0, the receiver in SKIP, keys scanned and PANEL's request placed, and
in AWAKE it leaves the link and the panel as they are (R189, R177, R121); in DOZE such an edge is no wake source of its own.
Answers are read in `answer`, the model's own field (log entry 8). The order in which a wake lets held entries fire is log
entry 24's choice. -/
def Obligations.StandbyIsEnteredAndLeft : Prop :=
  ((∀ s : State, s.mc.supply = .running → s.mc.mode ≠ .standby → (s.hc.state = .off ∨ s.hc.state = .lockout) →
      s.fc.state = .off → (∀ c, c ≠ .panel → (entryOf s c).grant = 0) → (contactOf s .ign).state ≠ .active →
      ∃ t, Machine.exec .standby s = .next t ∧ t.answer = some ⟨.ok, []⟩ ∧ t.mc.mode = .standby
        ∧ t.pn.standby = true ∧ t.pn.chimes = [] ∧ t.pn.player = none ∧ tget t.asked (consIx .panel) = none
        ∧ (∀ k, (keyOf t k).state = .opened)
        ∧ ∀ ch ∈ [Channel.tc, .tf, .th, .tx], (tget s.cfg.chan (chanIx ch)).enabled = true → statusOf t ch = .stale)
    ∧ (∀ s : State, s.mc.supply = .running → s.mc.mode ≠ .standby →
      (¬(s.hc.state = .off ∨ s.hc.state = .lockout) ∨ s.fc.state ≠ .off ∨ (∃ c ∈ allConsumers, c ≠ .panel ∧ (entryOf s c).grant ≠ 0)
        ∨ (contactOf s .ign).state = .active) →
      ∃ t, Machine.exec .standby s = .next t ∧ t.answer = some ⟨.state, []⟩ ∧ t.mc.mode ≠ .standby
        ∧ changesOnly ([.answer] ++ everyEvent) s t)
    ∧ ∀ s : State, s.mc.supply = .running → s.mc.mode = .standby →
        ∃ t, Machine.exec .standby s = .next t ∧ t.answer = some ⟨.ok, []⟩ ∧ t.mc.mode = .standby
          ∧ changesOnly ([.answer] ++ everyEvent) s t)
    ∧ ((∀ s : State, s.mc.supply = .running → s.mc.mode ≠ .standby →
      ∃ t, Machine.exec .rxStartBit s = .next t ∧ t.mc.silence = 0 ∧ t.mc.mode = .awake)
    ∧ (∀ (i : Instr) (s : State), s.mc.supply = .running → i = .rxdWakeEdge ∨ i = .columnWakeEdge → s.mc.mode = .standby →
      ∃ t, Machine.exec i s = .next t ∧ t.mc.mode = .awake ∧ t.mc.silence = 0 ∧ t.lk.rx = .skip ∧ t.pn.standby = false
        ∧ tget t.asked (consIx .panel) = some (panelRequest t.cfg.demands))
    ∧ ∀ (i : Instr) (s : State), s.mc.supply = .running → i = .rxdWakeEdge ∨ i = .columnWakeEdge → s.mc.mode ≠ .standby →
        ∃ t, Machine.exec i s = .next t ∧ t.mc.mode ≠ .standby ∧ changesOnly everyEvent s t)

/-- RESTART (R193): refused with STATE in the heater states named there; otherwise answered OK, the reset waiting for the
reply and for any store write; a quiet one with no store write under way resets at once, keeping C within Cap, the residue,
the minute window and the cab clock, every revision 0. The settings store (R192): SAVE SETTINGS takes the settings and the
host entries as one image; at the write's end the store holds it, is VALID and the save answers OK. The heater part's write
ends with the values it began with, and a change made meanwhile starts a further write. Answers are read in `answer`, the
model's own field (log entry 8). When a waiting restart is made, and that the kept C is held within the restored Cap, are log
entry 23's inferences, that a later RESTART takes the place of one that waits its choice; the revisions' start at 0 is log
entry 14's choice. -/
def Obligations.RestartsAndSavesUseTheStore : Prop :=
  ((∀ (quiet : Bool) (s : State), s.mc.supply = .running → s.mc.restart = .none →
      s.hc.state ≠ .off → s.hc.state ≠ .lockout → s.hc.state ≠ .vent →
      ∃ t, Machine.exec (.restart quiet) s = .next t ∧ t.answer = some ⟨.state, []⟩ ∧ t.mc.restart = .none)
    ∧ (∀ s : State, s.mc.supply = .running → (s.hc.state = .off ∨ s.hc.state = .lockout ∨ s.hc.state = .vent) →
      ∃ t, Machine.exec (.restart false) s = .next t ∧ t.answer = some ⟨.ok, []⟩ ∧ t.mc.restart = .reply
        ∧ t.cfg = s.cfg ∧ t.lk = s.lk)
    ∧ (∀ s : State, s.mc.supply = .running → (s.hc.state = .off ∨ s.hc.state = .lockout ∨ s.hc.state = .vent) →
      (s.mc.saving.isSome ∨ s.mc.heaterWrite.isSome) →
      ∃ t, Machine.exec (.restart true) s = .next t ∧ t.answer = some ⟨.ok, []⟩ ∧ t.mc.restart = .store
        ∧ t.cfg = s.cfg ∧ t.lk = s.lk)
    ∧ ∀ s : State, s.mc.supply = .running → (s.hc.state = .off ∨ s.hc.state = .lockout ∨ s.hc.state = .vent) →
        s.mc.saving = none → s.mc.heaterWrite = none →
        ∃ t, Machine.exec (.restart true) s = .next t ∧ t.mc.restart = .none ∧ t.mc.lastReset = .restart
          ∧ t.mc.mode = .awake ∧ t.su.elapsed = 0 ∧ cabTime t = cabTime s ∧ t.su.unset = s.su.unset
          ∧ t.cc.c = s.cc.c.map (min t.cfg.battery.cap) ∧ t.cc.residue = s.cc.residue ∧ t.cc.window = s.cc.window
          ∧ (t.lk.notices.head?.map fun n => (n.kind, n.data)) = some (.resetDone, [1]) ∧ ∀ r, tget t.rev r = 0)
    ∧ ((∀ s : State, s.mc.supply = .running →
      ∃ t, Machine.exec .saveSettings s = .next t ∧ t.mc.saving = some ⟨s.cfg, s.su.slots.map storedEntry⟩
        ∧ changesOnly ([.mc] ++ everyEvent) s t)
    ∧ (∀ s : State, s.mc.supply = .running → s.mc.restart = .none → ∀ img, s.mc.saving = some img →
      ∃ t, Machine.exec (.storeWriteDone .settings) s = .next t ∧ t.mc.settingsPart = some img
        ∧ t.mc.settingsValid = true ∧ t.mc.saving = none ∧ t.answer = some ⟨.ok, []⟩)
    ∧ ∀ s : State, s.mc.supply = .running → s.mc.restart = .none → ∀ p, s.mc.heaterWrite = some p →
        ∃ t, Machine.exec (.storeWriteDone .heater) s = .next t ∧ t.mc.heaterPart = some p
          ∧ t.mc.heaterValid = true ∧ t.mc.heaterAgain = false
          ∧ t.mc.heaterWrite = (if s.mc.heaterAgain then some ⟨s.hc.failed, s.hc.overheats, s.hc.lockout⟩ else none))

/-! ### Measurement Unit -/

/-- An in-range conversion of the scan's next channel sets the code and the range kind IN, and the sample scaled to the
channel's range (R4). -/
def Obligations.InRangeConversionScalesSample : Prop :=
  ∀ (ch : Channel) (code : Nat) (s : State), s.mc.supply = .running → s.mu.scanLeft.head? = some ch → 16 ≤ code →
    code ≤ 4079 →
    ∃ t, Machine.exec (.conversion ch code) s = .next t
      ∧ (chanOf t ch).code = some code ∧ (chanOf t ch).kind = some .inRange
      ∧ (chanOf t ch).sample = some ((valueRange ch).1
          + (((code : Int) - 16) * ((valueRange ch).2 - (valueRange ch).1)) / 4063)

/-- At a conversion of the scan's next channel codes up to 15 are SHORT and codes from 4,080 OPEN: sample and filtered stay,
the out count gains 1 up to 3 and the in count becomes 0; an in-range conversion sets the out count to 0 (R5). -/
def Obligations.OutOfRangeConversionHoldsSample : Prop :=
  (∀ (ch : Channel) (code : Nat) (s : State), s.mc.supply = .running → s.mu.scanLeft.head? = some ch →
      code ≤ 15 ∨ (4080 ≤ code ∧ code ≤ 4095) →
      ∃ t, Machine.exec (.conversion ch code) s = .next t
        ∧ (chanOf t ch).code = some code ∧ (chanOf t ch).kind = some (if code ≤ 15 then .short else .openLead)
        ∧ (chanOf t ch).sample = (chanOf s ch).sample ∧ (chanOf t ch).filtered = (chanOf s ch).filtered
        ∧ (chanOf t ch).outCount = min 3 ((chanOf s ch).outCount + 1) ∧ (chanOf t ch).inCount = 0)
    ∧ ∀ (ch : Channel) (code : Nat) (s : State), s.mc.supply = .running → s.mu.scanLeft.head? = some ch → 16 ≤ code →
        code ≤ 4079 →
        ∃ t, Machine.exec (.conversion ch code) s = .next t ∧ (chanOf t ch).outCount = 0

/-- The filter, the range mark and the status at a conversion of the scan's next channel, which leaves the scan (R2, R6, R7,
R8); every other channel stays as it was. A scan converts each of its channels once, in ascending number (R2); that a
conversion commanded of another channel than its next changes nothing is log entry 35's choice. What the users of each channel
do at a conversion stands with their own blocks' statements. -/
def Obligations.ConversionFiltersAndJudgesStatus : Prop :=
  (∀ (ch : Channel) (code : Nat) (s : State), s.mc.supply = .running → s.mu.scanLeft.head? ≠ some ch →
    ∃ t, Machine.exec (.conversion ch code) s = .next t ∧ changesOnly everyEvent s t)
  ∧ ∀ (ch : Channel) (code : Nat) (s : State), s.mc.supply = .running → s.mu.scanLeft.head? = some ch → code ≤ 4095 →
    ∃ t, Machine.exec (.conversion ch code) s = .next t
      ∧ (16 ≤ code → code ≤ 4079 → ∀ v, (chanOf t ch).sample = some v →
          (chanOf t ch).filtered = some (match (chanOf s ch).filtered with
            | none => v
            | some f => f + Int.tdiv (v - f) (2 ^ (tget s.cfg.chan (chanIx ch)).k)))
      ∧ (16 ≤ code → code ≤ 4079 → (chanOf s ch).rangeMark = true →
          (chanOf t ch).rangeMark = decide ((chanOf s ch).inCount + 1 < 10)
            ∧ (chanOf t ch).inCount = if (chanOf s ch).inCount + 1 < 10 then (chanOf s ch).inCount + 1 else 0)
      ∧ (16 ≤ code → code ≤ 4079 → (chanOf s ch).rangeMark = false → (chanOf t ch).rangeMark = false)
      ∧ (code ≤ 15 ∨ 4080 ≤ code →
          (chanOf t ch).rangeMark = ((chanOf s ch).rangeMark || decide (3 ≤ (chanOf s ch).outCount + 1)))
      ∧ (chanOf t ch).hostMark = (chanOf s ch).hostMark
      ∧ (chanOf t ch).status =
          (if isConverted s ch = false ∨ ((chanOf t ch).sample = none ∧ (chanOf t ch).rangeMark = false) then .stale
           else if (chanOf t ch).rangeMark = true ∨ (chanOf t ch).hostMark = true then .suspect
           else .valid)
      ∧ t.mu.scanLeft = s.mu.scanLeft.filter (· != ch)
      ∧ ∀ ch', ch' ≠ ch → chanOf t ch' = chanOf s ch'

/-- A scan starts with no scan in progress: it keeps the mode it begins in and converts the channels enabled and sampled in
it (R2); with one in progress nothing changes. Where the mode changed during a scan, the conversion that ends it hands the next
scan at once. SUSPECT CHANNEL and CLEAR SUSPECT (R9): channel 0 to 6 takes or loses its host
mark, its range mark and samples stay, the status is judged again and the answer is OK; a number above 6 is refused with
RANGE and changes no channel. Handings are read in `handed` and answers in `answer`, the model's own fields (log entries 2 and
8). -/
def Obligations.ScansAndHostMarks : Prop :=
  ((∀ s : State, s.mc.supply = .running → s.mu.scanLeft = [] →
      ∃ t, Machine.exec .scanStart s = .next t ∧ t.mu.scanMode = s.mc.mode
        ∧ t.mu.scanLeft = allChannels.filter (fun ch => (tget s.cfg.chan (chanIx ch)).enabled
            && (s.mc.mode != .standby || ch == .vh || ch == .ih || ch == .vs))
        ∧ t.mu.chan = s.mu.chan)
    ∧ ∀ s : State, s.mc.supply = .running → s.mu.scanLeft ≠ [] →
        ∃ t, Machine.exec .scanStart s = .next t ∧ measureCore t.mu = measureCore s.mu)
    ∧ (∀ (ch : Channel) (code : Nat) (s : State), s.mc.supply = .running → s.mu.scanLeft = [ch] → s.mu.rescan = true →
      ∃ t, Machine.exec (.conversion ch code) s = .next t ∧ t.mu.scanLeft = [] ∧ .scanStart ∈ t.handed)
    ∧ (∀ s : State, s.mc.supply = .running → s.mc.mode = .doze → s.mu.scanLeft ≠ [] →
      ∃ t, Machine.exec .rxStartBit s = .next t ∧ t.mc.mode = .awake ∧ t.mu.rescan = true)
    ∧ ((∀ (n : Nat) (ch : Channel) (mark : Bool) (s : State), s.mc.supply = .running → (chanIx ch).1 = n →
      ∃ t, Machine.exec (if mark then .suspectChannel n else .clearSuspect n) s = .next t
        ∧ t.answer = some ⟨.ok, []⟩ ∧ (chanOf t ch).hostMark = mark
        ∧ (chanOf t ch).rangeMark = (chanOf s ch).rangeMark ∧ (chanOf t ch).sample = (chanOf s ch).sample
        ∧ (chanOf t ch).filtered = (chanOf s ch).filtered
        ∧ (chanOf t ch).status =
            (if isConverted s ch = false ∨ ((chanOf s ch).sample = none ∧ (chanOf s ch).rangeMark = false) then .stale
             else if (chanOf s ch).rangeMark = true ∨ mark = true then .suspect
             else .valid)
        ∧ ∀ ch', ch' ≠ ch → chanOf t ch' = chanOf s ch')
    ∧ ∀ (n : Nat) (mark : Bool) (s : State), s.mc.supply = .running → 6 < n →
        ∃ t, Machine.exec (if mark then .suspectChannel n else .clearSuspect n) s = .next t
          ∧ t.answer = some ⟨.range, []⟩ ∧ t.mu.chan = s.mu.chan ∧ changesOnly (.answer :: everyEvent) s t)

/-- The current rises above, or falls to or below, a comparator's threshold while its output is on: WATCH and QUALIFY change
places, BLANKING and TRIPPED stay (R14). The blanking timer's expiry leaves BLANKING for QUALIFY above the threshold and for
WATCH otherwise; the qualify timer's trips: the total gains 1 up to 65,535, the time is stamped and the trip handed to the GA
(R14, R16). At its output's switch-on, whatever command brings it about, a comparator goes from OFF to BLANKING; at the
switch-off from every state but DISABLED to OFF, TRIPPED included, its current and its reading 0; and T3 blanks anew at the
switch-on of a further light channel (R14, R15). Handings are read in `handed`, the model's own field (log entry 2). A timer's
command is taken as its expiry, by log entry 4; that the report carries its cab time is log entry 20's choice, and when the
switching of an event is taken log entry 10's. -/
def Obligations.ComparatorsFollowTheCurrent : Prop :=
  ((∀ (c : Comparator) (ma : Nat) (s : State), s.mc.supply = .running → watchedOn s c = true →
      ∃ t, Machine.exec (.currentRise c ma) s = .next t ∧ (compOf t c).current = ma
        ∧ (compOf t c).state =
            (if (compOf s c).state = .watch ∧ thresholdOf s c < ma then .qualify else (compOf s c).state)
        ∧ (∀ c', c' ≠ c → compOf t c' = compOf s c') ∧ t.mu.chan = s.mu.chan)
    ∧ ∀ (c : Comparator) (ma : Nat) (s : State), s.mc.supply = .running → watchedOn s c = true →
        ∃ t, Machine.exec (.currentFall c ma) s = .next t ∧ (compOf t c).current = ma
          ∧ (compOf t c).state =
              (if (compOf s c).state = .qualify ∧ ma ≤ thresholdOf s c then .watch else (compOf s c).state)
          ∧ (∀ c', c' ≠ c → compOf t c' = compOf s c') ∧ t.mu.chan = s.mu.chan)
    ∧ ((∀ (c : Comparator) (s : State), s.mc.supply = .running → (compOf s c).state = .blanking →
      ∃ t, Machine.exec (.blankingExpiry c) s = .next t
        ∧ (compOf t c).state = (if thresholdOf s c < (compOf s c).current then .qualify else .watch)
        ∧ (compOf t c).total = (compOf s c).total ∧ ∀ c', c' ≠ c → compOf t c' = compOf s c')
    ∧ (∀ (c : Comparator) (s : State), s.mc.supply = .running → (compOf s c).state = .qualify →
      ∃ t, Machine.exec (.qualifyExpiry c) s = .next t ∧ (compOf t c).state = .tripped
        ∧ (compOf t c).total = min 65535 ((compOf s c).total + 1) ∧ (compOf t c).lastTrip = some (stampNow s)
        ∧ .tripReport ⟨c, stampNow s⟩ ∈ t.handed ∧ ∀ c', c' ≠ c → compOf t c' = compOf s c')
    ∧ ∀ (c : Comparator) (s : State), s.mc.supply = .running →
        ((compOf s c).state ≠ .blanking →
            ∃ t, Machine.exec (.blankingExpiry c) s = .next t ∧ measureCore t.mu = measureCore s.mu)
          ∧ ((compOf s c).state ≠ .qualify →
            ∃ t, Machine.exec (.qualifyExpiry c) s = .next t ∧ measureCore t.mu = measureCore s.mu))
    ∧ ∀ (i : Instr) (s t : State), s.mc.supply = .running → mayReset i = false → Machine.exec i s = .next t →
        (∀ c, watchedOn s c = false → watchedOn t c = true → (compOf s c).state = .off → (compOf t c).state = .blanking)
          ∧ (∀ c, watchedOn s c = true → watchedOn t c = false →
              (compOf t c).state = (if (compOf s c).state = .disabled then .disabled else .off)
                ∧ (compOf t c).current = 0 ∧ (compOf t c).reading = 0)
          ∧ ∀ k, watchedOn s .t3 = true → energized s (.light k) = false → energized t (.light k) = true →
              ((compOf s .t3).state = .watch ∨ (compOf s .t3).state = .qualify ∨ (compOf s .t3).state = .blanking) →
              (compOf t .t3).state = .blanking

/-- A load current reading of an input whose output the event leaves on or off: the mean in whole d-amps, held at the full
scale, where it is on, and 0 where it is off; its comparator keeps state and current (R17). The tach capture (R18, R19): a first
edge is recorded alone, a later one within 1 s gives its period and the speed 30,000,000 / period held at 9,999, one 1 s after
the last and taken before the expiry gives a period just under 1 s and 30 rpm, and the 1 s expiry clears the capture. That an
edge of the same microsecond gives the shortest period, and one later than 1 s finds the capture expired, are log entry 37's
choices. -/
def Obligations.LoadReadingsAndTachMeasure : Prop :=
  (∀ (r : LoadMeans) (s : State), s.mc.supply = .running →
    ∃ t, Machine.exec (.loadCurrentReading r) s = .next t
      ∧ (∀ c, watchedOn t c = watchedOn s c → (compOf t c).reading =
            (if watchedOn s c then min (if c = .t1 then 40 else 120) (meanOf r c / 100) else 0)
          ∧ (compOf t c).state = (compOf s c).state ∧ (compOf t c).current = (compOf s c).current)
      ∧ t.mu.chan = s.mu.chan)
    ∧ ((∀ (us : Nat) (s : State), s.mc.supply = .running → s.mu.tach.lastEdge = none →
      ∃ t, Machine.exec (.tachEdge us) s = .next t
        ∧ measureCore t.mu = measureCore { s.mu with tach := { s.mu.tach with lastEdge := some us } })
    ∧ (∀ (us : Nat) (s : State), s.mc.supply = .running → ∀ l, s.mu.tach.lastEdge = some l →
      ∃ t, Machine.exec (.tachEdge us) s = .next t
        ∧ (∀ period, us = l + period → 1 ≤ period → period ≤ 999999 →
            measureCore t.mu = measureCore { s.mu with tach := ⟨some us, some period, min 9999 (30000000 / period)⟩ })
        ∧ (us = l + 1000000 → measureCore t.mu = measureCore { s.mu with tach := ⟨some us, some 999999, 30⟩ })
        ∧ (l + 1000000 < us → measureCore t.mu = measureCore { s.mu with tach := ⟨some us, none, 0⟩ })
        ∧ (us ≤ l → measureCore t.mu = measureCore { s.mu with tach := ⟨some us, some 1, 9999⟩ }))
    ∧ ∀ s : State, s.mc.supply = .running →
        ∃ t, Machine.exec .tachTimeout s = .next t
          ∧ measureCore t.mu = measureCore { s.mu with tach := ⟨none, none, 0⟩ })

/-! ### Charge Counter -/

/-- A minute end with IH VALID and a sample taken appends the mean truncated(sum x 10 / count), in mA, to a window of 16; the
accumulator is emptied in any case (R29). Without a VALID IH it sets C from the latest VALID VH (R37); after an hour of rest
it sets C anew where voltage and count differ by more than 50 per mille (R28). Then, as at a handed horizon, which leaves C,
the residue and the window, a full evaluation follows: Iavg, E and the count target are formed, and the level is raised to the
combined target at once, held, or relieved by one step at the fifth evaluation below it, and the budget follows the level; a
sensor hold keeps the level (R30 to R35, R38). A change of the level is posted. A guard step at a VALID VH conversion moves
the guards and raises at once (R33, R34), and the sensor hold, which comes into force as the second of VH and IH leaves VALID,
makes the level RESERVE (R38). A write of the default horizon outside RESTING makes it H at the Rest Monitor and at the CC,
hands it, and raises the level at once where the target formed with it calls for that (R22, R147); that the evaluation of the
same event is at the new H is log entry 21's choice. Handings are read in `handed`, the model's own field (log entry 2). When the
report is handed, and that a VH or IH not VALID since the reset counts as one that has left it, are log entry 21's choices. -/
def Obligations.MinutesAndHorizonFormTheBudget : Prop :=
  ((∀ s : State, s.mc.supply = .running → s.cc.window.length ≤ 16 → statusOf s .ih = .valid → 0 < s.cc.accCount →
      ∃ t, Machine.exec .minuteEnd s = .next t
        ∧ t.cc.window = (if s.cc.window.length = 16 then s.cc.window.tail else s.cc.window)
            ++ [⟨stampNow s, Int.tdiv (s.cc.accSum * 10) (s.cc.accCount : Int)⟩]
        ∧ t.cc.accSum = 0 ∧ t.cc.accCount = 0)
    ∧ (∀ s : State, s.mc.supply = .running → s.cc.window.length ≤ 16 → (statusOf s .ih ≠ .valid ∨ s.cc.accCount = 0) →
        ∃ t, Machine.exec .minuteEnd s = .next t ∧ t.cc.window = s.cc.window ∧ t.cc.accSum = 0 ∧ t.cc.accCount = 0)
    ∧ ∀ s : State, s.mc.supply = .running →
        ∃ t, Machine.exec .minuteEnd s = .next t ∧ fullyEvaluated s t
          ∧ (statusOf s .vh = .valid → ∀ vh, (chanOf s .vh).filtered = some vh →
              let soc := ocvLookup s.cfg.battery vh
              (statusOf s .ih ≠ .valid → s.cc.restHold = none → t.cc.c = some (soc * s.cfg.battery.cap / 1000)
                  ∧ t.cc.residue = 0 ∧ t.cc.source = .ocv ∧ t.cc.estimated = true ∧ t.cc.starting = false)
              ∧ (statusOf s .ih = .valid → ∀ h, s.cc.restHold = some h → h + 3600 ≤ s.su.elapsed → ∀ c, s.cc.c = some c →
                  (c * 1000 / s.cfg.battery.cap + 50 < soc ∨ soc + 50 < c * 1000 / s.cfg.battery.cap →
                    t.cc.c = some (soc * s.cfg.battery.cap / 1000) ∧ t.cc.residue = 0 ∧ t.cc.source = .ocv
                    ∧ ∃ x, .noticePost ⟨.chargeSync, .cc, .info, false, 2 :: x⟩ ∈ t.handed)
                  ∧ (soc ≤ c * 1000 / s.cfg.battery.cap + 50 → c * 1000 / s.cfg.battery.cap ≤ soc + 50 →
                    t.cc.c = some c ∧ t.cc.residue = s.cc.residue)))
          ∧ (t.cc.level ≠ s.cc.level → ∃ cause, .noticePost ⟨.shedLevel, .cc, levelSeverity t.cc.level, false,
              [byte (levelCode t.cc.level), byte (levelCode s.cc.level), cause]⟩ ∈ t.handed))
    ∧ (∀ (minutes : Nat) (s : State), s.mc.supply = .running → 1 ≤ minutes →
    ∃ t, Machine.exec (.horizonChange minutes) s = .next t ∧ t.cc.horizon = minutes
      ∧ t.cc.c = s.cc.c ∧ t.cc.residue = s.cc.residue ∧ t.cc.window = s.cc.window ∧ fullyEvaluated s t
      ∧ (t.cc.level ≠ s.cc.level → ∃ cause, .noticePost ⟨.shedLevel, .cc, levelSeverity t.cc.level, false,
          [byte (levelCode t.cc.level), byte (levelCode s.cc.level), cause]⟩ ∈ t.handed))
    ∧ (∀ (code : Nat) (s : State), s.mc.supply = .running → validNext s .vh code → s.cc.starting = false →
      s.cc.sensorHold = false →
      let stepped (level : Nat) (g : Guard) : Guard :=
        if g.flag = true then
          (if (level : Int) + 400 < filteredAt s .vh code then
            (match g.recover with
              | none => { g with recover := some s.su.elapsed }
              | some h => if h + 300 ≤ s.su.elapsed then { g with flag := false, recover := none } else g)
           else { g with recover := none })
        else if filteredAt s .vh code < (level : Int) then
          (match g.qualify with
            | none => { g with qualify := some s.su.elapsed }
            | some h => if h + 10 ≤ s.su.elapsed then { g with flag := true, qualify := none } else g)
        else { g with qualify := none }
      ∃ t, Machine.exec (.conversion .vh code) s = .next t
        ∧ t.cc.low = stepped (guardLevel s.cfg.battery.vLow) s.cc.low
        ∧ t.cc.cut = stepped (guardLevel s.cfg.battery.vCut) s.cc.cut
        ∧ t.cc.countTarget = s.cc.countTarget ∧ t.cc.c = s.cc.c
        ∧ t.cc.level = worse s.cc.level (targetLevel t.cc))
    ∧ (∀ (ch other : Channel) (s : State), s.mc.supply = .running → (ch = .vh ∧ other = .ih) ∨ (ch = .ih ∧ other = .vh) →
      statusOf s ch = .valid →
      ∃ t, Machine.exec (.suspectChannel (chanIx ch).1) s = .next t ∧ t.answer = some ⟨.ok, []⟩ ∧ t.cc.fullHold = none
        ∧ (ch = .vh → t.cc.low.flag = s.cc.low.flag ∧ t.cc.cut.flag = s.cc.cut.flag
            ∧ t.cc.low.qualify = none ∧ t.cc.low.recover = none ∧ t.cc.cut.qualify = none ∧ t.cc.cut.recover = none)
        ∧ (ch = .ih → t.cc.accSum = 0 ∧ t.cc.accCount = 0 ∧ t.cc.restHold = none ∧ t.cc.endurance = none)
        ∧ (statusOf s other = .valid → t.cc.level = s.cc.level ∧ t.cc.sensorHold = s.cc.sensorHold)
        ∧ (statusOf s other ≠ .valid → t.cc.level = .reserve ∧ t.cc.sensorHold = true ∧ t.cc.relief = 0
            ∧ t.cc.budget = s.cfg.battery.aRes))
    ∧ (∀ (n : Nat) (s : State), s.mc.supply = .running → 60 ≤ n → n ≤ 1440 → risesStrictly s.cfg.battery.ocv.toList = true →
      s.cfg.battery.vCut < s.cfg.battery.vLow → s.rm.state ≠ .resting → n ≠ s.cfg.battery.horizon → n ≠ s.rm.horizon →
      ∃ t, Machine.exec (.batteryWrite [⟨8, none, some (n : Int)⟩]) s = .next t ∧ t.answer.map (·.status) = some .ok
        ∧ t.cfg = { s.cfg with battery := { s.cfg.battery with horizon := n } }
        ∧ t.rm.horizon = n ∧ t.cc.horizon = n ∧ .horizonChange n ∈ t.handed ∧ t.cc.c = s.cc.c
        ∧ (∀ c, s.cc.c = some c → s.cfg.battery.cap * s.cfg.battery.reserve / 100 < c →
            t.cc.countTarget =
              if t.cc.endurance.any (fun e => e < n + s.cfg.battery.margin) then .conserve else .normal)
        ∧ (s.cc.sensorHold = false → t.cc.level = worse s.cc.level (targetLevel t.cc)))
    ∧ ∀ (ch : Channel) (code : Nat) (s : State), s.mc.supply = .running → ch = .vh ∨ ch = .ih → validNext s ch code →
        ∃ t, Machine.exec (.conversion ch code) s = .next t
          ∧ (statusOf s ch ≠ .valid → t.cc.sensorHold = false)

/-- A VALID IH conversion is counted (R23, R24): with no clamp, C in 1/100 mAs and the residue together gain I x f x eta for
a positive sample and I x f x 100 for another; a move past Cap or below 0 clamps C there with residue 0. The start estimate
(R26): in the start period, a VALID VH conversion at 30 s or later sets C from the lookup on its filtered VH, with residue 0,
source OCV and ESTIMATED set, and posts CHARGE_SYNC. The full synchronisation (R27): with filtered VH at V_full or above and I
from 0 to I_tail, the hold starts at an IH conversion and, once met for 120 s, makes C the capacity with residue 0, source
COUNTED, ESTIMATED clear, and posts CHARGE_SYNC; without the condition it is none. The rest hold runs while I lies within 20
(R28). Handings are read in `handed`, the model's own field (log entry 2). The
division with its clamps is log entry 21's choice. -/
def Obligations.ChargeIsCountedAndEstimated : Prop :=
  (∀ (code : Nat) (s : State), s.mc.supply = .running → validNext s .ih code →
    s.cc.fullHold = none → chargeSound s → ∀ c, s.cc.c = some c →
      let i := scaled .ih code
      let f : Int := match s.mu.scanMode with | .awake => 1 | .doze => 5 | .standby => 50
      let total := (c : Int) * 360000 + s.cc.residue
        + (if 0 < i then i * f * (s.cfg.battery.eta : Int) else i * f * 100)
      ∃ t, Machine.exec (.conversion .ih code) s = .next t
        ∧ ((∃ c', t.cc.c = some c' ∧ (c' : Int) * 360000 + t.cc.residue = total ∧ c' ≤ s.cfg.battery.cap
              ∧ -360000 < t.cc.residue ∧ t.cc.residue < 360000)
          ∨ ((s.cfg.battery.cap : Int) * 360000 + 360000 ≤ total ∧ t.cc.c = some s.cfg.battery.cap ∧ t.cc.residue = 0)
          ∨ (total ≤ -360000 ∧ t.cc.c = some 0 ∧ t.cc.residue = 0)))
    ∧ (∀ (code : Nat) (s : State), s.mc.supply = .running → validNext s .vh code →
    s.cc.starting = true → 30 ≤ s.su.elapsed →
      ∃ t, Machine.exec (.conversion .vh code) s = .next t
        ∧ (∃ vh, (chanOf t .vh).filtered = some vh
            ∧ t.cc.c = some (ocvLookup s.cfg.battery vh * s.cfg.battery.cap / 1000)
            ∧ .noticePost ⟨.chargeSync, .cc, .info, false, 0 :: leBytes 2
                ((ocvLookup s.cfg.battery vh * s.cfg.battery.cap / 1000 * 1000 / s.cfg.battery.cap : Nat) : Int)⟩ ∈ t.handed)
        ∧ t.cc.residue = 0 ∧ t.cc.source = .ocv ∧ t.cc.estimated = true ∧ t.cc.starting = false)
    ∧ (∀ (code : Nat) (s : State), s.mc.supply = .running → validNext s .ih code →
      let i := scaled .ih code
      let full := statusOf s .vh = .valid ∧ (chanOf s .vh).filtered.any (fun vh => decide ((s.cfg.battery.vFull : Int) ≤ vh)) = true
        ∧ 0 ≤ i ∧ i ≤ (s.cfg.battery.iTail : Int)
      ∃ t, Machine.exec (.conversion .ih code) s = .next t
        ∧ (¬full → t.cc.fullHold = none)
        ∧ (full → s.cc.fullHold = none → t.cc.fullHold = some s.su.elapsed)
        ∧ (full → ∀ h, s.cc.fullHold = some h → s.su.elapsed < h + 120 → t.cc.fullHold = some h)
        ∧ (full → ∀ h, s.cc.fullHold = some h → h + 120 ≤ s.su.elapsed →
            t.cc.c = some s.cfg.battery.cap ∧ t.cc.residue = 0 ∧ t.cc.source = .counted ∧ t.cc.estimated = false
            ∧ t.cc.fullHold = some s.su.elapsed
            ∧ .noticePost ⟨.chargeSync, .cc, .info, false, 1 :: leBytes 2
                ((s.cfg.battery.cap * 1000 / s.cfg.battery.cap : Nat) : Int)⟩ ∈ t.handed)
        ∧ t.cc.restHold = (if -20 ≤ i ∧ i ≤ 20 then some (s.cc.restHold.getD s.su.elapsed) else none)
        ∧ t.cc.accSum = s.cc.accSum + i ∧ t.cc.accCount = s.cc.accCount + 1)

/-! ### Grant Arbiter -/

/-- A budget report is held and a pass follows (R48 to R54): a safety request is granted its D, a consumer that is no
candidate is granted 0, a candidate 0 or an amount from its Dmin to its D that is one of its steps; the state is R53's, and
every owner whose grant or state changed is handed its report. The candidates are served by ascending effective class, and
within a class by its order mode: one whose Dmin fits beside the safety grants and the Dmin of those served before it is
granted at least that, one whose Dmin alone does not fit beside the safety grants is granted 0, all are granted their D where
the budget holds every D, and where a continuous one is left between Dmin and D, none served after it gets more than its Dmin
(R51, R52). Handings are read in `handed`, the model's own field (log entry 2). The pass count is modulo 65,536. The pass is
the last before the wake it may cause (log entry 24). -/
def Obligations.BudgetReportStartsAPass : Prop :=
  ∀ (r : BudgetReport) (s : State), s.mc.supply = .running → noChimeHeld s →
    (∀ c q, (entryOf s c).request = some q → q.ok = true) →
    ∃ t, Machine.exec (.budgetReport r) s = .next t ∧ t.ga.report = r ∧ t.ga.passes = (s.ga.passes + 1) % 65536
      ∧ (listsSound s → ∀ c q, candidateUnder s r c = some q →
          (safetyTotal s + candidateSum s r (fun c' => c' == c || servedBefore s c' c) (·.dmin) ≤ r.budget →
              q.dmin ≤ (entryOf t c).grant)
            ∧ (r.budget < safetyTotal s + q.dmin → (entryOf t c).grant = 0)
            ∧ (safetyTotal s + candidateSum s r (fun _ => true) (·.d) ≤ r.budget → (entryOf t c).grant = q.d)
            ∧ (q.steps = none → 0 < (entryOf t c).grant → (entryOf t c).grant < q.d →
                ∀ c' q', candidateUnder s r c' = some q' → servedBefore s c c' = true → (entryOf t c').grant ≤ q'.dmin))
      ∧ ∀ c,
        (entryOf t c).request = (entryOf s c).request
          ∧ ((entryOf s c).request = none → (entryOf t c).grant = 0)
          ∧ (∀ q, (entryOf s c).request = some q → q.safety = true → (entryOf t c).grant = q.d)
          ∧ (∀ q, (entryOf s c).request = some q → q.safety = false →
              (tget s.cfg.masks (consIx c) = true ∨ (entryOf s c).latched = true ∨ (entryOf s c).retry ≠ none
                ∨ effectiveClass s c ∉ r.classes) → (entryOf t c).grant = 0)
          ∧ (∀ q, (entryOf s c).request = some q → q.safety = false →
              (entryOf t c).grant = 0 ∨ (q.dmin ≤ (entryOf t c).grant ∧ (entryOf t c).grant ≤ q.d
                ∧ ∀ xs, q.steps = some xs → (entryOf t c).grant ∈ xs))
          ∧ (entryOf t c).state =
              (if (entryOf s c).latched then .latched
               else if (entryOf s c).retry.isSome then .tripped
               else match (entryOf s c).request with
                 | some q =>
                   if q.safety then .safety
                   else if tget s.cfg.masks (consIx c) then .masked
                   else if (entryOf t c).grant = 0 then .waiting
                   else if (entryOf t c).grant = q.d then .granted
                   else .reduced
                 | none => if tget s.cfg.masks (consIx c) then .masked else .idle)
          ∧ ((entryOf t c).grant ≠ (entryOf s c).grant ∨ (entryOf t c).state ≠ (entryOf s c).state →
              ∀ i, grantReport c (entryOf t c).grant (entryOf t c).state = some i → i ∈ t.handed)

/-- A request placed or changed stands in the table, every other consumer's request stays, and a pass follows, which grants a
safety request its D (R45, R50). A withdrawal leaves no request and no grant; one that releases a grant in a ROTATING class
moves the consumer to the end of its list, and no other withdrawal moves a list (R42, R45). The class override of HEAT (R41):
its effective class is 0 while it is set, and where that changes the class HEAT leaves the old list and joins the end of the
new one. A wake that finds a CHIME held, in which PANEL's own request may be taken as well, is left aside (log entry 24). -/
def Obligations.RequestsStandInTheTable : Prop :=
  (∀ (c : Consumer) (r : Request) (change : Bool) (s : State), s.mc.supply = .running → noChimeHeld s →
    ∃ t, Machine.exec (if change then .changeRequest c r else .placeRequest c r) s = .next t
      ∧ (entryOf t c).request = some r ∧ (∀ c', c' ≠ c → (entryOf t c').request = (entryOf s c').request)
      ∧ (r.safety = true → (entryOf t c).grant = r.d) ∧ t.ga.passes = (s.ga.passes + 1) % 65536
      ∧ t.ga.lists = s.ga.lists ∧ t.ga.report = s.ga.report)
    ∧ (∀ (c : Consumer) (s : State), s.mc.supply = .running → noChimeHeld s →
    ∃ t, Machine.exec (.withdrawRequest c) s = .next t ∧ (entryOf t c).request = none ∧ (entryOf t c).grant = 0
      ∧ (∀ c', c' ≠ c → (entryOf t c').request = (entryOf s c').request)
      ∧ t.ga.lists =
          (if (entryOf s c).request.isSome ∧ 0 < (entryOf s c).grant ∧ tget s.cfg.orders (effectiveClass s c) = .rotating
           then tset s.ga.lists (effectiveClass s c) ((tget s.ga.lists (effectiveClass s c)).erase c ++ [c])
           else s.ga.lists))
    ∧ (∀ (on : Bool) (s : State), s.mc.supply = .running → noChimeHeld s →
    ∃ t, Machine.exec (.classOverride on) s = .next t ∧ (entryOf t .heat).boosted = on
      ∧ (∀ c, (entryOf t c).request = (entryOf s c).request)
      ∧ (effectiveClass s .heat = (if on then 0 else tget s.cfg.classes 1) → t.ga.lists = s.ga.lists)
      ∧ (effectiveClass s .heat ≠ (if on then 0 else tget s.cfg.classes 1) →
          tget t.ga.lists (effectiveClass s .heat) = (tget s.ga.lists (effectiveClass s .heat)).erase .heat
          ∧ tget t.ga.lists (if on then 0 else tget s.cfg.classes 1) =
              (tget s.ga.lists (if on then 0 else tget s.cfg.classes 1)).erase .heat ++ [.heat]))

/-- A trip report (R56, R57): the watched outputs of each consumer named are held off at once; one that is not LATCHED counts
the trip, with its window, its retry step and its delay of 2, 4 or 8 s, and is LATCHED at its third; a LATCHED one keeps its
counts. Which consumers a report names is read from its comparator, by log entry 20. -/
def Obligations.TripHoldsCountsAndLatches : Prop :=
  ∀ (cmp : Comparator) (time : Stamp) (s : State), s.mc.supply = .running →
    ∃ t, Machine.exec (.tripReport ⟨cmp, time⟩) s = .next t
      ∧ (∀ o ∈ watchedBy cmp, energized t o = false)
      ∧ ∀ c ∈ namedBy cmp,
        (∀ o ∈ watchedBy cmp, consumerOf o = c → o ∈ (entryOf t c).holds)
          ∧ ((entryOf s c).latched = true → (entryOf t c).latched = true
              ∧ (entryOf t c).tripCount = (entryOf s c).tripCount ∧ (entryOf t c).retryStep = (entryOf s c).retryStep)
          ∧ ((entryOf s c).latched = false →
              (entryOf t c).tripCount =
                  (if (entryOf s c).window.isSome then min 3 ((entryOf s c).tripCount + 1) else 1)
              ∧ (entryOf t c).window = some ((entryOf s c).window.getD (now s))
              ∧ (entryOf t c).retryStep =
                  (match (entryOf s c).lastTrip with
                    | some l => if now s ≤ l + 600 then min 3 ((entryOf s c).retryStep + 1) else 1
                    | none => 1)
              ∧ (entryOf t c).lastTrip = some (now s)
              ∧ (entryOf t c).latched = decide (3 ≤ (entryOf t c).tripCount)
              ∧ (entryOf t c).retry =
                  (if 3 ≤ (entryOf t c).tripCount then none
                   else some (now s + if (entryOf t c).retryStep = 1 then 20
                     else if (entryOf t c).retryStep = 2 then 40 else 80)))

/-- The expiry of a running retry timer empties the holds and a pass follows (R58); that of an open trip window sets the
count to 0 and keeps the step and the last trip (R57). CLEAR TRIP (R59): the consumer's delay, holds, latch and trip history
are cleared, a pass follows and the answer is OK; an id above 7 is refused with RANGE. The expiry of a socket's run limit
(R47): the switch goes OFF, its output with it, the request is withdrawn and SOCKET is posted. Handings are read in `handed`
and answers in `answer`, the model's own fields (log entries 2 and 8). A timer's command is taken as its expiry, by log entry
4; the run limit is guarded by log entry 11. A wake that finds a CHIME held is left aside (log entry 24). -/
def Obligations.TripsAndSocketsExpireOrClear : Prop :=
  ((∀ (c : Consumer) (s : State), s.mc.supply = .running → noChimeHeld s → (entryOf s c).retry.isSome →
      ∃ t, Machine.exec (.retryTimerExpiry c) s = .next t ∧ (entryOf t c).retry = none ∧ (entryOf t c).holds = []
        ∧ (entryOf t c).request = (entryOf s c).request ∧ (entryOf t c).state ≠ .tripped
        ∧ t.ga.passes = (s.ga.passes + 1) % 65536)
    ∧ ∀ (c : Consumer) (s : State), s.mc.supply = .running → (entryOf s c).window.isSome →
        ∃ t, Machine.exec (.tripWindowExpiry c) s = .next t
          ∧ entryOf t c = { entryOf s c with tripCount := 0, window := none }
          ∧ (∀ c', c' ≠ c → entryOf t c' = entryOf s c') ∧ t.ga.passes = s.ga.passes)
    ∧ ((∀ (c : Consumer) (s : State), s.mc.supply = .running → noChimeHeld s →
      ∃ t, Machine.exec (.clearTrip (consIx c).1) s = .next t ∧ t.answer = some ⟨.ok, []⟩
        ∧ (entryOf t c).retry = none ∧ (entryOf t c).holds = [] ∧ (entryOf t c).latched = false
        ∧ (entryOf t c).tripCount = 0 ∧ (entryOf t c).retryStep = 0 ∧ (entryOf t c).window = none
        ∧ (entryOf t c).lastTrip = none ∧ (entryOf t c).request = (entryOf s c).request
        ∧ t.ga.passes = (s.ga.passes + 1) % 65536)
    ∧ ∀ (id : Nat) (s : State), s.mc.supply = .running → 7 < id →
        ∃ t, Machine.exec (.clearTrip id) s = .next t ∧ t.answer = some ⟨.range, []⟩
          ∧ changesOnly (.answer :: everyEvent) s t)
    ∧ (∀ (k : Socket) (s : State), s.mc.supply = .running → ∀ e, (tget s.ga.sockets (socketIx k)).runEnd = some e →
    e ≤ s.su.elapsed →
    ∃ t, Machine.exec (.socketRunLimitExpiry k) s = .next t ∧ tget t.ga.sockets (socketIx k) = ⟨false, none⟩
      ∧ energized t (.socket k) = false ∧ tget t.asked (consIx (socketConsumer k)) = none
      ∧ (tget s.asked (consIx (socketConsumer k)) ≠ none → .withdrawRequest (socketConsumer k) ∈ t.handed)
      ∧ .noticePost ⟨.socket, .ga, .info, false, [byte (socketIx k).1, 0]⟩ ∈ t.handed)

/-! ### Heater Controller -/

/-- HEAT START (R65): refused with STATE in DRY_COOL, LOCKOUT and a fault purge, and with NO_POWER in OFF, PAUSE and VENT
where no grant could reach the START demand. An accepted start takes its setpoint and duration, clamped, ends a frost run with
its class override, and is answered OK, or CLAMPED where either was clamped; it begins a new run in OFF, PAUSE and VENT, goes
on in WAIT_POWER to RUN, and in a purge without a fault it leaves the state and the purge record, setting restart-pending
where the exit is OFF or PAUSE. Handings are read in `handed` and answers in `answer`, the model's own fields (log entries 2
and 8). -/
def Obligations.HeatStartFollowsTheState : Prop :=
  (∀ (sp : Nat) (du : Option Nat) (s : State), s.mc.supply = .running →
      (s.hc.state = .dryCool ∨ s.hc.state = .lockout ∨ (s.hc.state = .purge ∧ (s.hc.purge.bind (·.fault)).isSome)) →
      ∃ t, Machine.exec (.heatStart sp du) s = .next t ∧ t.answer = some ⟨.state, []⟩
        ∧ changesOnly (.answer :: everyEvent) s t)
    ∧ (∀ (sp : Nat) (du : Option Nat) (s : State), s.mc.supply = .running →
      (s.hc.state = .off ∨ s.hc.state = .pause ∨ s.hc.state = .vent) →
      (s.hc.level = .cutoff ∨ (s.hc.level = .reserve ∧ s.cfg.battery.aRes < s.cfg.demands.start)
        ∨ (entryOf s .heat).latched = true) →
      ∃ t, Machine.exec (.heatStart sp du) s = .next t ∧ t.answer = some ⟨.noPower, []⟩
        ∧ changesOnly (.answer :: everyEvent) s t)
    ∧ (∀ (sp : Nat) (du : Option Nat) (s : State), s.mc.supply = .running →
      (s.hc.state = .off ∨ s.hc.state = .pause ∨ s.hc.state = .vent) →
      s.hc.level ≠ .cutoff → (s.hc.level = .reserve → s.cfg.demands.start ≤ s.cfg.battery.aRes) →
      (entryOf s .heat).latched = false →
      ∃ t, Machine.exec (.heatStart sp du) s = .next t
        ∧ t.answer = some ⟨if sp < 50 ∨ 300 < sp ∨ du.any (fun d => d < 1 || 720 < d) then .clamped else .ok, []⟩
        ∧ t.cfg.heaterSet.setpoint = ((max 50 (min 300 sp) : Nat) : Int)
        ∧ t.hc.durationEnd = du.map (fun d => s.su.elapsed + 60 * max 1 (min 720 d))
        ∧ t.hc.state = .waitPower ∧ t.hc.phase = some (now s + 600) ∧ t.hc.lastFault = none ∧ t.hc.attempt = 1
        ∧ t.hc.flameOut = 0 ∧ t.hc.strokesRun = 0 ∧ t.hc.frostRun = false
        ∧ tget t.asked (consIx .heat) = some ⟨s.cfg.demands.check, s.cfg.demands.check, none, false⟩
        ∧ (s.hc.frostRun = true → .classOverride false ∈ t.handed))
    ∧ (∀ (sp : Nat) (du : Option Nat) (s : State), s.mc.supply = .running →
      (s.hc.state = .waitPower ∨ s.hc.state = .check ∨ s.hc.state = .preheat ∨ burning s.hc.state = true) →
      ∃ t, Machine.exec (.heatStart sp du) s = .next t
        ∧ t.answer = some ⟨if sp < 50 ∨ 300 < sp ∨ du.any (fun d => d < 1 || 720 < d) then .clamped else .ok, []⟩
        ∧ t.cfg = { s.cfg with heaterSet := { s.cfg.heaterSet with setpoint := ((max 50 (min 300 sp) : Nat) : Int) } }
        ∧ heaterCore t.hc = heaterCore { s.hc with
            durationEnd := du.map (fun d => s.su.elapsed + 60 * max 1 (min 720 d)), frostRun := false }
        ∧ (s.hc.frostRun = true → .classOverride false ∈ t.handed))
    ∧ ∀ (sp : Nat) (du : Option Nat) (s : State), s.mc.supply = .running → s.hc.state = .purge →
        ∀ p, s.hc.purge = some p → p.fault = none →
        ∃ t, Machine.exec (.heatStart sp du) s = .next t
          ∧ t.answer = some ⟨if sp < 50 ∨ 300 < sp ∨ du.any (fun d => d < 1 || 720 < d) then .clamped else .ok, []⟩
          ∧ t.cfg = { s.cfg with heaterSet := { s.cfg.heaterSet with setpoint := ((max 50 (min 300 sp) : Nat) : Int) } }
          ∧ heaterCore t.hc = heaterCore { s.hc with
              durationEnd := du.map (fun d => s.su.elapsed + 60 * max 1 (min 720 d))
              frostRun := false
              restartPending := s.hc.restartPending || p.exit == .off || p.exit == .pause }
          ∧ (s.hc.frostRun = true → .classOverride false ∈ t.handed)

/-- The state a stop leads to (R66): OFF from VENT, WAIT_POWER, CHECK, PREHEAT and PAUSE, PURGE from a burning state, no
other state otherwise; a stopped flame is purged with exit OFF and no fault, and a purge without a fault ends in OFF. The
host's stop is answered OK in every state; the duration's expiry is the same stop, not taken before the duration end. Answers
are read in `answer`, the model's own field (log entry 8). That the expiry is not taken before its time is log entry 11's
choice, and that a duration is kept outside the run states log entry 15's. -/
def Obligations.HeatStopFollowsTheState : Prop :=
  (∀ (i : Instr) (s : State), s.mc.supply = .running →
      (i = .heatStop ∨ (i = .durationExpiry ∧ s.hc.state ≠ .vent ∧ s.hc.durationEnd.any (· ≤ s.su.elapsed))) →
      ∃ t, Machine.exec i s = .next t
        ∧ t.hc.state = (match s.hc.state with
            | .vent | .waitPower | .check | .preheat | .pause => .off
            | .prime | .ignite | .stabilize | .run => .purge
            | other => other)
        ∧ (burning s.hc.state = true → t.hc.purge = some ⟨.off, none, now s⟩ ∧ t.hc.stroke = none ∧ t.hc.glow = false
            ∧ tget t.asked (consIx .heat) = some ⟨s.cfg.demands.purge, s.cfg.demands.purge, none, true⟩)
        ∧ ((s.hc.state = .vent ∨ s.hc.state = .waitPower ∨ s.hc.state = .check ∨ s.hc.state = .preheat ∨ s.hc.state = .pause) →
            tget t.asked (consIx .heat) = none ∧ t.hc.glow = false)
        ∧ (s.hc.state = .purge → ∀ p, s.hc.purge = some p →
            t.hc.purge = some (if p.fault.isSome then p else { p with exit := .off })
              ∧ t.hc.restartPending = (s.hc.restartPending && p.fault.isSome)))
    ∧ (∀ s : State, s.mc.supply = .running → ∃ t, Machine.exec .heatStop s = .next t ∧ t.answer = some ⟨.ok, []⟩)
    ∧ (∀ s : State, s.mc.supply = .running → s.hc.durationEnd.any (· ≤ s.su.elapsed) →
      (s.hc.state ≠ .off ∧ s.hc.state ≠ .dryCool ∧ s.hc.state ≠ .lockout ∧ s.hc.state ≠ .vent) →
      ∃ t, Machine.exec .durationExpiry s = .next t ∧ t.hc.durationEnd = none)
    ∧ ∀ s : State, s.mc.supply = .running → s.hc.durationEnd.all (s.su.elapsed < ·) →
        ∃ t, Machine.exec .durationExpiry s = .next t ∧ changesOnly everyEvent s t

/-- Power on the way to the flame (R67 to R69, R71, R74): the grant that lets WAIT_POWER into CHECK, with what CHECK's entry
finds, the START grant that starts PREHEAT's phase, the grants that end a phase, and the effective stage in RUN; the two 60 s
timers end in OFF with NO_POWER. Regulation at TC conversions (R74 to R76, R87): in RUN the temperature stage lowers the
desired stage at once and raises it by one a minute, the pause hold at LOW leads into PAUSE, and PAUSE ends at a demand for
heat; in OFF the frost guard's hold starts a frost run at class 0, which ends once it is warm. TC leaving VALID makes the
desired stage LOW, and ends PAUSE. Handings are read in `handed`, the model's own field (log entry 2). A timer's command is
taken as its expiry, by log entry 4. A pause or frost hold is met as well at the tick or load current reading that completes
its time (R62, R154), at which a heater in RUN with no hold met stays as it is; that these two move the clock is log entry 11's
choice, how the holds are judged at them log entry 15's, and that no stage is effective where none fits the grant log entry 15's
as well. -/
def Obligations.GrantsDriveTheHeater : Prop :=
  (∀ (g : Nat) (st : ConsumerState) (s : State), s.mc.supply = .running → s.hc.state = .waitPower →
      s.cfg.demands.check ≤ g → ∀ tx, (chanOf s .tx).filtered = some tx →
      ∃ t, Machine.exec (.heaterGrantReport g st) s = .next t ∧ t.hc.grant = g
        ∧ (statusOf s .tx ≠ .valid ∨ statusOf s .th ≠ .valid → t.hc.state = .off ∧ t.hc.lastFault = some .sensor)
        ∧ (statusOf s .tx = .valid → statusOf s .th = .valid → 600 < tx →
            t.hc.state = .purge ∧ t.hc.purge = some ⟨.restart, none, now s⟩)
        ∧ (statusOf s .tx = .valid → statusOf s .th = .valid → tx ≤ 600 →
            t.hc.state = .check ∧ t.hc.glow = true ∧ t.hc.phase = some (now s + 50)))
    ∧ (∀ (g : Nat) (st : ConsumerState) (s : State), s.mc.supply = .running →
      ∃ t, Machine.exec (.heaterGrantReport g st) s = .next t ∧ t.hc.grant = g
        ∧ (s.hc.state = .waitPower → g < s.cfg.demands.check → t.hc.state = .waitPower ∧ t.hc.phase = s.hc.phase)
        ∧ (s.hc.state = .check → t.hc.state = if g = 0 then .off else .check)
        ∧ (s.hc.state = .preheat → s.hc.phase = none → t.hc.state = .preheat
            ∧ (g = s.cfg.demands.start →
                t.hc.phase = some (now s + 10 * s.cfg.heaterTune.preheatTime) ∧ t.hc.power = none)
            ∧ (g ≠ s.cfg.demands.start → t.hc.phase = none ∧ t.hc.power = s.hc.power))
        ∧ (s.hc.state = .preheat → s.hc.phase.isSome → t.hc.state = if g = 0 then .off else .preheat)
        ∧ ((s.hc.state = .prime ∨ s.hc.state = .ignite ∨ s.hc.state = .stabilize) →
            (g = 0 → t.hc.state = .purge ∧ t.hc.purge = some ⟨.off, some .noPower, now s⟩)
              ∧ (g ≠ 0 → t.hc.state = s.hc.state))
        ∧ (s.hc.state = .run →
            (g < s.cfg.demands.low → t.hc.state = .purge ∧ t.hc.purge = some ⟨.off, some .noPower, now s⟩)
              ∧ (s.cfg.demands.low ≤ g → t.hc.state = .run ∧ t.hc.desired = s.hc.desired
                  ∧ t.hc.effective = effectiveStage s.cfg.demands (s.hc.desired.getD .low) g))
        ∧ (((s.hc.state = .check ∨ s.hc.state = .preheat) ∧ t.hc.state = .off) → t.hc.lastFault = some .noPower)
        ∧ t.hc.failed = s.hc.failed)
    ∧ (∀ s : State, s.mc.supply = .running → s.hc.state = .waitPower →
      ∃ t, Machine.exec .waitPowerTimeout s = .next t ∧ t.hc.state = .off ∧ t.hc.lastFault = some .noPower
        ∧ t.hc.failed = s.hc.failed ∧ tget t.asked (consIx .heat) = none)
    ∧ (∀ s : State, s.mc.supply = .running → s.hc.state = .preheat → s.hc.power.isSome →
        (∃ t, Machine.exec .preheatPowerTimeout s = .next t ∧ t.hc.state = .off ∧ t.hc.lastFault = some .noPower
          ∧ t.hc.failed = s.hc.failed ∧ tget t.asked (consIx .heat) = none))
    ∧ (∀ (code : Nat) (s : State), s.mc.supply = .running → validNext s .tc code → s.hc.state = .run → s.hc.frostRun = false →
      ∀ d, s.hc.desired = some d →
      let e := s.cfg.heaterSet.setpoint - filteredAt s .tc code
      let g : Stage := if 30 ≤ e then .high else if 10 ≤ e then .mid else .low
      let rises := stageCode d < stageCode g ∧ s.hc.lastRise.getD 0 + 60 ≤ s.su.elapsed
      let new : Stage := if stageCode g < stageCode d then g else if rises then (if d = .low then .mid else .high) else d
      ∃ t, Machine.exec (.conversion .tc code) s = .next t
        ∧ (s.hc.pauseHold = none → t.hc.state = .run ∧ t.hc.tempStage = some g ∧ t.hc.desired = some new
            ∧ t.hc.lastRise = (if rises then some s.su.elapsed else s.hc.lastRise)
            ∧ t.hc.pauseHold = (if new = .low ∧ e ≤ -15 then some (now s) else none)
            ∧ (new ≠ d → t.hc.effective = effectiveStage s.cfg.demands new s.hc.grant
                ∧ tget t.asked (consIx .heat) =
                    some ⟨stageDemand s.cfg.demands new, s.cfg.demands.low, some (stageSteps s.cfg.demands new), false⟩))
        ∧ (∀ h, s.hc.pauseHold = some h → d = .low → e ≤ -15 →
            (h + 6000 ≤ now s → t.hc.state = .purge ∧ t.hc.purge = some ⟨.pause, none, now s⟩)
              ∧ (now s < h + 6000 → t.hc.state = .run ∧ t.hc.pauseHold = some h)))
    ∧ (∀ (code : Nat) (s : State), s.mc.supply = .running → validNext s .tc code → s.hc.state = .pause → s.hc.frostRun = false →
      ∃ t, Machine.exec (.conversion .tc code) s = .next t
        ∧ (10 ≤ s.cfg.heaterSet.setpoint - filteredAt s .tc code → t.hc.state = .waitPower ∧ t.hc.attempt = 1
            ∧ t.hc.flameOut = 0 ∧ t.hc.phase = some (now s + 600))
        ∧ (s.cfg.heaterSet.setpoint - filteredAt s .tc code < 10 → heaterCore t.hc = heaterCore s.hc))
    ∧ (∀ s : State, s.mc.supply = .running → statusOf s .tc = .valid → (s.hc.state = .run ∨ s.hc.state = .pause) →
      ∃ t, Machine.exec (.suspectChannel 3) s = .next t
        ∧ (s.hc.state = .run → t.hc.state = .run ∧ t.hc.desired = some .low ∧ t.hc.tempStage = some .low ∧ t.hc.pauseHold = none)
        ∧ (s.hc.state = .pause → t.hc.state = .waitPower))
    ∧ (∀ (code : Nat) (s : State), s.mc.supply = .running → validNext s .tc code → s.hc.state = .off → s.hc.frostRun = false →
      s.cfg.heaterSet.frost = true → s.hc.frostBackoff.all (· ≤ s.su.elapsed) = true →
      let cold := filteredAt s .tc code < s.cfg.heaterSet.threshold
      ∃ t, Machine.exec (.conversion .tc code) s = .next t
        ∧ (¬cold → heaterCore t.hc = heaterCore { s.hc with frostHold := none })
        ∧ (cold → s.hc.frostHold = none → heaterCore t.hc = heaterCore { s.hc with frostHold := some (now s) })
        ∧ (cold → ∀ h, s.hc.frostHold = some h →
            (now s < h + 600 → heaterCore t.hc = heaterCore s.hc)
            ∧ (h + 600 ≤ now s → s.hc.level ≠ .cutoff → (s.hc.level = .reserve → s.cfg.demands.start ≤ s.cfg.battery.aRes) →
                (entryOf s .heat).latched = false →
                t.hc.state = .waitPower ∧ t.hc.frostRun = true ∧ t.hc.durationEnd = none ∧ t.hc.attempt = 1
                  ∧ .classOverride true ∈ t.handed)
            ∧ (h + 600 ≤ now s → (s.hc.level = .cutoff ∨ (s.hc.level = .reserve ∧ s.cfg.battery.aRes < s.cfg.demands.start)
                  ∨ (entryOf s .heat).latched = true) →
                t.hc.state = .off ∧ t.hc.frostBackoff = some (s.su.elapsed + 900))))
    ∧ (∀ (i : Instr) (s : State), s.mc.supply = .running → s.su.elapsed < 4294967295 →
      (i = .elapsedTick ∨ ∃ r, i = .loadCurrentReading r) → (∀ k e, slotOf s k = some e → e.state ≠ .armed) →
      ∃ t, Machine.exec i s = .next t
        ∧ (s.hc.state = .run → ∀ h, s.hc.pauseHold = some h → h + 6000 ≤ now t →
            t.hc.state = .purge ∧ t.hc.purge = some ⟨.pause, none, now t⟩)
        ∧ (s.hc.state = .run → s.hc.pauseHold.all (now t < · + 6000) = true → s.hc.flameHold.all (now t < · + 100) = true →
            heaterCore t.hc = heaterCore s.hc)
        ∧ (s.hc.state = .off → s.cfg.heaterSet.frost = true → s.hc.frostBackoff.all (· ≤ t.su.elapsed) = true →
            ∀ h, s.hc.frostHold = some h →
              (now t < h + 600 → heaterCore t.hc = heaterCore s.hc)
              ∧ (h + 600 ≤ now t → s.hc.level ≠ .cutoff → (s.hc.level = .reserve → s.cfg.demands.start ≤ s.cfg.battery.aRes) →
                  (entryOf s .heat).latched = false →
                  t.hc.state = .waitPower ∧ t.hc.frostRun = true ∧ t.hc.durationEnd = none ∧ t.hc.attempt = 1
                    ∧ .classOverride true ∈ t.handed)
              ∧ (h + 600 ≤ now t → (s.hc.level = .cutoff ∨ (s.hc.level = .reserve ∧ s.cfg.battery.aRes < s.cfg.demands.start)
                    ∨ (entryOf s .heat).latched = true) →
                  t.hc.state = .off ∧ t.hc.frostBackoff = some (t.su.elapsed + 900))))
    ∧ ∀ (code : Nat) (s : State), s.mc.supply = .running → validNext s .tc code → s.hc.frostRun = true →
        s.cfg.heaterSet.threshold + 50 ≤ filteredAt s .tc code →
        ∃ t, Machine.exec (.conversion .tc code) s = .next t
          ∧ (burning s.hc.state = true → t.hc.state = .purge ∧ t.hc.purge = some ⟨.off, none, now s⟩)
          ∧ (s.hc.state = .waitPower ∨ s.hc.state = .check ∨ s.hc.state = .preheat ∨ s.hc.state = .pause →
              t.hc.state = .off ∧ t.hc.frostRun = false ∧ .classOverride false ∈ t.handed)

/-- The phases of a start (R68, R69, R72, R73): CHECK's glow test and end, PREHEAT's end, PRIME's end with the IGNITE
reference, a TX conversion that has risen by the flame rise, which ends IGNITE in STABILIZE, the IGNITE limit at each attempt,
a flame lost in STABILIZE, and STABILIZE's end in RUN at LOW with the failed-start counter 0. A timer's command is taken as
its expiry, by log entry 4; the heater part's write is log entry 17's. -/
def Obligations.StartPhasesFollowEachOther : Prop :=
  (∀ s : State, s.mc.supply = .running → s.hc.state = .check → s.hc.glow = true →
      ∃ t, Machine.exec .glowTest s = .next t
        ∧ (10 < (compOf s .t0).reading → t.hc.state = .check ∧ t.hc.glow = false ∧ t.hc.failed = s.hc.failed)
        ∧ ((compOf s .t0).reading ≤ 10 → t.hc.failed = min 3 (s.hc.failed + 1) ∧ t.hc.lastFault = some .glowOpen
            ∧ t.hc.state = (if 2 ≤ s.hc.failed then .lockout else .off)
            ∧ (2 ≤ s.hc.failed → t.hc.lockout = true) ∧ tget t.asked (consIx .heat) = none))
    ∧ (∀ s : State, s.mc.supply = .running → s.hc.state = .check →
      ∃ t, Machine.exec .checkPhaseEnd s = .next t ∧ t.hc.state = .preheat ∧ t.hc.glow = true
        ∧ t.hc.power = some (now s + 600) ∧ t.hc.phase = none
        ∧ tget t.asked (consIx .heat) = some ⟨s.cfg.demands.start, s.cfg.demands.start, none, false⟩)
    ∧ (∀ s : State, s.mc.supply = .running → s.hc.state = .preheat → s.hc.phase.isSome →
      ∃ t, Machine.exec .preheatPhaseEnd s = .next t ∧ t.hc.state = .prime ∧ t.hc.glow = true
        ∧ t.hc.phase = some (now s + 10 * s.cfg.heaterTune.primeTime)
        ∧ t.hc.stroke = some (strokePeriod s.cfg.heaterTune.startRate))
    ∧ (∀ s : State, s.mc.supply = .running → s.hc.state = .prime →
      ∃ t, Machine.exec .primePhaseEnd s = .next t ∧ t.hc.state = .ignite ∧ t.hc.glow = true
        ∧ t.hc.igniteRef = (chanOf s .tx).filtered ∧ t.hc.phase = some (now s + 10 * s.cfg.heaterTune.igniteLimit)
        ∧ t.hc.stroke = s.hc.stroke)
    ∧ (∀ s : State, s.mc.supply = .running → s.hc.state = .ignite →
      ∃ t, Machine.exec .igniteLimitExpiry s = .next t ∧ t.hc.state = .purge ∧ t.hc.glow = false ∧ t.hc.stroke = none
        ∧ (s.hc.attempt ≤ 1 → t.hc.purge = some ⟨.retry, none, now s⟩ ∧ t.hc.lastFault = s.hc.lastFault)
        ∧ (2 ≤ s.hc.attempt → t.hc.purge = some ⟨.off, some .noIgnition, now s⟩ ∧ t.hc.lastFault = some .noIgnition)
        ∧ t.hc.failed = s.hc.failed)
    ∧ (∀ (code : Nat) (s : State), s.mc.supply = .running → validNext s .tx code → s.hc.state = .ignite →
      ∀ ref, s.hc.igniteRef = some ref →
      ∃ t, Machine.exec (.conversion .tx code) s = .next t
        ∧ (ref + s.cfg.heaterTune.flameRise ≤ filteredAt s .tx code →
            t.hc.state = .stabilize ∧ t.hc.glow = false ∧ t.hc.igniteRef = some ref ∧ t.hc.stroke = s.hc.stroke
              ∧ t.hc.phase = some (now s + 10 * s.cfg.heaterTune.stabilizeTime) ∧ t.hc.failed = s.hc.failed
              ∧ tget t.asked (consIx .heat) = some ⟨s.cfg.demands.stabilize, s.cfg.demands.stabilize, none, false⟩)
        ∧ (filteredAt s .tx code < ref + s.cfg.heaterTune.flameRise →
            heaterCore t.hc = heaterCore { s.hc with firstTx := false }))
    ∧ (∀ (code : Nat) (s : State), s.mc.supply = .running → validNext s .tx code → s.hc.state = .stabilize →
      ∀ ref, s.hc.igniteRef = some ref →
      ∃ t, Machine.exec (.conversion .tx code) s = .next t
        ∧ (filteredAt s .tx code < ref + s.cfg.heaterTune.margin → t.hc.state = .purge ∧ t.hc.stroke = none
            ∧ (s.hc.attempt ≤ 1 → t.hc.purge = some ⟨.retry, none, now s⟩ ∧ t.hc.lastFault = s.hc.lastFault)
            ∧ (2 ≤ s.hc.attempt → t.hc.purge = some ⟨.off, some .noIgnition, now s⟩ ∧ t.hc.lastFault = some .noIgnition))
        ∧ (ref + s.cfg.heaterTune.margin ≤ filteredAt s .tx code →
            heaterCore t.hc = heaterCore { s.hc with firstTx := false }))
    ∧ ∀ s : State, s.mc.supply = .running → s.hc.state = .stabilize →
        ∃ t, Machine.exec .stabilizePhaseEnd s = .next t ∧ t.hc.state = .run ∧ t.hc.failed = 0
          ∧ t.hc.desired = some .low ∧ t.hc.effective = some .low ∧ t.hc.lastRise = some s.su.elapsed
          ∧ tget t.asked (consIx .heat) = some ⟨s.cfg.demands.low, s.cfg.demands.low, some [s.cfg.demands.low], false⟩
          ∧ (s.hc.failed ≠ 0 → t.mc.heaterWrite.isSome)

/-- The ends of a purge and of DRY_COOL (R77, R78, R81, R84): with TX VALID below 60.0 C the 120 s expiry counts a failed
start, locks out at 3, and otherwise takes the exit; at 300 s a hot chamber locks out with PURGE_HOT and one without a VALID
TX ends in OFF; DRY_COOL's expiry locks out. TX conversions act in the same way (R62, R78, R81): from 120 s on a cool one ends
the purge, in DRY_COOL it locks out, and the first one after a reset purges a hot chamber found in OFF. A timer's command is
taken as its expiry, by log entry 4; that the failed-start counter stays at PURGE_HOT, and that the flame's restart begins at
attempt 1, are log entry 15's choices, not the spec's words. -/
def Obligations.PurgeEndsAsItsRecordSays : Prop :=
  (∀ s : State, s.mc.supply = .running → s.hc.state = .purge → statusOf s .tx = .valid →
      ∀ tx, (chanOf s .tx).filtered = some tx → ∀ p, s.hc.purge = some p → tx < 600 →
      let counted := p.fault = some .noIgnition ∨ p.fault = some .flameLoss
      let failed := if counted then min 3 (s.hc.failed + 1) else s.hc.failed
      ∃ t, Machine.exec .purgeEnd s = .next t ∧ t.hc.failed = failed ∧ t.hc.purge = none ∧ t.hc.restartPending = false
        ∧ (3 ≤ failed ∨ 3 ≤ s.hc.overheats → t.hc.state = .lockout ∧ t.hc.lockout = true)
        ∧ (failed < 3 → s.hc.overheats < 3 →
            (p.exit = .retry → t.hc.state = .waitPower ∧ t.hc.attempt = 2)
            ∧ (p.exit = .restart → t.hc.state = .waitPower ∧ t.hc.flameOut = s.hc.flameOut
                ∧ t.hc.attempt = if s.hc.flameRestart then 1 else s.hc.attempt)
            ∧ (p.exit = .off → s.hc.restartPending = false → t.hc.state = .off)
            ∧ (p.exit = .pause → s.hc.restartPending = false → t.hc.state = .pause)
            ∧ (p.exit = .off ∨ p.exit = .pause → s.hc.restartPending = true →
                (s.hc.level = .cutoff ∨ (s.hc.level = .reserve ∧ s.cfg.battery.aRes < s.cfg.demands.start)
                  ∨ (entryOf s .heat).latched = true → t.hc.state = .off ∧ t.hc.lastFault = some .noPower)
                ∧ (s.hc.level ≠ .cutoff → (s.hc.level = .reserve → s.cfg.demands.start ≤ s.cfg.battery.aRes) →
                    (entryOf s .heat).latched = false → t.hc.state = .waitPower ∧ t.hc.attempt = 1 ∧ t.hc.flameOut = 0))))
    ∧ (∀ s : State, s.mc.supply = .running → s.hc.state = .purge →
      (statusOf s .tx ≠ .valid ∨ ∀ tx, (chanOf s .tx).filtered = some tx → 600 ≤ tx) →
      ∃ t, Machine.exec .purgeEnd s = .next t ∧ heaterCore t.hc = heaterCore s.hc)
    ∧ (∀ s : State, s.mc.supply = .running → s.hc.state = .purge → ∀ p, s.hc.purge = some p →
      ∀ tx, (chanOf s .tx).filtered = some tx → statusOf s .tx = .valid → 600 ≤ tx →
      ∃ t, Machine.exec .purgeHotTimeout s = .next t ∧ t.hc.state = .lockout ∧ t.hc.lockout = true
        ∧ t.hc.lastFault = some .purgeHot ∧ t.hc.failed = s.hc.failed ∧ tget t.asked (consIx .heat) = none)
    ∧ (∀ s : State, s.mc.supply = .running → s.hc.state = .purge → ∀ p, s.hc.purge = some p →
      statusOf s .tx ≠ .valid → s.hc.overheats < 3 → (s.hc.failed < 2 ∨ (s.hc.failed < 3 ∧ p.fault = none)) →
      ∃ t, Machine.exec .purgeHotTimeout s = .next t ∧ t.hc.state = .off
        ∧ t.hc.lastFault = (if p.fault.isSome then s.hc.lastFault else some .flameSensor))
    ∧ (∀ s : State, s.mc.supply = .running → s.hc.state = .dryCool →
        (∃ t, Machine.exec .dryCoolTimeout s = .next t ∧ t.hc.state = .lockout ∧ t.hc.lockout = true))
    ∧ (∀ (code : Nat) (s : State), s.mc.supply = .running → validNext s .tx code → s.hc.state = .purge →
      ∀ p, s.hc.purge = some p →
      ∃ t, Machine.exec (.conversion .tx code) s = .next t
        ∧ (now s < p.entry + 1200 ∨ 600 ≤ filteredAt s .tx code → heaterCore t.hc = heaterCore { s.hc with firstTx := false })
        ∧ (p.entry + 1200 ≤ now s → filteredAt s .tx code < 600 → s.hc.failed < 2 → s.hc.overheats < 3 →
            t.hc.purge = none
            ∧ (p.exit = .retry → t.hc.state = .waitPower ∧ t.hc.attempt = 2)
            ∧ (p.exit = .restart → t.hc.state = .waitPower)
            ∧ (p.exit = .off → s.hc.restartPending = false → t.hc.state = .off)
            ∧ (p.exit = .pause → s.hc.restartPending = false → t.hc.state = .pause)))
    ∧ (∀ (code : Nat) (s : State), s.mc.supply = .running → validNext s .tx code → s.hc.state = .dryCool →
      ∃ t, Machine.exec (.conversion .tx code) s = .next t
        ∧ (filteredAt s .tx code < 600 → t.hc.state = .lockout ∧ t.hc.lockout = true)
        ∧ (600 ≤ filteredAt s .tx code → heaterCore t.hc = heaterCore { s.hc with firstTx := false }))
    ∧ ∀ (code : Nat) (s : State), s.mc.supply = .running → validNext s .tx code → s.hc.state = .off →
        ∃ t, Machine.exec (.conversion .tx code) s = .next t
          ∧ (s.hc.firstTx = true → 600 < filteredAt s .tx code →
              t.hc.state = .purge ∧ t.hc.purge = some ⟨.off, none, now s⟩ ∧ t.hc.firstTx = false)
          ∧ (s.hc.firstTx = false ∨ filteredAt s .tx code ≤ 600 → heaterCore t.hc = heaterCore { s.hc with firstTx := false })

/-- Trips, vent mode and the lockout's clearing (R67 to R69, R71, R80, R85, R86): T0 is GLOW_SHORT, T1 a blower fault, in the
states their tables name; HEAT VENT acts in OFF and VENT; CLEAR LOCKOUT is refused in PURGE and DRY_COOL, clears both counters
elsewhere, and leaves LOCKOUT for OFF. The sensors of a flame (R68 to R71, R75): TX or TH leaving VALID ends CHECK and PREHEAT
in OFF with SENSOR and a flame in PURGE, with FLAME_SENSOR for TX and OVERHEAT for TH; TH above 120.0 C for 2 s, VH below 20.0
V for 20 s and, in RUN, TX below the flame loss level for 10 s end the flame at a conversion, the first flame-out with a
restart; a flame-out hold is met as well at the tick or load current reading that completes its 10 s (R62, R154). Answers are
read in `answer`, the model's own field (log entry 8). That CLEAR LOCKOUT writes the heater part in any case is log entry 17's
choice, that overheat and undervoltage act at their channels' conversions alone log entry 15's inference, and that the pause
hold comes before the flame-out hold where both are met its choice. -/
def Obligations.TripsVentAndLockoutClear : Prop :=
  (∀ (o : TripOutcome) (s : State), s.mc.supply = .running →
      ∃ t, Machine.exec (.heaterTripReport .t0 o) s = .next t
        ∧ ((s.hc.state = .check ∨ s.hc.state = .preheat) → t.hc.state = .off ∧ t.hc.lastFault = some .glowShort)
        ∧ (burning s.hc.state = true → t.hc.state = .purge ∧ t.hc.purge = some ⟨.off, some .glowShort, now s⟩)
        ∧ (s.hc.state ≠ .check → s.hc.state ≠ .preheat → burning s.hc.state = false → heaterCore t.hc = heaterCore s.hc))
    ∧ (∀ (o : TripOutcome) (s : State), s.mc.supply = .running →
      ∃ t, Machine.exec (.heaterTripReport .t1 o) s = .next t
        ∧ ((s.hc.state = .preheat ∨ s.hc.state = .vent) → t.hc.state = .off ∧ t.hc.lastFault = some .blower)
        ∧ (burning s.hc.state = true ∨ s.hc.state = .purge → t.hc.state = .dryCool ∧ t.hc.lastFault = some .blower
            ∧ t.hc.lockout = true ∧ t.hc.phase = some (now s + 6000) ∧ t.hc.glow = false ∧ t.hc.stroke = none
            ∧ tget t.asked (consIx .heat) = none)
        ∧ (s.hc.state ≠ .preheat → s.hc.state ≠ .vent → burning s.hc.state = false → s.hc.state ≠ .purge →
            heaterCore t.hc = heaterCore s.hc))
    ∧ (∀ (on : Bool) (s : State), s.mc.supply = .running →
      ∃ t, Machine.exec (.heatVent on) s = .next t
        ∧ t.answer = some ⟨if on ∧ s.hc.state ≠ .off ∧ s.hc.state ≠ .vent then .state else .ok, []⟩
        ∧ t.hc.state = (if on ∧ s.hc.state = .off then .vent
            else if on = false ∧ s.hc.state = .vent then .off else s.hc.state)
        ∧ (on = true → s.hc.state = .off →
            tget t.asked (consIx .heat) = some ⟨s.cfg.demands.ventD, s.cfg.demands.ventDmin, none, false⟩))
    ∧ (∀ s : State, s.mc.supply = .running → (s.hc.state = .purge ∨ s.hc.state = .dryCool) →
      ∃ t, Machine.exec .clearLockout s = .next t ∧ t.answer = some ⟨.state, []⟩ ∧ changesOnly (.answer :: everyEvent) s t)
    ∧ (∀ s : State, s.mc.supply = .running → s.hc.state ≠ .purge → s.hc.state ≠ .dryCool →
        ∃ t, Machine.exec .clearLockout s = .next t ∧ t.answer = some ⟨.ok, []⟩ ∧ t.hc.failed = 0 ∧ t.hc.overheats = 0
          ∧ t.mc.heaterWrite.isSome
          ∧ t.hc.state = (if s.hc.state = .lockout then .off else s.hc.state)
          ∧ (s.hc.state = .lockout → t.hc.lockout = false ∧ t.hc.lastFault = none))
    ∧ (∀ (ch : Channel) (s : State), s.mc.supply = .running → ch = .tx ∨ ch = .th → statusOf s ch = .valid →
      ∃ t, Machine.exec (.suspectChannel (chanIx ch).1) s = .next t
        ∧ (s.hc.state = .check ∨ s.hc.state = .preheat → t.hc.state = .off ∧ t.hc.lastFault = some .sensor)
        ∧ (burning s.hc.state = true → t.hc.state = .purge
            ∧ (ch = .tx → t.hc.purge = some ⟨.off, some .flameSensor, now s⟩ ∧ t.hc.overheats = s.hc.overheats)
            ∧ (ch = .th → t.hc.purge = some ⟨.off, some .overheat, now s⟩ ∧ t.hc.overheats = min 3 (s.hc.overheats + 1)))
        ∧ (s.hc.state ≠ .check → s.hc.state ≠ .preheat → burning s.hc.state = false → heaterCore t.hc = heaterCore s.hc))
    ∧ (∀ (code : Nat) (s : State), s.mc.supply = .running → validNext s .th code → burning s.hc.state = true →
      ∃ t, Machine.exec (.conversion .th code) s = .next t
        ∧ (filteredAt s .th code ≤ 1200 → heaterCore t.hc = heaterCore { s.hc with overHold := none })
        ∧ (1200 < filteredAt s .th code → s.hc.overHold = none →
            heaterCore t.hc = heaterCore { s.hc with overHold := some (now s) })
        ∧ (1200 < filteredAt s .th code → ∀ h, s.hc.overHold = some h →
            (now s < h + 20 → heaterCore t.hc = heaterCore s.hc)
            ∧ (h + 20 ≤ now s → t.hc.state = .purge ∧ t.hc.purge = some ⟨.off, some .overheat, now s⟩
                ∧ t.hc.overheats = min 3 (s.hc.overheats + 1))))
    ∧ (∀ (code : Nat) (s : State), s.mc.supply = .running → validNext s .vh code → burning s.hc.state = true →
      ∃ t, Machine.exec (.conversion .vh code) s = .next t
        ∧ (20000 ≤ filteredAt s .vh code → heaterCore t.hc = heaterCore { s.hc with underHold := none })
        ∧ (filteredAt s .vh code < 20000 → s.hc.underHold = none →
            heaterCore t.hc = heaterCore { s.hc with underHold := some (now s) })
        ∧ (filteredAt s .vh code < 20000 → ∀ h, s.hc.underHold = some h →
            (now s < h + 200 → heaterCore t.hc = heaterCore s.hc)
            ∧ (h + 200 ≤ now s → t.hc.state = .purge ∧ t.hc.purge = some ⟨.off, some .undervolt, now s⟩)))
    ∧ (∀ (i : Instr) (s : State), s.mc.supply = .running → s.su.elapsed < 4294967295 →
      (i = .elapsedTick ∨ ∃ r, i = .loadCurrentReading r) → (∀ k e, slotOf s k = some e → e.state ≠ .armed) →
      s.hc.state = .run → ∃ t, Machine.exec i s = .next t
        ∧ (s.hc.pauseHold.all (now t < · + 6000) = true → ∀ h, s.hc.flameHold = some h → h + 100 ≤ now t →
            t.hc.state = .purge
            ∧ (s.hc.flameOut = 0 → t.hc.purge = some ⟨.restart, none, now t⟩ ∧ t.hc.flameOut = 1)
            ∧ (s.hc.flameOut ≠ 0 → t.hc.purge = some ⟨.off, some .flameLoss, now t⟩ ∧ t.hc.lastFault = some .flameLoss)))
    ∧ ∀ (code : Nat) (s : State), s.mc.supply = .running → validNext s .tx code → s.hc.state = .run →
        let low := filteredAt s .tx code < s.cfg.heaterTune.flameLoss
        ∃ t, Machine.exec (.conversion .tx code) s = .next t
          ∧ (¬low → heaterCore t.hc = heaterCore { s.hc with flameHold := none, firstTx := false })
          ∧ (low → s.hc.flameHold = none →
              heaterCore t.hc = heaterCore { s.hc with flameHold := some (now s), firstTx := false })
          ∧ (low → ∀ h, s.hc.flameHold = some h →
              (now s < h + 100 → heaterCore t.hc = heaterCore { s.hc with firstTx := false })
              ∧ (h + 100 ≤ now s → t.hc.state = .purge
                  ∧ (s.hc.flameOut = 0 → t.hc.purge = some ⟨.restart, none, now s⟩ ∧ t.hc.flameOut = 1)
                  ∧ (s.hc.flameOut ≠ 0 → t.hc.purge = some ⟨.off, some .flameLoss, now s⟩ ∧ t.hc.lastFault = some .flameLoss)))

/-- The blower loop and the stroke generator (R79, R80, R82, R83): a step moves the duty by 10 per mille toward the target
within 150 to 1,000 while no fault check is met; a stall of five steps in a burning state ends in DRY_COOL; a stroke start
fixes the next period and counts its stroke where the gate is open, and a pulse ends alone. The counts of 5 and 21 steps are
log entry 16's inference. -/
def Obligations.BlowerAndStrokesKeepTime : Prop :=
  (∀ s : State, s.mc.supply = .running → energized s .blower = true →
      let speed := s.mu.tach.speed
      let target := blowerTarget s
      let duty := max 150 (min 1000
        (if speed < target then s.hc.duty + 10 else if target < speed then s.hc.duty - 10 else s.hc.duty))
      let stalls := if 300 ≤ duty ∧ speed = 0 then s.hc.stallRun + 1 else 0
      let slows := if speed * 10 < target * 3 then s.hc.slowRun + 1 else 0
      ∃ t, Machine.exec .blowerStep s = .next t
        ∧ (stalls < 5 → slows < 21 → t.hc = { s.hc with duty := duty, stallRun := stalls, slowRun := slows })
        ∧ (5 ≤ stalls ∨ 21 ≤ slows → (burning s.hc.state = true ∨ s.hc.state = .purge) →
            t.hc.state = .dryCool ∧ t.hc.lastFault = some .blower ∧ t.hc.lockout = true ∧ t.hc.glow = false
              ∧ t.hc.stroke = none ∧ energized t .blower = false))
    ∧ (∀ s : State, s.mc.supply = .running → energized s .blower = false →
      ∃ t, Machine.exec .blowerStep s = .next t ∧ t.hc = { s.hc with duty := 0, stallRun := 0, slowRun := 0 })
    ∧ (∀ s : State, s.mc.supply = .running → s.hc.stroke.isSome →
      ∃ t, Machine.exec .strokeStart s = .next t
        ∧ heaterCore t.hc = heaterCore
            (if gateOpen s .pump then { s.hc with
                stroke := some (strokePeriod (pumpRate s.cfg.heaterTune s.hc)), pulse := true,
                strokesRun := min 4294967295 (s.hc.strokesRun + 1),
                strokesTotal := min 4294967295 (s.hc.strokesTotal + 1) }
             else { s.hc with stroke := some (strokePeriod (pumpRate s.cfg.heaterTune s.hc)) }))
    ∧ ∀ s : State, s.mc.supply = .running →
        ∃ t, Machine.exec .strokePulseEnd s = .next t ∧ heaterCore t.hc = heaterCore { s.hc with pulse := false }

/-! ### Fridge Controller and roof vent -/

/-- The ends of the fridge's phases (R96, R97, R99, R100, R102): WAIT_OFF in START or IDLE, the soft start in RUN, the minimum
on time in a thermostat stop where the latest TF conversion satisfied it, the stall wait in WAIT_OFF or FALLBACK_OFF, and the
fallback phases in one another. The thermostat (R91, R92, R96 to R99): a VALID TF conversion takes the setpoint, the
hysteresis and the highest speed as they then stand, for itself and for what follows until the next one; it starts the
compressor from IDLE at the upper threshold, or waits out the minimum off time, leaves START before the switch-on and stops
RUN after the minimum on time at the lower threshold, and forms the wanted speed in START and RUN. A timer's command is taken
as its expiry, by log entry 4; that the minimum on time acts only while the sensor is READING is log entry 19's inference;
what stands used before the first VALID conversion, that an end already past is taken at once, and that no speed is effective
where none fits the held grant, are log entry 18's choices. -/
def Obligations.FridgePhasesEnd : Prop :=
  (∀ s : State, s.mc.supply = .running → s.fc.state = .waitOff → ∀ tf, (chanOf s .tf).filtered = some tf →
      ∃ t, Machine.exec .waitOffEnd s = .next t
        ∧ (s.fc.reading = .reading → s.fc.used.setpoint + ((s.fc.used.hyst + 1) / 2 : Nat) ≤ tf →
            t.fc.state = .start ∧ t.fc.drive = true
            ∧ t.fc.wanted = some (min (tempSpeed (tf - s.fc.used.setpoint)) s.fc.used.maxSpeed)
            ∧ tget t.asked (consIx .fridge) = some (speedRequest s.cfg.demands
                (min (tempSpeed (tf - s.fc.used.setpoint)) s.fc.used.maxSpeed)))
        ∧ (s.fc.reading ≠ .reading ∨ tf < s.fc.used.setpoint + ((s.fc.used.hyst + 1) / 2 : Nat) → t.fc.state = .idle ∧ t.fc.drive = s.fc.drive
            ∧ tget t.asked (consIx .fridge) = none))
    ∧ (∀ s : State, s.mc.supply = .running → s.fc.state = .start → s.fc.phase.isSome → ∀ w, s.fc.wanted = some w →
      ∃ t, Machine.exec .softStartEnd s = .next t ∧ t.fc.state = .run ∧ t.fc.wanted = some w
        ∧ t.fc.effective = someSpeed (speedWithin s.cfg.demands.fridge.toList w s.fc.grant) ∧ t.fc.drive = s.fc.drive
        ∧ tget t.asked (consIx .fridge) = some (speedRequest s.cfg.demands w))
    ∧ (∀ s : State, s.mc.supply = .running → s.fc.state = .run →
      (s.fc.satisfied = true → s.fc.reading = .reading → energized s .compressor = true → 0 < s.cfg.fridgeSet.minOff →
        ∃ t, Machine.exec .minOnTimeEnd s = .next t ∧ t.fc.state = .waitOff ∧ t.fc.drive = false
          ∧ t.fc.lastStop = now s ∧ t.fc.switchOn = none ∧ t.fc.phase = some (now s + 10 * s.cfg.fridgeSet.minOff)
          ∧ tget t.asked (consIx .fridge) = none)
      ∧ (s.fc.satisfied = false ∨ s.fc.reading ≠ .reading →
        ∃ t, Machine.exec .minOnTimeEnd s = .next t ∧ t.fc = s.fc))
    ∧ (∀ s : State, s.mc.supply = .running → s.fc.state = .stallWait →
      ∃ t, Machine.exec .stallWaitEnd s = .next t
        ∧ (s.fc.reading = .lost → now s < s.fc.lastStop + 12000 →
            t.fc.state = .fallbackOff ∧ t.fc.phase = some (s.fc.lastStop + 12000))
        ∧ (s.fc.reading ≠ .lost → now s < s.fc.lastStop + 10 * s.cfg.fridgeSet.minOff →
            t.fc.state = .waitOff ∧ t.fc.phase = some (s.fc.lastStop + 10 * s.cfg.fridgeSet.minOff)))
    ∧ (∀ s : State, s.mc.supply = .running → s.fc.state = .fallbackOn →
      ∃ t, Machine.exec .fallbackOnEnd s = .next t
        ∧ (energized s .compressor = true → t.fc.state = .fallbackOff ∧ t.fc.drive = false ∧ t.fc.lastStop = now s
            ∧ t.fc.phase = some (now s + 12000) ∧ tget t.asked (consIx .fridge) = none)
        ∧ (energized s .compressor = false → s.fc.lastStop + 12000 ≤ now s →
            t.fc.state = .fallbackOn ∧ t.fc.drive = true ∧ t.fc.phase = some (now s + 6000)))
    ∧ (∀ s : State, s.mc.supply = .running → s.fc.state = .fallbackOff →
        ∃ t, Machine.exec .fallbackOffEnd s = .next t ∧ t.fc.state = .fallbackOn ∧ t.fc.drive = true
          ∧ t.fc.phase = some (now s + 6000)
          ∧ tget t.asked (consIx .fridge) = some (speedRequest s.cfg.demands 1))
    ∧ ∀ (code : Nat) (s : State), s.mc.supply = .running → validNext s .tf code → s.fc.reading = .reading →
        let tf := filteredAt s .tf code
        let set := s.cfg.fridgeSet.setpoint + (if s.fc.level = .conserve then (s.cfg.fridgeSet.offset : Int) else 0)
          - (if s.fc.boostEnd.isSome then 20 else 0)
        let upper := set + ((s.cfg.fridgeSet.hyst + 1) / 2 : Nat)
        let lower := set - (s.cfg.fridgeSet.hyst / 2 : Nat)
        let w := min (tempSpeed (tf - set)) s.cfg.fridgeSet.maxSpeed
        let offEnd := s.fc.lastStop + 10 * s.cfg.fridgeSet.minOff
        ∃ t, Machine.exec (.conversion .tf code) s = .next t ∧ t.fc.reading = .reading
          ∧ t.fc.used = ⟨set, s.cfg.fridgeSet.hyst, s.cfg.fridgeSet.maxSpeed⟩
          ∧ (s.fc.state = .idle → (tf < upper → t.fc.state = .idle)
              ∧ (upper ≤ tf → offEnd ≤ now s → t.fc.state = .start ∧ t.fc.drive = true ∧ t.fc.wanted = some w
                  ∧ tget t.asked (consIx .fridge) = some (speedRequest s.cfg.demands w))
              ∧ (upper ≤ tf → now s < offEnd → t.fc.state = .waitOff ∧ t.fc.phase = some offEnd))
          ∧ (s.fc.state = .start → s.fc.phase = none → s.fc.drive = true → tf ≤ lower →
              t.fc.state = .idle ∧ t.fc.drive = false ∧ tget t.asked (consIx .fridge) = none)
          ∧ (s.fc.state = .start → s.fc.phase.isSome ∨ lower < tf → t.fc.state = .start ∧ t.fc.wanted = some w)
          ∧ (s.fc.state = .run → (∃ o, s.fc.switchOn = some o ∧ o + 600 ≤ now s) → tf ≤ lower →
              energized s .compressor = true → 0 < s.cfg.fridgeSet.minOff →
              t.fc.state = .waitOff ∧ t.fc.drive = false ∧ t.fc.lastStop = now s
                ∧ t.fc.phase = some (now s + 10 * s.cfg.fridgeSet.minOff) ∧ tget t.asked (consIx .fridge) = none)
          ∧ (s.fc.state = .run → (∀ o, s.fc.switchOn = some o → now s < o + 600) ∨ lower < tf →
              t.fc.state = .run ∧ t.fc.wanted = some w ∧ t.fc.satisfied = decide (tf ≤ lower)
              ∧ (s.fc.wanted ≠ some w →
                  t.fc.effective = someSpeed (speedWithin s.cfg.demands.fridge.toList w s.fc.grant)
                  ∧ tget t.asked (consIx .fridge) = some (speedRequest s.cfg.demands w)))
          ∧ (s.fc.state = .off ∨ s.fc.state = .waitOff ∨ s.fc.state = .stallWait ∨ s.fc.state = .fault →
              t.fc.state = s.fc.state ∧ t.fc.drive = s.fc.drive)

/-- Stalls, FAULT and the lost sensor (R93, R100, R101, R102): a stall is logged and waits 60 s, the third enters FAULT with
its notice and chime; an entry of the log expires outside FAULT; CLEAR FAULT empties the log and leaves FAULT; a TF STALE for
5 s, or SUSPECT at once, is lost, into FALLBACK_ON from START and RUN and into FALLBACK_OFF from IDLE and WAIT_OFF; a VALID
conversion regains it, into RUN where the compressor is on, into IDLE and from there by the thermostat where FALLBACK_ON had
not yet switched it on, and into WAIT_OFF from FALLBACK_OFF; a CLEAR SUSPECT that makes it VALID regains it in the same
way, and no thermostat stop is made at it (R99). Handings are read in `handed` and answers in `answer`, the model's own fields
(log entries 2 and 8). What FALLBACK_ON keeps from START and RUN, when the STALE expiry acts, that a RUN regained by a
conversion is judged for the thermostat stop at the same event, that a status report forms the speeds from the latest filtered
TF, and that no speed is effective where none fits the held grant, are log entry 18's choices. -/
def Obligations.StallsFaultsAndLostSensor : Prop :=
  (∀ (o : TripOutcome) (s : State), s.mc.supply = .running →
      ∃ t, Machine.exec (.stall o) s = .next t
        ∧ (s.fc.state = .off ∨ s.fc.state = .fault → t.fc = s.fc)
        ∧ (s.fc.state ≠ .off → s.fc.state ≠ .fault →
            t.fc.stallLog = s.fc.stallLog ++ [now s] ∧ t.fc.drive = false ∧ tget t.asked (consIx .fridge) = none
            ∧ (s.fc.stallLog.length < 2 → t.fc.state = .stallWait ∧ t.fc.phase = some (now s + 600)
                ∧ .noticePost ⟨.fridge, .fc, .attention, false, [0, 7, byte (s.fc.stallLog.length + 1)]⟩ ∈ t.handed)
            ∧ (2 ≤ s.fc.stallLog.length → t.fc.state = .fault ∧ .chimeRequest 3 ∈ t.handed
                ∧ .noticePost ⟨.fridge, .fc, .warning, false, [1, 8, byte (s.fc.stallLog.length + 1)]⟩ ∈ t.handed)))
    ∧ (∀ s : State, s.mc.supply = .running →
      ∃ t, Machine.exec .stallLogExpiry s = .next t
        ∧ t.fc = { s.fc with stallLog := if s.fc.state = .fault then s.fc.stallLog else s.fc.stallLog.tail })
    ∧ (∀ s : State, s.mc.supply = .running →
      ∃ t, Machine.exec .clearFault s = .next t ∧ t.answer = some ⟨.ok, []⟩ ∧ t.fc.stallLog = []
        ∧ (s.fc.state ≠ .fault → t.fc = { s.fc with stallLog := [] })
        ∧ (s.fc.state = .fault → s.cfg.fridgeSet.enable = false → t.fc.state = .off)
        ∧ (s.fc.state = .fault → s.cfg.fridgeSet.enable = true → s.fc.reading = .lost →
            now s < s.fc.lastStop + 12000 → t.fc.state = .fallbackOff)
        ∧ (s.fc.state = .fault → s.cfg.fridgeSet.enable = true → s.fc.reading ≠ .lost →
            now s < s.fc.lastStop + 10 * s.cfg.fridgeSet.minOff → t.fc.state = .waitOff))
    ∧ (∀ s : State, s.mc.supply = .running → s.fc.reading = .pending → statusOf s .tf = .stale →
      ∃ t, Machine.exec .tfStaleExpiry s = .next t ∧ t.fc.reading = .lost
        ∧ (s.fc.state = .idle ∨ s.fc.state = .waitOff → now s < s.fc.lastStop + 12000 →
            t.fc.state = .fallbackOff ∧ t.fc.phase = some (s.fc.lastStop + 12000))
        ∧ (s.fc.state = .start ∨ s.fc.state = .run → t.fc.state = .fallbackOn ∧ t.fc.drive = s.fc.drive
            ∧ tget t.asked (consIx .fridge) = some (speedRequest s.cfg.demands 1))
        ∧ (s.fc.state = .stallWait ∨ s.fc.state = .fault ∨ s.fc.state = .off ∨ s.fc.state = .fallbackOn
            ∨ s.fc.state = .fallbackOff → t.fc.state = s.fc.state)
        ∧ (s.cfg.fridgeSet.enable = true → .noticePost ⟨.fridge, .fc, .attention, false,
            [2, byte (fridgeCode t.fc.state), byte t.fc.stallLog.length]⟩ ∈ t.handed))
    ∧ (∀ s : State, s.mc.supply = .running → (s.fc.reading ≠ .pending ∨ statusOf s .tf ≠ .stale) →
        ∃ t, Machine.exec .tfStaleExpiry s = .next t ∧ t.fc = s.fc)
    ∧ (∀ s : State, s.mc.supply = .running → s.fc.reading ≠ .lost → statusOf s .tf ≠ .suspect → isConverted s .tf = true →
      ((chanOf s .tf).sample.isSome ∨ (chanOf s .tf).rangeMark = true) →
      ∃ t, Machine.exec (.suspectChannel 4) s = .next t ∧ t.fc.reading = .lost
        ∧ (s.fc.state = .idle ∨ s.fc.state = .waitOff → now s < s.fc.lastStop + 12000 →
            t.fc.state = .fallbackOff ∧ t.fc.phase = some (s.fc.lastStop + 12000))
        ∧ (s.fc.state = .start ∨ s.fc.state = .run → t.fc.state = .fallbackOn ∧ t.fc.drive = s.fc.drive
            ∧ t.fc.phase = some (now s + 6000) ∧ tget t.asked (consIx .fridge) = some (speedRequest s.cfg.demands 1))
        ∧ (s.cfg.fridgeSet.enable = true → .noticePost ⟨.fridge, .fc, .attention, false,
            [2, byte (fridgeCode t.fc.state), byte t.fc.stallLog.length]⟩ ∈ t.handed))
    ∧ (∀ (tf : Int) (s : State), s.mc.supply = .running → s.fc.reading = .lost → statusOf s .tf ≠ .valid →
      isConverted s .tf = true → (chanOf s .tf).sample.isSome → (chanOf s .tf).rangeMark = false →
      (chanOf s .tf).filtered = some tf →
      let w := min (tempSpeed (tf - s.fc.used.setpoint)) s.fc.used.maxSpeed
      ∃ t, Machine.exec (.clearSuspect 4) s = .next t ∧ t.fc.reading = .reading ∧ t.fc.satisfied = s.fc.satisfied
        ∧ (s.fc.state = .fallbackOn → energized s .compressor = true →
            t.fc.state = .run ∧ t.fc.drive = s.fc.drive ∧ t.fc.switchOn = s.fc.switchOn ∧ t.fc.wanted = some w
              ∧ t.fc.effective = someSpeed (speedWithin s.cfg.demands.fridge.toList w s.fc.grant)
              ∧ tget t.asked (consIx .fridge) = some (speedRequest s.cfg.demands w))
        ∧ (s.fc.state = .fallbackOn → energized s .compressor = false →
            t.fc.state = .idle ∧ t.fc.drive = false ∧ tget t.asked (consIx .fridge) = none)
        ∧ (s.fc.state = .fallbackOff → now s < s.fc.lastStop + 10 * s.cfg.fridgeSet.minOff →
            t.fc.state = .waitOff ∧ t.fc.phase = some (s.fc.lastStop + 10 * s.cfg.fridgeSet.minOff))
        ∧ (s.cfg.fridgeSet.enable = true → .noticePost ⟨.fridge, .fc, .info, false,
            [3, byte (fridgeCode t.fc.state), byte t.fc.stallLog.length]⟩ ∈ t.handed))
    ∧ ∀ (code : Nat) (s : State), s.mc.supply = .running → validNext s .tf code → s.fc.reading = .lost →
        let tf := filteredAt s .tf code
        let w := min (tempSpeed (tf - fridgeSetpoint s)) s.cfg.fridgeSet.maxSpeed
        ∃ t, Machine.exec (.conversion .tf code) s = .next t ∧ t.fc.reading = .reading
          ∧ (s.fc.state = .fallbackOn → energized s .compressor = true → lowerThreshold s < tf →
              t.fc.state = .run ∧ t.fc.drive = s.fc.drive ∧ t.fc.wanted = some w
                ∧ t.fc.effective = someSpeed (speedWithin s.cfg.demands.fridge.toList w s.fc.grant)
                ∧ tget t.asked (consIx .fridge) = some (speedRequest s.cfg.demands w))
          ∧ (s.fc.state = .fallbackOn → energized s .compressor = false → tf < upperThreshold s →
              t.fc.state = .idle ∧ t.fc.drive = false ∧ tget t.asked (consIx .fridge) = none)
          ∧ (s.fc.state = .fallbackOff → now s < s.fc.lastStop + 10 * s.cfg.fridgeSet.minOff →
              t.fc.state = .waitOff ∧ t.fc.phase = some (s.fc.lastStop + 10 * s.cfg.fridgeSet.minOff))
          ∧ (s.cfg.fridgeSet.enable = true → .noticePost ⟨.fridge, .fc, .info, false,
              [3, byte (fridgeCode t.fc.state), byte t.fc.stallLog.length]⟩ ∈ t.handed)

/-- Grants and boost at the fridge (R92, R97, R98, R102): a grant of 0 after the switch-on, also where the closed gate has dropped
the drive and the switch-on time already, stops the compressor, in START and RUN until the minimum off time ends, in FALLBACK_ON
until 1,200 s after the stop; one before the switch-on leaves START and FALLBACK_ON waiting; in RUN any other grant sets the effective speed, but while the reading is PENDING both
speeds are held (R98) and the one the grant allows is taken as the reading returns; a boost is refused with STATE while enable
is clear, and otherwise runs 3,600 s. Answers are read in `answer`, the model's own field (log entry 8). Ends that fall at
once, a grant below speed 1 stopping a RUN under PENDING too, and the return's new effective speed, or none where none fits the
held grant, are log entry 18's choices;
that BOOST_END acts only once its time has come is log entry 11's. -/
def Obligations.FridgeTakesGrantsAndBoost : Prop :=
  (∀ (g : Nat) (st : ConsumerState) (s : State), s.mc.supply = .running →
      let stop := if energized s .compressor then now s else s.fc.lastStop
      ∃ t, Machine.exec (.fridgeGrantReport g st) s = .next t ∧ t.fc.grant = g
        ∧ ((s.fc.state = .start ∧ (s.fc.phase.isSome ∨ s.fc.drive = false) ∧ g = 0)
              ∨ (s.fc.state = .run ∧ g < tget s.cfg.demands.fridge 0) →
            now s < stop + 10 * s.cfg.fridgeSet.minOff →
            t.fc.state = .waitOff ∧ t.fc.drive = false ∧ t.fc.lastStop = stop
              ∧ t.fc.phase = some (stop + 10 * s.cfg.fridgeSet.minOff) ∧ tget t.asked (consIx .fridge) = none)
        ∧ (s.fc.state = .run → tget s.cfg.demands.fridge 0 ≤ g → s.fc.reading = .pending → t.fc = { s.fc with grant := g })
        ∧ (s.fc.state = .run → tget s.cfg.demands.fridge 0 ≤ g → s.fc.reading ≠ .pending → ∀ w, s.fc.wanted = some w →
            t.fc = { s.fc with grant := g, effective := someSpeed (speedWithin s.cfg.demands.fridge.toList w g) })
        ∧ (s.fc.state = .fallbackOn → g = 0 → (s.fc.switchOn.isSome ∨ s.fc.drive = false) → now s < stop + 12000 →
            t.fc.state = .fallbackOff ∧ t.fc.drive = false ∧ t.fc.phase = some (stop + 12000))
        ∧ ((s.fc.state = .start ∧ s.fc.phase = none) ∨ (s.fc.state = .fallbackOn ∧ s.fc.switchOn = none) → g = 0 →
            s.fc.drive = true → t.fc = { s.fc with grant := 0 })
        ∧ (s.fc.state ≠ .start → s.fc.state ≠ .run → s.fc.state ≠ .fallbackOn → t.fc = { s.fc with grant := g })
        ∧ (0 < g → s.fc.state ≠ .run → t.fc = { s.fc with grant := g }))
    ∧ (∀ (on : Bool) (s : State), s.mc.supply = .running →
      ∃ t, Machine.exec (.fridgeBoost on) s = .next t
        ∧ t.answer = some ⟨if on ∧ s.cfg.fridgeSet.enable = false then .state else .ok, []⟩
        ∧ t.fc = (if on then (if s.cfg.fridgeSet.enable then { s.fc with boostEnd := some (s.su.elapsed + 3600) } else s.fc)
            else { s.fc with boostEnd := none }))
    ∧ (∀ s : State, s.mc.supply = .running → ∀ e, s.fc.boostEnd = some e →
        (∃ t, Machine.exec .boostEnd s = .next t
          ∧ t.fc = (if e ≤ s.su.elapsed then { s.fc with boostEnd := none } else s.fc)))
    ∧ ∀ (code : Nat) (s : State), s.mc.supply = .running → validNext s .tf code → s.fc.reading = .pending →
        s.fc.state = .run → lowerThreshold s < filteredAt s .tf code →
        let w := min (tempSpeed (filteredAt s .tf code - fridgeSetpoint s)) s.cfg.fridgeSet.maxSpeed
        ∃ t, Machine.exec (.conversion .tf code) s = .next t ∧ t.fc.reading = .reading ∧ t.fc.state = .run
          ∧ t.fc.wanted = some w
          ∧ t.fc.effective = someSpeed (speedWithin s.cfg.demands.fridge.toList w s.fc.grant)

/-- The fridge door and the roof vent (R103, R104): an opening starts the supervision where enable is set, each expiry of the
door timer raises an alert up to five, a closing reports a door that was alerted; the vent runs at the highest speed within
its grant and goes OFF at its run end. Handings are read in `handed`, the model's own field (log entry 2). A timer's command
is taken as its expiry, by log entry 4; the run end is guarded by log entry 11, and that the vent's effective speed is OFF where
no speed fits a grant above 0 is log entry 18's choice. -/
def Obligations.DoorAndVentFollowTheirEvents : Prop :=
  (∀ s : State, s.mc.supply = .running →
      ∃ t, Machine.exec (.fdoorHanding .active) s = .next t
        ∧ t.fc = { s.fc with
            doorOpen := true, openSince := some (now s), alerts := 0,
            doorTimer := if s.cfg.fridgeSet.enable then some (now s + 1200) else none })
    ∧ (∀ s : State, s.mc.supply = .running →
      ∃ t, Machine.exec (.fdoorHanding .inactive) s = .next t
        ∧ t.fc = { s.fc with doorOpen := false, openSince := none, alerts := 0, doorTimer := none }
        ∧ ∀ o, s.fc.openSince = some o → 0 < s.fc.alerts →
            .noticePost ⟨.door, .fc, .info, false, byte s.fc.alerts :: leBytes 2 ((secondsOpen s o : Nat) : Int)⟩ ∈ t.handed)
    ∧ (∀ s : State, s.mc.supply = .running → s.fc.doorTimer.isSome → ∀ o, s.fc.openSince = some o →
      ∃ t, Machine.exec .doorTimerExpiry s = .next t
        ∧ t.fc = { s.fc with
            alerts := min 5 (s.fc.alerts + 1),
            doorTimer := if s.fc.alerts + 1 < 5 then some (now s + 600) else none }
        ∧ .chimeRequest 2 ∈ t.handed
        ∧ .noticePost ⟨.door, .fc, .attention, false,
            byte (min 5 (s.fc.alerts + 1) + 128) :: leBytes 2 ((secondsOpen s o : Nat) : Int)⟩ ∈ t.handed)
    ∧ (∀ s : State, s.mc.supply = .running → s.fc.ventSpeed ≠ 0 → ∀ e, s.fc.ventRunEnd = some e → e ≤ s.su.elapsed →
      ∃ t, Machine.exec .ventRunEnd s = .next t ∧ t.fc = { s.fc with ventSpeed := 0, ventEff := 0, ventRunEnd := none }
        ∧ tget t.asked (consIx .vent) = none ∧ .noticePost ⟨.vent, .fc, .info, false, [0]⟩ ∈ t.handed)
    ∧ ∀ (g : Nat) (st : ConsumerState) (s : State), s.mc.supply = .running →
        ∃ t, Machine.exec (.ventGrantReport g st) s = .next t
          ∧ t.fc = { s.fc with
              ventGrant := g,
              ventEff := if g = 0 then 0 else speedWithin s.cfg.demands.vent.toList s.fc.ventSpeed g }

/-! ### Light Controller -/

/-- A scene sets the targets of the channels it gives a level, each changed one fading from its faded level in the scene's
steps, or at once where it gives none; another number is refused with RANGE (R109, R115). A fade step moves the channel to
start + truncated((target - start) x k / N), and its last one ends the fade at the target (R110); every other channel keeps
its target, its faded level and its fade, and a channel without a fade takes no step. Answers are read in `answer`, the
model's own field (log entry 8). -/
def Obligations.ScenesSetTargetsAndFade : Prop :=
  ((∀ (k : Fin 8) (s : State), s.mc.supply = .running →
      let sc := tget s.cfg.scenes k
      ∃ t, Machine.exec (.lightScene (k.1 + 1)) s = .next t ∧ t.answer = some ⟨.ok, []⟩
        ∧ ∀ i,
          (lightOf t i).target = (tget sc.levels i).getD (lightOf s i).target
          ∧ ((lightOf t i).target = (lightOf s i).target →
              (lightOf t i).faded = (lightOf s i).faded ∧ (lightOf t i).fade = (lightOf s i).fade)
          ∧ ((lightOf t i).target ≠ (lightOf s i).target → sc.fade = 0 →
              (lightOf t i).faded = (lightOf t i).target ∧ (lightOf t i).fade = none)
          ∧ ((lightOf t i).target ≠ (lightOf s i).target → sc.fade ≠ 0 →
              (lightOf t i).faded = (lightOf s i).faded
              ∧ ((lightOf s i).fade.isSome ∨ (lightOf t i).target ≠ (lightOf s i).faded →
                  (lightOf t i).fade = some ⟨(lightOf s i).faded, sc.fade, 0⟩))
          ∧ (lightOf t i).applied = appliedLevel t i)
    ∧ ∀ (n : Nat) (s : State), s.mc.supply = .running → (n = 0 ∨ 8 < n) →
        ∃ t, Machine.exec (.lightScene n) s = .next t ∧ t.answer = some ⟨.range, []⟩
          ∧ changesOnly (.answer :: everyEvent) s t)
    ∧ ((∀ (i : Fin 6) (s : State), s.mc.supply = .running → ∀ f, (lightOf s i).fade = some f →
      ∃ t, Machine.exec (.fadeStep i) s = .next t ∧ (lightOf t i).target = (lightOf s i).target
        ∧ (f.k + 1 < f.n → (lightOf t i).fade = some { f with k := f.k + 1 }
            ∧ (lightOf t i).faded = ((f.start : Int)
                + Int.tdiv ((((lightOf s i).target : Int) - f.start) * ((f.k + 1 : Nat) : Int)) (f.n : Int)).toNat)
        ∧ (f.n ≤ f.k + 1 → (lightOf t i).fade = none ∧ (lightOf t i).faded = (lightOf s i).target)
        ∧ (∀ j, j ≠ i → (lightOf t j).target = (lightOf s j).target ∧ (lightOf t j).faded = (lightOf s j).faded
            ∧ (lightOf t j).fade = (lightOf s j).fade)
        ∧ ∀ j, (lightOf t j).applied = appliedLevel t j)
    ∧ ∀ (i : Fin 6) (s : State), s.mc.supply = .running → (lightOf s i).fade = none →
        ∃ t, Machine.exec (.fadeStep i) s = .next t ∧ t.lc = s.lc ∧ t.asked = s.asked)

/-- A group's grant and its trips (R112, R113, R114): the grant held, each channel of the group is applied at 0 without a
request or a grant, at its faded level where the grant covers D, scaled by grant / D otherwise, and never above a cap in
force; a trip report sets the group's last trip and nothing else. -/
def Obligations.GroupGrantsScaleAndCap : Prop :=
  (∀ (g : Group) (grant : Nat) (st : ConsumerState) (s : State), s.mc.supply = .running →
      ∃ t, Machine.exec (.lightGrantReport g grant st) s = .next t
        ∧ (tget t.lc.group (groupIx g)).grant = grant ∧ t.asked = s.asked
        ∧ ∀ i, groupOf i = g →
          let scaled := match tget s.asked (consIx (groupConsumer g)) with
            | none => 0
            | some r => if grant = 0 then 0
                else if r.d ≤ grant then (lightOf s i).faded else (lightOf s i).faded * grant / r.d
          (lightOf t i).applied =
            (if g = .bunk then (if s.lc.level = .conserve then min scaled s.cfg.lights.conserveBunk else scaled)
             else
              let capped := if s.lc.level = .conserve then min scaled s.cfg.lights.conserveCab else scaled
              if s.lc.resting ∧ s.lc.entry = .idle then min capped s.cfg.lights.restCab else capped)
          ∧ (lightOf t i).target = (lightOf s i).target ∧ (lightOf t i).faded = (lightOf s i).faded)
    ∧ ∀ (g : Group) (o : TripOutcome) (s : State), s.mc.supply = .running →
        ∃ t, Machine.exec (.lightTripReport g o) s = .next t
          ∧ t.lc = { s.lc with group := tset s.lc.group (groupIx g) { tget s.lc.group (groupIx g) with lastTrip := some o } }

/-- The entry scene (R117, R118): the first handing of the door sets it alone; an opening with CAB dark and an entry scene
starts the entry, saving the targets of the scene's channels; an opening while it is ACTIVE restarts the 120 s; at the expiry
each channel still saved returns to its saved target, and leaves the set at once where it starts no fade, with a fade time of 0
by log entry 44's choice. A timer's command is taken as its expiry, by log entry 4. -/
def Obligations.EntrySceneStartsAndReturns : Prop :=
  (∀ (d : ContactState) (s : State), s.mc.supply = .running → d ≠ .unknown →
      (d = .inactive ∨ s.lc.door = .unknown) →
      ∃ t, Machine.exec (.cdoorHanding d) s = .next t
        ∧ t.lc = { s.lc with door := if d = .active then .opened else .closed } ∧ t.asked = s.asked)
    ∧ (∀ s : State, s.mc.supply = .running → s.lc.door ≠ .unknown → s.lc.entry = .active →
      ∃ t, Machine.exec (.cdoorHanding .active) s = .next t
        ∧ t.lc = { s.lc with door := .opened, timer := some (now s + 1200) })
    ∧ (∀ (k : Fin 8) (s : State), s.mc.supply = .running → s.lc.door ≠ .unknown → s.lc.entry ≠ .active →
      s.cfg.lights.entryScene = some (k.1 + 1) → (∀ i ∈ groupLights .cab, (lightOf s i).target = 0) →
      let sc := tget s.cfg.scenes k
      ∃ t, Machine.exec (.cdoorHanding .active) s = .next t ∧ t.lc.door = .opened ∧ t.lc.entry = .active
        ∧ t.lc.timer = some (now s + 1200)
        ∧ ∀ i, (lightOf t i).saved = (if (tget sc.levels i).isSome then some (lightOf s i).target else none)
            ∧ (lightOf t i).target = (tget sc.levels i).getD (lightOf s i).target)
    ∧ (∀ s : State, s.mc.supply = .running → s.lc.door ≠ .unknown → s.lc.entry ≠ .active →
      (s.cfg.lights.entryScene = none ∨ (∃ i ∈ groupLights .cab, (lightOf s i).target ≠ 0)) →
      ∃ t, Machine.exec (.cdoorHanding .active) s = .next t ∧ t.lc = { s.lc with door := .opened })
    ∧ ∀ s : State, s.mc.supply = .running → s.lc.entry = .active →
        ∃ t, Machine.exec .entryTimerExpiry s = .next t ∧ t.lc.timer = none
          ∧ (∀ i, (lightOf t i).target = (lightOf s i).saved.getD (lightOf s i).target)
          ∧ (∀ i, (lightOf t i).saved = none ∨ ((lightOf t i).saved = (lightOf s i).saved ∧ (lightOf t i).fade.isSome))
          ∧ t.lc.entry = (if ∀ i, (lightOf t i).saved = none then .idle else .returning)

/-! ### Panel Interface -/

/-- Keys (R121, R122, R124, R125, R127): in SINGLE mode, with every key OPEN, a key whose closed read is the second in a row
becomes PRESSED and issues PRESS, and a first closed read only starts its run; a PRESSED key whose open read is the second
issues RELEASE; the hold timer issues HOLD once; READ KEYS takes the queue and CLEAR KEYS empties it. A PRESS or HOLD runs the
key's action, as `pressAction` and `holdAction` say action by action, with its status as last action, a REFUSED notice where the
target refuses, and CONFIRM at a HOLD that does not (R65, R104, R115, R116, R126, R127, R137, R175). In MULTI mode (R123)
each key is PRESSED at its accepted closure and OPEN at its accepted opening on its own, whatever the others stand at; a key
that is not PRESSED and forms a rectangle with three others that read closed joins the ambiguous set, its closure run held at
0, and the first scan at which fewer than three keys read closed empties the set. Handings are read in `handed` and answers in
`answer`, the model's own fields (log entries 2 and 8). A timer's command is taken as its expiry, by log entry 4; the data of
an empty reply are log entry 29's choice; that the ambiguous keys are found before the closures of the same scan is log entry
38's, that an action is carried out within the key's event log entry 9's, and that LIGHT_UP and LIGHT_DOWN hand their ADJUSTs
log entry 39's. Each of these ADJUSTs moves its channel's target as it then stands by 100 within 0 to 1,000 and nothing answers the
host; the last of an action's records it with the last status that is not OK, and with nothing between them the group's targets
have all moved (R116, R127, R171, R175). -/
def Obligations.KeysPressHoldAndRelease : Prop :=
  (∀ (k : Fin 16) (s : State), s.mc.supply = .running → s.pn.standby = false → s.cfg.panel.mode = .single →
      s.pn.ambig = 0 → (∀ j ∈ allKeys, (keyOf s j).state = .opened ∧ (j ≠ k → (keyOf s j).run ≤ 1)) →
      let e := tget s.cfg.keymap k
      ∃ t, Machine.exec (.keyScan (1#16 <<< k.1)) s = .next t
        ∧ ((keyOf s k).run = 0 → keyOf t k = { keyOf s k with closed := true, run := 1 } ∧ t.pn.queue = s.pn.queue)
        ∧ ((keyOf s k).run = 1 → keyOf t k = ⟨true, 0, .pressed, true⟩
            ∧ (e.report.getLsbD 0 = true → s.pn.queue.length < 8 →
                t.pn.queue = s.pn.queue ++ [⟨k, .press, stampNow s⟩])
            ∧ (e.report.getLsbD 0 = true → 8 ≤ s.pn.queue.length → t.pn.queue = s.pn.queue ∧ t.pn.overrun = true)
            ∧ (e.report.getLsbD 0 = false → t.pn.queue = s.pn.queue)
            ∧ (s.cfg.panel.click = true → e.action ≠ .none → e.action ≠ .silence → .chimeRequest 0 ∈ t.handed)
            ∧ (e.action = .silence → t.pn.chimes = [] ∧ t.pn.player = none ∧ t.pn.last = some ⟨k, .silence, .ok⟩)
            ∧ pressAction k e s t)
        ∧ ∀ j, j ≠ k → (keyOf t j).state = .opened)
    ∧ (∀ (k : Fin 16) (s : State), s.mc.supply = .running → s.pn.standby = false → s.cfg.panel.mode = .single →
      (∀ j ∈ allKeys, j ≠ k → (keyOf s j).state = .opened ∧ (keyOf s j).run ≤ 1) →
      (keyOf s k).state = .pressed → (keyOf s k).run = 1 →
      ∃ t, Machine.exec (.keyScan 0#16) s = .next t ∧ keyOf t k = ⟨false, 0, .opened, false⟩
        ∧ ((tget s.cfg.keymap k).report.getLsbD 2 = true → s.pn.queue.length < 8 →
            t.pn.queue = s.pn.queue ++ [⟨k, .release, stampNow s⟩])
        ∧ ((tget s.cfg.keymap k).report.getLsbD 2 = false → t.pn.queue = s.pn.queue))
    ∧ (∀ (k : Fin 16) (reads : BitVec 16) (s : State), s.mc.supply = .running → s.pn.standby = false →
      s.cfg.panel.mode = .multi → s.pn.ambig = 0 → (∀ j, inRectangle reads j = false) → (keyOf s k).run = 1 →
      (∀ j, j ≠ k → readsClosed reads j = acceptedClosed (keyOf s j).state ∨ (keyOf s j).run = 0) →
      let e := tget s.cfg.keymap k
      ∃ t, Machine.exec (.keyScan reads) s = .next t
        ∧ ((keyOf s k).state = .opened → readsClosed reads k = true → keyOf t k = ⟨true, 0, .pressed, true⟩
            ∧ (e.report.getLsbD 0 = true → s.pn.queue.length < 8 →
                t.pn.queue = s.pn.queue ++ [⟨k, .press, stampNow s⟩])
            ∧ (e.report.getLsbD 0 = false → t.pn.queue = s.pn.queue))
        ∧ ((keyOf s k).state = .pressed → readsClosed reads k = false → keyOf t k = ⟨false, 0, .opened, false⟩
            ∧ (e.report.getLsbD 2 = true → s.pn.queue.length < 8 →
                t.pn.queue = s.pn.queue ++ [⟨k, .release, stampNow s⟩])
            ∧ (e.report.getLsbD 2 = false → t.pn.queue = s.pn.queue))
        ∧ ∀ j, j ≠ k → (keyOf t j).state = (keyOf s j).state)
    ∧ (∀ (reads : BitVec 16) (s : State), s.mc.supply = .running → s.pn.standby = false → s.cfg.panel.mode = .multi →
      ∃ t, Machine.exec (.keyScan reads) s = .next t
        ∧ (3 ≤ closedCount reads → ∀ k, inRectangle reads k = true → (keyOf s k).state ≠ .pressed →
            t.pn.ambig.getLsbD k.1 = true ∧ t.pn.ambiguous = true ∧ (keyOf t k).run = 0
              ∧ (keyOf t k).state = (keyOf s k).state)
        ∧ (closedCount reads < 3 → t.pn.ambig = 0 ∧ t.pn.ambiguous = false
            ∧ ∀ k, s.pn.ambig.getLsbD k.1 = true → readsClosed reads k = true →
                (keyOf t k).run = 0 ∧ (keyOf t k).state = (keyOf s k).state))
    ∧ (∀ (k : Fin 16) (s : State), s.mc.supply = .running →
      ∃ t, Machine.exec (.holdTimerExpiry k) s = .next t ∧ (keyOf t k).state = (keyOf s k).state
        ∧ ((keyOf s k).state = .pressed → (keyOf t k).hold = false)
        ∧ ((keyOf s k).state = .pressed → (keyOf s k).hold = true → (tget s.cfg.keymap k).report.getLsbD 1 = true →
            s.pn.queue.length < 8 → t.pn.queue = s.pn.queue ++ [⟨k, .hold, stampNow s⟩])
        ∧ ((keyOf s k).state = .pressed → (keyOf s k).hold = true → holdAction k (tget s.cfg.keymap k) s t)
        ∧ ((keyOf s k).state ≠ .pressed ∨ (keyOf s k).hold = false → t.pn = s.pn))
    ∧ (∀ (k : Fin 16) (i : Fin 6) (up : Bool) (s : State), s.mc.supply = .running →
      let d : Int := if up then 100 else -100
      let held : Int := max 0 (min 1000 ((lightOf s i).target + d))
      ∃ t, Machine.exec (.adjust (.panel k 18) 1 (some i.1) d) s = .next t
        ∧ ((lightOf t i).target : Int) = held ∧ (∀ j, j ≠ i → (lightOf t j).target = (lightOf s j).target)
        ∧ t.cfg = s.cfg ∧ t.answer = s.answer
        ∧ (s.pn.dims = [] → t.pn = s.pn)
        ∧ ∀ run rest, s.pn.dims = run :: rest → run.key = k →
            let status : Status := if held = (lightOf s i).target + d then run.status else .clamped
            (run.left ≤ 1 → t.pn.dims = rest ∧ actionEnds k run.action status t)
              ∧ (2 ≤ run.left → t.pn.dims = { run with left := run.left - 1, status := status } :: rest
                ∧ t.pn.last = s.pn.last))
    ∧ (∀ (k : Fin 16) (a : KeyAction) (g : Group) (up : Bool) (more : List Instr) (rest : List DimRun) (s : State),
      s.mc.supply = .running → s.pending = [] →
      let d : Int := if up then 100 else -100
      s.handed = groupAdjusts k g d ++ more → s.pn.dims = ⟨k, a, (groupAdjusts k g d).length, .ok⟩ :: rest →
      ∃ t, afterSteps (groupAdjusts k g d).length s t ∧ groupDimmed k a g d s t ∧ t.pn.dims = rest)
    ∧ (∀ s : State, s.mc.supply = .running →
      ∃ t, Machine.exec .readKeys s = .next t ∧ t.pn.queue = s.pn.queue.drop 8
        ∧ (s.pn.queue = [] → t.answer = some ⟨.empty, []⟩ ∧ t.pn = s.pn)
        ∧ (s.pn.queue ≠ [] → t.pn.overrun = false ∧ t.answer = some ⟨.ok, byte (if s.pn.overrun then 1 else 0)
            :: byte (min 8 s.pn.queue.length) :: (s.pn.queue.take 8).flatMap keyBytes⟩))
    ∧ ∀ s : State, s.mc.supply = .running →
        ∃ t, Machine.exec .clearKeys s = .next t ∧ t.answer = some ⟨.ok, []⟩
          ∧ t.pn = { s.pn with queue := [], overrun := false }

/-- Contacts (R128, R129): an input's change starts the debounce time, or stops it where the level is the debounced one
again; a reset leaves every contact UNKNOWN without a debounced level, its timer running its restored debounce time, and its
input as it stands, also where that changed during the reset, which the first expiry then takes; at the timer's end the level is judged, and the first judgement and every change are handed to the contact's owner,
reported where its report flag is set, and wake the part where its wake flag is set and it is no initial handing; a part that
could enter DOZE at the same event stays AWAKE with the silence time 0 (R187), the wake taken first by log entry 10's choice.
Handings are read in `handed`, the model's own field (log entry 2). A timer's command is taken as its expiry, by log entry 4,
and that a part in reset follows its inputs is log entry 12's choice. -/
def Obligations.ContactsAreDebouncedAndHanded : Prop :=
  (∀ (c : Contact) (l : LineLevel) (s : State), s.mc.supply = .running →
      ∃ t, Machine.exec (.contactInputChange c l) s = .next t
        ∧ (l = (contactOf s c).pin → t.pn = s.pn)
        ∧ (l ≠ (contactOf s c).pin → contactOf t c = { contactOf s c with
            pin := l
            timer := if (contactOf s c).level = some l then none
              else some (tget s.cfg.contacts (contactIx c)).debounce })
        ∧ ∀ c', c' ≠ c → contactOf t c' = contactOf s c')
    ∧ (∀ s : State, s.mc.supply ≠ .held false →
      ∃ t, Machine.exec .powerOnReset s = .next t
        ∧ ∀ c, contactOf t c = ⟨(contactOf s c).pin, none, .unknown, some (tget t.cfg.contacts (contactIx c)).debounce⟩)
    ∧ (∀ (c : Contact) (l : LineLevel) (s : State), s.mc.supply = .held true →
      ∃ t u v, Machine.exec (.contactInputChange c l) s = .next t ∧ Machine.exec .powerOnReset t = .next u
        ∧ Machine.exec (.debounceExpiry c) u = .next v
        ∧ contactOf v c = ⟨l, some l, if l = (tget u.cfg.contacts (contactIx c)).activeLevel then .active else .inactive, none⟩)
    ∧ (∀ (c : Contact) (s : State), s.mc.supply = .running → (contactOf s c).timer.isSome →
      let set := tget s.cfg.contacts (contactIx c)
      let st : ContactState := if (contactOf s c).pin = set.activeLevel then .active else .inactive
      let first := (contactOf s c).state = .unknown
      ∃ t, Machine.exec (.debounceExpiry c) s = .next t
        ∧ contactOf t c = ⟨(contactOf s c).pin, some (contactOf s c).pin, st, none⟩
        ∧ ((contactOf s c).state ≠ st →
            (c = .move → .moveHanding st ∈ t.handed) ∧ (c = .ign → .ignHanding st ∈ t.handed)
            ∧ (c = .fdoor → .fdoorHanding st ∈ t.handed) ∧ (c = .cdoor → .cdoorHanding st ∈ t.handed)
            ∧ (set.report = true → .noticePost ⟨.contact, .pi, .info, false,
                [byte (contactIx c).1, byte (contactCode st), if first then 0 else 1]⟩ ∈ t.handed)
            ∧ (set.wake = true → ¬first → t.mc.mode = .awake ∧ (s.mc.mode ≠ .awake → t.mc.silence = 0)
                ∧ (dozeAllowed { t with mc := s.mc } → t.mc.silence = 0)))
        ∧ ((contactOf s c).state = st → t.mc.silence = s.mc.silence ∧ t.su = s.su)
        ∧ ∀ c', c' ≠ c → contactOf t c' = contactOf s c')
    ∧ ∀ (c : Contact) (s : State), s.mc.supply = .running → (contactOf s c).timer = none →
        ∃ t, Machine.exec (.debounceExpiry c) s = .next t ∧ t.pn = s.pn

/-- Chimes (R130, R131): a request is dropped without PANEL's grant, in STANDBY, in a rest below priority 3, and at a full
queue of no lower priority; merged where its pattern is queued; otherwise queued behind its equals, started by an idle
player, or ending a playing chime of lower priority; at a full queue it takes the place of the request of the lowest priority
below its own that arrived latest. PLAY CHIME answers OK, STATE or RANGE; silence and a grant of 0 stop
all; a phase's end leads through gap and burst to the next request, one that may sound: in RESTING a queued request whose user
pattern is now below WARNING leaves the queue unheard, by log entry 38's choice, as it is that a queued request keeps the priority of
its arrival. Answers are read in `answer`, the model's own field (log entry 8). A timer's command is taken as its expiry, by log entry 4. -/
def Obligations.ChimesAreJudgedAndPlayed : Prop :=
  (∀ (play : Bool) (p : Fin 10) (s : State), s.mc.supply = .running →
      let shape := patternOf s.cfg p
      let r : ChimeRequest := ⟨p, shape.priority, s.pn.arrivals⟩
      let joined (qs : List ChimeRequest) : List ChimeRequest := qs.takeWhile (fun q => decide (r.priority ≤ q.priority))
        ++ r :: qs.dropWhile (fun q => decide (r.priority ≤ q.priority))
      let queue := joined s.pn.chimes
      let dropped := s.pn.grant = 0 ∨ s.pn.standby = true ∨ (s.pn.resting = true ∧ shape.priority < 3)
      let merged := s.pn.chimes.any (fun q => q.pattern == p) = true
      ∃ t, Machine.exec (if play then .playChime p.1 else .chimeRequest p) s = .next t
        ∧ (dropped → t.pn = s.pn ∧ (play = true → t.answer = some ⟨.state, []⟩))
        ∧ (¬dropped → merged → t.pn = s.pn ∧ (play = true → t.answer = some ⟨.ok, []⟩))
        ∧ (¬dropped → ¬merged → 4 ≤ s.pn.chimes.length → (∀ q ∈ s.pn.chimes, shape.priority ≤ q.priority) →
            shape.priority ≤ 3 → t.pn = s.pn ∧ (play = true → t.answer = some ⟨.state, []⟩))
        ∧ (¬dropped → ¬merged → 4 ≤ s.pn.chimes.length → shape.priority ≤ 3 →
            ∀ out ∈ s.pn.chimes, out.priority < shape.priority →
              (∀ q ∈ s.pn.chimes, q = out ∨ out.priority < q.priority
                ∨ (q.priority = out.priority ∧ q.arrival < out.arrival)) →
              (play = true → t.answer = some ⟨.ok, []⟩)
              ∧ ∀ pl, s.pn.player = some pl →
                (shape.priority ≤ pl.shape.priority → t.pn = { s.pn with
                  chimes := joined (s.pn.chimes.filter (· ≠ out)), arrivals := s.pn.arrivals + 1 })
                ∧ (pl.shape.priority < shape.priority → pl.on = true → t.pn = { s.pn with
                  chimes := joined (s.pn.chimes.filter (· ≠ out))
                  arrivals := s.pn.arrivals + 1
                  player := some { pl with ending := true } }))
        ∧ (¬dropped → ¬merged → s.pn.chimes.length < 4 → (play = true → t.answer = some ⟨.ok, []⟩)
            ∧ (s.pn.player = none → s.pn.chimes = [] →
                t.pn = { s.pn with
                  player := some ⟨p, shape, 1, true, shape.onTime, false⟩
                  arrivals := s.pn.arrivals + 1 })
            ∧ ∀ pl, s.pn.player = some pl →
              (shape.priority ≤ pl.shape.priority →
                t.pn = { s.pn with chimes := queue, arrivals := s.pn.arrivals + 1 })
              ∧ (pl.shape.priority < shape.priority → pl.on = true →
                t.pn = { s.pn with
                  chimes := queue
                  arrivals := s.pn.arrivals + 1
                  player := some { pl with ending := true } })))
    ∧ (∀ (n : Nat) (s : State), s.mc.supply = .running → 9 < n →
      ∃ t, Machine.exec (.playChime n) s = .next t ∧ t.answer = some ⟨.range, []⟩ ∧ t.pn = s.pn)
    ∧ (∀ s : State, s.mc.supply = .running →
      ∃ t, Machine.exec .silenceChime s = .next t ∧ t.answer = some ⟨.ok, []⟩
        ∧ t.pn = { s.pn with chimes := [], player := none })
    ∧ (∀ (g : Nat) (st : ConsumerState) (s : State), s.mc.supply = .running →
      ∃ t, Machine.exec (.panelGrantReport g st) s = .next t
        ∧ t.pn = (if g = 0 then { s.pn with grant := 0, chimes := [], player := none } else { s.pn with grant := g }))
    ∧ ∀ s : State, s.mc.supply = .running → ∀ pl, s.pn.player = some pl →
        let ends := if pl.on then pl.ending = true ∨ (pl.shape.gap = 0 ∧ pl.shape.repeats ≤ pl.burst)
          else pl.shape.repeats ≤ pl.burst
        ∃ t, Machine.exec .chimePhaseEnd s = .next t
          ∧ (ends → s.pn.chimes = [] → t.pn = { s.pn with player := none })
          ∧ (ends → s.pn.resting = true → (∀ r ∈ s.pn.chimes, (patternOf s.cfg r.pattern).priority < 3) →
              t.pn = { s.pn with chimes := [], player := none })
          ∧ (ends → ∀ r ∈ s.pn.chimes.head?, (s.pn.resting = true → 3 ≤ (patternOf s.cfg r.pattern).priority) →
              t.pn = { s.pn with
                chimes := s.pn.chimes.tail
                player := some ⟨r.pattern, patternOf s.cfg r.pattern, 1, true, (patternOf s.cfg r.pattern).onTime, false⟩ })
          ∧ (pl.on = true → pl.ending = false → pl.shape.gap ≠ 0 →
              t.pn = { s.pn with player := some { pl with on := false, phaseMs := pl.shape.gap } })
          ∧ (¬ends → (pl.on = false ∨ pl.shape.gap = 0) →
              t.pn = { s.pn with player := some { pl with burst := pl.burst + 1, on := true, phaseMs := pl.shape.onTime } })

/-! ### Rest Monitor -/

/-- Driving and stopping (R136, R140, R149): MOVE's contact enters DRIVING from every other state, each with what it leaves;
its end starts the stop confirm timer, whose expiry enters STOPPED with the stop segment open since the candidate; IGN ends
the starter hold; the limit's chime repeats every 300 s of driving. The starter guard: in RESTING and RESTED a VALID
conversion of VS below the guard starts the hold where IGN is not ACTIVE, one that finds it held for 60 s posts START_RISK
with the FAULT chime once, one at or above the guard ends it, and so does VS leaving VALID. Handings are read in `handed`, the
model's own field (log entry 2). A timer's command is taken as its expiry, by log entry 4. -/
def Obligations.MoveAndStopChangeTheState : Prop :=
  (∀ s : State, s.mc.supply = .running →
      ∃ t, Machine.exec (.moveHanding .active) s = .next t ∧ t.rm.state = .driving ∧ t.rm.move = .active
        ∧ (s.rm.state = .unknown → t.rm.drive = 0 ∧ t.rm.acc = 0 ∧ t.rm.uncertain = true)
        ∧ (s.rm.state = .driving → t.rm = { s.rm with move := .active, candidate := none, stopTimer := none })
        ∧ (s.rm.state = .stopped → s.rm.stopSeg.isSome → t.rm.stopSeg = none)
        ∧ (s.rm.state = .resting ∨ s.rm.state = .rested → t.rm.plannedEnd = none ∧ t.rm.endSoon = none
            ∧ t.rm.placed = false ∧ t.rm.starterHold = none)
        ∧ (s.rm.state = .resting → t.lc.resting = false ∧ t.pn.resting = false ∧ .chimeRequest 6 ∈ t.handed)
        ∧ (s.rm.state = .rested ∨ (s.rm.state = .stopped ∧ s.rm.done = true) →
            t.rm.log = [] ∧ t.rm.drive = 0 ∧ t.rm.done = false))
    ∧ (∀ s : State, s.mc.supply = .running →
      ∃ t, Machine.exec (.moveHanding .inactive) s = .next t
        ∧ t.rm = (if s.rm.state = .driving then
            { s.rm with
              move := .inactive
              candidate := some (cabTime s)
              stopTimer := some (s.su.elapsed + s.cfg.profile.stopConfirm) }
          else { s.rm with move := .inactive }))
    ∧ (∀ s : State, s.mc.supply = .running → s.rm.state = .driving → s.rm.stopTimer.isSome → ∀ c, s.rm.candidate = some c →
      ∃ t, Machine.exec .stopConfirmExpiry s = .next t
        ∧ t.rm = { s.rm with
            state := .stopped
            stopSeg := some ⟨c, false⟩
            candidate := none
            stopTimer := none
            repeatTimer := none }
        ∧ .noticePost ⟨.restChange, .rm, .info, false, [byte (2 + 16 * 1), 1, 0]⟩ ∈ t.handed)
    ∧ (∀ (st : ContactState) (s : State), s.mc.supply = .running →
      ∃ t, Machine.exec (.ignHanding st) s = .next t
        ∧ t.rm = { s.rm with ign := st, starterHold := if st = .active then none else s.rm.starterHold })
    ∧ (∀ s : State, s.mc.supply = .running → s.rm.state = .driving → s.rm.repeatTimer.isSome →
      ∃ t, Machine.exec .limitRepeatExpiry s = .next t ∧ .chimeRequest 5 ∈ t.handed
        ∧ t.rm = { s.rm with repeatTimer := some (s.su.elapsed + 300) })
    ∧ (∀ (code : Nat) (s : State), s.mc.supply = .running → validNext s .vs code → statusOf s .vs = .valid →
      let vs := filteredAt s .vs code
      let guard : Int := s.cfg.profile.starterGuard
      ∃ t, Machine.exec (.conversion .vs code) s = .next t
        ∧ (s.rm.state = .resting ∨ s.rm.state = .rested →
            (guard ≤ vs → t.rm = { s.rm with starterHold := none })
            ∧ (vs < guard → s.rm.starterHold = none →
                t.rm = { s.rm with starterHold := if s.rm.ign = .active then none else some (cabTime s) })
            ∧ (vs < guard → ∀ h, s.rm.starterHold = some h →
                (h + 60 ≤ cabTime s → s.rm.startRisk = false → t.rm = { s.rm with startRisk := true }
                  ∧ .noticePost ⟨.startRisk, .rm, .warning, false, leBytes 2 vs⟩ ∈ t.handed ∧ .chimeRequest 3 ∈ t.handed)
                ∧ (cabTime s < h + 60 ∨ s.rm.startRisk = true → t.rm = s.rm)))
        ∧ (s.rm.state ≠ .resting → s.rm.state ≠ .rested → t.rm = s.rm))
    ∧ ∀ s : State, s.mc.supply = .running → statusOf s .vs = .valid →
        ∃ t, Machine.exec (.suspectChannel (chanIx .vs).1) s = .next t ∧ t.rm = { s.rm with starterHold := none }

/-- A rest (R137 to R139, R144 to R146): DECLARE REST opens it in STOPPED, and in UNKNOWN with MOVE INACTIVE, is refused with
STATE otherwise outside a rest, and changes nothing in one; END REST closes it for STOPPED; the planned end makes it RESTED,
ends RESTING at the lights and the panel, hands the default horizon, asks for the wake scene and the WAKE chime and posts
REST_DONE and REST_CHANGE; the end-soon time, once come, posts REST_END_SOON with the minutes to the planned end and is raised
once. Handings are read in `handed` and answers in `answer`, the model's own fields (log entries 2 and 8). That the two reached
times are guarded is log entry 11's choice, PREWARM's synchronous entry log entry 9's, the rounding of shown minutes log entry
6's, that REST_DONE reports the split as used where the full and the split rest end at the same time log entry 22's, the free
bytes of a length of more than 65,535 min log entry 42's, the free minutes of REST_END_SOON past the planned end log entry
43's, and a planned end past the last cab time log entry 41's. -/
def Obligations.RestsOpenCloseAndEnd : Prop :=
  (∀ s : State, s.mc.supply = .running →
      (s.rm.state = .stopped ∧ s.rm.stopSeg.isSome) ∨ (s.rm.state = .unknown ∧ s.rm.move = .inactive) →
      s.rm.log.length < 8 →
      ∃ t, Machine.exec .declareRest s = .next t ∧ t.answer = some ⟨.ok, []⟩ ∧ t.rm.state = .resting
        ∧ t.rm.stopSeg = (if s.rm.state = .stopped then none else s.rm.stopSeg)
        ∧ t.rm.log.getLast?.map (fun g => (g.start, g.stop)) = some (cabTime s, none)
        ∧ t.rm.log.length = s.rm.log.length + 1
        ∧ t.rm.plannedEnd = some (cabTime s + 60 *
            (if s.rm.log.any (fun g => g.stop.isSome && g.split) then min s.cfg.profile.tRest s.cfg.profile.tS2
             else s.cfg.profile.tRest))
        ∧ t.rm.placed = (s.rm.placed || s.cfg.profile.prewarm) ∧ t.lc.resting = true ∧ t.pn.resting = true)
    ∧ (∀ s : State, s.mc.supply = .running →
      (s.rm.state = .driving ∨ (s.rm.state = .unknown ∧ s.rm.move ≠ .inactive)) →
      ∃ t, Machine.exec .declareRest s = .next t ∧ t.answer = some ⟨.state, []⟩ ∧ t.rm = s.rm)
    ∧ (∀ s : State, s.mc.supply = .running → (s.rm.state = .resting ∨ s.rm.state = .rested) →
      ∃ t, Machine.exec .declareRest s = .next t ∧ t.answer = some ⟨.ok, []⟩ ∧ t.rm = s.rm)
    ∧ (∀ s : State, s.mc.supply = .running → (s.rm.state = .resting ∨ s.rm.state = .rested) →
      ∃ t, Machine.exec .endRest s = .next t ∧ t.answer = some ⟨.ok, []⟩ ∧ t.rm.state = .stopped
        ∧ t.rm.stopSeg = some ⟨cabTime s, false⟩ ∧ t.rm.plannedEnd = none ∧ t.rm.placed = false
        ∧ (∀ g ∈ t.rm.log, g.stop.isSome)
        ∧ (s.rm.state = .resting → t.lc.resting = false ∧ t.pn.resting = false))
    ∧ (∀ s : State, s.mc.supply = .running → s.rm.state ≠ .resting → s.rm.state ≠ .rested →
      ∃ t, Machine.exec .endRest s = .next t ∧ t.answer = some ⟨.state, []⟩ ∧ t.rm = s.rm)
    ∧ (∀ s : State, s.mc.supply = .running → s.rm.state = .resting → ∀ e, s.rm.plannedEnd = some e →
      ∃ t, Machine.exec .plannedEndReached s = .next t
        ∧ (e ≤ cabTime s → t.rm.state = .rested ∧ t.rm.done = true ∧ t.lc.resting = false ∧ t.pn.resting = false
            ∧ t.rm.horizon = s.cfg.battery.horizon ∧ t.rm.log = s.rm.log
            ∧ t.rm.endSoon = (if s.rm.endSoonRaised then s.rm.endSoon else none)
            ∧ (s.rm.horizon ≠ s.cfg.battery.horizon → .horizonChange s.cfg.battery.horizon ∈ t.handed)
            ∧ (∀ k : Fin 8, s.cfg.profile.wakeScene = some (k.1 + 1) → ∀ i,
                (lightOf t i).target = (tget (tget s.cfg.scenes k).levels i).getD (lightOf s i).target)
            ∧ .chimeRequest 7 ∈ t.handed
            ∧ (∀ g, s.rm.log.getLast? = some g → g.stop = none →
                .noticePost ⟨.restDone, .rm, .attention, false, minuteBytes (shownMinutes (cabTime s - g.start))
                  ++ [if s.rm.log.any (fun x => x.stop.isSome && x.split) ∧ e = g.start + 60 * s.cfg.profile.tS2
                      then 1 else 0]⟩ ∈ t.handed)
            ∧ .noticePost ⟨.restChange, .rm, .info, false, [byte (4 + 16 * 3), 4, 0]⟩ ∈ t.handed)
        ∧ (cabTime s < e → t.rm = s.rm))
    ∧ ∀ s : State, s.mc.supply = .running → s.rm.state = .resting → ∀ e, s.rm.endSoon = some e →
        ∃ t, Machine.exec .endSoonReached s = .next t
          ∧ t.rm = { s.rm with endSoonRaised := s.rm.endSoonRaised || decide (e ≤ cabTime s) }
          ∧ (s.rm.endSoonRaised = false → e ≤ cabTime s → ∀ p, s.rm.plannedEnd = some p →
              .noticePost ⟨.restEndSoon, .rm, .attention, false, leBytes 2
                ((if cabTime s ≤ p then shownMinutes (p - cabTime s) else Config.minutesPastEnd (cabTime s - p) : Nat) : Int)⟩
                ∈ t.handed)

/-! ### Schedule Unit -/

/-- SET CLOCK (R150, R155, R162): refused with RANGE where a held cab time would leave its range; otherwise the cab time is
the new one, UNSET is clear, the elapsed counter stays, the Rest Monitor's times move with the delta, and a passed ONCE host
entry is SKIPPED with CLOCK unless the clock was set and moved on by 1 to 120 s. Answers are read in `answer`, the model's
own field (log entry 8). What the shift does at once is log entry 9's choice. -/
def Obligations.SetClockMovesTheCabTime : Prop :=
  (∀ (time : Nat) (s : State), s.mc.supply = .running → 4294967295 < time →
      ∃ t, Machine.exec (.setClock time) s = .next t ∧ t.answer = some ⟨.range, []⟩
        ∧ changesOnly (.answer :: everyEvent) s t)
    ∧ ∀ (time : Nat) (s : State), s.mc.supply = .running → time ≤ 4294967295 →
        let d : Int := (time : Int) - (cabTime s : Int)
        let fits := ∀ x ∈ restTimes s.rm ++ (restEntryTime s).toList, 0 ≤ (x : Int) + d ∧ (x : Int) + d ≤ 4294967295
        ∃ t, Machine.exec (.setClock time) s = .next t
          ∧ (¬fits → t.answer = some ⟨.range, []⟩ ∧ t.su = s.su ∧ t.rm = s.rm)
          ∧ (fits → t.answer = some ⟨.ok, []⟩ ∧ cabTime t = time ∧ t.su.unset = false ∧ t.su.lastDelta = some d
              ∧ t.su.elapsed = s.su.elapsed ∧ t.rm = shiftRest d s.rm
              ∧ ∀ k, (slotOf s k).any (fun e => !e.rest && e.state == .armed && !e.daily && decide (e.time ≤ time)) = true →
                  (s.su.unset = true ∨ d < 1 ∨ 120 < d) →
                  slotOf t k = (slotOf s k).map fun e =>
                    { e with state := .skipped, last := some ⟨false, none, ⟨time, false⟩⟩ })

/-- Schedule entries (R156, R157, R159, R160): ADD ENTRY fills the lowest free slot, answering its number, and fires an entry
already due; it is refused with RANGE for what no entry holds and with NO_ROOM at seven host entries; REMOVE ENTRY frees a
host entry's slot and is refused with OWNED for the rest monitor's, which the Rest Monitor places, moves and removes. A CHIME
due in STANDBY ends DONE or SKIPPED with STATE, as PANEL's grant is taken first or not (R163). Answers are read in `answer`,
the model's own field (log entry 8). That RANGE is judged before NO_ROOM, and that a placing does not look for a rest
entry that already stands, are log entry 25's choices, and that in STANDBY a due entry fires within the event, after the wake, log entry 24's. -/
def Obligations.EntriesAreAddedMovedAndRemoved : Prop :=
  (∀ (time rep state : Nat) (a : Action) (k : Fin 8) (s : State), s.mc.supply = .running → time ≤ 4294967295 → rep ≤ 1 →
      (state = 0 ∨ state = 3) → hostEntries s < 7 → slotOf s k = none → (∀ j ∈ allSlots, j < k → slotOf s j ≠ none) →
      (match a with
        | .scene n => decide (1 ≤ n ∧ n ≤ 8)
        | .chime p => decide (p ≤ 9)
        | .vent v => decide (v ≤ 3)
        | _ => true) = true →
      let taken : Action := match a with
        | .heatStart sp du => .heatStart (max 50 (min 300 sp)) (du.map fun d => max 1 (min 720 d))
        | other => other
      let e : SchedEntry := ⟨false, time, rep == 1, taken, if state = 0 then .armed else .disabled, none⟩
      let due := state = 0 ∧ s.su.unset = false ∧ time ≤ cabTime s
      ∃ t, Machine.exec (.addEntry time rep state (some a)) s = .next t
        ∧ (¬due → slotOf t k = some e)
        ∧ (due → (slotOf t k).any (fun x => x.last.isSome && x.action == taken) = true)
        ∧ (due → ∀ p, a = .chime p → ∀ x, slotOf t k = some x →
            x.last = some ⟨true, some .ok, stampNow s⟩ ∨ x.last = some ⟨false, some .state, stampNow s⟩)
        ∧ t.answer = some ⟨if taken = a then .ok else .clamped, [byte k.1]⟩
        ∧ ∀ j, j ≠ k → isDue s j = false → slotOf t j = slotOf s j)
    ∧ (∀ (time rep state : Nat) (a : Option Action) (s : State), s.mc.supply = .running →
      (a = none ∨ 4294967295 < time ∨ 1 < rep ∨ (state ≠ 0 ∧ state ≠ 3) ∨ (∃ n, a = some (.scene n) ∧ (n = 0 ∨ 8 < n))
        ∨ (∃ p, a = some (.chime p) ∧ 9 < p) ∨ ∃ v, a = some (.vent v) ∧ 3 < v) →
      ∃ t, Machine.exec (.addEntry time rep state a) s = .next t ∧ t.answer = some ⟨.range, []⟩ ∧ t.su = s.su)
    ∧ (∀ (time rep state : Nat) (s : State), s.mc.supply = .running → time ≤ 4294967295 → rep ≤ 1 →
      (state = 0 ∨ state = 3) → 7 ≤ hostEntries s →
      ∃ t, Machine.exec (.addEntry time rep state (some .heatStop)) s = .next t ∧ t.answer = some ⟨.noRoom, []⟩
        ∧ t.su = s.su)
    ∧ (∀ (k : Fin 8) (s : State), s.mc.supply = .running →
      ∃ t, Machine.exec (.removeEntry k.1) s = .next t
        ∧ ((slotOf s k).all (fun e => !e.rest) = true → t.answer = some ⟨.ok, []⟩ ∧ slotOf t k = none)
        ∧ ((slotOf s k).any (·.rest) = true → t.answer = some ⟨.owned, []⟩ ∧ t.su = s.su)
        ∧ ∀ j, j ≠ k → slotOf t j = slotOf s j)
    ∧ (∀ (n : Nat) (s : State), s.mc.supply = .running → 7 < n →
      ∃ t, Machine.exec (.removeEntry n) s = .next t ∧ t.answer = some ⟨.range, []⟩ ∧ t.su = s.su)
    ∧ (∀ (time sp du : Nat) (k : Fin 8) (s : State), s.mc.supply = .running → slotOf s k = none →
      (∀ j ∈ allSlots, j < k → slotOf s j ≠ none) → (s.su.unset = true ∨ cabTime s < time) →
      ∃ t, Machine.exec (.prewarmEntryPlace time sp du) s = .next t
        ∧ slotOf t k = some ⟨true, time, false, .heatStart sp (some du), .armed, none⟩)
    ∧ (∀ (time sp du : Nat) (k : Fin 8) (s : State), s.mc.supply = .running → (s.su.unset = true ∨ cabTime s < time) →
      (∀ j ∈ allSlots, j ≠ k → (slotOf s j).all (fun e => !e.rest) = true) → ∀ e, slotOf s k = some e → e.rest = true →
      ∃ t, Machine.exec (.prewarmEntryMove time sp du) s = .next t
        ∧ slotOf t k = some { e with time := time, action := .heatStart sp (some du) })
    ∧ ∀ (k : Fin 8) (s : State), s.mc.supply = .running →
        (∀ j ∈ allSlots, j ≠ k → (slotOf s j).all (fun e => !e.rest) = true) → (slotOf s k).any (·.rest) = true →
        ∃ t, Machine.exec .prewarmEntryRemove s = .next t ∧ slotOf t k = none
          ∧ ∀ j, j ≠ k → slotOf t j = slotOf s j

/-! ### Link Controller -/

/-- The receiver takes a frame byte by byte (R176 to R178): 0xC3 begins it, LEN of 3 to 60 counts its body, a right CRC-8
queues a request where fewer than four wait and posts LINK_OVERRUN otherwise, a reply frame or a wrong CRC-8 is discarded; in
SKIP and STANDBY a byte changes nothing; a gap hunts again, and a break skips and empties the queue. Handings are read in
`handed`, the model's own field (log entry 2). That a frame with the reply flag is discarded is log entry 28's choice. -/
def Obligations.ReceiverTakesFrames : Prop :=
  (∀ (b : Byte) (s : State), s.mc.supply = .running → (s.mc.mode = .standby ∨ s.lk.rx = .skip) →
      ∃ t, Machine.exec (.rxByte b) s = .next t ∧ t.lk = s.lk)
    ∧ (∀ (b : Byte) (s : State), s.mc.supply = .running → s.mc.mode ≠ .standby → s.lk.rx = .hunt →
      ∃ t, Machine.exec (.rxByte b) s = .next t ∧ t.lk = { s.lk with rx := if b = 0xC3 then .length else .hunt })
    ∧ (∀ (b : Byte) (s : State), s.mc.supply = .running → s.mc.mode ≠ .standby → s.lk.rx = .length →
      ∃ t, Machine.exec (.rxByte b) s = .next t
        ∧ t.lk = { s.lk with rx := if 3 ≤ b.toNat ∧ b.toNat ≤ 60 then .body b.toNat [] else .skip })
    ∧ (∀ (b : Byte) (n : Nat) (got : List Byte) (s : State), s.mc.supply = .running → s.mc.mode ≠ .standby →
      ∃ t, Machine.exec (.rxByte b) { s with lk := { s.lk with rx := .body n got } } = .next t
        ∧ t.lk = { s.lk with rx := if n ≤ got.length + 1 then .check n (got ++ [b]) else .body n (got ++ [b]) })
    ∧ (∀ (n : Nat) (got : List Byte) (s : State), s.mc.supply = .running → s.mc.mode ≠ .standby →
      ∃ t, Machine.exec (.rxByte (crc8 (byte n :: got))) { s with lk := { s.lk with rx := .check n got } } = .next t
        ∧ t.lk.rx = .hunt ∧ t.lk.inHand = s.lk.inHand ∧ t.lk.notices = s.lk.notices
        ∧ ((got.headD 0).getLsbD 1 = true → t.lk.queue = s.lk.queue)
        ∧ ((got.headD 0).getLsbD 1 = false → s.lk.queue.length < 4 → t.lk.queue = s.lk.queue ++ [got]
            ∧ (s.lk.inHand = none → .requestTake ∈ t.handed))
        ∧ ((got.headD 0).getLsbD 1 = false → 4 ≤ s.lk.queue.length → t.lk.queue = s.lk.queue
            ∧ .noticePost ⟨.linkOverrun, .lk, .attention, false, [1]⟩ ∈ t.handed))
    ∧ (∀ (b : Byte) (n : Nat) (got : List Byte) (s : State), s.mc.supply = .running → s.mc.mode ≠ .standby →
      b ≠ crc8 (byte n :: got) →
      ∃ t, Machine.exec (.rxByte b) { s with lk := { s.lk with rx := .check n got } } = .next t
        ∧ t.lk = { s.lk with rx := .hunt })
    ∧ (∀ s : State, s.mc.supply = .running →
      ∃ t, Machine.exec .rxGapTimeout s = .next t ∧ t.lk = { s.lk with rx := .hunt })
    ∧ ∀ s : State, s.mc.supply = .running →
        ∃ t, Machine.exec .linkBreak s = .next t ∧ t.lk = { s.lk with rx := .skip, queue := [] }

/-- Requests (R179, R180, R183, R187): with none in hand the oldest queued frame is taken and answered, its reply echoing TAG
and KIND with the target's status and data; an unknown kind is refused with UNKNOWN_KIND; a quiet request is not replied to,
and its refusal alone posts QUIET_ERROR; a sent reply ends the request, makes the silence time 0, and begins ATTN's release
where it was FETCH NOTICES. Handings are read in `handed` and answers in `answer`, the model's own fields (log entries 2 and
8). That the request is executed at the taking is log entry 28's choice. -/
def Obligations.RequestsAreTakenAndAnswered : Prop :=
  (∀ (ctrl tag kind : Byte) (payload : List Byte) (rest : List (List Byte)) (s : State), s.mc.supply = .running →
      s.mc.restart = .none → s.lk.inHand = none → kind ≠ 0x62 → (ctrl.getLsbD 0 = false ∨ alwaysAnswered kind = true) →
      ∃ t, Machine.exec .requestTake { s with lk := { s.lk with queue := (ctrl :: tag :: kind :: payload) :: rest } } = .next t
        ∧ t.lk.queue = rest ∧ t.answer.isSome
        ∧ ∀ a, t.answer = some a → t.lk.inHand = some ⟨tag, kind, ctrl.getLsbD 0, some (replyFrame tag kind a)⟩)
    ∧ (∀ (tag kind : Byte) (payload : List Byte) (rest : List (List Byte)) (s : State), s.mc.supply = .running →
      s.mc.restart = .none → s.lk.inHand = none → (0x62 < kind.toNat ∨ kind.toNat = 0) →
      ∃ t, Machine.exec .requestTake { s with lk := { s.lk with queue := (0 :: tag :: kind :: payload) :: rest } } = .next t
        ∧ t.answer = some ⟨.unknownKind, []⟩
        ∧ t.lk = { s.lk with
            queue := rest
            inHand := some ⟨tag, kind, false, some (replyFrame tag kind ⟨.unknownKind, []⟩)⟩ })
    ∧ (∀ (tag kind : Byte) (payload : List Byte) (rest : List (List Byte)) (s : State), s.mc.supply = .running →
      s.mc.restart = .none → s.lk.inHand = none → (0x62 < kind.toNat ∨ kind.toNat = 0) →
      ∃ t, Machine.exec .requestTake { s with lk := { s.lk with queue := (1 :: tag :: kind :: payload) :: rest } } = .next t
        ∧ t.lk = { s.lk with queue := rest, inHand := none }
        ∧ .noticePost ⟨.quietError, .lk, .attention, false, [kind, 4]⟩ ∈ t.handed
        ∧ (rest ≠ [] → .requestTake ∈ t.handed))
    ∧ (∀ (tag kind : Byte) (payload : List Byte) (rest : List (List Byte)) (s : State), s.mc.supply = .running →
      s.mc.restart = .none → s.lk.inHand = none → kind ≠ 0x61 → kind ≠ 0x62 → alwaysAnswered kind = false →
      ∃ t a, Machine.exec .requestTake { s with lk := { s.lk with queue := (1 :: tag :: kind :: payload) :: rest } } = .next t
        ∧ t.answer = some a ∧ t.lk.queue = rest ∧ t.lk.inHand = none
        ∧ (a.status ≠ .ok → a.status ≠ .clamped →
            .noticePost ⟨.quietError, .lk, .attention, false, [kind, byte (statusCode a.status)]⟩ ∈ t.handed))
    ∧ (∀ (tag kind : Byte) (rest : List (List Byte)) (s : State), s.mc.supply = .running →
      s.mc.restart = .none → s.lk.inHand = none → kind = 0x12 ∨ kind = 0x49 →
      ∃ t, Machine.exec .requestTake { s with lk := { s.lk with queue := [1, tag, kind] :: rest } } = .next t
        ∧ t.answer = some ⟨.ok, []⟩ ∧ t.lk = { s.lk with queue := rest, inHand := none }
        ∧ ∀ p, .noticePost p ∈ t.handed → .noticePost p ∈ s.handed)
    ∧ ∀ s : State, s.mc.supply = .running → s.mc.restart = .none →
        ∃ t, Machine.exec .replySent s = .next t ∧ t.mc.silence = 0
          ∧ ∀ h, s.lk.inHand = some h → h.reply.isSome →
              t.lk = { s.lk with inHand := none, pulse := s.lk.pulse || h.kind == 0x10 }
                ∧ (s.lk.queue ≠ [] → .requestTake ∈ t.handed)

/-- Notices (R181 to R183): a posting joins the queue with the cab time of its arrival; one of a coalescing kind replaces the
entry of its kind and source; a full queue gives up its oldest INFO, else ATTENTION, else WARNING entry and marks OVERFLOW.
FETCH NOTICES takes up to four and clears OVERFLOW, and answers EMPTY from an empty queue. Answers are read in `answer`, the
model's own field (log entry 8). The time stamp at the posting's arrival, and the reply to an empty fetch, are log entries 30
and 29's choices. -/
def Obligations.NoticesQueueAndAreFetched : Prop :=
  (∀ (p : Posting) (s : State), s.mc.supply = .running →
      let n : Notice := ⟨p.kind, p.source, p.severity, p.uncertain, stampNow s, p.data⟩
      let joins := (p.kind = .shedLevel ∨ p.kind = .keysWaiting ∨ p.kind = .heaterState ∨ p.kind = .linkOverrun)
        ∧ s.lk.notices.any (fun x => x.kind == p.kind && x.source == p.source) = true
      ∃ t, Machine.exec (.noticePost p) s = .next t
        ∧ (joins → t.lk.notices.length = s.lk.notices.length ∧ t.lk.overflow = s.lk.overflow
            ∧ (p.kind ≠ .linkOverrun → t.lk.notices =
                s.lk.notices.map fun x => if x.kind == p.kind && x.source == p.source then n else x))
        ∧ (¬joins → s.lk.notices.length < 16 → t.lk = { s.lk with notices := s.lk.notices ++ [n] })
        ∧ (¬joins → 16 ≤ s.lk.notices.length →
            let up : Severity := if s.lk.notices.any (fun x => x.severity == .info) then .info
              else if s.lk.notices.any (fun x => x.severity == .attention) then .attention else .warning
            t.lk = { s.lk with notices := s.lk.notices.eraseP (fun x => x.severity == up) ++ [n], overflow := true }))
    ∧ (∀ s : State, s.mc.supply = .running →
      ∃ t, Machine.exec .fetchNotices s = .next t ∧ t.lk = { s.lk with notices := s.lk.notices.drop 4, overflow := false }
        ∧ t.answer = some ⟨if s.lk.notices = [] then .empty else .ok,
            byte (if s.lk.overflow then 1 else 0) :: byte (min 4 s.lk.notices.length)
              :: byte (s.lk.notices.length - 4) :: (s.lk.notices.take 4).flatMap noticeBytes⟩)
    ∧ ∀ s : State, s.mc.supply = .running →
        ∃ t, Machine.exec .attnPulseEnd s = .next t ∧ t.lk = { s.lk with pulse := false }

/-! ### Record Manager -/

/-- What the six record operations refuse (R168): an id outside 1 to 26 with UNKNOWN_RECORD, a read-only record with
READ_ONLY, after a PUT's element outside the record's list with RANGE (SAMPLES, an element within the list by log entry 32's
choice), a field id no record has with RANGE, a PUT that expects another revision with MISMATCH (R169), and one STRICT
failure the whole operation with RANGE, the CLAMP fields beside it included (R166, R170): a tone above 7 beside a clamped on
time, a V_cut at or above V_low beside a clamped efficiency. Each is answered with the record's revision and nothing changed.
Answers are read in `answer`, the model's own field (log entry 8). The field ids in listing order are log entry 31's
choice. -/
def Obligations.RecordOperationsRefuseByCheck : Prop :=
  (∀ (r : Nat) (e x : Option Nat) (f l n : Nat) (v w : Option Int) (d : Int) (vs : List (Option Int))
      (ws : List FieldWrite) (s : State), s.mc.supply = .running → (r = 0 ∨ 26 < r) →
      ∀ i ∈ [Instr.get r l n f, .put r e x vs, .fieldWrite r ws, .adjust (.host r) f e d, .exchange r f e v, .compareWrite r f e v w],
      ∃ t, Machine.exec i s = .next t ∧ t.answer.map (·.status) = some .unknownRecord
        ∧ changesOnly (.answer :: everyEvent) s t)
    ∧ (∀ (r : Nat) (v w : Option Int) (vs : List (Option Int)) (s : State), s.mc.supply = .running →
      r ∈ [1, 2, 4, 13, 15] →
      ∀ i ∈ [Instr.put r none none vs, .fieldWrite r [⟨1, none, v⟩], .exchange r 1 none v, .compareWrite r 1 none v w],
      ∃ t, Machine.exec i s = .next t ∧ t.answer = some ⟨.readOnly, [byte (tget s.rev ⟨(r - 1) % 26, by omega⟩)]⟩
        ∧ changesOnly (.answer :: everyEvent) s t)
    ∧ (∀ (n : Nat) (x : Option Nat) (vs : List (Option Int)) (s : State), s.mc.supply = .running →
      ∃ t, Machine.exec (.put 9 (some n) x vs) s = .next t
        ∧ t.answer = some ⟨if n < 7 then .readOnly else .range, [byte (tget s.rev 8)]⟩
        ∧ changesOnly (.answer :: everyEvent) s t)
    ∧ (∀ (f : Nat) (v w : Option Int) (d : Int) (s : State), s.mc.supply = .running → (f = 0 ∨ 3 < f) →
      ∀ i ∈ [Instr.fieldWrite 11 [⟨f, none, v⟩], .adjust (.host 11) f none d, .exchange 11 f none v, .compareWrite 11 f none v w],
      ∃ t, Machine.exec i s = .next t ∧ t.answer = some ⟨.range, [byte (tget s.rev 10)]⟩
        ∧ changesOnly (.answer :: everyEvent) s t)
    ∧ (∀ (e : Nat) (a b c : Option Int) (s : State), s.mc.supply = .running → e ≠ tget s.rev 10 →
      ∃ t, Machine.exec (.put 11 none (some e) [a, b, c]) s = .next t
        ∧ t.answer = some ⟨.mismatch, [byte (tget s.rev 10)]⟩ ∧ changesOnly (.answer :: everyEvent) s t)
    ∧ (∀ (k : Fin 2) (n : Int) (tone : Nat) (s : State), s.mc.supply = .running → 7 < tone →
      ∃ t, Machine.exec (.fieldWrite 23 [⟨2 + 5 * k.1, none, some n⟩, ⟨1 + 5 * k.1, none, some (tone : Int)⟩]) s = .next t
        ∧ t.answer = some ⟨.range, [byte (tget s.rev 22)]⟩ ∧ changesOnly (.answer :: everyEvent) s t)
    ∧ ∀ (eta : Int) (cut : Nat) (s : State), s.mc.supply = .running → s.cfg.battery.vLow ≤ cut →
        ∃ t, Machine.exec (.fieldWrite 3 [⟨2, none, some eta⟩, ⟨10, none, some (cut : Int)⟩]) s = .next t
          ∧ t.answer = some ⟨.range, [byte (tget s.rev 2)]⟩ ∧ changesOnly (.answer :: everyEvent) s t

/-- The six record operations on HEATER_SET (R64, R166, R167, R169 to R174): GET shows the three fields, and each writing
operation sets the setpoint held within 5.0 to 30.0 C, answers OK or CLAMPED with the revision, one further where the content
changed, and with the old value where its kind returns it; COMPARE-WRITE writes only at the expected value. Answers are read
in `answer`, the model's own field (log entry 8). The field ids in listing order are log entry 31's choice. -/
def Obligations.OneFieldOperationsOnHeaterSet : Prop :=
  ∀ (v d : Int) (fr : Bool) (th : Nat) (s : State), s.mc.supply = .running → 20 ≤ th → th ≤ 100 →
    50 ≤ s.cfg.heaterSet.setpoint → s.cfg.heaterSet.setpoint ≤ 300 → -32768 ≤ d → d ≤ 32767 →
    let old := s.cfg.heaterSet
    let held (x : Int) : Int := max 50 (min 300 x)
    let status (x : Int) : Status := if held x = x then .ok else .clamped
    let rev (new : HeaterSet) : Byte := byte (if new = old then tget s.rev 10 else (tget s.rev 10 + 1) % 256)
    let set (x : Int) : HeaterSet := { old with setpoint := held x }
    (∃ t, Machine.exec (.get 11 0 0 0) s = .next t
        ∧ t.answer = some ⟨.ok, byte (tget s.rev 10) :: leBytes 2 old.setpoint ++ [if old.frost then 1 else 0]
            ++ leBytes 1 old.threshold⟩)
      ∧ (∃ t, Machine.exec (.fieldWrite 11 [⟨1, none, some v⟩]) s = .next t ∧ t.cfg = { s.cfg with heaterSet := set v }
        ∧ t.answer = some ⟨status v, [rev (set v)]⟩)
      ∧ (∃ t, Machine.exec (.put 11 none none [some v, some (if fr then 1 else 0), some (th : Int)]) s = .next t
        ∧ t.cfg = { s.cfg with heaterSet := ⟨held v, fr, th⟩ } ∧ t.answer = some ⟨status v, [rev ⟨held v, fr, th⟩]⟩)
      ∧ (∃ t, Machine.exec (.adjust (.host 11) 1 none d) s = .next t
        ∧ t.cfg = { s.cfg with heaterSet := set (old.setpoint + d) }
        ∧ t.answer = some ⟨status (old.setpoint + d), rev (set (old.setpoint + d)) :: leBytes 2 old.setpoint
            ++ leBytes 2 (held (old.setpoint + d)) ++ [if status (old.setpoint + d) = .ok then 0 else 1]⟩)
      ∧ (∃ t, Machine.exec (.exchange 11 1 none (some v)) s = .next t ∧ t.cfg = { s.cfg with heaterSet := set v }
        ∧ t.answer = some ⟨status v, rev (set v) :: leBytes 2 old.setpoint⟩)
      ∧ (∃ t, Machine.exec (.compareWrite 11 1 none (some old.setpoint) (some v)) s = .next t
        ∧ t.cfg = { s.cfg with heaterSet := set v }
        ∧ t.answer = some ⟨status v, rev (set v) :: leBytes 2 old.setpoint ++ [if status v = .ok then 2 else 3]⟩)
      ∧ (d ≠ old.setpoint → ∃ t, Machine.exec (.compareWrite 11 1 none (some d) (some v)) s = .next t ∧ t.cfg = s.cfg
        ∧ t.answer = some ⟨.ok, byte (tget s.rev 10) :: leBytes 2 old.setpoint ++ [0]⟩)

/-- Writes of one field to the records of the Charge Counter, the Measurement Unit, the Grant Arbiter and the fixed-behaviour
records (R12, R13, R21, R41, R46, R60, R64, R115, R126, R130): the field takes the value, every other setting stays, and the
answer is OK; a channel disabled is STALE, a comparator at 0 is DISABLED, a masked consumer's grant is 0. In STANDBY a write
that makes a pass may wake the part (R49, R189), whose held entries then fire, so there the CONSUMERS and DEMANDS writes speak
of their own record alone. Answers are read in `answer`, the model's own field (log entry 8). The field ids in listing order
are log entry 31's choice; the WRITE commands are log entry 34's. -/
def Obligations.SettingsWritesSetTheirField : Prop :=
  (∀ (n : Nat) (s : State), s.mc.supply = .running → 80 ≤ n → n ≤ 100 → risesStrictly s.cfg.battery.ocv.toList = true →
      s.cfg.battery.vCut < s.cfg.battery.vLow →
      ∃ t, Machine.exec (.batteryWrite [⟨2, none, some (n : Int)⟩]) s = .next t ∧ t.answer.map (·.status) = some .ok
        ∧ t.cfg = { s.cfg with battery := { s.cfg.battery with eta := n } })
    ∧ (∀ (ch : Channel) (k : Nat) (s : State), s.mc.supply = .running → k ≤ 7 →
      ∃ t, Machine.exec (.channelsWrite [⟨2, some (chanIx ch).1, some (k : Int)⟩]) s = .next t
        ∧ t.answer.map (·.status) = some .ok
        ∧ t.cfg = { s.cfg with chan := tset s.cfg.chan (chanIx ch) { tget s.cfg.chan (chanIx ch) with k := k } })
    ∧ (∀ (ch : Channel) (s : State), s.mc.supply = .running → (tget s.cfg.chan (chanIx ch)).enabled = true →
      ∃ t, Machine.exec (.channelsWrite [⟨1, some (chanIx ch).1, some 0⟩]) s = .next t
        ∧ t.answer.map (·.status) = some .ok
        ∧ t.cfg = { s.cfg with chan := tset s.cfg.chan (chanIx ch) { tget s.cfg.chan (chanIx ch) with enabled := false } }
        ∧ statusOf t ch = .stale)
    ∧ (∀ (c : Comparator) (n : Nat) (s : State), s.mc.supply = .running → n ≤ 15 →
      ∃ t, Machine.exec (.tripsWrite [⟨1, some (compIx c).1, some (n : Int)⟩]) s = .next t
        ∧ t.answer.map (·.status) = some .ok
        ∧ t.cfg = { s.cfg with thresholds := tset s.cfg.thresholds (compIx c) n }
        ∧ (n = 0 → tget s.cfg.thresholds (compIx c) ≠ 0 → (compOf t c).state = .disabled))
    ∧ (∀ (c : Consumer) (m : Bool) (s : State), s.mc.supply = .running → c ≠ .panel →
      ∃ t, Machine.exec (.consumersWrite [⟨2, some (consIx c).1, some (if m then 1 else 0)⟩]) s = .next t
        ∧ t.answer.map (·.status) = some .ok ∧ t.cfg.masks = tset s.cfg.masks (consIx c) m
        ∧ t.cfg.classes = s.cfg.classes ∧ t.cfg.orders = s.cfg.orders
        ∧ (s.mc.mode ≠ .standby → t.cfg = { s.cfg with masks := tset s.cfg.masks (consIx c) m })
        ∧ (m = true → tget s.cfg.masks (consIx c) = false → ((entryOf s c).request.all fun q => !q.safety) = true →
            (entryOf t c).grant = 0))
    ∧ (∀ (n : Nat) (s : State), s.mc.supply = .running → 1 ≤ n → n ≤ 400 → demandsOrdered s.cfg.demands = true →
      ∃ t, Machine.exec (.demandsWrite [⟨1, none, some (n : Int)⟩]) s = .next t ∧ t.answer.map (·.status) = some .ok
        ∧ t.cfg.demands = { s.cfg.demands with panel := n }
        ∧ (s.mc.mode ≠ .standby → t.cfg = { s.cfg with demands := { s.cfg.demands with panel := n } }))
    ∧ (∀ (n : Nat) (s : State), s.mc.supply = .running → 20 ≤ n → n ≤ 120 →
      ∃ t, Machine.exec (.recordWrite .heaterTune [⟨1, none, some (n : Int)⟩]) s = .next t
        ∧ t.answer.map (·.status) = some .ok
        ∧ t.cfg = { s.cfg with heaterTune := { s.cfg.heaterTune with preheatTime := n } })
    ∧ (∀ (k : Fin 8) (n : Nat) (s : State), s.mc.supply = .running → n ≤ 255 →
      ∃ t, Machine.exec (.recordWrite .scenes [⟨7, some k.1, some (n : Int)⟩]) s = .next t
        ∧ t.answer.map (·.status) = some .ok
        ∧ t.cfg = { s.cfg with scenes := tset s.cfg.scenes k { tget s.cfg.scenes k with fade := n } })
    ∧ (∀ (k : Fin 16) (n : Fin 8) (s : State), s.mc.supply = .running → (∀ j ∈ allKeys, keyEntryOk (tget s.cfg.keymap j) = true) →
      ∃ t, Machine.exec (.recordWrite .keymap [⟨3, some k.1, some (n.1 : Int)⟩]) s = .next t
        ∧ t.answer.map (·.status) = some .ok
        ∧ t.cfg = { s.cfg with keymap := tset s.cfg.keymap k { tget s.cfg.keymap k with report := BitVec.ofNat 3 n.1 } })
    ∧ ∀ (k : Fin 2) (n : Nat) (s : State), s.mc.supply = .running → n ≤ 7 →
        ∃ t, Machine.exec (.recordWrite .chimes [⟨1 + 5 * k.1, none, some (n : Int)⟩]) s = .next t
          ∧ t.answer.map (·.status) = some .ok
          ∧ t.cfg = { s.cfg with user := tset s.cfg.user k { tget s.cfg.user k with tone := n } }

/-- Writes of one field to the records of the owners of loads, panel and rest (R47, R64, R87, R91, R104, R108, R129, R133,
R135): the field takes the value, every other setting stays, and the answer is OK; a socket's switch places or withdraws its
request, a threshold's write ends the frost hold, a vent speed places its request. Answers are read in `answer`, the model's
own field (log entry 8). The field ids in listing order are log entry 31's choice; the WRITE commands are log entry 34's, and
details of what a write restarts log entry 32's. -/
def Obligations.OwnerWritesActAtOnce : Prop :=
  (∀ (k : Socket) (on : Bool) (s : State), s.mc.supply = .running → (tget s.ga.sockets (socketIx k)).on = !on →
      ∃ t, Machine.exec (.socketsWrite [⟨1, some (socketIx k).1, some (if on then 1 else 0)⟩]) s = .next t
        ∧ t.answer.map (·.status) = some .ok ∧ t.cfg = s.cfg
        ∧ tget t.ga.sockets (socketIx k) =
            ⟨on, if on ∧ tget s.cfg.socketLimit (socketIx k) ≠ 0
              then some (s.su.elapsed + 60 * tget s.cfg.socketLimit (socketIx k)) else none⟩
        ∧ tget t.asked (consIx (socketConsumer k)) = (if on then some (socketRequest s.cfg.demands k) else none))
    ∧ (∀ (n : Nat) (s : State), s.mc.supply = .running → 20 ≤ n → n ≤ 100 →
      ∃ t, Machine.exec (.heaterSetWrite [⟨3, none, some (n : Int)⟩]) s = .next t ∧ t.answer.map (·.status) = some .ok
        ∧ t.cfg = { s.cfg with heaterSet := { s.cfg.heaterSet with threshold := n } }
        ∧ (s.cfg.heaterSet.threshold ≠ n → t.hc.frostHold = none))
    ∧ (∀ (v : Int) (s : State), s.mc.supply = .running → -180 ≤ v → v ≤ 100 →
      ∃ t, Machine.exec (.fridgeSetWrite [⟨2, none, some v⟩]) s = .next t ∧ t.answer.map (·.status) = some .ok
        ∧ t.cfg = { s.cfg with fridgeSet := { s.cfg.fridgeSet with setpoint := v } } ∧ t.fc = s.fc)
    ∧ (∀ s : State, s.mc.supply = .running → s.cfg.fridgeSet.enable = true → s.fc.state ≠ .fault → s.fc.state ≠ .off →
      ∃ t, Machine.exec (.fridgeSetWrite [⟨1, none, some 0⟩]) s = .next t ∧ t.cfg.fridgeSet.enable = false
        ∧ t.answer.map (·.status) = some .ok
        ∧ t.cfg = { s.cfg with fridgeSet := { s.cfg.fridgeSet with enable := false } }
        ∧ t.fc.state = .off ∧ t.fc.drive = false ∧ t.fc.boostEnd = none ∧ t.fc.doorTimer = none ∧ t.fc.alerts = 0
        ∧ tget t.asked (consIx .fridge) = none)
    ∧ (∀ (n : Fin 4) (s : State), s.mc.supply = .running → n.1 ≠ s.fc.ventSpeed →
      ∃ t, Machine.exec (.ventWrite [⟨1, none, some (n.1 : Int)⟩]) s = .next t ∧ t.answer.map (·.status) = some .ok
        ∧ t.cfg = s.cfg ∧ t.fc.ventSpeed = n.1 ∧ tget t.asked (consIx .vent) = ventRequest s.cfg.demands n.1
        ∧ (n.1 = 0 → t.fc.ventRunEnd = none)
        ∧ (n.1 ≠ 0 → s.fc.ventSpeed = 0 → t.fc.ventRunEnd =
            if s.cfg.ventLimit = 0 then none else some (s.su.elapsed + 60 * s.cfg.ventLimit)))
    ∧ (∀ (i : Fin 6) (v : Nat) (s : State), s.mc.supply = .running → v ≤ 1000 → (lightOf s i).target ≠ v →
      ∃ t, Machine.exec (.lightsWrite [⟨1, some i.1, some (v : Int)⟩]) s = .next t ∧ t.answer.map (·.status) = some .ok
        ∧ t.cfg = s.cfg ∧ (lightOf t i).target = v ∧ (∀ j, j ≠ i → (lightOf t j).target = (lightOf s j).target)
        ∧ (s.cfg.lights.fade = 0 → (lightOf t i).faded = v ∧ (lightOf t i).fade = none))
    ∧ (∀ (n : Nat) (s : State), s.mc.supply = .running → n ≤ 1000 →
      ∃ t, Machine.exec (.panelWrite [⟨3, none, some (n : Int)⟩]) s = .next t ∧ t.answer.map (·.status) = some .ok
        ∧ t.cfg = { s.cfg with panel := { s.cfg.panel with backlight := n } } ∧ t.pn = s.pn)
    ∧ (∀ (c : Contact) (b : Bool) (s : State), s.mc.supply = .running →
      ∃ t, Machine.exec (.contactsWrite [⟨3, some (contactIx c).1, some (if b then 1 else 0)⟩]) s = .next t
        ∧ t.answer.map (·.status) = some .ok ∧ t.pn = s.pn
        ∧ t.cfg = { s.cfg with
            contacts := tset s.cfg.contacts (contactIx c) { tget s.cfg.contacts (contactIx c) with report := b } })
    ∧ ∀ (n : Nat) (s : State), s.mc.supply = .running → 10 ≤ n → n ≤ 600 →
        ∃ t, Machine.exec (.restProfileWrite [⟨5, none, some (n : Int)⟩]) s = .next t
          ∧ t.answer.map (·.status) = some .ok ∧ t.rm = s.rm
          ∧ t.cfg = { s.cfg with profile := { s.cfg.profile with stopConfirm := n } }

/-- A write to a schedule slot (R158, R160) and a restore of REST_STATE (R151), as its own row and as a PUT of record 25: a free
slot is refused with RANGE and the rest monitor's with OWNED; a host entry takes its time, armed again where it stood DONE or
SKIPPED; a restore is refused with STATE outside UNKNOWN and STOPPED, with MISMATCH where it expects another revision, and with
RANGE where its counters or its log are not admitted (`restoreAdmitted`), the Rest Monitor unchanged. An accepted one holds the
counters and every segment of the log, closed ones with the split-first flag their length gives them, sets SOON and LIMIT by the
counter and posts REST_CHANGE; with no segment open it enters STOPPED, and with the last one open RESTING with that segment's
planned end, that of a split rest where a segment is split-first, and RESTED at once where it has passed. One whose values equal
those held makes the same steps, and its replacement advances no revision (R169). Answers are read in `answer`, the model's own
field (log entry 8). What a slot write arms is log entry 32's choice, the restore, that of an empty log into STOPPED among it,
log entry 33's, and a planned end past the last cab time log entry 41's. -/
def Obligations.ScheduleAndRestAreRestored : Prop :=
  (∀ (k : Fin 8) (time : Nat) (s : State), s.mc.supply = .running → time ≤ 4294967295 →
      ∃ t, Machine.exec (.scheduleWrite [⟨2, some k.1, some (time : Int)⟩]) s = .next t
        ∧ (slotOf s k = none → t.answer = some ⟨.range, [byte (tget s.rev 25)]⟩ ∧ t.su = s.su)
        ∧ ((slotOf s k).any (·.rest) = true → t.answer = some ⟨.owned, [byte (tget s.rev 25)]⟩ ∧ t.su = s.su)
        ∧ ∀ e, slotOf s k = some e → e.rest = false → (s.su.unset = true ∨ cabTime s < time) →
            t.answer.map (·.status) = some .ok
              ∧ slotOf t k = some { e with
                  time := time
                  state := if e.state = .done ∨ e.state = .skipped then .armed else e.state })
    ∧ ∀ (drive acc : Nat) (log : List RestSpan) (x : Option Nat) (i : Instr) (s : State), s.mc.supply = .running →
        i ∈ restoresOf drive acc log x →
        let p := s.cfg.profile
        let rev := tget s.rev 24
        let held := log.map fun g => (⟨g.start.toNat, g.stop.map Int.toNat,
          g.stop.any (fun e => decide (((p.tS1 * 60 : Nat) : Int) ≤ e - g.start)), false⟩ : RestSeg)
        ∃ t, Machine.exec i s = .next t
          ∧ (s.rm.state ≠ .unknown → s.rm.state ≠ .stopped → t.answer = some ⟨.state, [byte rev]⟩ ∧ t.rm = s.rm)
          ∧ (s.rm.state = .unknown ∨ s.rm.state = .stopped →
            (x.any (· != rev) = true → t.answer = some ⟨.mismatch, [byte rev]⟩ ∧ t.rm = s.rm)
            ∧ (x.all (· == rev) = true → ¬restoreAdmitted s drive acc log →
                t.answer = some ⟨.range, [byte rev]⟩ ∧ t.rm = s.rm)
            ∧ (x.all (· == rev) = true → restoreAdmitted s drive acc log →
                t.answer.map (·.status) = some .ok ∧ t.rm.drive = drive ∧ t.rm.acc = acc ∧ t.rm.log = held
                ∧ t.rm.uncertain = false ∧ (t.rm.soon = true ↔ (p.driveLimit - p.wDrive) * 60 ≤ drive)
                ∧ (t.rm.limit = true ↔ p.driveLimit * 60 ≤ drive)
                ∧ (s.rm.drive = drive → s.rm.acc = acc → s.rm.log = held → t.answer = some ⟨.ok, [byte rev]⟩)
                ∧ ((∀ g ∈ log, g.stop.isSome) → t.rm.state = .stopped ∧ t.rm.done = false
                    ∧ (s.rm.state = .unknown → t.rm.stopSeg = some ⟨cabTime s, false⟩)
                    ∧ (s.rm.state = .stopped → t.rm.stopSeg = s.rm.stopSeg)
                    ∧ .noticePost ⟨.restChange, .rm, .info, false, [byte (2 + 16 * restCode s.rm.state), 5, 0]⟩ ∈ t.handed
                    ∧ (t.rm = s.rm → tget t.rev 24 = rev))
                ∧ ∀ g, log.getLast? = some g → g.stop = none →
                    let e := g.start.toNat + 60 *
                      (if held.any (fun h => h.stop.isSome && h.split) then min p.tRest p.tS2 else p.tRest)
                    t.rm.stopSeg = none ∧ t.rm.plannedEnd = some e
                      ∧ .noticePost ⟨.restChange, .rm, .info, false, [byte (3 + 16 * restCode s.rm.state), 5, 0]⟩ ∈ t.handed
                      ∧ (cabTime s < e → t.rm.state = .resting ∧ t.lc.resting = true ∧ t.pn.resting = true
                          ∧ t.rm.done = false)
                      ∧ (e ≤ cabTime s → t.rm.state = .rested ∧ t.lc.resting = false ∧ t.pn.resting = false
                          ∧ t.rm.done = true)))

end Statements
end

