-- ==== Sys2Proof/Laws/State.lean ====
section
/-! SUPPORT. Reading each field of the state after each named update: true by definition, for `simp`. -/

namespace Sys2Proof.Machine

variable (s : State)

/-! ### withMu -/

@[simp] theorem withMu_cfg (f : MeasureUnit → MeasureUnit) : (withMu f s).cfg = s.cfg := rfl
@[simp] theorem withMu_mu (f : MeasureUnit → MeasureUnit) : (withMu f s).mu = f s.mu := rfl
@[simp] theorem withMu_cc (f : MeasureUnit → MeasureUnit) : (withMu f s).cc = s.cc := rfl
@[simp] theorem withMu_ga (f : MeasureUnit → MeasureUnit) : (withMu f s).ga = s.ga := rfl
@[simp] theorem withMu_asked (f : MeasureUnit → MeasureUnit) : (withMu f s).asked = s.asked := rfl
@[simp] theorem withMu_hc (f : MeasureUnit → MeasureUnit) : (withMu f s).hc = s.hc := rfl
@[simp] theorem withMu_fc (f : MeasureUnit → MeasureUnit) : (withMu f s).fc = s.fc := rfl
@[simp] theorem withMu_lc (f : MeasureUnit → MeasureUnit) : (withMu f s).lc = s.lc := rfl
@[simp] theorem withMu_pn (f : MeasureUnit → MeasureUnit) : (withMu f s).pn = s.pn := rfl
@[simp] theorem withMu_rm (f : MeasureUnit → MeasureUnit) : (withMu f s).rm = s.rm := rfl
@[simp] theorem withMu_su (f : MeasureUnit → MeasureUnit) : (withMu f s).su = s.su := rfl
@[simp] theorem withMu_rev (f : MeasureUnit → MeasureUnit) : (withMu f s).rev = s.rev := rfl
@[simp] theorem withMu_lk (f : MeasureUnit → MeasureUnit) : (withMu f s).lk = s.lk := rfl
@[simp] theorem withMu_mc (f : MeasureUnit → MeasureUnit) : (withMu f s).mc = s.mc := rfl
@[simp] theorem withMu_answer (f : MeasureUnit → MeasureUnit) : (withMu f s).answer = s.answer := rfl
@[simp] theorem withMu_handed (f : MeasureUnit → MeasureUnit) : (withMu f s).handed = s.handed := rfl
@[simp] theorem withMu_choices (f : MeasureUnit → MeasureUnit) : (withMu f s).choices = s.choices := rfl
@[simp] theorem withMu_pending (f : MeasureUnit → MeasureUnit) : (withMu f s).pending = s.pending := rfl

/-! ### withCc -/

@[simp] theorem withCc_cfg (f : ChargeUnit → ChargeUnit) : (withCc f s).cfg = s.cfg := rfl
@[simp] theorem withCc_mu (f : ChargeUnit → ChargeUnit) : (withCc f s).mu = s.mu := rfl
@[simp] theorem withCc_cc (f : ChargeUnit → ChargeUnit) : (withCc f s).cc = f s.cc := rfl
@[simp] theorem withCc_ga (f : ChargeUnit → ChargeUnit) : (withCc f s).ga = s.ga := rfl
@[simp] theorem withCc_asked (f : ChargeUnit → ChargeUnit) : (withCc f s).asked = s.asked := rfl
@[simp] theorem withCc_hc (f : ChargeUnit → ChargeUnit) : (withCc f s).hc = s.hc := rfl
@[simp] theorem withCc_fc (f : ChargeUnit → ChargeUnit) : (withCc f s).fc = s.fc := rfl
@[simp] theorem withCc_lc (f : ChargeUnit → ChargeUnit) : (withCc f s).lc = s.lc := rfl
@[simp] theorem withCc_pn (f : ChargeUnit → ChargeUnit) : (withCc f s).pn = s.pn := rfl
@[simp] theorem withCc_rm (f : ChargeUnit → ChargeUnit) : (withCc f s).rm = s.rm := rfl
@[simp] theorem withCc_su (f : ChargeUnit → ChargeUnit) : (withCc f s).su = s.su := rfl
@[simp] theorem withCc_rev (f : ChargeUnit → ChargeUnit) : (withCc f s).rev = s.rev := rfl
@[simp] theorem withCc_lk (f : ChargeUnit → ChargeUnit) : (withCc f s).lk = s.lk := rfl
@[simp] theorem withCc_mc (f : ChargeUnit → ChargeUnit) : (withCc f s).mc = s.mc := rfl
@[simp] theorem withCc_answer (f : ChargeUnit → ChargeUnit) : (withCc f s).answer = s.answer := rfl
@[simp] theorem withCc_handed (f : ChargeUnit → ChargeUnit) : (withCc f s).handed = s.handed := rfl
@[simp] theorem withCc_choices (f : ChargeUnit → ChargeUnit) : (withCc f s).choices = s.choices := rfl
@[simp] theorem withCc_pending (f : ChargeUnit → ChargeUnit) : (withCc f s).pending = s.pending := rfl

/-! ### withGa -/

@[simp] theorem withGa_cfg (f : GrantUnit → GrantUnit) : (withGa f s).cfg = s.cfg := rfl
@[simp] theorem withGa_mu (f : GrantUnit → GrantUnit) : (withGa f s).mu = s.mu := rfl
@[simp] theorem withGa_cc (f : GrantUnit → GrantUnit) : (withGa f s).cc = s.cc := rfl
@[simp] theorem withGa_ga (f : GrantUnit → GrantUnit) : (withGa f s).ga = f s.ga := rfl
@[simp] theorem withGa_asked (f : GrantUnit → GrantUnit) : (withGa f s).asked = s.asked := rfl
@[simp] theorem withGa_hc (f : GrantUnit → GrantUnit) : (withGa f s).hc = s.hc := rfl
@[simp] theorem withGa_fc (f : GrantUnit → GrantUnit) : (withGa f s).fc = s.fc := rfl
@[simp] theorem withGa_lc (f : GrantUnit → GrantUnit) : (withGa f s).lc = s.lc := rfl
@[simp] theorem withGa_pn (f : GrantUnit → GrantUnit) : (withGa f s).pn = s.pn := rfl
@[simp] theorem withGa_rm (f : GrantUnit → GrantUnit) : (withGa f s).rm = s.rm := rfl
@[simp] theorem withGa_su (f : GrantUnit → GrantUnit) : (withGa f s).su = s.su := rfl
@[simp] theorem withGa_rev (f : GrantUnit → GrantUnit) : (withGa f s).rev = s.rev := rfl
@[simp] theorem withGa_lk (f : GrantUnit → GrantUnit) : (withGa f s).lk = s.lk := rfl
@[simp] theorem withGa_mc (f : GrantUnit → GrantUnit) : (withGa f s).mc = s.mc := rfl
@[simp] theorem withGa_answer (f : GrantUnit → GrantUnit) : (withGa f s).answer = s.answer := rfl
@[simp] theorem withGa_handed (f : GrantUnit → GrantUnit) : (withGa f s).handed = s.handed := rfl
@[simp] theorem withGa_choices (f : GrantUnit → GrantUnit) : (withGa f s).choices = s.choices := rfl
@[simp] theorem withGa_pending (f : GrantUnit → GrantUnit) : (withGa f s).pending = s.pending := rfl

/-! ### withHc -/

@[simp] theorem withHc_cfg (f : HeaterUnit → HeaterUnit) : (withHc f s).cfg = s.cfg := rfl
@[simp] theorem withHc_mu (f : HeaterUnit → HeaterUnit) : (withHc f s).mu = s.mu := rfl
@[simp] theorem withHc_cc (f : HeaterUnit → HeaterUnit) : (withHc f s).cc = s.cc := rfl
@[simp] theorem withHc_ga (f : HeaterUnit → HeaterUnit) : (withHc f s).ga = s.ga := rfl
@[simp] theorem withHc_asked (f : HeaterUnit → HeaterUnit) : (withHc f s).asked = s.asked := rfl
@[simp] theorem withHc_hc (f : HeaterUnit → HeaterUnit) : (withHc f s).hc = f s.hc := rfl
@[simp] theorem withHc_fc (f : HeaterUnit → HeaterUnit) : (withHc f s).fc = s.fc := rfl
@[simp] theorem withHc_lc (f : HeaterUnit → HeaterUnit) : (withHc f s).lc = s.lc := rfl
@[simp] theorem withHc_pn (f : HeaterUnit → HeaterUnit) : (withHc f s).pn = s.pn := rfl
@[simp] theorem withHc_rm (f : HeaterUnit → HeaterUnit) : (withHc f s).rm = s.rm := rfl
@[simp] theorem withHc_su (f : HeaterUnit → HeaterUnit) : (withHc f s).su = s.su := rfl
@[simp] theorem withHc_rev (f : HeaterUnit → HeaterUnit) : (withHc f s).rev = s.rev := rfl
@[simp] theorem withHc_lk (f : HeaterUnit → HeaterUnit) : (withHc f s).lk = s.lk := rfl
@[simp] theorem withHc_mc (f : HeaterUnit → HeaterUnit) : (withHc f s).mc = s.mc := rfl
@[simp] theorem withHc_answer (f : HeaterUnit → HeaterUnit) : (withHc f s).answer = s.answer := rfl
@[simp] theorem withHc_handed (f : HeaterUnit → HeaterUnit) : (withHc f s).handed = s.handed := rfl
@[simp] theorem withHc_choices (f : HeaterUnit → HeaterUnit) : (withHc f s).choices = s.choices := rfl
@[simp] theorem withHc_pending (f : HeaterUnit → HeaterUnit) : (withHc f s).pending = s.pending := rfl

/-! ### withFc -/

@[simp] theorem withFc_cfg (f : FridgeUnit → FridgeUnit) : (withFc f s).cfg = s.cfg := rfl
@[simp] theorem withFc_mu (f : FridgeUnit → FridgeUnit) : (withFc f s).mu = s.mu := rfl
@[simp] theorem withFc_cc (f : FridgeUnit → FridgeUnit) : (withFc f s).cc = s.cc := rfl
@[simp] theorem withFc_ga (f : FridgeUnit → FridgeUnit) : (withFc f s).ga = s.ga := rfl
@[simp] theorem withFc_asked (f : FridgeUnit → FridgeUnit) : (withFc f s).asked = s.asked := rfl
@[simp] theorem withFc_hc (f : FridgeUnit → FridgeUnit) : (withFc f s).hc = s.hc := rfl
@[simp] theorem withFc_fc (f : FridgeUnit → FridgeUnit) : (withFc f s).fc = f s.fc := rfl
@[simp] theorem withFc_lc (f : FridgeUnit → FridgeUnit) : (withFc f s).lc = s.lc := rfl
@[simp] theorem withFc_pn (f : FridgeUnit → FridgeUnit) : (withFc f s).pn = s.pn := rfl
@[simp] theorem withFc_rm (f : FridgeUnit → FridgeUnit) : (withFc f s).rm = s.rm := rfl
@[simp] theorem withFc_su (f : FridgeUnit → FridgeUnit) : (withFc f s).su = s.su := rfl
@[simp] theorem withFc_rev (f : FridgeUnit → FridgeUnit) : (withFc f s).rev = s.rev := rfl
@[simp] theorem withFc_lk (f : FridgeUnit → FridgeUnit) : (withFc f s).lk = s.lk := rfl
@[simp] theorem withFc_mc (f : FridgeUnit → FridgeUnit) : (withFc f s).mc = s.mc := rfl
@[simp] theorem withFc_answer (f : FridgeUnit → FridgeUnit) : (withFc f s).answer = s.answer := rfl
@[simp] theorem withFc_handed (f : FridgeUnit → FridgeUnit) : (withFc f s).handed = s.handed := rfl
@[simp] theorem withFc_choices (f : FridgeUnit → FridgeUnit) : (withFc f s).choices = s.choices := rfl
@[simp] theorem withFc_pending (f : FridgeUnit → FridgeUnit) : (withFc f s).pending = s.pending := rfl

/-! ### withLc -/

@[simp] theorem withLc_cfg (f : LightUnit → LightUnit) : (withLc f s).cfg = s.cfg := rfl
@[simp] theorem withLc_mu (f : LightUnit → LightUnit) : (withLc f s).mu = s.mu := rfl
@[simp] theorem withLc_cc (f : LightUnit → LightUnit) : (withLc f s).cc = s.cc := rfl
@[simp] theorem withLc_ga (f : LightUnit → LightUnit) : (withLc f s).ga = s.ga := rfl
@[simp] theorem withLc_asked (f : LightUnit → LightUnit) : (withLc f s).asked = s.asked := rfl
@[simp] theorem withLc_hc (f : LightUnit → LightUnit) : (withLc f s).hc = s.hc := rfl
@[simp] theorem withLc_fc (f : LightUnit → LightUnit) : (withLc f s).fc = s.fc := rfl
@[simp] theorem withLc_lc (f : LightUnit → LightUnit) : (withLc f s).lc = f s.lc := rfl
@[simp] theorem withLc_pn (f : LightUnit → LightUnit) : (withLc f s).pn = s.pn := rfl
@[simp] theorem withLc_rm (f : LightUnit → LightUnit) : (withLc f s).rm = s.rm := rfl
@[simp] theorem withLc_su (f : LightUnit → LightUnit) : (withLc f s).su = s.su := rfl
@[simp] theorem withLc_rev (f : LightUnit → LightUnit) : (withLc f s).rev = s.rev := rfl
@[simp] theorem withLc_lk (f : LightUnit → LightUnit) : (withLc f s).lk = s.lk := rfl
@[simp] theorem withLc_mc (f : LightUnit → LightUnit) : (withLc f s).mc = s.mc := rfl
@[simp] theorem withLc_answer (f : LightUnit → LightUnit) : (withLc f s).answer = s.answer := rfl
@[simp] theorem withLc_handed (f : LightUnit → LightUnit) : (withLc f s).handed = s.handed := rfl
@[simp] theorem withLc_choices (f : LightUnit → LightUnit) : (withLc f s).choices = s.choices := rfl
@[simp] theorem withLc_pending (f : LightUnit → LightUnit) : (withLc f s).pending = s.pending := rfl

/-! ### withPn -/

@[simp] theorem withPn_cfg (f : PanelUnit → PanelUnit) : (withPn f s).cfg = s.cfg := rfl
@[simp] theorem withPn_mu (f : PanelUnit → PanelUnit) : (withPn f s).mu = s.mu := rfl
@[simp] theorem withPn_cc (f : PanelUnit → PanelUnit) : (withPn f s).cc = s.cc := rfl
@[simp] theorem withPn_ga (f : PanelUnit → PanelUnit) : (withPn f s).ga = s.ga := rfl
@[simp] theorem withPn_asked (f : PanelUnit → PanelUnit) : (withPn f s).asked = s.asked := rfl
@[simp] theorem withPn_hc (f : PanelUnit → PanelUnit) : (withPn f s).hc = s.hc := rfl
@[simp] theorem withPn_fc (f : PanelUnit → PanelUnit) : (withPn f s).fc = s.fc := rfl
@[simp] theorem withPn_lc (f : PanelUnit → PanelUnit) : (withPn f s).lc = s.lc := rfl
@[simp] theorem withPn_pn (f : PanelUnit → PanelUnit) : (withPn f s).pn = f s.pn := rfl
@[simp] theorem withPn_rm (f : PanelUnit → PanelUnit) : (withPn f s).rm = s.rm := rfl
@[simp] theorem withPn_su (f : PanelUnit → PanelUnit) : (withPn f s).su = s.su := rfl
@[simp] theorem withPn_rev (f : PanelUnit → PanelUnit) : (withPn f s).rev = s.rev := rfl
@[simp] theorem withPn_lk (f : PanelUnit → PanelUnit) : (withPn f s).lk = s.lk := rfl
@[simp] theorem withPn_mc (f : PanelUnit → PanelUnit) : (withPn f s).mc = s.mc := rfl
@[simp] theorem withPn_answer (f : PanelUnit → PanelUnit) : (withPn f s).answer = s.answer := rfl
@[simp] theorem withPn_handed (f : PanelUnit → PanelUnit) : (withPn f s).handed = s.handed := rfl
@[simp] theorem withPn_choices (f : PanelUnit → PanelUnit) : (withPn f s).choices = s.choices := rfl
@[simp] theorem withPn_pending (f : PanelUnit → PanelUnit) : (withPn f s).pending = s.pending := rfl

/-! ### withRm -/

@[simp] theorem withRm_cfg (f : RestUnit → RestUnit) : (withRm f s).cfg = s.cfg := rfl
@[simp] theorem withRm_mu (f : RestUnit → RestUnit) : (withRm f s).mu = s.mu := rfl
@[simp] theorem withRm_cc (f : RestUnit → RestUnit) : (withRm f s).cc = s.cc := rfl
@[simp] theorem withRm_ga (f : RestUnit → RestUnit) : (withRm f s).ga = s.ga := rfl
@[simp] theorem withRm_asked (f : RestUnit → RestUnit) : (withRm f s).asked = s.asked := rfl
@[simp] theorem withRm_hc (f : RestUnit → RestUnit) : (withRm f s).hc = s.hc := rfl
@[simp] theorem withRm_fc (f : RestUnit → RestUnit) : (withRm f s).fc = s.fc := rfl
@[simp] theorem withRm_lc (f : RestUnit → RestUnit) : (withRm f s).lc = s.lc := rfl
@[simp] theorem withRm_pn (f : RestUnit → RestUnit) : (withRm f s).pn = s.pn := rfl
@[simp] theorem withRm_rm (f : RestUnit → RestUnit) : (withRm f s).rm = f s.rm := rfl
@[simp] theorem withRm_su (f : RestUnit → RestUnit) : (withRm f s).su = s.su := rfl
@[simp] theorem withRm_rev (f : RestUnit → RestUnit) : (withRm f s).rev = s.rev := rfl
@[simp] theorem withRm_lk (f : RestUnit → RestUnit) : (withRm f s).lk = s.lk := rfl
@[simp] theorem withRm_mc (f : RestUnit → RestUnit) : (withRm f s).mc = s.mc := rfl
@[simp] theorem withRm_answer (f : RestUnit → RestUnit) : (withRm f s).answer = s.answer := rfl
@[simp] theorem withRm_handed (f : RestUnit → RestUnit) : (withRm f s).handed = s.handed := rfl
@[simp] theorem withRm_choices (f : RestUnit → RestUnit) : (withRm f s).choices = s.choices := rfl
@[simp] theorem withRm_pending (f : RestUnit → RestUnit) : (withRm f s).pending = s.pending := rfl

/-! ### withSu -/

@[simp] theorem withSu_cfg (f : ScheduleUnit → ScheduleUnit) : (withSu f s).cfg = s.cfg := rfl
@[simp] theorem withSu_mu (f : ScheduleUnit → ScheduleUnit) : (withSu f s).mu = s.mu := rfl
@[simp] theorem withSu_cc (f : ScheduleUnit → ScheduleUnit) : (withSu f s).cc = s.cc := rfl
@[simp] theorem withSu_ga (f : ScheduleUnit → ScheduleUnit) : (withSu f s).ga = s.ga := rfl
@[simp] theorem withSu_asked (f : ScheduleUnit → ScheduleUnit) : (withSu f s).asked = s.asked := rfl
@[simp] theorem withSu_hc (f : ScheduleUnit → ScheduleUnit) : (withSu f s).hc = s.hc := rfl
@[simp] theorem withSu_fc (f : ScheduleUnit → ScheduleUnit) : (withSu f s).fc = s.fc := rfl
@[simp] theorem withSu_lc (f : ScheduleUnit → ScheduleUnit) : (withSu f s).lc = s.lc := rfl
@[simp] theorem withSu_pn (f : ScheduleUnit → ScheduleUnit) : (withSu f s).pn = s.pn := rfl
@[simp] theorem withSu_rm (f : ScheduleUnit → ScheduleUnit) : (withSu f s).rm = s.rm := rfl
@[simp] theorem withSu_su (f : ScheduleUnit → ScheduleUnit) : (withSu f s).su = f s.su := rfl
@[simp] theorem withSu_rev (f : ScheduleUnit → ScheduleUnit) : (withSu f s).rev = s.rev := rfl
@[simp] theorem withSu_lk (f : ScheduleUnit → ScheduleUnit) : (withSu f s).lk = s.lk := rfl
@[simp] theorem withSu_mc (f : ScheduleUnit → ScheduleUnit) : (withSu f s).mc = s.mc := rfl
@[simp] theorem withSu_answer (f : ScheduleUnit → ScheduleUnit) : (withSu f s).answer = s.answer := rfl
@[simp] theorem withSu_handed (f : ScheduleUnit → ScheduleUnit) : (withSu f s).handed = s.handed := rfl
@[simp] theorem withSu_choices (f : ScheduleUnit → ScheduleUnit) : (withSu f s).choices = s.choices := rfl
@[simp] theorem withSu_pending (f : ScheduleUnit → ScheduleUnit) : (withSu f s).pending = s.pending := rfl

/-! ### withLk -/

@[simp] theorem withLk_cfg (f : LinkUnit → LinkUnit) : (withLk f s).cfg = s.cfg := rfl
@[simp] theorem withLk_mu (f : LinkUnit → LinkUnit) : (withLk f s).mu = s.mu := rfl
@[simp] theorem withLk_cc (f : LinkUnit → LinkUnit) : (withLk f s).cc = s.cc := rfl
@[simp] theorem withLk_ga (f : LinkUnit → LinkUnit) : (withLk f s).ga = s.ga := rfl
@[simp] theorem withLk_asked (f : LinkUnit → LinkUnit) : (withLk f s).asked = s.asked := rfl
@[simp] theorem withLk_hc (f : LinkUnit → LinkUnit) : (withLk f s).hc = s.hc := rfl
@[simp] theorem withLk_fc (f : LinkUnit → LinkUnit) : (withLk f s).fc = s.fc := rfl
@[simp] theorem withLk_lc (f : LinkUnit → LinkUnit) : (withLk f s).lc = s.lc := rfl
@[simp] theorem withLk_pn (f : LinkUnit → LinkUnit) : (withLk f s).pn = s.pn := rfl
@[simp] theorem withLk_rm (f : LinkUnit → LinkUnit) : (withLk f s).rm = s.rm := rfl
@[simp] theorem withLk_su (f : LinkUnit → LinkUnit) : (withLk f s).su = s.su := rfl
@[simp] theorem withLk_rev (f : LinkUnit → LinkUnit) : (withLk f s).rev = s.rev := rfl
@[simp] theorem withLk_lk (f : LinkUnit → LinkUnit) : (withLk f s).lk = f s.lk := rfl
@[simp] theorem withLk_mc (f : LinkUnit → LinkUnit) : (withLk f s).mc = s.mc := rfl
@[simp] theorem withLk_answer (f : LinkUnit → LinkUnit) : (withLk f s).answer = s.answer := rfl
@[simp] theorem withLk_handed (f : LinkUnit → LinkUnit) : (withLk f s).handed = s.handed := rfl
@[simp] theorem withLk_choices (f : LinkUnit → LinkUnit) : (withLk f s).choices = s.choices := rfl
@[simp] theorem withLk_pending (f : LinkUnit → LinkUnit) : (withLk f s).pending = s.pending := rfl

/-! ### withMc -/

@[simp] theorem withMc_cfg (f : ModeUnit → ModeUnit) : (withMc f s).cfg = s.cfg := rfl
@[simp] theorem withMc_mu (f : ModeUnit → ModeUnit) : (withMc f s).mu = s.mu := rfl
@[simp] theorem withMc_cc (f : ModeUnit → ModeUnit) : (withMc f s).cc = s.cc := rfl
@[simp] theorem withMc_ga (f : ModeUnit → ModeUnit) : (withMc f s).ga = s.ga := rfl
@[simp] theorem withMc_asked (f : ModeUnit → ModeUnit) : (withMc f s).asked = s.asked := rfl
@[simp] theorem withMc_hc (f : ModeUnit → ModeUnit) : (withMc f s).hc = s.hc := rfl
@[simp] theorem withMc_fc (f : ModeUnit → ModeUnit) : (withMc f s).fc = s.fc := rfl
@[simp] theorem withMc_lc (f : ModeUnit → ModeUnit) : (withMc f s).lc = s.lc := rfl
@[simp] theorem withMc_pn (f : ModeUnit → ModeUnit) : (withMc f s).pn = s.pn := rfl
@[simp] theorem withMc_rm (f : ModeUnit → ModeUnit) : (withMc f s).rm = s.rm := rfl
@[simp] theorem withMc_su (f : ModeUnit → ModeUnit) : (withMc f s).su = s.su := rfl
@[simp] theorem withMc_rev (f : ModeUnit → ModeUnit) : (withMc f s).rev = s.rev := rfl
@[simp] theorem withMc_lk (f : ModeUnit → ModeUnit) : (withMc f s).lk = s.lk := rfl
@[simp] theorem withMc_mc (f : ModeUnit → ModeUnit) : (withMc f s).mc = f s.mc := rfl
@[simp] theorem withMc_answer (f : ModeUnit → ModeUnit) : (withMc f s).answer = s.answer := rfl
@[simp] theorem withMc_handed (f : ModeUnit → ModeUnit) : (withMc f s).handed = s.handed := rfl
@[simp] theorem withMc_choices (f : ModeUnit → ModeUnit) : (withMc f s).choices = s.choices := rfl
@[simp] theorem withMc_pending (f : ModeUnit → ModeUnit) : (withMc f s).pending = s.pending := rfl

/-! ### hand -/

@[simp] theorem hand_cfg (i : Instr) : (hand i s).cfg = s.cfg := rfl
@[simp] theorem hand_mu (i : Instr) : (hand i s).mu = s.mu := rfl
@[simp] theorem hand_cc (i : Instr) : (hand i s).cc = s.cc := rfl
@[simp] theorem hand_ga (i : Instr) : (hand i s).ga = s.ga := rfl
@[simp] theorem hand_asked (i : Instr) : (hand i s).asked = s.asked := rfl
@[simp] theorem hand_hc (i : Instr) : (hand i s).hc = s.hc := rfl
@[simp] theorem hand_fc (i : Instr) : (hand i s).fc = s.fc := rfl
@[simp] theorem hand_lc (i : Instr) : (hand i s).lc = s.lc := rfl
@[simp] theorem hand_pn (i : Instr) : (hand i s).pn = s.pn := rfl
@[simp] theorem hand_rm (i : Instr) : (hand i s).rm = s.rm := rfl
@[simp] theorem hand_su (i : Instr) : (hand i s).su = s.su := rfl
@[simp] theorem hand_rev (i : Instr) : (hand i s).rev = s.rev := rfl
@[simp] theorem hand_lk (i : Instr) : (hand i s).lk = s.lk := rfl
@[simp] theorem hand_mc (i : Instr) : (hand i s).mc = s.mc := rfl
@[simp] theorem hand_answer (i : Instr) : (hand i s).answer = s.answer := rfl
@[simp] theorem hand_handed (i : Instr) : (hand i s).handed = s.handed ++ [i] := rfl
@[simp] theorem hand_choices (i : Instr) : (hand i s).choices = s.choices := rfl
@[simp] theorem hand_pending (i : Instr) : (hand i s).pending = s.pending := rfl

/-! ### takeHanding -/

@[simp] theorem takeHanding_cfg (i : Instr) : (takeHanding i s).cfg = s.cfg := rfl
@[simp] theorem takeHanding_mu (i : Instr) : (takeHanding i s).mu = s.mu := rfl
@[simp] theorem takeHanding_cc (i : Instr) : (takeHanding i s).cc = s.cc := rfl
@[simp] theorem takeHanding_ga (i : Instr) : (takeHanding i s).ga = s.ga := rfl
@[simp] theorem takeHanding_asked (i : Instr) : (takeHanding i s).asked = s.asked := rfl
@[simp] theorem takeHanding_hc (i : Instr) : (takeHanding i s).hc = s.hc := rfl
@[simp] theorem takeHanding_fc (i : Instr) : (takeHanding i s).fc = s.fc := rfl
@[simp] theorem takeHanding_lc (i : Instr) : (takeHanding i s).lc = s.lc := rfl
@[simp] theorem takeHanding_pn (i : Instr) : (takeHanding i s).pn = s.pn := rfl
@[simp] theorem takeHanding_rm (i : Instr) : (takeHanding i s).rm = s.rm := rfl
@[simp] theorem takeHanding_su (i : Instr) : (takeHanding i s).su = s.su := rfl
@[simp] theorem takeHanding_rev (i : Instr) : (takeHanding i s).rev = s.rev := rfl
@[simp] theorem takeHanding_lk (i : Instr) : (takeHanding i s).lk = s.lk := rfl
@[simp] theorem takeHanding_mc (i : Instr) : (takeHanding i s).mc = s.mc := rfl
@[simp] theorem takeHanding_answer (i : Instr) : (takeHanding i s).answer = s.answer := rfl
@[simp] theorem takeHanding_handed (i : Instr) : (takeHanding i s).handed = s.handed.erase i := rfl
@[simp] theorem takeHanding_choices (i : Instr) : (takeHanding i s).choices = s.choices := rfl
@[simp] theorem takeHanding_pending (i : Instr) : (takeHanding i s).pending = s.pending := rfl

/-! ### startEvent -/

@[simp] theorem startEvent_cfg (i : Instr) : (startEvent i s).cfg = s.cfg := rfl
@[simp] theorem startEvent_mu (i : Instr) : (startEvent i s).mu = s.mu := rfl
@[simp] theorem startEvent_cc (i : Instr) : (startEvent i s).cc = s.cc := rfl
@[simp] theorem startEvent_ga (i : Instr) : (startEvent i s).ga = s.ga := rfl
@[simp] theorem startEvent_asked (i : Instr) : (startEvent i s).asked = s.asked := rfl
@[simp] theorem startEvent_hc (i : Instr) : (startEvent i s).hc = s.hc := rfl
@[simp] theorem startEvent_fc (i : Instr) : (startEvent i s).fc = s.fc := rfl
@[simp] theorem startEvent_lc (i : Instr) : (startEvent i s).lc = s.lc := rfl
@[simp] theorem startEvent_pn (i : Instr) : (startEvent i s).pn = s.pn := rfl
@[simp] theorem startEvent_rm (i : Instr) : (startEvent i s).rm = s.rm := rfl
@[simp] theorem startEvent_su (i : Instr) : (startEvent i s).su = s.su := rfl
@[simp] theorem startEvent_rev (i : Instr) : (startEvent i s).rev = s.rev := rfl
@[simp] theorem startEvent_lk (i : Instr) : (startEvent i s).lk = s.lk := rfl
@[simp] theorem startEvent_mc (i : Instr) : (startEvent i s).mc = { s.mc with woken := false } := rfl
@[simp] theorem startEvent_answer (i : Instr) : (startEvent i s).answer = s.answer := rfl
@[simp] theorem startEvent_handed (i : Instr) : (startEvent i s).handed = s.handed.erase i := rfl
@[simp] theorem startEvent_choices (i : Instr) : (startEvent i s).choices = s.choices := rfl
@[simp] theorem startEvent_pending (i : Instr) : (startEvent i s).pending = s.pending := rfl

/-! ### post -/

@[simp] theorem post_cfg (k : NoticeKind) (src : Source) (sev : Severity) (d : List Byte) : (post k src sev d s).cfg = s.cfg := rfl
@[simp] theorem post_mu (k : NoticeKind) (src : Source) (sev : Severity) (d : List Byte) : (post k src sev d s).mu = s.mu := rfl
@[simp] theorem post_cc (k : NoticeKind) (src : Source) (sev : Severity) (d : List Byte) : (post k src sev d s).cc = s.cc := rfl
@[simp] theorem post_ga (k : NoticeKind) (src : Source) (sev : Severity) (d : List Byte) : (post k src sev d s).ga = s.ga := rfl
@[simp] theorem post_asked (k : NoticeKind) (src : Source) (sev : Severity) (d : List Byte) : (post k src sev d s).asked = s.asked := rfl
@[simp] theorem post_hc (k : NoticeKind) (src : Source) (sev : Severity) (d : List Byte) : (post k src sev d s).hc = s.hc := rfl
@[simp] theorem post_fc (k : NoticeKind) (src : Source) (sev : Severity) (d : List Byte) : (post k src sev d s).fc = s.fc := rfl
@[simp] theorem post_lc (k : NoticeKind) (src : Source) (sev : Severity) (d : List Byte) : (post k src sev d s).lc = s.lc := rfl
@[simp] theorem post_pn (k : NoticeKind) (src : Source) (sev : Severity) (d : List Byte) : (post k src sev d s).pn = s.pn := rfl
@[simp] theorem post_rm (k : NoticeKind) (src : Source) (sev : Severity) (d : List Byte) : (post k src sev d s).rm = s.rm := rfl
@[simp] theorem post_su (k : NoticeKind) (src : Source) (sev : Severity) (d : List Byte) : (post k src sev d s).su = s.su := rfl
@[simp] theorem post_rev (k : NoticeKind) (src : Source) (sev : Severity) (d : List Byte) : (post k src sev d s).rev = s.rev := rfl
@[simp] theorem post_lk (k : NoticeKind) (src : Source) (sev : Severity) (d : List Byte) : (post k src sev d s).lk = s.lk := rfl
@[simp] theorem post_mc (k : NoticeKind) (src : Source) (sev : Severity) (d : List Byte) : (post k src sev d s).mc = s.mc := rfl
@[simp] theorem post_answer (k : NoticeKind) (src : Source) (sev : Severity) (d : List Byte) : (post k src sev d s).answer = s.answer := rfl
@[simp] theorem post_handed (k : NoticeKind) (src : Source) (sev : Severity) (d : List Byte) : (post k src sev d s).handed = s.handed ++ [.noticePost ⟨k, src, sev, false, d⟩] := rfl
@[simp] theorem post_choices (k : NoticeKind) (src : Source) (sev : Severity) (d : List Byte) : (post k src sev d s).choices = s.choices := rfl
@[simp] theorem post_pending (k : NoticeKind) (src : Source) (sev : Severity) (d : List Byte) : (post k src sev d s).pending = s.pending := rfl

/-! ### chime -/

@[simp] theorem chime_cfg (p : Fin 10) : (chime p s).cfg = s.cfg := rfl
@[simp] theorem chime_mu (p : Fin 10) : (chime p s).mu = s.mu := rfl
@[simp] theorem chime_cc (p : Fin 10) : (chime p s).cc = s.cc := rfl
@[simp] theorem chime_ga (p : Fin 10) : (chime p s).ga = s.ga := rfl
@[simp] theorem chime_asked (p : Fin 10) : (chime p s).asked = s.asked := rfl
@[simp] theorem chime_hc (p : Fin 10) : (chime p s).hc = s.hc := rfl
@[simp] theorem chime_fc (p : Fin 10) : (chime p s).fc = s.fc := rfl
@[simp] theorem chime_lc (p : Fin 10) : (chime p s).lc = s.lc := rfl
@[simp] theorem chime_pn (p : Fin 10) : (chime p s).pn = s.pn := rfl
@[simp] theorem chime_rm (p : Fin 10) : (chime p s).rm = s.rm := rfl
@[simp] theorem chime_su (p : Fin 10) : (chime p s).su = s.su := rfl
@[simp] theorem chime_rev (p : Fin 10) : (chime p s).rev = s.rev := rfl
@[simp] theorem chime_lk (p : Fin 10) : (chime p s).lk = s.lk := rfl
@[simp] theorem chime_mc (p : Fin 10) : (chime p s).mc = s.mc := rfl
@[simp] theorem chime_answer (p : Fin 10) : (chime p s).answer = s.answer := rfl
@[simp] theorem chime_handed (p : Fin 10) : (chime p s).handed = s.handed ++ [.chimeRequest p] := rfl
@[simp] theorem chime_choices (p : Fin 10) : (chime p s).choices = s.choices := rfl
@[simp] theorem chime_pending (p : Fin 10) : (chime p s).pending = s.pending := rfl

/-! ### answer -/

@[simp] theorem answer_cfg (st : Status) (d : List Byte) : (answer st d s).cfg = s.cfg := rfl
@[simp] theorem answer_mu (st : Status) (d : List Byte) : (answer st d s).mu = s.mu := rfl
@[simp] theorem answer_cc (st : Status) (d : List Byte) : (answer st d s).cc = s.cc := rfl
@[simp] theorem answer_ga (st : Status) (d : List Byte) : (answer st d s).ga = s.ga := rfl
@[simp] theorem answer_asked (st : Status) (d : List Byte) : (answer st d s).asked = s.asked := rfl
@[simp] theorem answer_hc (st : Status) (d : List Byte) : (answer st d s).hc = s.hc := rfl
@[simp] theorem answer_fc (st : Status) (d : List Byte) : (answer st d s).fc = s.fc := rfl
@[simp] theorem answer_lc (st : Status) (d : List Byte) : (answer st d s).lc = s.lc := rfl
@[simp] theorem answer_pn (st : Status) (d : List Byte) : (answer st d s).pn = s.pn := rfl
@[simp] theorem answer_rm (st : Status) (d : List Byte) : (answer st d s).rm = s.rm := rfl
@[simp] theorem answer_su (st : Status) (d : List Byte) : (answer st d s).su = s.su := rfl
@[simp] theorem answer_rev (st : Status) (d : List Byte) : (answer st d s).rev = s.rev := rfl
@[simp] theorem answer_lk (st : Status) (d : List Byte) : (answer st d s).lk = s.lk := rfl
@[simp] theorem answer_mc (st : Status) (d : List Byte) : (answer st d s).mc = s.mc := rfl
@[simp] theorem answer_answer (st : Status) (d : List Byte) : (answer st d s).answer = some ⟨st, d⟩ := rfl
@[simp] theorem answer_handed (st : Status) (d : List Byte) : (answer st d s).handed = s.handed := rfl
@[simp] theorem answer_choices (st : Status) (d : List Byte) : (answer st d s).choices = s.choices := rfl
@[simp] theorem answer_pending (st : Status) (d : List Byte) : (answer st d s).pending = s.pending := rfl

/-! ### countChoices -/

@[simp] theorem countChoices_cfg (n : Nat) : (countChoices n s).cfg = s.cfg := rfl
@[simp] theorem countChoices_mu (n : Nat) : (countChoices n s).mu = s.mu := rfl
@[simp] theorem countChoices_cc (n : Nat) : (countChoices n s).cc = s.cc := rfl
@[simp] theorem countChoices_ga (n : Nat) : (countChoices n s).ga = s.ga := rfl
@[simp] theorem countChoices_asked (n : Nat) : (countChoices n s).asked = s.asked := rfl
@[simp] theorem countChoices_hc (n : Nat) : (countChoices n s).hc = s.hc := rfl
@[simp] theorem countChoices_fc (n : Nat) : (countChoices n s).fc = s.fc := rfl
@[simp] theorem countChoices_lc (n : Nat) : (countChoices n s).lc = s.lc := rfl
@[simp] theorem countChoices_pn (n : Nat) : (countChoices n s).pn = s.pn := rfl
@[simp] theorem countChoices_rm (n : Nat) : (countChoices n s).rm = s.rm := rfl
@[simp] theorem countChoices_su (n : Nat) : (countChoices n s).su = s.su := rfl
@[simp] theorem countChoices_rev (n : Nat) : (countChoices n s).rev = s.rev := rfl
@[simp] theorem countChoices_lk (n : Nat) : (countChoices n s).lk = s.lk := rfl
@[simp] theorem countChoices_mc (n : Nat) : (countChoices n s).mc = s.mc := rfl
@[simp] theorem countChoices_answer (n : Nat) : (countChoices n s).answer = s.answer := rfl
@[simp] theorem countChoices_handed (n : Nat) : (countChoices n s).handed = s.handed := rfl
@[simp] theorem countChoices_choices (n : Nat) : (countChoices n s).choices = s.choices + n := rfl
@[simp] theorem countChoices_pending (n : Nat) : (countChoices n s).pending = s.pending := rfl

end Sys2Proof.Machine
end

