-- ==== Sys2Proof/Laws/Event.lean ====
section
/-! SUPPORT. What the frame of an event can do: taking the handing, switching the outputs, judging DOZE, advancing the
revisions; and the shared operations over requests, handings, tables, free orders and the panel's light actions, each said once. -/

set_option linter.unnecessarySeqFocus false

namespace Sys2Proof.Machine

/-! ### Tables -/

theorem tget_tset {α : Type} {n : Nat} (t : Vector α n) (i j : Fin n) (x : α) :
    tget (tset t i x) j = if i = j then x else tget t j := by
  unfold tget tset
  rw [Vector.getElem_set]
  by_cases h : i = j
  · simp [h]
  · have : i.1 ≠ j.1 := fun e => h (Fin.ext e)
    simp [h, this]

theorem tget_map {α β : Type} {n : Nat} (t : Vector α n) (f : α → β) (i : Fin n) :
    tget (t.map f) i = f (tget t i) := by
  simp [tget]

/-! ### Handings -/

theorem raise_eq (i : Instr) (s : State) : raise i s = s ∨ raise i s = hand i s := by
  unfold raise
  split <;> simp

theorem mem_raise (i : Instr) (s : State) : i ∈ (raise i s).handed := by
  unfold raise
  split
  · assumption
  · simp

theorem mem_raise_of_mem {i j : Instr} {s : State} (h : j ∈ s.handed) : j ∈ (raise i s).handed := by
  unfold raise
  split
  · exact h
  · simp [h]

@[simp] theorem raise_cfg (i : Instr) (s : State) : (raise i s).cfg = s.cfg := by
  unfold raise; split <;> rfl

@[simp] theorem raise_mu (i : Instr) (s : State) : (raise i s).mu = s.mu := by
  unfold raise; split <;> rfl

@[simp] theorem raise_cc (i : Instr) (s : State) : (raise i s).cc = s.cc := by
  unfold raise; split <;> rfl

@[simp] theorem raise_ga (i : Instr) (s : State) : (raise i s).ga = s.ga := by
  unfold raise; split <;> rfl

@[simp] theorem raise_asked (i : Instr) (s : State) : (raise i s).asked = s.asked := by
  unfold raise; split <;> rfl

@[simp] theorem raise_hc (i : Instr) (s : State) : (raise i s).hc = s.hc := by
  unfold raise; split <;> rfl

@[simp] theorem raise_fc (i : Instr) (s : State) : (raise i s).fc = s.fc := by
  unfold raise; split <;> rfl

@[simp] theorem raise_lc (i : Instr) (s : State) : (raise i s).lc = s.lc := by
  unfold raise; split <;> rfl

@[simp] theorem raise_pn (i : Instr) (s : State) : (raise i s).pn = s.pn := by
  unfold raise; split <;> rfl

@[simp] theorem raise_rm (i : Instr) (s : State) : (raise i s).rm = s.rm := by
  unfold raise; split <;> rfl

@[simp] theorem raise_su (i : Instr) (s : State) : (raise i s).su = s.su := by
  unfold raise; split <;> rfl

@[simp] theorem raise_rev (i : Instr) (s : State) : (raise i s).rev = s.rev := by
  unfold raise; split <;> rfl

@[simp] theorem raise_lk (i : Instr) (s : State) : (raise i s).lk = s.lk := by
  unfold raise; split <;> rfl

@[simp] theorem raise_mc (i : Instr) (s : State) : (raise i s).mc = s.mc := by
  unfold raise; split <;> rfl

@[simp] theorem raise_answer (i : Instr) (s : State) : (raise i s).answer = s.answer := by
  unfold raise; split <;> rfl

@[simp] theorem raise_choices (i : Instr) (s : State) : (raise i s).choices = s.choices := by
  unfold raise; split <;> rfl

@[simp] theorem raise_pending (i : Instr) (s : State) : (raise i s).pending = s.pending := by
  unfold raise; split <;> rfl

/-- What bringing a request to its state can do: the request held is `r`, and at most one handing to the GA joins those in
flight. -/
theorem ask_cases (c : Consumer) (r : Option Request) (s : State) :
    (ask c r s = s ∧ tget s.asked (consIx c) = r)
      ∨ ∃ i, (i = .withdrawRequest c ∨ (∃ q, r = some q ∧ (i = .placeRequest c q ∨ i = .changeRequest c q)))
          ∧ ask c r s = hand i { s with asked := tset s.asked (consIx c) r } := by
  unfold ask
  cases h : tget s.asked (consIx c) with
  | none =>
    cases r with
    | none => left; exact ⟨rfl, rfl⟩
    | some q => right; exact ⟨_, Or.inr ⟨q, rfl, Or.inl rfl⟩, rfl⟩
  | some p =>
    cases r with
    | none => right; exact ⟨_, Or.inl rfl, rfl⟩
    | some q =>
      by_cases e : p = q
      · left; simp [e]
      · right; exact ⟨_, Or.inr ⟨q, rfl, Or.inr rfl⟩, by simp [e]⟩

@[simp] theorem ask_asked_same (c : Consumer) (r : Option Request) (s : State) :
    tget (ask c r s).asked (consIx c) = r := by
  obtain ⟨h, hr⟩ | ⟨i, -, h⟩ := ask_cases c r s
  · rw [h, hr]
  · rw [h]; simp

theorem ask_asked_other (c c' : Consumer) (r : Option Request) (s : State) (h : consIx c ≠ consIx c') :
    tget (ask c r s).asked (consIx c') = tget s.asked (consIx c') := by
  obtain ⟨e, -⟩ | ⟨i, -, e⟩ := ask_cases c r s
  · rw [e]
  · rw [e]; simp [tget_tset, h]

/-- A withdrawal is handed where a request stood. -/
theorem mem_ask_withdraw (c : Consumer) (s : State) (h : tget s.asked (consIx c) ≠ none) :
    .withdrawRequest c ∈ (ask c none s).handed := by
  unfold ask
  cases e : tget s.asked (consIx c) with
  | none => exact absurd e h
  | some p => simp

theorem mem_ask_of_mem {c : Consumer} {r : Option Request} {s : State} {i : Instr} (h : i ∈ s.handed) :
    i ∈ (ask c r s).handed := by
  obtain ⟨e, -⟩ | ⟨j, -, e⟩ := ask_cases c r s
  · rwa [e]
  · rw [e]; simp [h]

/-- What a write of DEMANDS does with one socket's request (R46): nothing, its replacement in the table at once, or a change
handed behind the handings still on their way, the table's request replaced as well where it stands as it was placed. -/
theorem redemandSocket_cases (s : State) (k : Socket) :
    let c := socketConsumer k
    let new := socketRequest s.cfg.demands k
    let placed := withEntry c (fun e => { e with request := some new }) s
    redemandSocket s k = (s, false)
      ∨ redemandSocket s k = ({ placed with asked := tset placed.asked (consIx c) (some new) }, true)
      ∨ redemandSocket s k = (ask c (some new) placed, true) ∨ redemandSocket s k = (ask c (some new) s, false) := by
  intro c new placed
  generalize hx : redemandSocket s k = x
  unfold redemandSocket at hx
  dsimp only at hx
  split at hx
  · exact .inl hx.symm
  · rename_i old _
    split at hx
    · exact .inl hx.symm
    · cases hb : ((entryOf s (socketConsumer k)).request == some old) <;>
        simp only [hb, Bool.false_and, Bool.true_and, if_true, if_false, Bool.false_eq_true] at hx
      · exact .inr (.inr (.inr hx.symm))
      · split at hx
        · exact .inr (.inl hx.symm)
        · exact .inr (.inr (.inl hx.symm))

@[simp] theorem ask_cfg (c : Consumer) (r : Option Request) (s : State) : (ask c r s).cfg = s.cfg := by
  obtain ⟨e, -⟩ | ⟨i, -, e⟩ := ask_cases c r s <;> rw [e] <;> rfl

@[simp] theorem ask_mu (c : Consumer) (r : Option Request) (s : State) : (ask c r s).mu = s.mu := by
  obtain ⟨e, -⟩ | ⟨i, -, e⟩ := ask_cases c r s <;> rw [e] <;> rfl

@[simp] theorem ask_cc (c : Consumer) (r : Option Request) (s : State) : (ask c r s).cc = s.cc := by
  obtain ⟨e, -⟩ | ⟨i, -, e⟩ := ask_cases c r s <;> rw [e] <;> rfl

@[simp] theorem ask_ga (c : Consumer) (r : Option Request) (s : State) : (ask c r s).ga = s.ga := by
  obtain ⟨e, -⟩ | ⟨i, -, e⟩ := ask_cases c r s <;> rw [e] <;> rfl

@[simp] theorem ask_hc (c : Consumer) (r : Option Request) (s : State) : (ask c r s).hc = s.hc := by
  obtain ⟨e, -⟩ | ⟨i, -, e⟩ := ask_cases c r s <;> rw [e] <;> rfl

@[simp] theorem ask_fc (c : Consumer) (r : Option Request) (s : State) : (ask c r s).fc = s.fc := by
  obtain ⟨e, -⟩ | ⟨i, -, e⟩ := ask_cases c r s <;> rw [e] <;> rfl

@[simp] theorem ask_lc (c : Consumer) (r : Option Request) (s : State) : (ask c r s).lc = s.lc := by
  obtain ⟨e, -⟩ | ⟨i, -, e⟩ := ask_cases c r s <;> rw [e] <;> rfl

@[simp] theorem ask_pn (c : Consumer) (r : Option Request) (s : State) : (ask c r s).pn = s.pn := by
  obtain ⟨e, -⟩ | ⟨i, -, e⟩ := ask_cases c r s <;> rw [e] <;> rfl

@[simp] theorem ask_rm (c : Consumer) (r : Option Request) (s : State) : (ask c r s).rm = s.rm := by
  obtain ⟨e, -⟩ | ⟨i, -, e⟩ := ask_cases c r s <;> rw [e] <;> rfl

@[simp] theorem ask_su (c : Consumer) (r : Option Request) (s : State) : (ask c r s).su = s.su := by
  obtain ⟨e, -⟩ | ⟨i, -, e⟩ := ask_cases c r s <;> rw [e] <;> rfl

@[simp] theorem ask_rev (c : Consumer) (r : Option Request) (s : State) : (ask c r s).rev = s.rev := by
  obtain ⟨e, -⟩ | ⟨i, -, e⟩ := ask_cases c r s <;> rw [e] <;> rfl

@[simp] theorem ask_lk (c : Consumer) (r : Option Request) (s : State) : (ask c r s).lk = s.lk := by
  obtain ⟨e, -⟩ | ⟨i, -, e⟩ := ask_cases c r s <;> rw [e] <;> rfl

@[simp] theorem ask_mc (c : Consumer) (r : Option Request) (s : State) : (ask c r s).mc = s.mc := by
  obtain ⟨e, -⟩ | ⟨i, -, e⟩ := ask_cases c r s <;> rw [e] <;> rfl

@[simp] theorem ask_answer (c : Consumer) (r : Option Request) (s : State) : (ask c r s).answer = s.answer := by
  obtain ⟨e, -⟩ | ⟨i, -, e⟩ := ask_cases c r s <;> rw [e] <;> rfl

@[simp] theorem ask_choices (c : Consumer) (r : Option Request) (s : State) : (ask c r s).choices = s.choices := by
  obtain ⟨e, -⟩ | ⟨i, -, e⟩ := ask_cases c r s <;> rw [e] <;> rfl

@[simp] theorem ask_pending (c : Consumer) (r : Option Request) (s : State) : (ask c r s).pending = s.pending := by
  obtain ⟨e, -⟩ | ⟨i, -, e⟩ := ask_cases c r s <;> rw [e] <;> rfl

/-! ### Revisions -/

@[simp] theorem advance_cfg (w : List (Fin 26)) (s t : State) : (advance w s t).cfg = t.cfg := rfl
@[simp] theorem advance_mu (w : List (Fin 26)) (s t : State) : (advance w s t).mu = t.mu := rfl
@[simp] theorem advance_cc (w : List (Fin 26)) (s t : State) : (advance w s t).cc = t.cc := rfl
@[simp] theorem advance_ga (w : List (Fin 26)) (s t : State) : (advance w s t).ga = t.ga := rfl
@[simp] theorem advance_asked (w : List (Fin 26)) (s t : State) : (advance w s t).asked = t.asked := rfl
@[simp] theorem advance_hc (w : List (Fin 26)) (s t : State) : (advance w s t).hc = t.hc := rfl
@[simp] theorem advance_fc (w : List (Fin 26)) (s t : State) : (advance w s t).fc = t.fc := rfl
@[simp] theorem advance_lc (w : List (Fin 26)) (s t : State) : (advance w s t).lc = t.lc := rfl
@[simp] theorem advance_pn (w : List (Fin 26)) (s t : State) : (advance w s t).pn = t.pn := rfl
@[simp] theorem advance_rm (w : List (Fin 26)) (s t : State) : (advance w s t).rm = t.rm := rfl
@[simp] theorem advance_su (w : List (Fin 26)) (s t : State) : (advance w s t).su = t.su := rfl
@[simp] theorem advance_lk (w : List (Fin 26)) (s t : State) : (advance w s t).lk = t.lk := rfl
@[simp] theorem advance_mc (w : List (Fin 26)) (s t : State) : (advance w s t).mc = t.mc := rfl
@[simp] theorem advance_answer (w : List (Fin 26)) (s t : State) : (advance w s t).answer = t.answer := rfl
@[simp] theorem advance_handed (w : List (Fin 26)) (s t : State) : (advance w s t).handed = t.handed := rfl
@[simp] theorem advance_choices (w : List (Fin 26)) (s t : State) : (advance w s t).choices = t.choices := rfl
@[simp] theorem advance_pending (w : List (Fin 26)) (s t : State) : (advance w s t).pending = t.pending := rfl

@[simp] theorem ownerEvent_cfg (w : List (Fin 26)) (f : State → State) (s : State) :
    (ownerEvent w f s).cfg = (f s).cfg := rfl
@[simp] theorem ownerEvent_cc (w : List (Fin 26)) (f : State → State) (s : State) :
    (ownerEvent w f s).cc = (f s).cc := rfl
@[simp] theorem ownerEvent_ga (w : List (Fin 26)) (f : State → State) (s : State) :
    (ownerEvent w f s).ga = (f s).ga := rfl
@[simp] theorem ownerEvent_asked (w : List (Fin 26)) (f : State → State) (s : State) :
    (ownerEvent w f s).asked = (f s).asked := rfl
@[simp] theorem ownerEvent_hc (w : List (Fin 26)) (f : State → State) (s : State) :
    (ownerEvent w f s).hc = (f s).hc := rfl
@[simp] theorem ownerEvent_fc (w : List (Fin 26)) (f : State → State) (s : State) :
    (ownerEvent w f s).fc = (f s).fc := rfl
@[simp] theorem ownerEvent_lc (w : List (Fin 26)) (f : State → State) (s : State) :
    (ownerEvent w f s).lc = (f s).lc := rfl
@[simp] theorem ownerEvent_pn (w : List (Fin 26)) (f : State → State) (s : State) :
    (ownerEvent w f s).pn = (f s).pn := rfl
@[simp] theorem ownerEvent_rm (w : List (Fin 26)) (f : State → State) (s : State) :
    (ownerEvent w f s).rm = (f s).rm := rfl
@[simp] theorem ownerEvent_su (w : List (Fin 26)) (f : State → State) (s : State) :
    (ownerEvent w f s).su = (f s).su := rfl
@[simp] theorem ownerEvent_lk (w : List (Fin 26)) (f : State → State) (s : State) :
    (ownerEvent w f s).lk = (f s).lk := rfl
@[simp] theorem ownerEvent_mc (w : List (Fin 26)) (f : State → State) (s : State) :
    (ownerEvent w f s).mc = (f s).mc := rfl
@[simp] theorem ownerEvent_answer (w : List (Fin 26)) (f : State → State) (s : State) :
    (ownerEvent w f s).answer = (f s).answer := rfl
@[simp] theorem ownerEvent_handed (w : List (Fin 26)) (f : State → State) (s : State) :
    (ownerEvent w f s).handed = (f s).handed := rfl
@[simp] theorem ownerEvent_choices (w : List (Fin 26)) (f : State → State) (s : State) :
    (ownerEvent w f s).choices = (f s).choices := rfl
@[simp] theorem ownerEvent_pending (w : List (Fin 26)) (f : State → State) (s : State) :
    (ownerEvent w f s).pending = (f s).pending := rfl
@[simp] theorem ownerEvent_mu (w : List (Fin 26)) (f : State → State) (s : State) :
    (ownerEvent w f s).mu = (f s).mu := rfl

/-- An owner's event within a command is the event's effect with its revisions advanced. -/
theorem ownerAct_fst (w : List (Fin 26)) (f : State → State × Status) (s : State) :
    (ownerAct w f s).1 = ownerEvent w (fun s => (f s).1) s := rfl

@[simp] theorem ownerAct_snd (w : List (Fin 26)) (f : State → State × Status) (s : State) :
    (ownerAct w f s).2 = (f s).2 := rfl

/-! ### The mode -/

/-- A change of the mode posts it and, with no scan in progress, hands the next scan, which otherwise follows the one in
progress. -/
theorem setMode_cases (m : Mode) (s : State) :
    ∃ b, setMode m s = { s with mc := { s.mc with mode := m }, mu := { s.mu with rescan := b } }
      ∨ setMode m s = hand .scanStart { s with mc := { s.mc with mode := m }, mu := { s.mu with rescan := b } } := by
  unfold setMode
  split
  · refine ⟨s.mu.rescan, ?_⟩
    exact raise_eq _ _
  · exact ⟨true, Or.inl rfl⟩

@[simp] theorem setMode_cfg (m : Mode) (s : State) : (setMode m s).cfg = s.cfg := by
  obtain ⟨b, e | e⟩ := setMode_cases m s <;> rw [e] <;> rfl

/-- A change of the mode may mark the scan in progress and changes nothing else of the MU. -/
theorem setMode_mu (m : Mode) (s : State) : ∃ b, (setMode m s).mu = { s.mu with rescan := b } := by
  obtain ⟨b, e | e⟩ := setMode_cases m s <;> exact ⟨b, by simp [e]⟩

@[simp] theorem setMode_measureCore (m : Mode) (s : State) : measureCore (setMode m s).mu = measureCore s.mu := by
  obtain ⟨b, e⟩ := setMode_mu m s; rw [e]; rfl

@[simp] theorem setMode_cc (m : Mode) (s : State) : (setMode m s).cc = s.cc := by
  obtain ⟨b, e | e⟩ := setMode_cases m s <;> rw [e] <;> rfl

@[simp] theorem setMode_ga (m : Mode) (s : State) : (setMode m s).ga = s.ga := by
  obtain ⟨b, e | e⟩ := setMode_cases m s <;> rw [e] <;> rfl

@[simp] theorem setMode_asked (m : Mode) (s : State) : (setMode m s).asked = s.asked := by
  obtain ⟨b, e | e⟩ := setMode_cases m s <;> rw [e] <;> rfl

@[simp] theorem setMode_hc (m : Mode) (s : State) : (setMode m s).hc = s.hc := by
  obtain ⟨b, e | e⟩ := setMode_cases m s <;> rw [e] <;> rfl

@[simp] theorem setMode_fc (m : Mode) (s : State) : (setMode m s).fc = s.fc := by
  obtain ⟨b, e | e⟩ := setMode_cases m s <;> rw [e] <;> rfl

@[simp] theorem setMode_lc (m : Mode) (s : State) : (setMode m s).lc = s.lc := by
  obtain ⟨b, e | e⟩ := setMode_cases m s <;> rw [e] <;> rfl

@[simp] theorem setMode_pn (m : Mode) (s : State) : (setMode m s).pn = s.pn := by
  obtain ⟨b, e | e⟩ := setMode_cases m s <;> rw [e] <;> rfl

@[simp] theorem setMode_rm (m : Mode) (s : State) : (setMode m s).rm = s.rm := by
  obtain ⟨b, e | e⟩ := setMode_cases m s <;> rw [e] <;> rfl

@[simp] theorem setMode_su (m : Mode) (s : State) : (setMode m s).su = s.su := by
  obtain ⟨b, e | e⟩ := setMode_cases m s <;> rw [e] <;> rfl

@[simp] theorem setMode_rev (m : Mode) (s : State) : (setMode m s).rev = s.rev := by
  obtain ⟨b, e | e⟩ := setMode_cases m s <;> rw [e] <;> rfl

@[simp] theorem setMode_lk (m : Mode) (s : State) : (setMode m s).lk = s.lk := by
  obtain ⟨b, e | e⟩ := setMode_cases m s <;> rw [e] <;> rfl

@[simp] theorem setMode_answer (m : Mode) (s : State) : (setMode m s).answer = s.answer := by
  obtain ⟨b, e | e⟩ := setMode_cases m s <;> rw [e] <;> rfl

@[simp] theorem setMode_choices (m : Mode) (s : State) : (setMode m s).choices = s.choices := by
  obtain ⟨b, e | e⟩ := setMode_cases m s <;> rw [e] <;> rfl

@[simp] theorem setMode_pending (m : Mode) (s : State) : (setMode m s).pending = s.pending := by
  obtain ⟨b, e | e⟩ := setMode_cases m s <;> rw [e] <;> rfl

@[simp] theorem setMode_mc (m : Mode) (s : State) : (setMode m s).mc = { s.mc with mode := m } := by
  obtain ⟨b, e | e⟩ := setMode_cases m s <;> rw [e] <;> rfl

theorem mem_setMode_of_mem {m : Mode} {s : State} {i : Instr} (h : i ∈ s.handed) : i ∈ (setMode m s).handed := by
  obtain ⟨b, e | e⟩ := setMode_cases m s <;> rw [e]
  · exact h
  · simp [h]

/-- The DOZE judgement leaves the state; with every condition of R187 met it makes the silence time 0 where a wake source came
with it, and enters DOZE otherwise. -/
theorem dozeCheck_cases (s : State) :
    (dozeReady s = false ∧ dozeCheck s = s)
      ∨ ((dozeReady s = true ∧ s.mc.woken = true) ∧ dozeCheck s = { s with mc := { s.mc with silence := 0 } })
      ∨ ((dozeReady s = true ∧ s.mc.woken = false) ∧ dozeCheck s = setMode .doze s) := by
  unfold dozeCheck
  cases h : dozeReady s <;> cases k : s.mc.woken <;> simp

@[simp] theorem dozeCheck_cfg (s : State) : (dozeCheck s).cfg = s.cfg := by
  obtain ⟨-, e⟩ | ⟨-, e⟩ | ⟨-, e⟩ := dozeCheck_cases s <;> rw [e] <;> simp

theorem dozeCheck_mu (s : State) : ∃ b, (dozeCheck s).mu = { s.mu with rescan := b } := by
  obtain ⟨-, e⟩ | ⟨-, e⟩ | ⟨-, e⟩ := dozeCheck_cases s <;> rw [e]
  · exact ⟨s.mu.rescan, rfl⟩
  · exact ⟨s.mu.rescan, rfl⟩
  · exact setMode_mu _ _

@[simp] theorem dozeCheck_measureCore (s : State) : measureCore (dozeCheck s).mu = measureCore s.mu := by
  obtain ⟨b, e⟩ := dozeCheck_mu s; rw [e]; rfl

@[simp] theorem dozeCheck_cc (s : State) : (dozeCheck s).cc = s.cc := by
  obtain ⟨-, e⟩ | ⟨-, e⟩ | ⟨-, e⟩ := dozeCheck_cases s <;> rw [e] <;> simp

@[simp] theorem dozeCheck_ga (s : State) : (dozeCheck s).ga = s.ga := by
  obtain ⟨-, e⟩ | ⟨-, e⟩ | ⟨-, e⟩ := dozeCheck_cases s <;> rw [e] <;> simp

@[simp] theorem dozeCheck_asked (s : State) : (dozeCheck s).asked = s.asked := by
  obtain ⟨-, e⟩ | ⟨-, e⟩ | ⟨-, e⟩ := dozeCheck_cases s <;> rw [e] <;> simp

@[simp] theorem dozeCheck_hc (s : State) : (dozeCheck s).hc = s.hc := by
  obtain ⟨-, e⟩ | ⟨-, e⟩ | ⟨-, e⟩ := dozeCheck_cases s <;> rw [e] <;> simp

@[simp] theorem dozeCheck_fc (s : State) : (dozeCheck s).fc = s.fc := by
  obtain ⟨-, e⟩ | ⟨-, e⟩ | ⟨-, e⟩ := dozeCheck_cases s <;> rw [e] <;> simp

@[simp] theorem dozeCheck_lc (s : State) : (dozeCheck s).lc = s.lc := by
  obtain ⟨-, e⟩ | ⟨-, e⟩ | ⟨-, e⟩ := dozeCheck_cases s <;> rw [e] <;> simp

@[simp] theorem dozeCheck_pn (s : State) : (dozeCheck s).pn = s.pn := by
  obtain ⟨-, e⟩ | ⟨-, e⟩ | ⟨-, e⟩ := dozeCheck_cases s <;> rw [e] <;> simp

@[simp] theorem dozeCheck_rm (s : State) : (dozeCheck s).rm = s.rm := by
  obtain ⟨-, e⟩ | ⟨-, e⟩ | ⟨-, e⟩ := dozeCheck_cases s <;> rw [e] <;> simp

@[simp] theorem dozeCheck_su (s : State) : (dozeCheck s).su = s.su := by
  obtain ⟨-, e⟩ | ⟨-, e⟩ | ⟨-, e⟩ := dozeCheck_cases s <;> rw [e] <;> simp

@[simp] theorem dozeCheck_rev (s : State) : (dozeCheck s).rev = s.rev := by
  obtain ⟨-, e⟩ | ⟨-, e⟩ | ⟨-, e⟩ := dozeCheck_cases s <;> rw [e] <;> simp

@[simp] theorem dozeCheck_lk (s : State) : (dozeCheck s).lk = s.lk := by
  obtain ⟨-, e⟩ | ⟨-, e⟩ | ⟨-, e⟩ := dozeCheck_cases s <;> rw [e] <;> simp

@[simp] theorem dozeCheck_answer (s : State) : (dozeCheck s).answer = s.answer := by
  obtain ⟨-, e⟩ | ⟨-, e⟩ | ⟨-, e⟩ := dozeCheck_cases s <;> rw [e] <;> simp

@[simp] theorem dozeCheck_choices (s : State) : (dozeCheck s).choices = s.choices := by
  obtain ⟨-, e⟩ | ⟨-, e⟩ | ⟨-, e⟩ := dozeCheck_cases s <;> rw [e] <;> simp

@[simp] theorem dozeCheck_pending (s : State) : (dozeCheck s).pending = s.pending := by
  obtain ⟨-, e⟩ | ⟨-, e⟩ | ⟨-, e⟩ := dozeCheck_cases s <;> rw [e] <;> simp

theorem dozeCheck_modeCore {s : State} (h : s.mc.woken = false) : modeCore (dozeCheck s).mc = modeCore s.mc := by
  obtain ⟨-, e⟩ | ⟨k, -⟩ | ⟨-, e⟩ := dozeCheck_cases s
  · rw [e]
  · simp [h] at k
  · rw [e]; simp [modeCore]

theorem mem_dozeCheck_of_mem {s : State} {i : Instr} (h : i ∈ s.handed) : i ∈ (dozeCheck s).handed := by
  obtain ⟨-, e⟩ | ⟨-, e⟩ | ⟨-, e⟩ := dozeCheck_cases s <;> rw [e]
  · exact h
  · exact h
  · exact mem_setMode_of_mem h

/-- AWAKE is entered with the silence time 0. -/
theorem enterAwake_mc (s : State) : (enterAwake s).mc = { s.mc with mode := .awake, silence := 0 } := by
  simp [enterAwake]

/-- The entry to AWAKE touches the mode, the silence time, the scans and IDENT's revision alone. -/
theorem enterAwake_mu (s : State) : ∃ b, (enterAwake s).mu = { s.mu with rescan := b } := setMode_mu _ _

@[simp] theorem enterAwake_cfg (s : State) : (enterAwake s).cfg = s.cfg := by simp [enterAwake]
@[simp] theorem enterAwake_cc (s : State) : (enterAwake s).cc = s.cc := by simp [enterAwake]
@[simp] theorem enterAwake_ga (s : State) : (enterAwake s).ga = s.ga := by simp [enterAwake]
@[simp] theorem enterAwake_asked (s : State) : (enterAwake s).asked = s.asked := by simp [enterAwake]
@[simp] theorem enterAwake_hc (s : State) : (enterAwake s).hc = s.hc := by simp [enterAwake]
@[simp] theorem enterAwake_fc (s : State) : (enterAwake s).fc = s.fc := by simp [enterAwake]
@[simp] theorem enterAwake_lc (s : State) : (enterAwake s).lc = s.lc := by simp [enterAwake]
@[simp] theorem enterAwake_pn (s : State) : (enterAwake s).pn = s.pn := by simp [enterAwake]
@[simp] theorem enterAwake_rm (s : State) : (enterAwake s).rm = s.rm := by simp [enterAwake]
@[simp] theorem enterAwake_su (s : State) : (enterAwake s).su = s.su := by simp [enterAwake]
@[simp] theorem enterAwake_lk (s : State) : (enterAwake s).lk = s.lk := by simp [enterAwake]
@[simp] theorem enterAwake_answer (s : State) : (enterAwake s).answer = s.answer := by simp [enterAwake]
@[simp] theorem enterAwake_choices (s : State) : (enterAwake s).choices = s.choices := by simp [enterAwake]
@[simp] theorem enterAwake_pending (s : State) : (enterAwake s).pending = s.pending := by simp [enterAwake]

/-- A wake source of R187: DOZE alone is left, with the silence time 0; in AWAKE it is marked. -/
theorem wakeFromDoze_cases (s : State) :
    (s.mc.mode = .standby ∧ wakeFromDoze s = s)
      ∨ (s.mc.mode = .awake ∧ wakeFromDoze s = { s with mc := { s.mc with woken := true } })
      ∨ (s.mc.mode = .doze ∧ wakeFromDoze s = enterAwake s) := by
  unfold wakeFromDoze
  cases h : s.mc.mode <;> simp

@[simp] theorem wakeFromDoze_cfg (s : State) : (wakeFromDoze s).cfg = s.cfg := by
  obtain ⟨-, e⟩ | ⟨-, e⟩ | ⟨-, e⟩ := wakeFromDoze_cases s <;> rw [e] <;> simp

theorem wakeFromDoze_mu (s : State) : ∃ b, (wakeFromDoze s).mu = { s.mu with rescan := b } := by
  obtain ⟨-, e⟩ | ⟨-, e⟩ | ⟨-, e⟩ := wakeFromDoze_cases s <;> rw [e]
  · exact ⟨s.mu.rescan, rfl⟩
  · exact ⟨s.mu.rescan, rfl⟩
  · exact enterAwake_mu s

@[simp] theorem wakeFromDoze_cc (s : State) : (wakeFromDoze s).cc = s.cc := by
  obtain ⟨-, e⟩ | ⟨-, e⟩ | ⟨-, e⟩ := wakeFromDoze_cases s <;> rw [e] <;> simp

@[simp] theorem wakeFromDoze_ga (s : State) : (wakeFromDoze s).ga = s.ga := by
  obtain ⟨-, e⟩ | ⟨-, e⟩ | ⟨-, e⟩ := wakeFromDoze_cases s <;> rw [e] <;> simp

@[simp] theorem wakeFromDoze_asked (s : State) : (wakeFromDoze s).asked = s.asked := by
  obtain ⟨-, e⟩ | ⟨-, e⟩ | ⟨-, e⟩ := wakeFromDoze_cases s <;> rw [e] <;> simp

@[simp] theorem wakeFromDoze_hc (s : State) : (wakeFromDoze s).hc = s.hc := by
  obtain ⟨-, e⟩ | ⟨-, e⟩ | ⟨-, e⟩ := wakeFromDoze_cases s <;> rw [e] <;> simp

@[simp] theorem wakeFromDoze_fc (s : State) : (wakeFromDoze s).fc = s.fc := by
  obtain ⟨-, e⟩ | ⟨-, e⟩ | ⟨-, e⟩ := wakeFromDoze_cases s <;> rw [e] <;> simp

@[simp] theorem wakeFromDoze_lc (s : State) : (wakeFromDoze s).lc = s.lc := by
  obtain ⟨-, e⟩ | ⟨-, e⟩ | ⟨-, e⟩ := wakeFromDoze_cases s <;> rw [e] <;> simp

@[simp] theorem wakeFromDoze_pn (s : State) : (wakeFromDoze s).pn = s.pn := by
  obtain ⟨-, e⟩ | ⟨-, e⟩ | ⟨-, e⟩ := wakeFromDoze_cases s <;> rw [e] <;> simp

@[simp] theorem wakeFromDoze_rm (s : State) : (wakeFromDoze s).rm = s.rm := by
  obtain ⟨-, e⟩ | ⟨-, e⟩ | ⟨-, e⟩ := wakeFromDoze_cases s <;> rw [e] <;> simp

@[simp] theorem wakeFromDoze_su (s : State) : (wakeFromDoze s).su = s.su := by
  obtain ⟨-, e⟩ | ⟨-, e⟩ | ⟨-, e⟩ := wakeFromDoze_cases s <;> rw [e] <;> simp

@[simp] theorem wakeFromDoze_lk (s : State) : (wakeFromDoze s).lk = s.lk := by
  obtain ⟨-, e⟩ | ⟨-, e⟩ | ⟨-, e⟩ := wakeFromDoze_cases s <;> rw [e] <;> simp

@[simp] theorem wakeFromDoze_answer (s : State) : (wakeFromDoze s).answer = s.answer := by
  obtain ⟨-, e⟩ | ⟨-, e⟩ | ⟨-, e⟩ := wakeFromDoze_cases s <;> rw [e] <;> simp

@[simp] theorem wakeFromDoze_choices (s : State) : (wakeFromDoze s).choices = s.choices := by
  obtain ⟨-, e⟩ | ⟨-, e⟩ | ⟨-, e⟩ := wakeFromDoze_cases s <;> rw [e] <;> simp

@[simp] theorem wakeFromDoze_pending (s : State) : (wakeFromDoze s).pending = s.pending := by
  obtain ⟨-, e⟩ | ⟨-, e⟩ | ⟨-, e⟩ := wakeFromDoze_cases s <;> rw [e] <;> simp

/-! ### Switching, revisions and the event -/

@[simp] theorem settle_cfg (s t : State) : (settle s t).cfg = t.cfg := rfl
@[simp] theorem settle_cc (s t : State) : (settle s t).cc = t.cc := rfl
@[simp] theorem settle_ga (s t : State) : (settle s t).ga = t.ga := rfl
@[simp] theorem settle_asked (s t : State) : (settle s t).asked = t.asked := rfl
@[simp] theorem settle_lc (s t : State) : (settle s t).lc = t.lc := rfl
@[simp] theorem settle_pn (s t : State) : (settle s t).pn = t.pn := rfl
@[simp] theorem settle_rm (s t : State) : (settle s t).rm = t.rm := rfl
@[simp] theorem settle_su (s t : State) : (settle s t).su = t.su := rfl
@[simp] theorem settle_rev (s t : State) : (settle s t).rev = t.rev := rfl
@[simp] theorem settle_lk (s t : State) : (settle s t).lk = t.lk := rfl
@[simp] theorem settle_mc (s t : State) : (settle s t).mc = t.mc := rfl
@[simp] theorem settle_answer (s t : State) : (settle s t).answer = t.answer := rfl
@[simp] theorem settle_handed (s t : State) : (settle s t).handed = t.handed := rfl
@[simp] theorem settle_choices (s t : State) : (settle s t).choices = t.choices := rfl
@[simp] theorem settle_pending (s t : State) : (settle s t).pending = t.pending := rfl

/-- Switching the outputs changes the blower loop's duty and fault counts and nothing else of the HC. -/
@[simp] theorem settle_heaterCore (s t : State) : heaterCore (settle s t).hc = heaterCore t.hc := by
  show heaterCore (blowerAfter s t) = _
  unfold blowerAfter
  split
  · split <;> rfl
  · rfl

/-- Switching the outputs leaves the channels, the scan and the tach capture. -/
@[simp] theorem settle_mu (s t : State) : (settle s t).mu = { t.mu with comp := compsAfter s t } := rfl

/-- Where the compressor's output is not switched, the FC is left as it is. -/
theorem settle_fc_of_same (s t : State) (h : energized s .compressor = energized t .compressor) :
    (settle s t).fc = t.fc := by
  show fridgeAfter s t = _
  unfold fridgeAfter
  cases e : energized t .compressor <;> simp [h, e]

@[simp] theorem close_cfg (s t : State) : (close s t).cfg = t.cfg := by
  simp [close]

@[simp] theorem close_cc (s t : State) : (close s t).cc = t.cc := by
  simp [close]

@[simp] theorem close_ga (s t : State) : (close s t).ga = t.ga := by
  simp [close]

@[simp] theorem close_asked (s t : State) : (close s t).asked = t.asked := by
  simp [close]

@[simp] theorem close_lc (s t : State) : (close s t).lc = t.lc := by
  simp [close]

@[simp] theorem close_pn (s t : State) : (close s t).pn = t.pn := by
  simp [close]

@[simp] theorem close_rm (s t : State) : (close s t).rm = t.rm := by
  simp [close]

@[simp] theorem close_su (s t : State) : (close s t).su = t.su := by
  simp [close]

@[simp] theorem close_lk (s t : State) : (close s t).lk = t.lk := by
  simp [close]

@[simp] theorem close_answer (s t : State) : (close s t).answer = t.answer := by
  simp [close]

@[simp] theorem close_choices (s t : State) : (close s t).choices = t.choices := by
  simp [close]

@[simp] theorem close_pending (s t : State) : (close s t).pending = t.pending := by
  simp [close]

/-- Closing an event switches the comparators and may mark the scan in progress. -/
theorem close_mu (s t : State) : ∃ b, (close s t).mu = { t.mu with comp := compsAfter s t, rescan := b } := by
  obtain ⟨b, e⟩ := dozeCheck_mu (settle s t)
  exact ⟨b, by simp [close, e]⟩

@[simp] theorem close_measureCore (s t : State) :
    measureCore (close s t).mu = measureCore { t.mu with comp := compsAfter s t } := by
  obtain ⟨b, e⟩ := close_mu s t; rw [e]; rfl

@[simp] theorem close_mu_chan (s t : State) : (close s t).mu.chan = t.mu.chan := by
  obtain ⟨b, e⟩ := close_mu s t; rw [e]

@[simp] theorem close_mu_comp (s t : State) : (close s t).mu.comp = compsAfter s t := by
  obtain ⟨b, e⟩ := close_mu s t; rw [e]

@[simp] theorem close_mu_tach (s t : State) : (close s t).mu.tach = t.mu.tach := by
  obtain ⟨b, e⟩ := close_mu s t; rw [e]

@[simp] theorem close_fc (s t : State) : (close s t).fc = (settle s t).fc := by
  simp [close]

@[simp] theorem close_hc (s t : State) : (close s t).hc = (settle s t).hc := by
  simp [close]

@[simp] theorem close_heaterCore (s t : State) : heaterCore (close s t).hc = heaterCore t.hc := by
  rw [close_hc, settle_heaterCore]

theorem close_modeCore (s : State) {t : State} (h : t.mc.woken = false) : modeCore (close s t).mc = modeCore t.mc := by
  simp only [close, advance_mc, ownerEvent_mc]
  exact dozeCheck_modeCore h

theorem mem_close_of_mem {s t : State} {i : Instr} (h : i ∈ t.handed) : i ∈ (close s t).handed := by
  simp only [close, advance_handed, ownerEvent_handed]
  exact mem_dozeCheck_of_mem h

/-- The handings after an event are those its effect left, with the next scan's where DOZE was entered. -/
theorem close_handed (s t : State) : ∃ new, (close s t).handed = t.handed ++ new := by
  simp only [close, advance_handed, ownerEvent_handed]
  obtain ⟨-, e⟩ | ⟨-, e⟩ | ⟨-, e⟩ := dozeCheck_cases (settle s t) <;> rw [e]
  · exact ⟨[], by simp⟩
  · exact ⟨[], by simp⟩
  · obtain ⟨b, e' | e'⟩ := setMode_cases .doze (settle s t) <;> rw [e']
    · exact ⟨[], by simp⟩
    · exact ⟨[.scanStart], by simp⟩

/-- A command of a running part is one event: begun with its handing taken, its effect made, the event closed. -/
theorem event_running (i : Instr) (f : State → State) (s : State) (h : s.mc.supply = .running) :
    event i f s = .next (close s (f (startEvent i s))) := by
  simp [event, h]

/-- A part held in reset takes no command (R190). -/
theorem event_held (i : Instr) (f : State → State) (s : State) (b : Bool) (h : s.mc.supply = .held b) :
    event i f s = .next s := by
  simp [event, h]

/-- Every event ends in a next state. -/
theorem event_next (i : Instr) (f : State → State) (s : State) : ∃ t, event i f s = .next t := by
  unfold event
  split <;> exact ⟨_, rfl⟩

/-- An event after which a RESTART may reset is the plain event where no RESTART waits for the store. -/
theorem resettingEvent_next (i : Instr) (f : State → State) (s : State) : ∃ t, resettingEvent i f s = .next t := by
  unfold resettingEvent
  obtain ⟨t, h⟩ := event_next i f s
  exact ⟨_, by rw [h]⟩

theorem operate_cfg (i : Fin 26) (f : State → State) (s : State) : (operate i f s).cfg = (f s).cfg := by
  simp only [operate]; split <;> rfl

theorem operateRecord_cfg (r : Nat) (f : State → State) (s : State) : (operateRecord r f s).cfg = (f s).cfg := by
  unfold operateRecord; split
  · exact operate_cfg _ _ _
  · rfl

theorem ownerTakes_cfg (r : Nat) (f : State → State) (s : State) : (ownerTakes r f s).cfg = (f s).cfg := by
  unfold ownerTakes; split
  · exact ownerEvent_cfg _ _ _
  · rfl

theorem operate_mu (i : Fin 26) (f : State → State) (s : State) : (operate i f s).mu = (f s).mu := by
  simp only [operate]; split <;> rfl

theorem operateRecord_mu (r : Nat) (f : State → State) (s : State) : (operateRecord r f s).mu = (f s).mu := by
  unfold operateRecord; split
  · exact operate_mu _ _ _
  · rfl

theorem ownerTakes_mu (r : Nat) (f : State → State) (s : State) : (ownerTakes r f s).mu = (f s).mu := by
  unfold ownerTakes; split
  · exact ownerEvent_mu _ _ _
  · rfl

theorem operate_cc (i : Fin 26) (f : State → State) (s : State) : (operate i f s).cc = (f s).cc := by
  simp only [operate]; split <;> rfl

theorem operateRecord_cc (r : Nat) (f : State → State) (s : State) : (operateRecord r f s).cc = (f s).cc := by
  unfold operateRecord; split
  · exact operate_cc _ _ _
  · rfl

theorem ownerTakes_cc (r : Nat) (f : State → State) (s : State) : (ownerTakes r f s).cc = (f s).cc := by
  unfold ownerTakes; split
  · exact ownerEvent_cc _ _ _
  · rfl

theorem operate_ga (i : Fin 26) (f : State → State) (s : State) : (operate i f s).ga = (f s).ga := by
  simp only [operate]; split <;> rfl

theorem operateRecord_ga (r : Nat) (f : State → State) (s : State) : (operateRecord r f s).ga = (f s).ga := by
  unfold operateRecord; split
  · exact operate_ga _ _ _
  · rfl

theorem ownerTakes_ga (r : Nat) (f : State → State) (s : State) : (ownerTakes r f s).ga = (f s).ga := by
  unfold ownerTakes; split
  · exact ownerEvent_ga _ _ _
  · rfl

theorem operate_asked (i : Fin 26) (f : State → State) (s : State) : (operate i f s).asked = (f s).asked := by
  simp only [operate]; split <;> rfl

theorem operateRecord_asked (r : Nat) (f : State → State) (s : State) : (operateRecord r f s).asked = (f s).asked := by
  unfold operateRecord; split
  · exact operate_asked _ _ _
  · rfl

theorem ownerTakes_asked (r : Nat) (f : State → State) (s : State) : (ownerTakes r f s).asked = (f s).asked := by
  unfold ownerTakes; split
  · exact ownerEvent_asked _ _ _
  · rfl

theorem operate_hc (i : Fin 26) (f : State → State) (s : State) : (operate i f s).hc = (f s).hc := by
  simp only [operate]; split <;> rfl

theorem operateRecord_hc (r : Nat) (f : State → State) (s : State) : (operateRecord r f s).hc = (f s).hc := by
  unfold operateRecord; split
  · exact operate_hc _ _ _
  · rfl

theorem ownerTakes_hc (r : Nat) (f : State → State) (s : State) : (ownerTakes r f s).hc = (f s).hc := by
  unfold ownerTakes; split
  · exact ownerEvent_hc _ _ _
  · rfl

theorem operate_fc (i : Fin 26) (f : State → State) (s : State) : (operate i f s).fc = (f s).fc := by
  simp only [operate]; split <;> rfl

theorem operateRecord_fc (r : Nat) (f : State → State) (s : State) : (operateRecord r f s).fc = (f s).fc := by
  unfold operateRecord; split
  · exact operate_fc _ _ _
  · rfl

theorem ownerTakes_fc (r : Nat) (f : State → State) (s : State) : (ownerTakes r f s).fc = (f s).fc := by
  unfold ownerTakes; split
  · exact ownerEvent_fc _ _ _
  · rfl

theorem operate_lc (i : Fin 26) (f : State → State) (s : State) : (operate i f s).lc = (f s).lc := by
  simp only [operate]; split <;> rfl

theorem operateRecord_lc (r : Nat) (f : State → State) (s : State) : (operateRecord r f s).lc = (f s).lc := by
  unfold operateRecord; split
  · exact operate_lc _ _ _
  · rfl

theorem ownerTakes_lc (r : Nat) (f : State → State) (s : State) : (ownerTakes r f s).lc = (f s).lc := by
  unfold ownerTakes; split
  · exact ownerEvent_lc _ _ _
  · rfl

theorem operate_pn (i : Fin 26) (f : State → State) (s : State) : (operate i f s).pn = (f s).pn := by
  simp only [operate]; split <;> rfl

theorem operateRecord_pn (r : Nat) (f : State → State) (s : State) : (operateRecord r f s).pn = (f s).pn := by
  unfold operateRecord; split
  · exact operate_pn _ _ _
  · rfl

theorem ownerTakes_pn (r : Nat) (f : State → State) (s : State) : (ownerTakes r f s).pn = (f s).pn := by
  unfold ownerTakes; split
  · exact ownerEvent_pn _ _ _
  · rfl

theorem operate_rm (i : Fin 26) (f : State → State) (s : State) : (operate i f s).rm = (f s).rm := by
  simp only [operate]; split <;> rfl

theorem operateRecord_rm (r : Nat) (f : State → State) (s : State) : (operateRecord r f s).rm = (f s).rm := by
  unfold operateRecord; split
  · exact operate_rm _ _ _
  · rfl

theorem ownerTakes_rm (r : Nat) (f : State → State) (s : State) : (ownerTakes r f s).rm = (f s).rm := by
  unfold ownerTakes; split
  · exact ownerEvent_rm _ _ _
  · rfl

theorem operate_su (i : Fin 26) (f : State → State) (s : State) : (operate i f s).su = (f s).su := by
  simp only [operate]; split <;> rfl

theorem operateRecord_su (r : Nat) (f : State → State) (s : State) : (operateRecord r f s).su = (f s).su := by
  unfold operateRecord; split
  · exact operate_su _ _ _
  · rfl

theorem ownerTakes_su (r : Nat) (f : State → State) (s : State) : (ownerTakes r f s).su = (f s).su := by
  unfold ownerTakes; split
  · exact ownerEvent_su _ _ _
  · rfl

theorem operate_lk (i : Fin 26) (f : State → State) (s : State) : (operate i f s).lk = (f s).lk := by
  simp only [operate]; split <;> rfl

theorem operateRecord_lk (r : Nat) (f : State → State) (s : State) : (operateRecord r f s).lk = (f s).lk := by
  unfold operateRecord; split
  · exact operate_lk _ _ _
  · rfl

theorem ownerTakes_lk (r : Nat) (f : State → State) (s : State) : (ownerTakes r f s).lk = (f s).lk := by
  unfold ownerTakes; split
  · exact ownerEvent_lk _ _ _
  · rfl

theorem operate_mc (i : Fin 26) (f : State → State) (s : State) : (operate i f s).mc = (f s).mc := by
  simp only [operate]; split <;> rfl

theorem operateRecord_mc (r : Nat) (f : State → State) (s : State) : (operateRecord r f s).mc = (f s).mc := by
  unfold operateRecord; split
  · exact operate_mc _ _ _
  · rfl

theorem ownerTakes_mc (r : Nat) (f : State → State) (s : State) : (ownerTakes r f s).mc = (f s).mc := by
  unfold ownerTakes; split
  · exact ownerEvent_mc _ _ _
  · rfl

theorem operate_answer (i : Fin 26) (f : State → State) (s : State) : (operate i f s).answer = (f s).answer := by
  simp only [operate]; split <;> rfl

theorem operateRecord_answer (r : Nat) (f : State → State) (s : State) : (operateRecord r f s).answer = (f s).answer := by
  unfold operateRecord; split
  · exact operate_answer _ _ _
  · rfl

theorem ownerTakes_answer (r : Nat) (f : State → State) (s : State) : (ownerTakes r f s).answer = (f s).answer := by
  unfold ownerTakes; split
  · exact ownerEvent_answer _ _ _
  · rfl

theorem operate_handed (i : Fin 26) (f : State → State) (s : State) : (operate i f s).handed = (f s).handed := by
  simp only [operate]; split <;> rfl

theorem operateRecord_handed (r : Nat) (f : State → State) (s : State) : (operateRecord r f s).handed = (f s).handed := by
  unfold operateRecord; split
  · exact operate_handed _ _ _
  · rfl

theorem ownerTakes_handed (r : Nat) (f : State → State) (s : State) : (ownerTakes r f s).handed = (f s).handed := by
  unfold ownerTakes; split
  · exact ownerEvent_handed _ _ _
  · rfl

theorem operate_choices (i : Fin 26) (f : State → State) (s : State) : (operate i f s).choices = (f s).choices := by
  simp only [operate]; split <;> rfl

theorem operateRecord_choices (r : Nat) (f : State → State) (s : State) : (operateRecord r f s).choices = (f s).choices := by
  unfold operateRecord; split
  · exact operate_choices _ _ _
  · rfl

theorem ownerTakes_choices (r : Nat) (f : State → State) (s : State) : (ownerTakes r f s).choices = (f s).choices := by
  unfold ownerTakes; split
  · exact ownerEvent_choices _ _ _
  · rfl

theorem operate_pending (i : Fin 26) (f : State → State) (s : State) : (operate i f s).pending = (f s).pending := by
  simp only [operate]; split <;> rfl

theorem operateRecord_pending (r : Nat) (f : State → State) (s : State) : (operateRecord r f s).pending = (f s).pending := by
  unfold operateRecord; split
  · exact operate_pending _ _ _
  · rfl

theorem ownerTakes_pending (r : Nat) (f : State → State) (s : State) : (ownerTakes r f s).pending = (f s).pending := by
  unfold ownerTakes; split
  · exact ownerEvent_pending _ _ _
  · rfl

/-! ### The scan -/

/-- Channels leaving the scan change what is left of it, and hand the next scan where that ends one in which the mode
changed. -/
theorem leaveScan_cases (chs : List Channel) (s : State) :
    let s1 := withMu (fun m => { m with scanLeft := s.mu.scanLeft.filter fun ch => !(chs.contains ch) }) s
    leaveScan chs s = s1
      ∨ (s.mu.scanLeft ≠ [] ∧ (∀ ch ∈ s.mu.scanLeft, ch ∈ chs) ∧ s.mu.rescan = true
          ∧ (leaveScan chs s = s1 ∨ leaveScan chs s = hand .scanStart s1)) := by
  unfold leaveScan
  simp only []
  split
  · rename_i h
    refine Or.inr ⟨h.1, fun ch hc => ?_, h.2.2, raise_eq _ _⟩
    have := List.filter_eq_nil_iff.mp h.2.1 ch hc
    simpa using this
  · exact Or.inl rfl

/-- A conversion of another channel than the scan's next changes nothing. -/
theorem convert_other (ch : Channel) (code : Nat) (s : State) (h : s.mu.scanLeft.head? ≠ some ch) :
    convert ch code s = s := by
  simp [convert, h]

/-! ### Contacts -/

@[simp] theorem contactOf_withContact_same (c : Contact) (f : ContactCell → ContactCell) (s : State) :
    contactOf (withContact c f s) c = f (contactOf s c) := by
  simp [contactOf, withContact]

theorem contactOf_withContact_of_ne {c c' : Contact} (f : ContactCell → ContactCell) (s : State) (h : c' ≠ c) :
    contactOf (withContact c f s) c' = contactOf s c' := by
  have hv : contactIx c ≠ contactIx c' := by
    cases c <;> cases c' <;> first | exact absurd rfl h | decide
  simp [contactOf, withContact, tget_tset_of_ne _ _ hv]

/-- A changed contact is the whole of what changes. -/
theorem withContact_eq (c : Contact) (f : ContactCell → ContactCell) (s : State) :
    withContact c f s = { s with pn := { s.pn with contacts := (withContact c f s).pn.contacts } } := rfl

/-- A contact input that changes during a reset moves the input and nothing else. -/
theorem execContactInputChange_held (c : Contact) (l : LineLevel) (s : State) (b : Bool) (h : s.mc.supply = .held b) :
    execContactInputChange c l s = .next (pinInReset c l s) := by
  simp [execContactInputChange, h]

/-- In the running part a contact input's change is one event. -/
theorem execContactInputChange_running (c : Contact) (l : LineLevel) (s : State) (h : s.mc.supply = .running) :
    execContactInputChange c l s = event (.contactInputChange c l) (contactInput c l) s := by
  simp [execContactInputChange, h]

/-- A contact input's change ends in a next state, in reset and out of it. -/
theorem execContactInputChange_next (c : Contact) (l : LineLevel) (s : State) :
    ∃ t, execContactInputChange c l s = .next t := by
  cases h : s.mc.supply with
  | held b => exact ⟨_, execContactInputChange_held c l s b h⟩
  | running => rw [execContactInputChange_running c l s h]; exact event_next _ _ _

/-- Each contact after a reset keeps its input's level. -/
@[simp] theorem panelReset_contact (cfg : Settings) (pins : Vector LineLevel 6) (c : Contact) :
    tget (panelReset cfg pins).contacts (contactIx c)
      = contactReset (tget pins (contactIx c)) (tget cfg.contacts (contactIx c)) := by
  cases c <;> rfl

/-! ### Bytes of minutes -/

theorem minuteBytes_of_le {n : Nat} (h : n ≤ 65535) : minuteBytes n = leBytes 2 (n : Int) := by
  simp [minuteBytes, h]

@[simp] theorem minuteBytes_length (n : Nat) : (minuteBytes n).length = 2 := rfl

/-- Before the planned end and at it, REST_END_SOON's minutes are the shown minutes to it. -/
theorem minutesToEnd_of_le {s : State} {e : Nat} (h : s.rm.plannedEnd = some e) (hle : cabTime s ≤ e) :
    minutesToEnd s = shownMinutes (e - cabTime s) := by
  simp [minutesToEnd, h, hle]

/-- Up to the drive limit, DRIVE_SOON's minutes to it are the shown minutes. -/
theorem minutesToLimit_of_le {s : State} (h : s.rm.drive ≤ s.cfg.profile.driveLimit * 60) :
    minutesToLimit s = shownMinutes (s.cfg.profile.driveLimit * 60 - s.rm.drive) := by
  simp [minutesToLimit, h]

/-! ### Free orders -/

theorem freeOrder_length {α : Type} (fuel k : Nat) (xs : List α) : (freeOrder fuel k xs).length = xs.length := by
  induction fuel generalizing k xs with
  | zero => rfl
  | succ n ih =>
    match xs with
    | [] => rfl
    | [x] => rfl
    | x :: y :: rest =>
      simp only [freeOrder]
      split
      · rename_i z hz
        have hlt : Config.freeChoice k % (rest.length + 2) < (x :: y :: rest).length := by
          simp only [List.length_cons]; exact Nat.mod_lt _ (by omega)
        simp only [List.length_cons, ih, List.length_eraseIdx_of_lt hlt]; omega
      · simp [ih]

theorem anyOrder_length {α : Type} (s : State) (xs : List α) : (anyOrder s xs).length = xs.length :=
  freeOrder_length _ _ _

/-! ### The panel's light actions -/

theorem foldl_hand_eq {α : Type} (f : α → Instr) (xs : List α) (s : State) :
    xs.foldl (fun s x => hand (f x) s) s = { s with handed := s.handed ++ xs.map f } := by
  induction xs generalizing s with
  | nil => simp
  | cons x xs ih => rw [List.foldl_cons, ih]; simp [hand]

/-- A light action joins those under way, and its ADJUSTs the handings in flight. -/
theorem panelDim_eq (k : Fin 16) (a : KeyAction) (delta : Int) (g : Group) (s : State) :
    panelDim k a delta g s = { s with
      pn := { s.pn with dims := s.pn.dims ++ [⟨k, a, (groupLights g).length, .ok⟩] }
      handed := s.handed ++ (groupLights g).map (dimOperation k delta) } := by
  simp [panelDim, foldl_hand_eq, withPn]

/-- The ADJUSTs of a group are those the statements name. -/
theorem groupAdjusts_eq (k : Fin 16) (g : Group) (delta : Int) :
    groupAdjusts k g delta = (groupLights g).map (dimOperation k delta) := by
  cases g <;> rfl

/-- The end of an action changes the last action and posts at most one notice. -/
theorem endAction_cases (k : Fin 16) (a : KeyAction) (st : Status) (s : State) :
    let p : Posting := ⟨.panel, .pi, .info, false, [byte (k.1 + 16), byte (keyActionCode a), byte (statusCode st)]⟩
    let s1 := { s with pn := { s.pn with last := some ⟨k, a, st⟩ } }
    (accepted st = true ∧ endAction k a st s = s1) ∨ (accepted st = false ∧ endAction k a st s = hand (.noticePost p) s1) := by
  simp only [endAction]
  split
  · rename_i h; exact Or.inl ⟨h, rfl⟩
  · rename_i h; exact Or.inr ⟨by simpa using h, rfl⟩

/-- An operation of the key of the oldest action counts for that action. -/
theorem dimStep_head (st : Status) (r : DimRun) (rs : List DimRun) :
    dimStep r.key st (r :: rs) =
      (let r1 := { r with left := r.left - 1, status := if st = .ok then r.status else st }
      if r1.left = 0 then (some r1, rs) else (none, r1 :: rs)) := by
  simp [dimStep]

/-- The end of one operation changes the light actions under way, the last action and the handings, and nothing else. -/
theorem dimEnded_cases (k : Fin 16) (st : Status) (s : State) :
    ∃ last new, dimEnded k st s =
      { s with pn := { s.pn with dims := (dimStep k st s.pn.dims).2, last := last }, handed := s.handed ++ new } := by
  simp only [dimEnded]
  split
  · rename_i run _
    rcases endAction_cases k run.action run.status (withPn (fun u => { u with dims := (dimStep k st s.pn.dims).2 }) s) with h | h
    · exact ⟨some ⟨k, run.action, run.status⟩, [], by rw [h.2]; simp [withPn]⟩
    · exact ⟨some ⟨k, run.action, run.status⟩, [_], by rw [h.2]; rfl⟩
  · exact ⟨s.pn.last, [], by simp [withPn]⟩

/-- An operation made for the panel leaves the host's last answer as it was. -/
theorem panelOperation_answer (k : Fin 16) (op : State → State) (s : State) : (panelOperation k op s).answer = s.answer := by
  obtain ⟨last, new, h⟩ :=
    dimEnded_cases k (((op s).answer.map (·.status)).getD .ok) { op s with answer := s.answer }
  simp [panelOperation, h]

end Sys2Proof.Machine
end

