-- ==== Sys2Proof/Laws/Entry.lean ====
section
/-! SUPPORT. What entering a state does to the rest of the part, for the heater, the fridge and the lights. -/

set_option linter.unnecessarySeqFocus false

namespace Sys2Proof.Machine

variable (s : State)

/-! ### Heater -/

/-- A stroke start changes the HC alone. -/
theorem strokeAt_cases : ∃ h, strokeAt s = { s with hc := h } := by
  unfold strokeAt
  split <;> exact ⟨_, rfl⟩

@[simp] theorem strokeAt_cfg : (strokeAt s).cfg = s.cfg := by
  obtain ⟨h, e⟩ := strokeAt_cases s; rw [e]

@[simp] theorem strokeAt_mu : (strokeAt s).mu = s.mu := by
  obtain ⟨h, e⟩ := strokeAt_cases s; rw [e]

@[simp] theorem strokeAt_cc : (strokeAt s).cc = s.cc := by
  obtain ⟨h, e⟩ := strokeAt_cases s; rw [e]

@[simp] theorem strokeAt_ga : (strokeAt s).ga = s.ga := by
  obtain ⟨h, e⟩ := strokeAt_cases s; rw [e]

@[simp] theorem strokeAt_asked : (strokeAt s).asked = s.asked := by
  obtain ⟨h, e⟩ := strokeAt_cases s; rw [e]

@[simp] theorem strokeAt_fc : (strokeAt s).fc = s.fc := by
  obtain ⟨h, e⟩ := strokeAt_cases s; rw [e]

@[simp] theorem strokeAt_lc : (strokeAt s).lc = s.lc := by
  obtain ⟨h, e⟩ := strokeAt_cases s; rw [e]

@[simp] theorem strokeAt_pn : (strokeAt s).pn = s.pn := by
  obtain ⟨h, e⟩ := strokeAt_cases s; rw [e]

@[simp] theorem strokeAt_rm : (strokeAt s).rm = s.rm := by
  obtain ⟨h, e⟩ := strokeAt_cases s; rw [e]

@[simp] theorem strokeAt_su : (strokeAt s).su = s.su := by
  obtain ⟨h, e⟩ := strokeAt_cases s; rw [e]

@[simp] theorem strokeAt_rev : (strokeAt s).rev = s.rev := by
  obtain ⟨h, e⟩ := strokeAt_cases s; rw [e]

@[simp] theorem strokeAt_lk : (strokeAt s).lk = s.lk := by
  obtain ⟨h, e⟩ := strokeAt_cases s; rw [e]

@[simp] theorem strokeAt_mc : (strokeAt s).mc = s.mc := by
  obtain ⟨h, e⟩ := strokeAt_cases s; rw [e]

@[simp] theorem strokeAt_answer : (strokeAt s).answer = s.answer := by
  obtain ⟨h, e⟩ := strokeAt_cases s; rw [e]

@[simp] theorem strokeAt_handed : (strokeAt s).handed = s.handed := by
  obtain ⟨h, e⟩ := strokeAt_cases s; rw [e]

@[simp] theorem strokeAt_choices : (strokeAt s).choices = s.choices := by
  obtain ⟨h, e⟩ := strokeAt_cases s; rw [e]

@[simp] theorem strokeAt_pending : (strokeAt s).pending = s.pending := by
  obtain ⟨h, e⟩ := strokeAt_cases s; rw [e]

@[simp] theorem strokeAt_hc_state : (strokeAt s).hc.state = s.hc.state := by
  unfold strokeAt; split <;> rfl

@[simp] theorem strokeAt_hc_glow : (strokeAt s).hc.glow = s.hc.glow := by
  unfold strokeAt; split <;> rfl

@[simp] theorem strokeAt_hc_purge : (strokeAt s).hc.purge = s.hc.purge := by
  unfold strokeAt; split <;> rfl

@[simp] theorem strokeAt_hc_phase : (strokeAt s).hc.phase = s.hc.phase := by
  unfold strokeAt; split <;> rfl

@[simp] theorem strokeAt_hc_desired : (strokeAt s).hc.desired = s.hc.desired := by
  unfold strokeAt; split <;> rfl

/-- The next stroke lies one period ahead of the stroke start (R82). -/
@[simp] theorem strokeAt_hc_stroke :
    (strokeAt s).hc.stroke = some (strokePeriod (pumpRate s.cfg.heaterTune s.hc)) := by
  unfold strokeAt; split <;> rfl

/-- The request of a state depends on the state and the desired stage alone. -/
theorem heaterRequest_congr (d : Demands) {h k : HeaterUnit} (hs : h.state = k.state) (hd : h.desired = k.desired) :
    heaterRequest d h = heaterRequest d k := by
  unfold heaterRequest
  rw [hs, hd]

/-- The end of a frost run changes the HC and hands the override's clearing. -/
theorem endFrost_cases :
    (s.hc.frostRun = false ∧ endFrost s = s)
      ∨ (s.hc.frostRun = true ∧ endFrost s = hand (.classOverride false) (withHc (fun h => { h with frostRun := false }) s)) := by
  unfold endFrost
  cases h : s.hc.frostRun <;> simp

@[simp] theorem endFrost_cfg : (endFrost s).cfg = s.cfg := by
  obtain ⟨-, e⟩ | ⟨-, e⟩ := endFrost_cases s <;> rw [e] <;> rfl

@[simp] theorem endFrost_mu : (endFrost s).mu = s.mu := by
  obtain ⟨-, e⟩ | ⟨-, e⟩ := endFrost_cases s <;> rw [e] <;> rfl

@[simp] theorem endFrost_cc : (endFrost s).cc = s.cc := by
  obtain ⟨-, e⟩ | ⟨-, e⟩ := endFrost_cases s <;> rw [e] <;> rfl

@[simp] theorem endFrost_ga : (endFrost s).ga = s.ga := by
  obtain ⟨-, e⟩ | ⟨-, e⟩ := endFrost_cases s <;> rw [e] <;> rfl

@[simp] theorem endFrost_asked : (endFrost s).asked = s.asked := by
  obtain ⟨-, e⟩ | ⟨-, e⟩ := endFrost_cases s <;> rw [e] <;> rfl

@[simp] theorem endFrost_fc : (endFrost s).fc = s.fc := by
  obtain ⟨-, e⟩ | ⟨-, e⟩ := endFrost_cases s <;> rw [e] <;> rfl

@[simp] theorem endFrost_lc : (endFrost s).lc = s.lc := by
  obtain ⟨-, e⟩ | ⟨-, e⟩ := endFrost_cases s <;> rw [e] <;> rfl

@[simp] theorem endFrost_pn : (endFrost s).pn = s.pn := by
  obtain ⟨-, e⟩ | ⟨-, e⟩ := endFrost_cases s <;> rw [e] <;> rfl

@[simp] theorem endFrost_rm : (endFrost s).rm = s.rm := by
  obtain ⟨-, e⟩ | ⟨-, e⟩ := endFrost_cases s <;> rw [e] <;> rfl

@[simp] theorem endFrost_su : (endFrost s).su = s.su := by
  obtain ⟨-, e⟩ | ⟨-, e⟩ := endFrost_cases s <;> rw [e] <;> rfl

@[simp] theorem endFrost_rev : (endFrost s).rev = s.rev := by
  obtain ⟨-, e⟩ | ⟨-, e⟩ := endFrost_cases s <;> rw [e] <;> rfl

@[simp] theorem endFrost_lk : (endFrost s).lk = s.lk := by
  obtain ⟨-, e⟩ | ⟨-, e⟩ := endFrost_cases s <;> rw [e] <;> rfl

@[simp] theorem endFrost_mc : (endFrost s).mc = s.mc := by
  obtain ⟨-, e⟩ | ⟨-, e⟩ := endFrost_cases s <;> rw [e] <;> rfl

@[simp] theorem endFrost_answer : (endFrost s).answer = s.answer := by
  obtain ⟨-, e⟩ | ⟨-, e⟩ := endFrost_cases s <;> rw [e] <;> rfl

@[simp] theorem endFrost_choices : (endFrost s).choices = s.choices := by
  obtain ⟨-, e⟩ | ⟨-, e⟩ := endFrost_cases s <;> rw [e] <;> rfl

@[simp] theorem endFrost_pending : (endFrost s).pending = s.pending := by
  obtain ⟨-, e⟩ | ⟨-, e⟩ := endFrost_cases s <;> rw [e] <;> rfl

@[simp] theorem endFrost_hc : (endFrost s).hc = { s.hc with frostRun := false } := by
  obtain ⟨h, e⟩ | ⟨-, e⟩ := endFrost_cases s <;> rw [e]
  · rw [← h]
  · rfl

@[simp] theorem frostAtEntry_cfg : (frostAtEntry s).cfg = s.cfg := by
  unfold frostAtEntry; split
  · simp only []; split <;> simp
  · rfl

@[simp] theorem frostAtEntry_mu : (frostAtEntry s).mu = s.mu := by
  unfold frostAtEntry; split
  · simp only []; split <;> simp
  · rfl

@[simp] theorem frostAtEntry_cc : (frostAtEntry s).cc = s.cc := by
  unfold frostAtEntry; split
  · simp only []; split <;> simp
  · rfl

@[simp] theorem frostAtEntry_ga : (frostAtEntry s).ga = s.ga := by
  unfold frostAtEntry; split
  · simp only []; split <;> simp
  · rfl

@[simp] theorem frostAtEntry_asked : (frostAtEntry s).asked = s.asked := by
  unfold frostAtEntry; split
  · simp only []; split <;> simp
  · rfl

@[simp] theorem frostAtEntry_fc : (frostAtEntry s).fc = s.fc := by
  unfold frostAtEntry; split
  · simp only []; split <;> simp
  · rfl

@[simp] theorem frostAtEntry_lc : (frostAtEntry s).lc = s.lc := by
  unfold frostAtEntry; split
  · simp only []; split <;> simp
  · rfl

@[simp] theorem frostAtEntry_pn : (frostAtEntry s).pn = s.pn := by
  unfold frostAtEntry; split
  · simp only []; split <;> simp
  · rfl

@[simp] theorem frostAtEntry_rm : (frostAtEntry s).rm = s.rm := by
  unfold frostAtEntry; split
  · simp only []; split <;> simp
  · rfl

@[simp] theorem frostAtEntry_su : (frostAtEntry s).su = s.su := by
  unfold frostAtEntry; split
  · simp only []; split <;> simp
  · rfl

@[simp] theorem frostAtEntry_rev : (frostAtEntry s).rev = s.rev := by
  unfold frostAtEntry; split
  · simp only []; split <;> simp
  · rfl

@[simp] theorem frostAtEntry_lk : (frostAtEntry s).lk = s.lk := by
  unfold frostAtEntry; split
  · simp only []; split <;> simp
  · rfl

@[simp] theorem frostAtEntry_mc : (frostAtEntry s).mc = s.mc := by
  unfold frostAtEntry; split
  · simp only []; split <;> simp
  · rfl

@[simp] theorem frostAtEntry_answer : (frostAtEntry s).answer = s.answer := by
  unfold frostAtEntry; split
  · simp only []; split <;> simp
  · rfl

@[simp] theorem frostAtEntry_choices : (frostAtEntry s).choices = s.choices := by
  unfold frostAtEntry; split
  · simp only []; split <;> simp
  · rfl

@[simp] theorem frostAtEntry_pending : (frostAtEntry s).pending = s.pending := by
  unfold frostAtEntry; split
  · simp only []; split <;> simp
  · rfl

/-- A frost run's end touches the frost run flag and the back-off alone. -/
theorem frostAtEntry_hc : ∃ b o, (frostAtEntry s).hc = { s.hc with frostRun := b, frostBackoff := o } := by
  unfold frostAtEntry
  split
  · simp only []
    split
    · exact ⟨false, some (s.su.elapsed + 900), by simp⟩
    · exact ⟨_, _, endFrost_hc s⟩
  · exact ⟨_, _, rfl⟩

@[simp] theorem entrySigns_cfg : (entrySigns s).cfg = s.cfg := by
  unfold entrySigns; split <;> simp

/-- The signs of an entry may mark the scan in progress, where they wake the part, and change nothing else of the MU. -/
theorem entrySigns_mu : ∃ b, (entrySigns s).mu = { s.mu with rescan := b } := by
  unfold entrySigns
  split
  · exact ⟨s.mu.rescan, rfl⟩
  · exact ⟨s.mu.rescan, rfl⟩
  · exact wakeFromDoze_mu s
  · exact ⟨s.mu.rescan, rfl⟩

@[simp] theorem entrySigns_cc : (entrySigns s).cc = s.cc := by
  unfold entrySigns; split <;> simp

@[simp] theorem entrySigns_ga : (entrySigns s).ga = s.ga := by
  unfold entrySigns; split <;> simp

@[simp] theorem entrySigns_asked : (entrySigns s).asked = s.asked := by
  unfold entrySigns; split <;> simp

@[simp] theorem entrySigns_hc : (entrySigns s).hc = s.hc := by
  unfold entrySigns; split <;> simp

@[simp] theorem entrySigns_fc : (entrySigns s).fc = s.fc := by
  unfold entrySigns; split <;> simp

@[simp] theorem entrySigns_lc : (entrySigns s).lc = s.lc := by
  unfold entrySigns; split <;> simp

@[simp] theorem entrySigns_pn : (entrySigns s).pn = s.pn := by
  unfold entrySigns; split <;> simp

@[simp] theorem entrySigns_rm : (entrySigns s).rm = s.rm := by
  unfold entrySigns; split <;> simp

@[simp] theorem entrySigns_su : (entrySigns s).su = s.su := by
  unfold entrySigns; split <;> simp

@[simp] theorem entrySigns_lk : (entrySigns s).lk = s.lk := by
  unfold entrySigns; split <;> simp

@[simp] theorem entrySigns_answer : (entrySigns s).answer = s.answer := by
  unfold entrySigns; split <;> simp

@[simp] theorem entrySigns_choices : (entrySigns s).choices = s.choices := by
  unfold entrySigns; split <;> simp

@[simp] theorem entrySigns_pending : (entrySigns s).pending = s.pending := by
  unfold entrySigns; split <;> simp

@[simp] theorem heaterNotice_cfg : (heaterNotice s).cfg = s.cfg := by
  rfl

@[simp] theorem heaterNotice_mu : (heaterNotice s).mu = s.mu := by
  rfl

@[simp] theorem heaterNotice_cc : (heaterNotice s).cc = s.cc := by
  rfl

@[simp] theorem heaterNotice_ga : (heaterNotice s).ga = s.ga := by
  rfl

@[simp] theorem heaterNotice_asked : (heaterNotice s).asked = s.asked := by
  rfl

@[simp] theorem heaterNotice_hc : (heaterNotice s).hc = s.hc := by
  rfl

@[simp] theorem heaterNotice_fc : (heaterNotice s).fc = s.fc := by
  rfl

@[simp] theorem heaterNotice_lc : (heaterNotice s).lc = s.lc := by
  rfl

@[simp] theorem heaterNotice_pn : (heaterNotice s).pn = s.pn := by
  rfl

@[simp] theorem heaterNotice_rm : (heaterNotice s).rm = s.rm := by
  rfl

@[simp] theorem heaterNotice_su : (heaterNotice s).su = s.su := by
  rfl

@[simp] theorem heaterNotice_rev : (heaterNotice s).rev = s.rev := by
  rfl

@[simp] theorem heaterNotice_lk : (heaterNotice s).lk = s.lk := by
  rfl

@[simp] theorem heaterNotice_mc : (heaterNotice s).mc = s.mc := by
  rfl

@[simp] theorem heaterNotice_answer : (heaterNotice s).answer = s.answer := by
  rfl

@[simp] theorem heaterNotice_choices : (heaterNotice s).choices = s.choices := by
  rfl

@[simp] theorem heaterNotice_pending : (heaterNotice s).pending = s.pending := by
  rfl

/-- Entering a state, once over: the HC is what the state's items make of it, with the first stroke at the entry of the
burning states and the frost run's end; the request is the state's; nothing else of the part moves but the handings, and the
mode where WAIT_POWER wakes it from DOZE. -/
theorem enterHeater_hc (new : HeaterState) (upd : HeaterUnit → HeaterUnit) :
    ∃ b o, (enterHeater new upd s).hc =
      { (if burning new && !(burning s.hc.state) then strokeAt (withHc (fun h => upd (heaterIn new h)) s)
         else withHc (fun h => upd (heaterIn new h)) s).hc with frostRun := b, frostBackoff := o } := by
  unfold enterHeater
  simp only [entrySigns_hc, heaterNotice_hc]
  obtain ⟨b, o, e⟩ := frostAtEntry_hc (ask .heat
    (heaterRequest (if burning new && !(burning s.hc.state) then strokeAt (withHc (fun h => upd (heaterIn new h)) s)
      else withHc (fun h => upd (heaterIn new h)) s).cfg.demands
      (if burning new && !(burning s.hc.state) then strokeAt (withHc (fun h => upd (heaterIn new h)) s)
      else withHc (fun h => upd (heaterIn new h)) s).hc)
    (if burning new && !(burning s.hc.state) then strokeAt (withHc (fun h => upd (heaterIn new h)) s)
      else withHc (fun h => upd (heaterIn new h)) s))
  exact ⟨b, o, by rw [e, ask_hc]⟩

@[simp] theorem enterHeater_cfg (new : HeaterState) (upd : HeaterUnit → HeaterUnit) : (enterHeater new upd s).cfg = s.cfg := by
  unfold enterHeater; simp only [entrySigns_cfg, heaterNotice_cfg, frostAtEntry_cfg, ask_cfg]; split <;> simp

theorem enterHeater_mu (new : HeaterState) (upd : HeaterUnit → HeaterUnit) :
    ∃ b, (enterHeater new upd s).mu = { s.mu with rescan := b } := by
  unfold enterHeater
  obtain ⟨b, e⟩ := entrySigns_mu (heaterNotice (frostAtEntry (ask .heat
    (heaterRequest (if burning new && !(burning s.hc.state) then strokeAt (withHc (fun h => upd (heaterIn new h)) s)
      else withHc (fun h => upd (heaterIn new h)) s).cfg.demands
      (if burning new && !(burning s.hc.state) then strokeAt (withHc (fun h => upd (heaterIn new h)) s)
      else withHc (fun h => upd (heaterIn new h)) s).hc)
    (if burning new && !(burning s.hc.state) then strokeAt (withHc (fun h => upd (heaterIn new h)) s)
      else withHc (fun h => upd (heaterIn new h)) s))))
  refine ⟨b, ?_⟩
  rw [e]
  simp only [heaterNotice_mu, frostAtEntry_mu, ask_mu]
  split <;> simp

@[simp] theorem enterHeater_cc (new : HeaterState) (upd : HeaterUnit → HeaterUnit) : (enterHeater new upd s).cc = s.cc := by
  unfold enterHeater; simp only [entrySigns_cc, heaterNotice_cc, frostAtEntry_cc, ask_cc]; split <;> simp

@[simp] theorem enterHeater_ga (new : HeaterState) (upd : HeaterUnit → HeaterUnit) : (enterHeater new upd s).ga = s.ga := by
  unfold enterHeater; simp only [entrySigns_ga, heaterNotice_ga, frostAtEntry_ga, ask_ga]; split <;> simp

@[simp] theorem enterHeater_fc (new : HeaterState) (upd : HeaterUnit → HeaterUnit) : (enterHeater new upd s).fc = s.fc := by
  unfold enterHeater; simp only [entrySigns_fc, heaterNotice_fc, frostAtEntry_fc, ask_fc]; split <;> simp

@[simp] theorem enterHeater_lc (new : HeaterState) (upd : HeaterUnit → HeaterUnit) : (enterHeater new upd s).lc = s.lc := by
  unfold enterHeater; simp only [entrySigns_lc, heaterNotice_lc, frostAtEntry_lc, ask_lc]; split <;> simp

@[simp] theorem enterHeater_pn (new : HeaterState) (upd : HeaterUnit → HeaterUnit) : (enterHeater new upd s).pn = s.pn := by
  unfold enterHeater; simp only [entrySigns_pn, heaterNotice_pn, frostAtEntry_pn, ask_pn]; split <;> simp

@[simp] theorem enterHeater_rm (new : HeaterState) (upd : HeaterUnit → HeaterUnit) : (enterHeater new upd s).rm = s.rm := by
  unfold enterHeater; simp only [entrySigns_rm, heaterNotice_rm, frostAtEntry_rm, ask_rm]; split <;> simp

@[simp] theorem enterHeater_su (new : HeaterState) (upd : HeaterUnit → HeaterUnit) : (enterHeater new upd s).su = s.su := by
  unfold enterHeater; simp only [entrySigns_su, heaterNotice_su, frostAtEntry_su, ask_su]; split <;> simp

@[simp] theorem enterHeater_lk (new : HeaterState) (upd : HeaterUnit → HeaterUnit) : (enterHeater new upd s).lk = s.lk := by
  unfold enterHeater; simp only [entrySigns_lk, heaterNotice_lk, frostAtEntry_lk, ask_lk]; split <;> simp

@[simp] theorem enterHeater_answer (new : HeaterState) (upd : HeaterUnit → HeaterUnit) : (enterHeater new upd s).answer = s.answer := by
  unfold enterHeater; simp only [entrySigns_answer, heaterNotice_answer, frostAtEntry_answer, ask_answer]; split <;> simp

@[simp] theorem enterHeater_choices (new : HeaterState) (upd : HeaterUnit → HeaterUnit) : (enterHeater new upd s).choices = s.choices := by
  unfold enterHeater; simp only [entrySigns_choices, heaterNotice_choices, frostAtEntry_choices, ask_choices]; split <;> simp

@[simp] theorem enterHeater_pending (new : HeaterState) (upd : HeaterUnit → HeaterUnit) : (enterHeater new upd s).pending = s.pending := by
  unfold enterHeater; simp only [entrySigns_pending, heaterNotice_pending, frostAtEntry_pending, ask_pending]; split <;> simp

/-- The HC's request after the entry of a state is the one of R63. -/
theorem enterHeater_asked (new : HeaterState) (upd : HeaterUnit → HeaterUnit)
    (hs : ∀ h, (upd h).state = h.state) :
    tget (enterHeater new upd s).asked (consIx .heat) = heaterRequest s.cfg.demands (upd (heaterIn new s.hc)) := by
  have key : ∀ t : State, t.cfg = s.cfg → t.hc.state = new → t.hc.desired = (upd (heaterIn new s.hc)).desired →
      tget (entrySigns (heaterNotice (frostAtEntry (ask .heat (heaterRequest t.cfg.demands t.hc) t)))).asked
        (consIx .heat) = heaterRequest s.cfg.demands (upd (heaterIn new s.hc)) := by
    intro t hc hst hd
    simp only [entrySigns_asked, heaterNotice_asked, frostAtEntry_asked, ask_asked_same, hc]
    exact heaterRequest_congr _ (by rw [hst, hs]; rfl) hd
  unfold enterHeater
  by_cases hb : (burning new && !(burning s.hc.state)) = true
  · simp only [hb, if_true]
    exact key _ (by simp) (by simp [hs, heaterIn]) (by simp)
  · simp only [hb]
    exact key _ (by simp) (by simp [hs, heaterIn]) (by simp)

@[simp] theorem enterHeater_state (new : HeaterState) (upd : HeaterUnit → HeaterUnit)
    (hs : ∀ h, (upd h).state = h.state) : (enterHeater new upd s).hc.state = new := by
  obtain ⟨b, o, e⟩ := enterHeater_hc s new upd
  rw [e]
  split <;> simp [hs, heaterIn]

@[simp] theorem holdMet_none (tenths : Nat) : holdMet s none tenths = false := rfl
@[simp] theorem holdMet_some (h tenths : Nat) : holdMet s (some h) tenths = heldFor s h tenths := rfl

/-- The holds judged as the clock moves: none met, and nothing changes, or one met, and it acts. -/
theorem heaterHolds_cases :
    (((s.hc.state = .run ∧ holdMet s s.hc.pauseHold 6000 = false ∧ holdMet s s.hc.flameHold 100 = false)
        ∨ (s.hc.state ≠ .run ∧ (frostActs s && holdMet s s.hc.frostHold 600) = false)) ∧ heaterHolds s = s)
      ∨ ((s.hc.state = .run ∧ holdMet s s.hc.pauseHold 6000 = true) ∧ heaterHolds s = toPurge .pause none s)
      ∨ ((s.hc.state = .run ∧ holdMet s s.hc.pauseHold 6000 = false ∧ holdMet s s.hc.flameHold 100 = true)
          ∧ heaterHolds s = flameGone s)
      ∨ ((s.hc.state = .off ∧ frostActs s = true ∧ holdMet s s.hc.frostHold 600 = true) ∧ heaterHolds s = frostStart s) := by
  by_cases hr : s.hc.state = .run
  · cases hp : holdMet s s.hc.pauseHold 6000 <;> cases hf : holdMet s s.hc.flameHold 100 <;> simp [heaterHolds, hr, hp, hf]
  · have e : heaterHolds s = if frostActs s && holdMet s s.hc.frostHold 600 then frostStart s else s := by
      unfold heaterHolds; split
      · exact absurd ‹_› hr
      · rfl
    rw [e]
    by_cases hb : (frostActs s && holdMet s s.hc.frostHold 600) = true
    · have ha := (Bool.and_eq_true _ _ ▸ hb : frostActs s = true ∧ holdMet s s.hc.frostHold 600 = true)
      have ho : s.hc.state = .off := by
        have h1 := ha.1
        simp only [frostActs, Bool.and_eq_true, beq_iff_eq] at h1
        exact h1.1.2
      exact .inr (.inr (.inr ⟨⟨ho, ha⟩, if_pos hb⟩))
    · exact .inl ⟨.inr ⟨hr, by simpa using hb⟩, if_neg hb⟩

/-! ### Fridge -/

@[simp] theorem enterFridge_cfg (new : FridgeState) (upd : FridgeUnit → FridgeUnit) : (enterFridge new upd s).cfg = s.cfg := by
  simp [enterFridge]

@[simp] theorem enterFridge_mu (new : FridgeState) (upd : FridgeUnit → FridgeUnit) : (enterFridge new upd s).mu = s.mu := by
  simp [enterFridge]

@[simp] theorem enterFridge_cc (new : FridgeState) (upd : FridgeUnit → FridgeUnit) : (enterFridge new upd s).cc = s.cc := by
  simp [enterFridge]

@[simp] theorem enterFridge_ga (new : FridgeState) (upd : FridgeUnit → FridgeUnit) : (enterFridge new upd s).ga = s.ga := by
  simp [enterFridge]

@[simp] theorem enterFridge_hc (new : FridgeState) (upd : FridgeUnit → FridgeUnit) : (enterFridge new upd s).hc = s.hc := by
  simp [enterFridge]

@[simp] theorem enterFridge_lc (new : FridgeState) (upd : FridgeUnit → FridgeUnit) : (enterFridge new upd s).lc = s.lc := by
  simp [enterFridge]

@[simp] theorem enterFridge_pn (new : FridgeState) (upd : FridgeUnit → FridgeUnit) : (enterFridge new upd s).pn = s.pn := by
  simp [enterFridge]

@[simp] theorem enterFridge_rm (new : FridgeState) (upd : FridgeUnit → FridgeUnit) : (enterFridge new upd s).rm = s.rm := by
  simp [enterFridge]

@[simp] theorem enterFridge_su (new : FridgeState) (upd : FridgeUnit → FridgeUnit) : (enterFridge new upd s).su = s.su := by
  simp [enterFridge]

@[simp] theorem enterFridge_rev (new : FridgeState) (upd : FridgeUnit → FridgeUnit) : (enterFridge new upd s).rev = s.rev := by
  simp [enterFridge]

@[simp] theorem enterFridge_lk (new : FridgeState) (upd : FridgeUnit → FridgeUnit) : (enterFridge new upd s).lk = s.lk := by
  simp [enterFridge]

@[simp] theorem enterFridge_mc (new : FridgeState) (upd : FridgeUnit → FridgeUnit) : (enterFridge new upd s).mc = s.mc := by
  simp [enterFridge]

@[simp] theorem enterFridge_answer (new : FridgeState) (upd : FridgeUnit → FridgeUnit) : (enterFridge new upd s).answer = s.answer := by
  simp [enterFridge]

@[simp] theorem enterFridge_choices (new : FridgeState) (upd : FridgeUnit → FridgeUnit) : (enterFridge new upd s).choices = s.choices := by
  simp [enterFridge]

@[simp] theorem enterFridge_pending (new : FridgeState) (upd : FridgeUnit → FridgeUnit) : (enterFridge new upd s).pending = s.pending := by
  simp [enterFridge]

/-- Entering a fridge state, once over. -/
@[simp] theorem enterFridge_fc (new : FridgeState) (upd : FridgeUnit → FridgeUnit) :
    (enterFridge new upd s).fc = upd { s.fc with state := new, phase := none, wanted := none, effective := none } := by
  simp [enterFridge]

@[simp] theorem enterFridge_asked (new : FridgeState) (upd : FridgeUnit → FridgeUnit) :
    tget (enterFridge new upd s).asked (consIx .fridge) = fridgeRequest s.cfg.demands
      (upd { s.fc with state := new, phase := none, wanted := none, effective := none }) := by
  simp [enterFridge]

/-- The FC commands the compressor off: what was on stops now. -/
theorem commandOff_cases :
    (energized s .compressor = true
        ∧ commandOff s = withFc (fun f => { f with drive := false, lastStop := now s, switchOn := none }) s)
      ∨ (energized s .compressor = false ∧ commandOff s = withFc (fun f => { f with drive := false }) s) := by
  unfold commandOff
  cases h : energized s .compressor <;> simp

@[simp] theorem commandOff_cfg : (commandOff s).cfg = s.cfg := by
  obtain ⟨-, e⟩ | ⟨-, e⟩ := commandOff_cases s <;> rw [e] <;> rfl

@[simp] theorem commandOff_mu : (commandOff s).mu = s.mu := by
  obtain ⟨-, e⟩ | ⟨-, e⟩ := commandOff_cases s <;> rw [e] <;> rfl

@[simp] theorem commandOff_cc : (commandOff s).cc = s.cc := by
  obtain ⟨-, e⟩ | ⟨-, e⟩ := commandOff_cases s <;> rw [e] <;> rfl

@[simp] theorem commandOff_ga : (commandOff s).ga = s.ga := by
  obtain ⟨-, e⟩ | ⟨-, e⟩ := commandOff_cases s <;> rw [e] <;> rfl

@[simp] theorem commandOff_asked : (commandOff s).asked = s.asked := by
  obtain ⟨-, e⟩ | ⟨-, e⟩ := commandOff_cases s <;> rw [e] <;> rfl

@[simp] theorem commandOff_hc : (commandOff s).hc = s.hc := by
  obtain ⟨-, e⟩ | ⟨-, e⟩ := commandOff_cases s <;> rw [e] <;> rfl

@[simp] theorem commandOff_lc : (commandOff s).lc = s.lc := by
  obtain ⟨-, e⟩ | ⟨-, e⟩ := commandOff_cases s <;> rw [e] <;> rfl

@[simp] theorem commandOff_pn : (commandOff s).pn = s.pn := by
  obtain ⟨-, e⟩ | ⟨-, e⟩ := commandOff_cases s <;> rw [e] <;> rfl

@[simp] theorem commandOff_rm : (commandOff s).rm = s.rm := by
  obtain ⟨-, e⟩ | ⟨-, e⟩ := commandOff_cases s <;> rw [e] <;> rfl

@[simp] theorem commandOff_su : (commandOff s).su = s.su := by
  obtain ⟨-, e⟩ | ⟨-, e⟩ := commandOff_cases s <;> rw [e] <;> rfl

@[simp] theorem commandOff_rev : (commandOff s).rev = s.rev := by
  obtain ⟨-, e⟩ | ⟨-, e⟩ := commandOff_cases s <;> rw [e] <;> rfl

@[simp] theorem commandOff_lk : (commandOff s).lk = s.lk := by
  obtain ⟨-, e⟩ | ⟨-, e⟩ := commandOff_cases s <;> rw [e] <;> rfl

@[simp] theorem commandOff_mc : (commandOff s).mc = s.mc := by
  obtain ⟨-, e⟩ | ⟨-, e⟩ := commandOff_cases s <;> rw [e] <;> rfl

@[simp] theorem commandOff_answer : (commandOff s).answer = s.answer := by
  obtain ⟨-, e⟩ | ⟨-, e⟩ := commandOff_cases s <;> rw [e] <;> rfl

@[simp] theorem commandOff_handed : (commandOff s).handed = s.handed := by
  obtain ⟨-, e⟩ | ⟨-, e⟩ := commandOff_cases s <;> rw [e] <;> rfl

@[simp] theorem commandOff_choices : (commandOff s).choices = s.choices := by
  obtain ⟨-, e⟩ | ⟨-, e⟩ := commandOff_cases s <;> rw [e] <;> rfl

@[simp] theorem commandOff_pending : (commandOff s).pending = s.pending := by
  obtain ⟨-, e⟩ | ⟨-, e⟩ := commandOff_cases s <;> rw [e] <;> rfl

/-! ### Lights -/

@[simp] theorem mapLights_cfg (f : Fin 6 → LightChan → LightChan) : (mapLights f s).cfg = s.cfg := by
  rfl

@[simp] theorem mapLights_mu (f : Fin 6 → LightChan → LightChan) : (mapLights f s).mu = s.mu := by
  rfl

@[simp] theorem mapLights_cc (f : Fin 6 → LightChan → LightChan) : (mapLights f s).cc = s.cc := by
  rfl

@[simp] theorem mapLights_ga (f : Fin 6 → LightChan → LightChan) : (mapLights f s).ga = s.ga := by
  rfl

@[simp] theorem mapLights_asked (f : Fin 6 → LightChan → LightChan) : (mapLights f s).asked = s.asked := by
  rfl

@[simp] theorem mapLights_hc (f : Fin 6 → LightChan → LightChan) : (mapLights f s).hc = s.hc := by
  rfl

@[simp] theorem mapLights_fc (f : Fin 6 → LightChan → LightChan) : (mapLights f s).fc = s.fc := by
  rfl

@[simp] theorem mapLights_pn (f : Fin 6 → LightChan → LightChan) : (mapLights f s).pn = s.pn := by
  rfl

@[simp] theorem mapLights_rm (f : Fin 6 → LightChan → LightChan) : (mapLights f s).rm = s.rm := by
  rfl

@[simp] theorem mapLights_su (f : Fin 6 → LightChan → LightChan) : (mapLights f s).su = s.su := by
  rfl

@[simp] theorem mapLights_rev (f : Fin 6 → LightChan → LightChan) : (mapLights f s).rev = s.rev := by
  rfl

@[simp] theorem mapLights_lk (f : Fin 6 → LightChan → LightChan) : (mapLights f s).lk = s.lk := by
  rfl

@[simp] theorem mapLights_mc (f : Fin 6 → LightChan → LightChan) : (mapLights f s).mc = s.mc := by
  rfl

@[simp] theorem mapLights_answer (f : Fin 6 → LightChan → LightChan) : (mapLights f s).answer = s.answer := by
  rfl

@[simp] theorem mapLights_handed (f : Fin 6 → LightChan → LightChan) : (mapLights f s).handed = s.handed := by
  rfl

@[simp] theorem mapLights_choices (f : Fin 6 → LightChan → LightChan) : (mapLights f s).choices = s.choices := by
  rfl

@[simp] theorem mapLights_pending (f : Fin 6 → LightChan → LightChan) : (mapLights f s).pending = s.pending := by
  rfl

theorem lightOf_mapLights (f : Fin 6 → LightChan → LightChan) (i : Fin 6) :
    lightOf (mapLights f s) i = f i (lightOf s i) := by
  unfold lightOf mapLights
  fin_cases i <;> rfl

@[simp] theorem mapLights_lc (f : Fin 6 → LightChan → LightChan) :
    (mapLights f s).lc = { s.lc with chan := (mapLights f s).lc.chan } := rfl

@[simp] theorem applyLevels_cfg : (applyLevels s).cfg = s.cfg := by
  rfl

@[simp] theorem applyLevels_mu : (applyLevels s).mu = s.mu := by
  rfl

@[simp] theorem applyLevels_cc : (applyLevels s).cc = s.cc := by
  rfl

@[simp] theorem applyLevels_ga : (applyLevels s).ga = s.ga := by
  rfl

@[simp] theorem applyLevels_asked : (applyLevels s).asked = s.asked := by
  rfl

@[simp] theorem applyLevels_hc : (applyLevels s).hc = s.hc := by
  rfl

@[simp] theorem applyLevels_fc : (applyLevels s).fc = s.fc := by
  rfl

@[simp] theorem applyLevels_pn : (applyLevels s).pn = s.pn := by
  rfl

@[simp] theorem applyLevels_rm : (applyLevels s).rm = s.rm := by
  rfl

@[simp] theorem applyLevels_su : (applyLevels s).su = s.su := by
  rfl

@[simp] theorem applyLevels_rev : (applyLevels s).rev = s.rev := by
  rfl

@[simp] theorem applyLevels_lk : (applyLevels s).lk = s.lk := by
  rfl

@[simp] theorem applyLevels_mc : (applyLevels s).mc = s.mc := by
  rfl

@[simp] theorem applyLevels_answer : (applyLevels s).answer = s.answer := by
  rfl

@[simp] theorem applyLevels_handed : (applyLevels s).handed = s.handed := by
  rfl

@[simp] theorem applyLevels_choices : (applyLevels s).choices = s.choices := by
  rfl

@[simp] theorem applyLevels_pending : (applyLevels s).pending = s.pending := by
  rfl

/-- The applied levels recomputed are the ones R112 gives; nothing else of a channel changes. -/
theorem lightOf_applyLevels (i : Fin 6) :
    lightOf (applyLevels s) i = { lightOf s i with applied := appliedLevel s i } := by
  unfold applyLevels
  rw [lightOf_mapLights]

/-! ### The player and the horizon -/

/-- The player starts the first queued request that may sound, or is IDLE with the queue empty where there is none. -/
theorem startNext_cases :
    ((∀ r ∈ s.pn.chimes, maySound s r = false)
        ∧ startNext s = withPn (fun p => { p with chimes := [], player := none }) s)
      ∨ ∃ r rest, (s.pn.chimes.dropWhile fun r => !(maySound s r)) = r :: rest ∧ maySound s r = true
          ∧ startNext s = withPn (fun p => { p with
              chimes := rest
              player := some ⟨r.pattern, patternOf s.cfg r.pattern, 1, true, (patternOf s.cfg r.pattern).onTime, false⟩ }) s := by
  unfold startNext
  split
  · rename_i h
    refine .inl ⟨fun r hr => ?_, rfl⟩
    simpa using List.dropWhile_eq_nil_iff.mp h r hr
  · rename_i r rest h
    refine .inr ⟨r, rest, h, ?_, rfl⟩
    have e := List.head?_dropWhile_not (fun r => !(maySound s r)) s.pn.chimes
    rw [h] at e
    simpa using e

/-- A written default horizon: H as handed already, and nothing changes, or another H, handed and in the CC's hands. -/
theorem takeDefault_cases :
    (horizonOf s = s.rm.horizon ∧ takeDefault s = s)
      ∨ (horizonOf s ≠ s.rm.horizon ∧ takeDefault s = withCc (fun u => { u with horizon := horizonOf s })
          (hand (.horizonChange (horizonOf s)) (withRm (fun r => { r with horizon := horizonOf s }) s))) := by
  unfold takeDefault handHorizon
  by_cases h : horizonOf s = s.rm.horizon <;> simp [h]

end Sys2Proof.Machine
end

