-- ==== Sys2Proof/Laws/Exec.lean ====
section
/-! SUPPORT. Every command completes: no meaning faults or refuses. -/

namespace Sys2Proof.Machine

/-- Every command ends in a next state, in every state. -/
theorem exec_next (i : Instr) (s : State) : ∃ t, exec i s = .next t := by
  cases i
  case supplyChange mv => exact ⟨_, rfl⟩
  case powerOnReset => exact ⟨_, rfl⟩
  case elapsedTick => exact event_next .elapsedTick tick s
  case scanStart => exact event_next .scanStart startScan s
  case conversion ch code => exact event_next (.conversion ch code) (convert ch code) s
  case suspectChannel channel => exact event_next (.suspectChannel channel) (setHostMark channel true) s
  case clearSuspect channel => exact event_next (.clearSuspect channel) (setHostMark channel false) s
  case currentRise c ma => exact event_next (.currentRise c ma) (currentRises c ma) s
  case currentFall c ma => exact event_next (.currentFall c ma) (currentFalls c ma) s
  case blankingExpiry c => exact event_next (.blankingExpiry c) (blankingOver c) s
  case qualifyExpiry c => exact event_next (.qualifyExpiry c) (qualifyOver c) s
  case loadCurrentReading r => exact event_next (.loadCurrentReading r) (loadReading r) s
  case tachEdge us => exact event_next (.tachEdge us) (withMu fun m => { m with tach := tachEdge us m.tach }) s
  case tachTimeout => exact event_next .tachTimeout (withMu fun m => { m with tach := ⟨none, none, 0⟩ }) s
  case minuteEnd => exact event_next .minuteEnd minuteEnd s
  case horizonChange minutes => exact event_next (.horizonChange minutes) (takeHorizon minutes) s
  case budgetReport r => exact event_next (.budgetReport r) (fun s => pass s (withGa (fun g => { g with report := r }) s)) s
  case placeRequest c r => exact event_next (.placeRequest c r) (setRequest c r) s
  case changeRequest c r => exact event_next (.changeRequest c r) (setRequest c r) s
  case withdrawRequest c => exact event_next (.withdrawRequest c) (withdraw c) s
  case classOverride on => exact event_next (.classOverride on) (setOverride on) s
  case tripReport r => exact event_next (.tripReport r) (takeTrip r.comparator) s
  case retryTimerExpiry c => exact event_next (.retryTimerExpiry c) (retryOver c) s
  case tripWindowExpiry c => exact event_next (.tripWindowExpiry c) (windowOver c) s
  case clearTrip id => exact event_next (.clearTrip id) (clearTrip id) s
  case socketRunLimitExpiry k => exact event_next (.socketRunLimitExpiry k) (socketRunOut k) s
  case heaterGrantReport grant st => exact event_next (.heaterGrantReport grant st) (heaterGrant grant) s
  case heaterTripReport c o => exact event_next (.heaterTripReport c o) (heaterTrip c) s
  case heaterLevelChange level => exact event_next (.heaterLevelChange level) (withHc fun h => { h with level := level }) s
  case heatStart setpoint duration => exact event_next (.heatStart setpoint duration) (heatStartRequest setpoint duration) s
  case heatStop => exact event_next .heatStop (fun s => answer .ok [] (heaterStop s)) s
  case heatVent on => exact event_next (.heatVent on) (heatVent on) s
  case clearLockout => exact event_next .clearLockout clearLockout s
  case waitPowerTimeout => exact event_next .waitPowerTimeout (inHeater .waitPower (offWith .noPower)) s
  case glowTest => exact event_next .glowTest glowTest s
  case checkPhaseEnd => exact event_next .checkPhaseEnd (inHeater .check toPreheat) s
  case preheatPowerTimeout =>
    exact event_next .preheatPowerTimeout (inHeater .preheat fun s => if s.hc.power.isSome then offWith .noPower s else s) s
  case preheatPhaseEnd =>
    exact event_next .preheatPhaseEnd (inHeater .preheat fun s => if s.hc.phase.isSome then toPrime s else s) s
  case primePhaseEnd => exact event_next .primePhaseEnd (inHeater .prime toIgnite) s
  case igniteLimitExpiry => exact event_next .igniteLimitExpiry (inHeater .ignite attemptFailed) s
  case stabilizePhaseEnd => exact event_next .stabilizePhaseEnd (inHeater .stabilize toRun) s
  case durationExpiry => exact event_next .durationExpiry durationStop s
  case purgeEnd => exact event_next .purgeEnd (inHeater .purge fun s => if txCool s then purgeEnd s else s) s
  case purgeHotTimeout => exact event_next .purgeHotTimeout purgeHot s
  case dryCoolTimeout => exact event_next .dryCoolTimeout (inHeater .dryCool toLockout) s
  case blowerStep => exact event_next .blowerStep blowerStep s
  case strokeStart => exact event_next .strokeStart (fun s => if s.hc.stroke.isSome then strokeAt s else s) s
  case strokePulseEnd => exact event_next .strokePulseEnd (withHc fun h => { h with pulse := false }) s
  case fridgeGrantReport grant st => exact event_next (.fridgeGrantReport grant st) (fridgeGrant grant) s
  case stall o => exact event_next (.stall o) fridgeStall s
  case fridgeLevelChange level => exact event_next (.fridgeLevelChange level) (withFc fun f => { f with level := level }) s
  case tfStaleExpiry =>
    exact event_next .tfStaleExpiry (fun s => if s.fc.reading = .pending ∧ statusOf s .tf = .stale then tfLost s else s) s
  case fridgeBoost on => exact event_next (.fridgeBoost on) (boostRequest on) s
  case boostEnd => exact event_next .boostEnd boostOver s
  case clearFault => exact event_next .clearFault (fun s => answer .ok [] (fridgeClearFault s)) s
  case waitOffEnd => exact event_next .waitOffEnd (inFridge .waitOff waitOffEnd) s
  case softStartEnd =>
    exact event_next .softStartEnd (inFridge .start fun s => if s.fc.phase.isSome then softStartEnd s else s) s
  case minOnTimeEnd =>
    exact event_next .minOnTimeEnd (inFridge .run fun s => if s.fc.satisfied && s.fc.reading == .reading then thermostatStop s else s) s
  case stallWaitEnd => exact event_next .stallWaitEnd (inFridge .stallWait stallWaitEnd) s
  case stallLogExpiry =>
    exact event_next .stallLogExpiry (fun s => if s.fc.state = .fault then s else withFc (fun f => { f with stallLog := f.stallLog.tail }) s) s
  case fallbackOnEnd => exact event_next .fallbackOnEnd (inFridge .fallbackOn fun s => toFallbackOff (commandOff s)) s
  case fallbackOffEnd => exact event_next .fallbackOffEnd (inFridge .fallbackOff (toFallbackOn true)) s
  case fdoorHanding st => exact event_next (.fdoorHanding st) (fridgeDoor st) s
  case doorTimerExpiry => exact event_next .doorTimerExpiry doorAlert s
  case ventRunEnd => exact event_next .ventRunEnd ventRunReached s
  case ventGrantReport grant st => exact event_next (.ventGrantReport grant st) (ventGrantIn grant) s
  case lightGrantReport g grant st => exact event_next (.lightGrantReport g grant st) (lightsGrant g grant) s
  case lightTripReport g o => exact event_next (.lightTripReport g o) (lightsTrip g (some o)) s
  case lightLevelChange level => exact event_next (.lightLevelChange level) (lightsLevel level) s
  case fadeStep ch => exact event_next (.fadeStep ch) (fadeStep ch) s
  case lightScene n => exact event_next (.lightScene n) (fun s => answerWith (sceneRequest n s)) s
  case cdoorHanding st => exact event_next (.cdoorHanding st) (lightsDoor st) s
  case entryTimerExpiry => exact event_next .entryTimerExpiry entryTimeout s
  case keyScan reads => exact event_next (.keyScan reads) (keyScan reads) s
  case holdTimerExpiry k => exact event_next (.holdTimerExpiry k) (holdOver k) s
  case columnWakeEdge => exact event_next .columnWakeEdge wakeEdge s
  case readKeys => exact event_next .readKeys readKeys s
  case clearKeys => exact event_next .clearKeys clearKeys s
  case contactInputChange c l => exact execContactInputChange_next c l s
  case debounceExpiry c => exact event_next (.debounceExpiry c) (debounceOver c) s
  case chimeRequest pattern => exact event_next (.chimeRequest pattern) (fun s => (judgeChime pattern s).1) s
  case playChime pattern => exact event_next (.playChime pattern) (fun s => answerWith (chimeStatus pattern s)) s
  case silenceChime => exact event_next .silenceChime (fun s => answer .ok [] (stopChimes s)) s
  case chimePhaseEnd => exact event_next .chimePhaseEnd chimePhase s
  case panelGrantReport grant st => exact event_next (.panelGrantReport grant st) (panelGrant grant) s
  case moveHanding st => exact event_next (.moveHanding st) (restMove st) s
  case ignHanding st => exact event_next (.ignHanding st) (restIgn st) s
  case stopConfirmExpiry => exact event_next .stopConfirmExpiry stopConfirmed s
  case declareRest => exact event_next .declareRest (fun s => answerWith (declareRest s)) s
  case endRest => exact event_next .endRest (fun s => answerWith (endRest s)) s
  case limitRepeatExpiry => exact event_next .limitRepeatExpiry limitRepeats s
  case plannedEndReached => exact event_next .plannedEndReached plannedEndNow s
  case endSoonReached => exact event_next .endSoonReached endSoonNow s
  case setClock time => exact event_next (.setClock time) (setClock time) s
  case addEntry time rep state action =>
    exact event_next (.addEntry time rep state action) (addEntry time rep state action) s
  case removeEntry slot => exact event_next (.removeEntry slot) (removeEntry slot) s
  case prewarmEntryPlace time setpoint duration =>
    exact event_next (.prewarmEntryPlace time setpoint duration) (prewarmPlace time setpoint duration) s
  case prewarmEntryMove time setpoint duration =>
    exact event_next (.prewarmEntryMove time setpoint duration) (prewarmMove time setpoint duration) s
  case prewarmEntryRemove => exact event_next .prewarmEntryRemove prewarmRemove s
  case rxByte b => exact event_next (.rxByte b) (receive b) s
  case rxGapTimeout => exact event_next .rxGapTimeout rxGap s
  case linkBreak => exact event_next .linkBreak linkBroken s
  case rxdWakeEdge => exact event_next .rxdWakeEdge wakeEdge s
  case requestTake => exact resettingEvent_next .requestTake takeRequest s
  case replySent => exact resettingEvent_next .replySent replySent s
  case noticePost p => exact event_next (.noticePost p) (queueNotice p) s
  case fetchNotices => exact event_next .fetchNotices fetch s
  case attnPulseEnd => exact event_next .attnPulseEnd pulseOver s
  case get record list start count => exact event_next (.get record list start count) (getOp record list start count) s
  case put record elem expected values =>
    exact event_next (.put record elem expected values) (putOp record elem expected values) s
  case fieldWrite record ws => exact event_next (.fieldWrite record ws) (fieldWriteOp record ws) s
  case adjust record field elem delta =>
    exact event_next (.adjust record field elem delta) (adjustFor record field elem delta) s
  case exchange record field elem value =>
    exact event_next (.exchange record field elem value) (exchangeOp record field elem value) s
  case compareWrite record field elem expected value =>
    exact event_next (.compareWrite record field elem expected value) (compareOp record field elem expected value) s
  case batteryWrite ws => exact event_next (.batteryWrite ws) (fieldWriteOp 3 ws) s
  case channelsWrite ws => exact event_next (.channelsWrite ws) (fieldWriteOp 8 ws) s
  case tripsWrite ws => exact event_next (.tripsWrite ws) (fieldWriteOp 10 ws) s
  case consumersWrite ws => exact event_next (.consumersWrite ws) (fieldWriteOp 5 ws) s
  case demandsWrite ws => exact event_next (.demandsWrite ws) (fieldWriteOp 7 ws) s
  case socketsWrite ws => exact event_next (.socketsWrite ws) (fieldWriteOp 17 ws) s
  case heaterSetWrite ws => exact event_next (.heaterSetWrite ws) (fieldWriteOp 11 ws) s
  case fridgeSetWrite ws => exact event_next (.fridgeSetWrite ws) (fieldWriteOp 14 ws) s
  case ventWrite ws => exact event_next (.ventWrite ws) (fieldWriteOp 16 ws) s
  case lightsWrite ws => exact event_next (.lightsWrite ws) (fieldWriteOp 18 ws) s
  case panelWrite ws => exact event_next (.panelWrite ws) (fieldWriteOp 21 ws) s
  case contactsWrite ws => exact event_next (.contactsWrite ws) (fieldWriteOp 22 ws) s
  case restProfileWrite ws => exact event_next (.restProfileWrite ws) (fieldWriteOp 24 ws) s
  case restStatePut drive acc log => exact event_next (.restStatePut drive acc log) (restPut none drive acc log) s
  case scheduleWrite ws => exact event_next (.scheduleWrite ws) (fieldWriteOp 26 ws) s
  case recordWrite r ws => exact event_next (.recordWrite r ws) (fieldWriteOp (plainId r) ws) s
  case standby => exact event_next .standby standby s
  case restart quiet => exact resettingEvent_next (.restart quiet) (restart quiet) s
  case saveSettings => exact event_next .saveSettings saveSettings s
  case storeWriteDone part => exact resettingEvent_next (.storeWriteDone part) (storeWritten part) s
  case rxStartBit => exact event_next .rxStartBit startBit s

/-- Every step ends in a next state. -/
theorem step_next (s : State) : ∃ t, step s = .next t := by
  unfold step
  split
  · exact exec_next _ _
  · split
    · exact exec_next _ _
    · exact ⟨_, rfl⟩

end Sys2Proof.Machine
end

