-- ==== Sys2Proof/Tests/Slice0.lean ====
section
/-! SUPPORT. Small tests of the model, with expected values from the spec's tables and worked examples, the smoke tests of
WellFormed, and for every statement with hypotheses a concrete state and operands that meet them. -/

namespace Sys2Proof.Tests

open Sys2Proof Sys2Proof.Machine

-- The kernel evaluates one test at a time: side by side they hold more threads than the memory allows.
set_option Elab.async false

/-! ### WellFormed: an ill-formed command for each check -/

theorem test_refuses_13_bit_code : (Instr.conversion .vh 4096).wellFormed = false := by decide
theorem test_refuses_horizon_0 : (Instr.horizonChange 0).wellFormed = false := by decide
theorem test_refuses_horizon_1441 : (Instr.horizonChange 1441).wellFormed = false := by decide
theorem test_refuses_budget_401 : (Instr.budgetReport ⟨.normal, 401, []⟩).wellFormed = false := by decide
theorem test_refuses_class_twice : (Instr.budgetReport ⟨.normal, 0, [1, 1]⟩).wellFormed = false := by decide
theorem test_refuses_demand_0 : (Instr.placeRequest .heat ⟨0, 0, none, false⟩).wellFormed = false := by decide
theorem test_refuses_demand_401 : (Instr.changeRequest .heat ⟨401, 1, none, false⟩).wellFormed = false := by decide
theorem test_refuses_dmin_0 : (Instr.placeRequest .heat ⟨5, 0, none, false⟩).wellFormed = false := by decide
theorem test_refuses_dmin_above_d : (Instr.placeRequest .heat ⟨5, 6, none, false⟩).wellFormed = false := by decide
theorem test_refuses_no_steps : (Instr.placeRequest .heat ⟨5, 5, some [], false⟩).wellFormed = false := by decide
theorem test_refuses_five_steps :
    (Instr.placeRequest .heat ⟨5, 1, some [1, 2, 3, 4, 5], false⟩).wellFormed = false := by decide
theorem test_refuses_falling_steps :
    (Instr.placeRequest .heat ⟨5, 2, some [2, 4, 3, 5], false⟩).wellFormed = false := by decide
theorem test_refuses_first_step_not_dmin :
    (Instr.placeRequest .heat ⟨5, 2, some [3, 5], false⟩).wellFormed = false := by decide
theorem test_refuses_last_step_not_d :
    (Instr.placeRequest .heat ⟨5, 2, some [2, 4], false⟩).wellFormed = false := by decide
theorem test_refuses_heater_grant_401 : (Instr.heaterGrantReport 401 .granted).wellFormed = false := by decide
theorem test_refuses_fridge_grant_401 : (Instr.fridgeGrantReport 401 .granted).wellFormed = false := by decide
theorem test_refuses_vent_grant_401 : (Instr.ventGrantReport 401 .granted).wellFormed = false := by decide
theorem test_refuses_light_grant_401 : (Instr.lightGrantReport .cab 401 .granted).wellFormed = false := by decide
theorem test_refuses_panel_grant_401 : (Instr.panelGrantReport 401 .granted).wellFormed = false := by decide
theorem test_refuses_trip_of_T2_at_heater : (Instr.heaterTripReport .t2 .latched).wellFormed = false := by decide
theorem test_refuses_retry_step_0 : (Instr.heaterTripReport .t0 (.tripped 0)).wellFormed = false := by decide
theorem test_refuses_retry_step_4 : (Instr.stall (.tripped 4)).wellFormed = false := by decide
theorem test_refuses_light_retry_step_4 : (Instr.lightTripReport .bunk (.tripped 4)).wellFormed = false := by decide
theorem test_refuses_channel_256 : (Instr.suspectChannel 256).wellFormed = false := by decide
theorem test_refuses_clear_channel_256 : (Instr.clearSuspect 256).wellFormed = false := by decide
theorem test_refuses_consumer_256 : (Instr.clearTrip 256).wellFormed = false := by decide
theorem test_refuses_scene_256 : (Instr.lightScene 256).wellFormed = false := by decide
theorem test_refuses_pattern_256 : (Instr.playChime 256).wellFormed = false := by decide
theorem test_refuses_slot_256 : (Instr.removeEntry 256).wellFormed = false := by decide
theorem test_refuses_setpoint_of_17_bits : (Instr.heatStart 65536 none).wellFormed = false := by decide
theorem test_refuses_duration_of_the_absent_marker : (Instr.heatStart 200 (some 65535)).wellFormed = false := by decide
theorem test_refuses_time_of_33_bits : (Instr.setClock 4294967296).wellFormed = false := by decide
theorem test_refuses_entry_time_of_33_bits : (Instr.addEntry 4294967296 0 0 none).wellFormed = false := by decide
theorem test_refuses_entry_repeat_256 : (Instr.addEntry 0 256 0 none).wellFormed = false := by decide
theorem test_refuses_entry_state_256 : (Instr.addEntry 0 0 256 none).wellFormed = false := by decide
theorem test_refuses_entry_scene_256 : (Instr.addEntry 0 0 0 (some (.scene 256))).wellFormed = false := by decide
theorem test_refuses_entry_chime_256 : (Instr.addEntry 0 0 0 (some (.chime 256))).wellFormed = false := by decide
theorem test_refuses_entry_vent_256 : (Instr.addEntry 0 0 0 (some (.vent 256))).wellFormed = false := by decide
theorem test_refuses_entry_duration_of_the_absent_marker :
    (Instr.addEntry 0 0 0 (some (.heatStart 200 (some 65535)))).wellFormed = false := by decide
theorem test_refuses_prewarm_time_of_33_bits : (Instr.prewarmEntryPlace 4294967296 200 30).wellFormed = false := by decide
theorem test_refuses_prewarm_setpoint_49 : (Instr.prewarmEntryPlace 0 49 30).wellFormed = false := by decide
theorem test_refuses_prewarm_setpoint_301 : (Instr.prewarmEntryMove 0 301 30).wellFormed = false := by decide
theorem test_refuses_prewarm_duration_0 : (Instr.prewarmEntryPlace 0 200 0).wellFormed = false := by decide
theorem test_refuses_prewarm_duration_721 : (Instr.prewarmEntryMove 0 200 721).wellFormed = false := by decide
theorem test_refuses_notice_of_four_bytes :
    (Instr.noticePost ⟨.sensor, .mu, .info, false, [0, 0, 0, 0]⟩).wellFormed = false := by decide
theorem test_refuses_get_record_256 : (Instr.get 256 0 0 0).wellFormed = false := by decide
theorem test_refuses_get_list_256 : (Instr.get 1 256 0 0).wellFormed = false := by decide
theorem test_refuses_get_start_256 : (Instr.get 1 0 256 0).wellFormed = false := by decide
theorem test_refuses_get_count_256 : (Instr.get 1 0 0 256).wellFormed = false := by decide
theorem test_refuses_put_record_256 : (Instr.put 256 none none []).wellFormed = false := by decide
theorem test_refuses_put_element_255 : (Instr.put 11 (some 255) none []).wellFormed = false := by decide
theorem test_refuses_put_revision_256 : (Instr.put 11 none (some 256) []).wellFormed = false := by decide
theorem test_refuses_write_record_256 : (Instr.fieldWrite 256 []).wellFormed = false := by decide
theorem test_refuses_write_field_256 : (Instr.fieldWrite 11 [⟨256, none, none⟩]).wellFormed = false := by decide
theorem test_refuses_write_element_255 : (Instr.fieldWrite 11 [⟨1, some 255, none⟩]).wellFormed = false := by decide
theorem test_refuses_adjust_record_256 : (Instr.adjust (.host 256) 1 none 0).wellFormed = false := by decide
theorem test_refuses_adjust_field_256 : (Instr.adjust (.host 11) 256 none 0).wellFormed = false := by decide
theorem test_refuses_adjust_element_255 : (Instr.adjust (.host 11) 1 (some 255) 0).wellFormed = false := by decide
theorem test_refuses_adjust_below : (Instr.adjust (.host 11) 1 none (-32769)).wellFormed = false := by decide
theorem test_refuses_adjust_above : (Instr.adjust (.host 11) 1 none 32768).wellFormed = false := by decide
theorem test_refuses_panel_adjust_of_another_field :
    (Instr.adjust (.panel 1 11) 1 none 5).wellFormed = false ∧ (Instr.adjust (.panel 1 18) 2 (some 0) 100).wellFormed = false := by
  decide
theorem test_refuses_panel_adjust_of_a_seventh_channel :
    (Instr.adjust (.panel 1 18) 1 (some 6) 100).wellFormed = false
      ∧ (Instr.adjust (.panel 1 18) 1 (some 0) 50).wellFormed = false := by decide
theorem test_refuses_exchange_record_256 : (Instr.exchange 256 1 none none).wellFormed = false := by decide
theorem test_refuses_exchange_field_256 : (Instr.exchange 11 256 none none).wellFormed = false := by decide
theorem test_refuses_exchange_element_255 : (Instr.exchange 11 1 (some 255) none).wellFormed = false := by decide
theorem test_refuses_compare_record_256 : (Instr.compareWrite 256 1 none none none).wellFormed = false := by decide
theorem test_refuses_compare_field_256 : (Instr.compareWrite 11 256 none none none).wellFormed = false := by decide
theorem test_refuses_compare_element_255 : (Instr.compareWrite 11 1 (some 255) none none).wellFormed = false := by decide
theorem test_refuses_bad_field_in_each_record_write :
    ∀ ws ∈ [[(⟨256, none, none⟩ : FieldWrite)]], ∀ i ∈ [Instr.batteryWrite ws, .channelsWrite ws, .tripsWrite ws,
      .consumersWrite ws, .demandsWrite ws, .socketsWrite ws, .heaterSetWrite ws, .fridgeSetWrite ws, .ventWrite ws,
      .lightsWrite ws, .panelWrite ws, .contactsWrite ws, .restProfileWrite ws, .scheduleWrite ws,
      .recordWrite .scenes ws], i.wellFormed = false := by decide
theorem test_refuses_rest_drive_of_25_bits : (Instr.restStatePut 16777216 0 []).wellFormed = false := by decide
theorem test_refuses_rest_accumulator_of_17_bits : (Instr.restStatePut 0 65536 []).wellFormed = false := by decide
theorem test_refuses_nine_rest_segments :
    (Instr.restStatePut 0 0 (List.replicate 9 ⟨0, none⟩)).wellFormed = false := by decide
theorem test_takes_a_stepped_request :
    (Instr.placeRequest .heat ⟨26, 14, some [14, 20, 26], false⟩).wellFormed = true := by decide

/-! ### The formulas, against the spec's examples -/

/-- R4's table. -/
theorem test_scaling_examples :
    [scaled .vh 2048, scaled .vh 2600, scaled .ih 2047, scaled .ih 2048, scaled .tc 1316, scaled .tc 1317]
      = [20004, 25439, -8, 7, -1, 0] := by decide

/-- The worked example of section 1.4. -/
theorem test_filter_steps :
    [filterStep 3 (some 200) 260, filterStep 3 (some 213) 260, filterStep 3 (some 227) 190] = [207, 218, 223] := by decide

/-- R13's default thresholds. -/
theorem test_default_thresholds :
    [thresholdMa .t0 10, thresholdMa .t1 12, thresholdMa .t2 11, thresholdMa .t4 12] = [7500, 3000, 8250, 9000] := by decide

/-- R25's lookups. -/
theorem test_ocv_lookups :
    [ocvLookup batteryDefault 22900, ocvLookup batteryDefault 23700, ocvLookup batteryDefault 24250] = [0, 148, 403] := by decide

/-- The worked case of section 2.8: A_fit 4,444 mA and B 36 d-amps. -/
theorem test_budget_of_36 :
    fitCurrent batteryDefault (some 160000) 540 = 4444 ∧ budgetOf batteryDefault .conserve (some 160000) 540 = 36 := by decide

/-- R82's table of periods. -/
theorem test_stroke_periods : [90, 120, 240, 380].map strokePeriod = [1111, 833, 417, 263] := by decide

/-- Section 11.5's example: the CRC over 03 00 05 10 runs 0x09, 0x3F, 0xA6, 0x0B. -/
theorem test_crc_example :
    [crc8 [3], crc8 [3, 0], crc8 [3, 0, 5], crc8 [3, 0, 5, 0x10]] = [0x09, 0x3F, 0xA6, 0x0B] := by decide

/-! ### Single commands, against the spec's worked sequences -/

/-- The next state of an outcome, tested. -/
def nextIs (o : Host.Outcome State Fault Refusal) (p : State → Bool) : Bool :=
  match o with
  | .next t => p t
  | .fault _ => false
  | .refused _ => false

/-- The reset state with the charge and its residue given. -/
def charged (c : Nat) (residue : Int) : State :=
  let s := State.reset
  { s with cc := { s.cc with c := some c, residue := residue, starting := false } }

/-- R4's example at the channel table. -/
theorem test_conversion_of_VH :
    nextIs (exec (.conversion .vh 2600) .reset)
      (fun t => (chanOf t .vh).filtered == some 25439 && statusOf t .vh == .valid) = true := by decide +kernel

/-- R5, R8: the third code out of range sets the range mark. -/
theorem test_third_open_code_is_suspect :
    let s := State.reset
    nextIs (exec (.conversion .tf 4080) { s with mu := { s.mu with
        scanLeft := [.tf]
        chan := tset s.mu.chan 4 { tget s.mu.chan 4 with outCount := 2, sample := some 40, filtered := some 41 } } })
      (fun t => statusOf t .tf == .suspect && (chanOf t .tf).filtered == some 41) = true := by decide +kernel

/-- The worked case of section 2.3: sample 6 of -6.5 A moves one mAh. -/
theorem test_sixth_sample_moves_a_mAh :
    moveCharge 400000 160000 (-325000 + contribution 92 1 (-650)) = (159999, -30000) := by decide +kernel

/-- The clamp at Cap (section 2.3). -/
theorem test_clamp_at_cap : moveCharge 400000 400000 (264000 + contribution 92 1 1500) = (400000, 0) := by decide +kernel

/-- The worked pass of section 3.8: grants 1, 20, 13, 2, 0 and nothing left. -/
theorem test_worked_pass :
    let s := State.reset
    let put (c : Consumer) (r : Request) (v : Vector ConsumerEntry 8) := tset v (consIx c) { tget v (consIx c) with request := some r }
    let entries := put .panel ⟨1, 1, none, false⟩ (put .heat ⟨26, 14, some [14, 20, 26], false⟩
      (put .fridge ⟨18, 9, some [9, 13, 18], false⟩ (put .bunk ⟨5, 2, none, false⟩
        (put .socketA ⟨20, 20, none, false⟩ s.ga.entries))))
    nextIs (exec (.budgetReport ⟨.conserve, 36, allClasses⟩) { s with ga := { s.ga with entries := entries } })
      (fun t => (t.ga.entries.toList.map (·.grant)) == [1, 20, 13, 2, 0, 0, 0, 0] && t.ga.remainder == 0) = true := by decide +kernel

/-- A supply below 8.0 V holds the part in reset (R190). -/
theorem test_supply_falls : nextIs (exec (.supplyChange 7999) .reset) (fun t => t.mc.supply == .held false) = true := by decide +kernel

/-- A contact input that changes while the part is held in reset stands at its new level after it, with the timer running, and the
first expiry hands the state it gives (R128, R190): MOVE at HIGH, its active level. -/
theorem test_input_in_reset_is_followed :
    (match exec (.contactInputChange .move .high) { State.reset with mc := { State.reset.mc with supply := .held true } } with
      | .next t => (match exec .powerOnReset t with
        | .next u => contactOf u .move == ⟨.high, none, .unknown, some 500⟩
            && nextIs (exec (.debounceExpiry .move) u) (fun v => v.handed.contains (.moveHanding .active))
        | _ => false)
      | _ => false) = true := by decide +kernel

/-- HEAT VENT in OFF (R86). -/
theorem test_heat_vent :
    nextIs (exec (.heatVent true) .reset) (fun t => t.hc.state == .vent
      && t.asked.toList[1]! == some ⟨6, 3, none, false⟩) = true := by decide +kernel

/-- HEAT START above the setpoint's range is CLAMPED (R65). -/
theorem test_heat_start_clamped :
    nextIs (exec (.heatStart 301 none) .reset)
      (fun t => t.answer == some ⟨.clamped, []⟩ && t.hc.state == .waitPower && t.cfg.heaterSet.setpoint == 300) = true := by decide +kernel

/-- FRIDGE BOOST runs an hour (R92). -/
theorem test_boost_runs_an_hour :
    nextIs (exec (.fridgeBoost true) .reset) (fun t => t.fc.boostEnd == some 3600) = true := by decide +kernel

/-- LIGHT SCENE 1 of R115. -/
theorem test_scene_1 :
    nextIs (exec (.lightScene 1) .reset)
      (fun t => (t.lc.chan.toList.map (·.target)) == [600, 600, 400, 400, 400, 400]) = true := by decide +kernel

/-- The worked sequence of section 7.3: the closures of keys 1 and 2 at one scan contest each other. -/
theorem test_two_keys_are_contested :
    let s := State.reset
    nextIs (exec (.keyScan 6) { s with pn := { s.pn with
        keys := tset (tset s.pn.keys 1 ⟨true, 1, .opened, false⟩) 2 ⟨true, 1, .opened, false⟩ } })
      (fun t => (keyOf t 1).state == .contested && (keyOf t 2).state == .contested) = true := by decide +kernel

/-- DECLARE REST is refused with STATE while MOVE is UNKNOWN (R138). -/
theorem test_declare_rest_refused :
    nextIs (exec .declareRest .reset) (fun t => t.answer == some ⟨.state, []⟩ && t.rm.state == .unknown) = true := by decide +kernel

/-- SET CLOCK on a fresh part (R155). -/
theorem test_set_clock :
    nextIs (exec (.setClock 1000) .reset) (fun t => cabTime t == 1000 && t.su.lastDelta == some 1000) = true := by decide +kernel

/-- The setpoint edited from two sides, host first (section 10.6): OK, old 200, MATCHED set. -/
theorem test_compare_write :
    nextIs (exec (.compareWrite 11 1 none (some 200) (some 230)) .reset)
      (fun t => t.cfg.heaterSet.setpoint == 230 && t.answer == some ⟨.ok, [1, 0xC8, 0x00, 2]⟩) = true := by decide +kernel

/-- The example frame of section 11.5: its last byte completes a FETCH NOTICES with tag 5. -/
theorem test_frame_completes :
    let s := State.reset
    nextIs (exec (.rxByte 0x0B) { s with lk := { s.lk with rx := .check 3 [0x00, 0x05, 0x10] } })
      (fun t => t.lk.queue == [[0x00, 0x05, 0x10]] && t.lk.rx == .hunt) = true := by decide +kernel

/-- STANDBY with every load off is accepted (R188). -/
theorem test_standby :
    let s := State.reset
    nextIs (exec .standby { s with fc := { s.fc with state := .off } })
      (fun t => t.mc.mode == .standby && t.answer == some ⟨.ok, []⟩) = true := by decide +kernel

/-- The SILENCE key that ends the last chime at silence 120 is a wake source of the event DOZE could be entered at: the part
stays AWAKE with the silence time 0 (R187). -/
theorem test_wake_source_before_doze :
    nextIs (exec (.keyScan 1#16) { State.reset with
        mc := { State.reset.mc with silence := 120 }
        cfg := { State.reset.cfg with
          panel := { State.reset.cfg.panel with click := false }, keymap := tset State.reset.cfg.keymap 0 ⟨.silence, 0, 0⟩ }
        pn := { State.reset.pn with
          grant := 1, player := some ⟨2, ⟨4, 200, 300, 3, 2⟩, 1, true, 200, false⟩
          keys := tset State.reset.pn.keys 0 ⟨true, 1, .opened, false⟩ } })
      (fun t => t.mc.mode == .awake && t.mc.silence == 0 && t.pn.player.isNone) = true := by decide +kernel

/-- A SCHEDULE slot's PUT takes its layout's order, the action behind the state (R185). -/
theorem test_schedule_put_order :
    (putSlots { State.reset with su := { State.reset.su with
        slots := tset State.reset.su.slots 0 (some ⟨false, 500, false, .heatStop, .done, none⟩) } } 26 (some 0)).map (·.id)
      = [2, 3, 5, 4] := by decide +kernel

/-- REST_STATE's drive counter is given in 4 bytes by an EXCHANGE, of a record that takes none (R184, R165). -/
theorem test_exchange_of_drive :
    nextIs (exec (.exchange 25 5 none (some 16777216)) .reset) (fun t => t.answer.map (·.status) == some .readOnly) = true := by
  decide +kernel

/-- A SCHEDULE write in STANDBY that makes an entry due advances the revision twice: the write and the firing (R174, R189). -/
theorem test_standby_write_and_firing :
    nextIs (exec (.scheduleWrite [⟨2, some 0, some 0⟩]) { State.reset with
        mc := { State.reset.mc with mode := .standby }
        pn := { State.reset.pn with standby := true }
        su := { State.reset.su with
          unset := false, slots := tset State.reset.su.slots 0 (some ⟨false, 500, false, .heatStop, .armed, none⟩) } })
      (fun t => tget t.rev 25 == 2 && t.mc.mode == .awake) = true := by decide +kernel

/-- A second of a stop advances REST_STATE's revision (R152). -/
theorem test_stop_segment_advances_the_revision :
    nextIs (exec .elapsedTick { State.reset with rm := { State.reset.rm with state := .stopped, stopSeg := some ⟨0, false⟩ } })
      (fun t => tget t.rev 24 == 1) = true := by decide +kernel

/-- No word spells a command: the table gives no row any bits. -/
theorem test_no_word_spells : decodeTableWord 8 0 = none ∧ State.withFetchWord .reset 8 0 = .reset := by decide +kernel

/-! ### Witnesses: states and operands that meet the statements' hypotheses -/

/-- The reset state with changed parts of the blocks a witness speaks of. -/
def withHeater (f : HeaterUnit → HeaterUnit) : State := { State.reset with hc := f State.reset.hc }
def withFridge (f : FridgeUnit → FridgeUnit) : State := { State.reset with fc := f State.reset.fc }
def withPanel (f : PanelUnit → PanelUnit) : State := { State.reset with pn := f State.reset.pn }
def withRest (f : RestUnit → RestUnit) : State := { State.reset with rm := f State.reset.rm }
def withLink (f : LinkUnit → LinkUnit) : State := { State.reset with lk := f State.reset.lk }
def withMode (f : ModeUnit → ModeUnit) : State := { State.reset with mc := f State.reset.mc }
def withLights (f : LightUnit → LightUnit) : State := { State.reset with lc := f State.reset.lc }

/-- A heater in a state, with TX and TH VALID at a filtered TX. -/
def heaterAt (st : HeaterState) (tx : Int) (f : HeaterUnit → HeaterUnit) (s : State) : State :=
  let warm (e : ChanEntry) : ChanEntry := { e with filtered := some tx, sample := some tx, status := .valid }
  { s with
    hc := f { s.hc with state := st }
    mu := { s.mu with chan := tset (tset s.mu.chan 6 (warm (tget s.mu.chan 6))) 5 (warm (tget s.mu.chan 5)) } }

/-- A heater that meets the heater's invariant in RUN. -/
def running : State :=
  heaterAt .run 6000 (fun h => { h with stroke := some 833, desired := some .low, effective := some .low }) .reset

/-- A channel VALID and settled at an in-range code's value, next in the scan: its conversion at that code leaves it there. -/
def settled (ch : Channel) (code : Nat) (s : State) : State :=
  { s with mu := { s.mu with
      scanLeft := [ch]
      chan := tset s.mu.chan (chanIx ch) { tget s.mu.chan (chanIx ch) with
        sample := some (scaled ch code), filtered := some (scaled ch code), status := .valid } } }

/-- The same with another channel VALID at a value. -/
def reading (ch : Channel) (v : Int) (s : State) : State :=
  { s with mu := { s.mu with chan := tset s.mu.chan (chanIx ch) { tget s.mu.chan (chanIx ch) with
      sample := some v, filtered := some v, status := .valid } } }

/-- The same at an elapsed time. -/
def at_ (elapsed : Nat) (s : State) : State := { s with su := { s.su with elapsed := elapsed } }

theorem witness_StepRunsFrontCommand :
    ({ State.reset with pending := [.elapsedTick, .heatStop] } : State).pending = .elapsedTick :: [.heatStop] := rfl

theorem witness_HandingsAreTakenInOrder :
    (State.reset.pending = [] ∧ State.reset.handed = [.placeRequest .panel (panelRequest demandsDefault)])
      ∧ (let s : State := { State.reset with handed := [] }; s.pending = [] ∧ s.handed = [])
      ∧ State.reset.mc.supply = .running ∧ mayReset (.placeRequest .panel (panelRequest demandsDefault)) = false
      ∧ (∃ t, exec (.placeRequest .panel (panelRequest demandsDefault)) .reset = .next t)
      ∧ State.reset.mc.mode ≠ .standby
      ∧ (withMode fun m => { m with mode := .standby }).mc.supply = .running ∧ mayReset .rxdWakeEdge = false
      ∧ ∃ t, exec .rxdWakeEdge (withMode fun m => { m with mode := .standby }) = .next t :=
  ⟨by decide, by decide, by decide, by decide, exec_next _ _, by decide, by decide, by decide, exec_next _ _⟩

theorem witness_StepKeepsHeaterSound :
    heaterSound running ∧ (∃ t, step running = .next t) :=
  ⟨⟨by decide, by decide, by decide, by decide, by decide, by decide, by decide, by unfold running; decide,
    fun p h => absurd h (by simp [running, heaterAt, State.reset, modeReset]),
    fun p h => absurd h (by simp [running, heaterAt, State.reset, modeReset])⟩, step_next _⟩

theorem next_of_nextIs {o : Host.Outcome State Fault Refusal} {p : State → Bool} (h : nextIs o p = true) :
    ∃ t, o = .next t ∧ p t = true := by
  unfold nextIs at h
  split at h
  · exact ⟨_, rfl, h⟩
  · exact absurd h (by simp)
  · exact absurd h (by simp)

theorem witness_StepKeepsFlameGuarded : flameGuarded running ∧ burning running.hc.state = true ∧ ∃ t, step running = .next t :=
  ⟨⟨fun ch => by cases ch <;> decide, fun _ => by decide⟩, by decide, step_next _⟩

theorem witness_StepKeepsBoundsSound :
    fridgeSound running ∧ chargeSound (charged 400000 359999) ∧ queuesSound running
      ∧ (∃ t, step running = .next t) ∧ ∃ t, step (charged 400000 359999) = .next t :=
  ⟨by unfold fridgeSound; decide, ⟨fun c h => by cases h; decide, by decide, by decide, by decide, by decide⟩,
    by unfold queuesSound; decide, step_next _, step_next _⟩

theorem listsSound_reset : listsSound .reset :=
  fun k => ⟨by revert k; decide, fun c => by revert k; cases c <;> decide⟩

theorem witness_StepKeepsGrantSound : grantSound running ∧ (∃ t, step running = .next t) ∧ listsSound .reset ∧ ∃ t, step .reset = .next t :=
  ⟨⟨by decide, fun c => by cases c <;> exact fun h => absurd h (by decide)⟩, step_next _, listsSound_reset, step_next _⟩

theorem witness_StepKeepsLightsAndRequestsSound :
    lightsSound .reset ∧ requestsSound .reset ∧ ∃ t, step .reset = .next t :=
  ⟨fun i => ⟨by revert i; decide, fun f h => by
      have none : ∀ i, (lightOf .reset i).fade = none := by decide
      rw [none i] at h; exact absurd h (by simp), by revert i; decide⟩,
    ⟨by decide, by decide, by decide, by decide, by decide, by decide, fun k => by cases k <;> decide⟩, step_next _⟩

theorem witness_CommandStaysInItsFootprint : ∃ t, exec .elapsedTick running = .next t := exec_next _ _

theorem witness_DozeEnteredOnlyWhenAllowed :
    ∃ t, exec .elapsedTick (withMode fun m => { m with silence := 119 }) = .next t
      ∧ (t.mc.mode == .doze && (withMode fun m => { m with silence := 119 }).mc.mode != .doze) = true :=
  next_of_nextIs (by decide +kernel)

theorem witness_ChangedRecordAdvancesRevision :
    State.reset.mc.supply = .running ∧ mayReset (.suspectChannel 0) = false ∧ mayReset (.setClock 5) = false
      ∧ (∃ t, exec (.suspectChannel 0) .reset = .next t ∧ (recordView State.reset 9 != recordView t 9
          && t.su.offset == State.reset.su.offset && t.su.unset && t.su.lastDelta == State.reset.su.lastDelta) = true)
      ∧ ∃ t, exec (.setClock 5) .reset = .next t ∧ (t.su.offset != State.reset.su.offset) = true :=
  ⟨by decide, by decide, by decide, next_of_nextIs (by decide +kernel), next_of_nextIs (by decide +kernel)⟩

/-- A part whose charge lies below the reserve, with IH VALID, right before a minute end. -/
def low : State :=
  let s := charged 100000 0
  { s with mu := { s.mu with chan := tset s.mu.chan 1 { tget s.mu.chan 1 with sample := some (-650), status := .valid } } }

theorem witness_LevelChangeIsHandedAndHeld :
    low.mc.supply = .running ∧ mayReset .minuteEnd = false ∧ mayReset (.suspectChannel 1) = false
      ∧ (∃ t, exec .minuteEnd low = .next t ∧ (t.cc.level != low.cc.level) = true)
      ∧ (let s := { low with cc := { low.cc with c := some 400000, level := .conserve, relief := 4, horizon := 60 } };
          ∃ t, exec .minuteEnd s = .next t ∧ decide (levelCode t.cc.level < levelCode s.cc.level) = true)
      ∧ (let s := { low with cc := { low.cc with level := .cutoff } };
          ∃ t, exec (.suspectChannel 1) s = .next t ∧ decide (levelCode t.cc.level < levelCode s.cc.level) = true) :=
  ⟨by decide, by decide, by decide, next_of_nextIs (by decide +kernel), next_of_nextIs (by decide +kernel),
    next_of_nextIs (by decide +kernel)⟩

theorem witness_BurningEndsInPurgeOrDryCool :
    mayReset .heatStop = false ∧ burning running.hc.state = true
      ∧ ∃ t, exec .heatStop running = .next t ∧ (t.hc.state == .purge) = true :=
  ⟨by decide, by decide, next_of_nextIs (by decide +kernel)⟩

theorem witness_SupplyMonitorHoldsAndReleases :
    (State.reset.mc.supply = .running ∧ 7999 < 8000 ∧ 8000 ≤ 8000)
      ∧ (withMode fun m => { m with supply := .held true }).mc.supply = .held true
      ∧ Instr.elapsedTick ≠ .powerOnReset ∧ (∀ mv, Instr.elapsedTick ≠ .supplyChange mv)
      ∧ ∀ c l, Instr.elapsedTick ≠ .contactInputChange c l :=
  ⟨by decide, rfl, by decide, fun _ => by simp, fun _ _ => by simp⟩

theorem witness_PowerOnResetRestoresTheStore :
    (let s := withMode fun m => { m with settingsPart := some ⟨settingsDefault, #v[none, none, none, none, none, none, none, none]⟩, heaterPart := some ⟨3, 0, true⟩ };
      s.mc.supply ≠ .held false ∧ s.mc.saving = none ∧ s.mc.settingsPart.isSome ∧ s.mc.heaterWrite = none
        ∧ s.mc.heaterPart = some ⟨3, 0, true⟩)
      ∧ State.reset.mc.settingsPart = none ∧ State.reset.mc.heaterPart = none
      ∧ (withMode fun m => { m with heaterWrite := some ⟨1, 0, false⟩ }).mc.heaterWrite.isSome
      ∧ (withMode fun m => { m with saving := some ⟨settingsDefault, #v[none, none, none, none, none, none, none, none]⟩ }).mc.saving.isSome
      ∧ (withMode fun m => { m with supply := .held false }).mc.supply = .held false
      ∧ (withMode fun m => { m with supply := .held true }).mc.supply ≠ .held false := by decide

theorem witness_TickAdvancesTheClock :
    (let s := { withHeater (fun h => { h with durationEnd := some 60 }) with
        fc := { State.reset.fc with boostEnd := some 60, ventRunEnd := some 60 }
        ga := { State.reset.ga with sockets := #v[⟨true, some 60⟩, ⟨true, some 60⟩] }
        su := { State.reset.su with elapsed := 59 } };
      s.mc.supply = .running ∧ s.su.elapsed < 4294967295 ∧ (s.su.elapsed + 1) % 60 = 0
        ∧ s.hc.durationEnd = some (s.su.elapsed + 1) ∧ s.fc.boostEnd = some (s.su.elapsed + 1)
        ∧ s.fc.ventRunEnd = some (s.su.elapsed + 1)
        ∧ (∀ k ∈ [Socket.a, .b], (tget s.ga.sockets (socketIx k)).runEnd = some (s.su.elapsed + 1))
        ∧ (∀ k ∈ allSlots, slotOf s k = none) ∧ s.hc.frostHold = none)
      ∧ (let s := withRest fun r => { r with state := .driving, move := .active, drive := 16199, soon := true };
          s.rm.state = .driving ∧ s.rm.move = .active ∧ openSegment s.rm = none ∧ s.rm.limit = false
            ∧ s.cfg.profile.driveLimit * 60 ≤ min 999999 (s.rm.drive + 1))
      ∧ (let s := withRest fun r => { r with state := .driving, move := .active, drive := 15299 };
          s.rm.soon = false ∧ (s.cfg.profile.driveLimit - s.cfg.profile.wDrive) * 60 ≤ min 999999 (s.rm.drive + 1)
            ∧ min 999999 (s.rm.drive + 1) ≤ s.cfg.profile.driveLimit * 60
            ∧ ¬min 999999 (16200 + 1) ≤ s.cfg.profile.driveLimit * 60)
      ∧ (let s := at_ 899 (withRest fun r => { r with state := .stopped, stopSeg := some ⟨0, false⟩, acc := 1800 });
          s.rm.state ≠ .driving ∧ openSegment s.rm = some (0, false)
            ∧ s.cfg.profile.segMin * 60 ≤ cabTime (at_ 900 s) ∧ s.cfg.profile.breakTotal * 60 ≤ s.rm.acc + cabTime (at_ 900 s)
            ∧ cabTime (at_ 899 s) < s.cfg.profile.segMin * 60)
      ∧ (let s := withRest fun r => { r with state := .resting, plannedEnd := some 1, endSoon := some 1 };
          s.rm.state = .resting ∧ s.rm.plannedEnd = some 1 ∧ s.rm.endSoon = some 1 ∧ s.rm.endSoonRaised = false
            ∧ 1 ≤ cabTime (at_ 1 s))
      ∧ (let s : State := { State.reset with su := { State.reset.su with
            unset := false, slots := tset State.reset.su.slots 0 (some ⟨false, 1, true, .heatStop, .armed, none⟩) } };
          (slotOf s 0).any (fun e => e.state == .armed && decide (e.time ≤ cabTime (at_ 1 s)) && e.daily) = true
            ∧ s.su.unset = false) := by decide

theorem witness_StandbyIsEnteredAndLeft :
    (let s := withFridge fun f => { f with state := .off };
      s.mc.supply = .running ∧ s.mc.mode ≠ .standby ∧ s.hc.state = .off ∧ s.fc.state = .off
        ∧ (∀ c ∈ allConsumers, (entryOf s c).grant = 0) ∧ (contactOf s .ign).state ≠ .active)
      ∧ (State.reset.mc.mode ≠ .standby ∧ State.reset.fc.state ≠ .off)
      ∧ (withMode fun m => { m with mode := .standby }).mc.mode = .standby
      ∧ State.reset.mc.mode = .awake
      ∧ (withMode fun m => { m with mode := .doze }).mc.mode ≠ .standby := by decide

theorem witness_RestartsAndSavesUseTheStore :
    (running.mc.supply = .running ∧ running.mc.restart = .none ∧ running.hc.state ≠ .off ∧ running.hc.state ≠ .lockout
        ∧ running.hc.state ≠ .vent)
      ∧ (State.reset.hc.state = .off ∧ State.reset.mc.saving = none ∧ State.reset.mc.heaterWrite = none)
      ∧ (withHeater fun h => { h with state := .lockout }).hc.state = .lockout
      ∧ (withHeater fun h => { h with state := .vent }).hc.state = .vent
      ∧ (let s := withMode fun m => { m with
            saving := some ⟨settingsDefault, #v[none, none, none, none, none, none, none, none]⟩, heaterWrite := some ⟨1, 0, false⟩ };
          s.mc.saving.isSome ∧ s.mc.heaterWrite = some ⟨1, 0, false⟩ ∧ s.mc.restart = .none ∧ s.hc.state = .off) := by decide

theorem witness_InRangeConversionScalesSample :
    State.reset.mc.supply = .running ∧ (16 ≤ 16 ∧ 16 ≤ 4079) ∧ (16 ≤ 4079 ∧ 4079 ≤ 4079)
      ∧ State.reset.mu.scanLeft.head? = some .vh ∧ (settled .tx 16 .reset).mu.scanLeft.head? = some .tx := by decide

theorem witness_OutOfRangeConversionHoldsSample :
    State.reset.mc.supply = .running ∧ 15 ≤ 15 ∧ (4080 ≤ 4080 ∧ 4095 ≤ 4095) ∧ (16 ≤ 16 ∧ 16 ≤ 4079)
      ∧ State.reset.mu.scanLeft.head? = some .vh := by decide

theorem witness_ConversionFiltersAndJudgesStatus :
    State.reset.mc.supply = .running ∧ State.reset.mu.scanLeft.head? = some .vh ∧ State.reset.mu.scanLeft.head? ≠ some .ih
      ∧ 4095 ≤ 4095 ∧ 16 ≤ 16 ∧ 4079 ≤ 4079 ∧ 15 ≤ 15 ∧ 4080 ≤ 4080
      ∧ (chanOf (settled .tx 16 running) .tx).sample.isSome ∧ (chanOf (settled .tx 16 running) .tx).rangeMark = false
      ∧ (let s : State := { State.reset with
            mu := { State.reset.mu with chan := tset State.reset.mu.chan 0 { tget State.reset.mu.chan 0 with rangeMark := true } } };
          s.mu.scanLeft.head? = some .vh ∧ (chanOf s .vh).rangeMark = true) := by decide

theorem witness_ScansAndHostMarks :
    (let s : State := { State.reset with mu := { State.reset.mu with scanLeft := [] } };
      s.mc.supply = .running ∧ s.mu.scanLeft = [])
      ∧ State.reset.mu.scanLeft ≠ [] ∧ (chanIx .vh).1 = 0 ∧ (chanIx .tx).1 = 6 ∧ 6 < 7
      ∧ (let s : State := { State.reset with mu := { State.reset.mu with scanLeft := [.tx], rescan := true } };
          s.mu.scanLeft = [.tx] ∧ s.mu.rescan = true)
      ∧ (let s := withMode fun m => { m with mode := .doze };
          s.mc.mode = .doze ∧ s.mu.scanLeft ≠ []) := by decide

/-- Socket A on, with a grant. -/
def socketOn (st : CompState) : State :=
  let s := State.reset
  { s with
    ga := { s.ga with
      entries := tset s.ga.entries 6 { tget s.ga.entries 6 with
        request := some ⟨20, 20, none, false⟩, grant := 20, state := .granted }
      sockets := #v[⟨true, some 0⟩, ⟨false, none⟩] }
    asked := tset s.asked 6 (some ⟨20, 20, none, false⟩)
    mu := { s.mu with comp := tset s.mu.comp 4 { tget s.mu.comp 4 with state := st } } }

/-- L1 lit under BUNK's grant, L2 fading in from 0. -/
def lightingUp : State :=
  let s := State.reset
  { s with
    ga := { s.ga with entries := tset s.ga.entries 3 { tget s.ga.entries 3 with
      request := some ⟨5, 2, none, false⟩, grant := 5, state := .granted } }
    asked := tset s.asked 3 (some ⟨5, 2, none, false⟩)
    mu := { s.mu with comp := tset s.mu.comp 3 { tget s.mu.comp 3 with state := .watch } }
    lc := { s.lc with
      group := tset s.lc.group 0 { tget s.lc.group 0 with grant := 5 }
      chan := tset (tset s.lc.chan 0 ⟨700, 700, none, 700, none⟩) 1 ⟨700, 0, some ⟨0, 10, 8⟩, 0, none⟩ } }

theorem witness_ComparatorsFollowTheCurrent :
    ((socketOn .watch).mc.supply = .running ∧ watchedOn (socketOn .watch) .t4 = true
      ∧ (compOf (socketOn .watch) .t4).state = .watch ∧ thresholdOf (socketOn .watch) .t4 < 9001
      ∧ (compOf (socketOn .qualify) .t4).state = .qualify ∧ 9000 ≤ thresholdOf (socketOn .qualify) .t4
      ∧ (compOf (socketOn .blanking) .t4).state = .blanking)
      ∧ (let s : State := { socketOn .off with ga := { (socketOn .off).ga with
            entries := tset (socketOn .off).ga.entries 6 { tget (socketOn .off).ga.entries 6 with grant := 0 } } };
          watchedOn s .t4 = false ∧ (compOf s .t4).state = .off
            ∧ ∃ t, exec (.budgetReport ⟨.normal, 242, allClasses⟩) s = .next t ∧ watchedOn t .t4 = true)
      ∧ (∃ t, exec (.tripReport ⟨.t4, ⟨0, true⟩⟩) (socketOn .tripped) = .next t ∧ watchedOn t .t4 = false)
      ∧ watchedOn lightingUp .t3 = true ∧ energized lightingUp (.light 1) = false ∧ (compOf lightingUp .t3).state = .watch
      ∧ ∃ t, exec (.fadeStep 1) lightingUp = .next t ∧ energized t (.light 1) = true :=
  ⟨by decide, ⟨by decide, by decide, @next_of_nextIs _ (watchedOn · .t4) (by decide +kernel)⟩,
    (@next_of_nextIs _ (fun t => !(watchedOn t .t4)) (by decide +kernel)).imp fun _ h => ⟨h.1, by simpa using h.2⟩, by decide,
    by decide, by decide, @next_of_nextIs _ (energized · (.light 1)) (by decide +kernel)⟩

theorem witness_LoadReadingsAndTachMeasure :
    (∃ t, exec (.loadCurrentReading ⟨0, 0, 0, 0, 0, 0⟩) running = .next t
      ∧ (allComparators.all fun c => watchedOn t c == watchedOn running c) = true)
    ∧ State.reset.mc.supply = .running ∧ State.reset.mu.tach.lastEdge = none
      ∧ (let s : State := { State.reset with mu := { State.reset.mu with tach := ⟨some 5, none, 0⟩ } };
          s.mu.tach.lastEdge = some 5 ∧ 1000004 = 5 + 999999 ∧ 6 = 5 + 1 ∧ 1000005 = 5 + 1000000 ∧ 5 + 1000000 < 1000006
            ∧ 5 ≤ 5 ∧ 1 ≤ 999999) := ⟨next_of_nextIs (by decide +kernel), by decide⟩

theorem witness_MinutesAndHorizonFormTheBudget :
    (let s : State := { low with cc := { low.cc with accCount := 1, accSum := -650 } };
      s.mc.supply = .running ∧ s.cc.window.length ≤ 16 ∧ statusOf s .ih = .valid ∧ 0 < s.cc.accCount)
      ∧ (State.reset.cc.window.length ≤ 16 ∧ statusOf .reset .ih ≠ .valid) ∧ 1 ≤ 1
      ∧ (let s := reading .vh 24420 (charged 400000 0);
          statusOf s .vh = .valid ∧ (chanOf s .vh).filtered = some 24420 ∧ statusOf s .ih ≠ .valid ∧ s.cc.restHold = none)
      ∧ (let s := at_ 3600 (reading .ih 0 (reading .vh 24420 (charged 400000 0)));
          let u := { s with cc := { s.cc with restHold := some 0 } };
          statusOf u .ih = .valid ∧ u.cc.restHold = some 0 ∧ 0 + 3600 ≤ u.su.elapsed ∧ u.cc.c = some 400000
            ∧ ocvLookup u.cfg.battery 24420 + 50 < 400000 * 1000 / u.cfg.battery.cap
            ∧ ocvLookup u.cfg.battery 24420 = 500 ∧ 200000 * 1000 / u.cfg.battery.cap = 500)
      ∧ (let s := settled .vh 2048 (charged 400000 0);
          validNext s .vh 2048 ∧ s.cc.starting = false ∧ s.cc.sensorHold = false ∧ filteredAt s .vh 2048 = 20004
            ∧ s.cc.low.flag = false ∧ filteredAt s .vh 2048 < (guardLevel s.cfg.battery.vLow : Int)
            ∧ (guardLevel s.cfg.battery.vLow : Int) + 400 < filteredAt (settled .vh 4079 s) .vh 4079)
      ∧ (let s := reading .ih (-650) (reading .vh 24420 .reset);
          statusOf s .vh = .valid ∧ statusOf s .ih = .valid ∧ (chanIx .vh).1 = 0 ∧ (chanIx .ih).1 = 1)
      ∧ (let s : State := { settled .vh 2454 .reset with cc := { State.reset.cc with sensorHold := true, level := .reserve } };
          statusOf s .ih ≠ .valid ∧ validNext s .vh 2454 ∧ validNext (settled .ih 2047 .reset) .ih 2047)
      ∧ (let u : ChargeUnit := { (charged 400000 0).cc with level := .conserve, relief := 4 };
          u.sensorHold = false ∧ levelCode (targetLevel u) < levelCode u.level ∧ 4 ≤ u.relief
            ∧ levelCode .normal < levelCode (targetLevel { u with low := { u.low with flag := true } })
            ∧ targetLevel { u with cut := { u.cut with flag := true } } = .cutoff) := by
  unfold validNext; decide +kernel

theorem witness_MinutesAndHorizonFormTheBudget_default :
    let s := charged 400000 0;
    s.mc.supply = .running ∧ 60 ≤ 60 ∧ 1440 ≤ 1440 ∧ risesStrictly s.cfg.battery.ocv.toList = true
      ∧ s.cfg.battery.vCut < s.cfg.battery.vLow ∧ s.rm.state ≠ .resting ∧ 60 ≠ s.cfg.battery.horizon ∧ 60 ≠ s.rm.horizon
      ∧ 1440 ≠ s.cfg.battery.horizon ∧ s.cc.c = some 400000 ∧ s.cfg.battery.cap * s.cfg.battery.reserve / 100 < 400000
      ∧ s.cc.sensorHold = false := by decide +kernel

theorem witness_ChargeIsCountedAndEstimated :
    (let s := settled .ih 2047 (charged 400000 359999);
      s.mc.supply = .running ∧ validNext s .ih 2047 ∧ s.cc.fullHold = none ∧ s.cc.c = some 400000)
      ∧ chargeSound (settled .ih 2047 (charged 400000 359999))
      ∧ (let s := at_ 30 (settled .vh 2454 .reset);
        validNext s .vh 2454 ∧ s.cc.starting = true ∧ 30 ≤ s.su.elapsed)
      ∧ (let s := at_ 120 (settled .ih 2048 (reading .vh 27600 (charged 400000 0)));
          let u := { s with cc := { s.cc with fullHold := some 0 } };
          validNext s .ih 2048 ∧ s.cc.fullHold = none ∧ u.cc.fullHold = some 0 ∧ 0 + 120 ≤ u.su.elapsed ∧ 0 ≤ scaled .ih 2048
            ∧ scaled .ih 2048 ≤ (s.cfg.battery.iTail : Int) ∧ statusOf s .vh = .valid
            ∧ (chanOf s .vh).filtered.any (fun vh => decide ((s.cfg.battery.vFull : Int) ≤ vh)) = true
            ∧ ¬ (0 : Int) ≤ scaled .ih 2047) :=
  ⟨by unfold validNext; decide, ⟨fun c h => by cases h; decide, by decide, by decide, by decide, by decide⟩,
    by unfold validNext; decide, by unfold validNext; decide⟩

theorem awake_noChime (s : State) (h : s.mc.mode = .awake) : noChimeHeld s := fun hs => absurd (h.symm.trans hs) (by simp)

theorem witness_BudgetReportStartsAPass :
    (socketOn .watch).mc.supply = .running ∧ noChimeHeld (socketOn .watch)
      ∧ (∀ c q, (entryOf (socketOn .watch) c).request = some q → q.ok = true)
      ∧ listsSound (socketOn .watch)
      ∧ (let r : BudgetReport := ⟨.normal, 242, [0, 1, 2, 3, 4, 5, 6, 7]⟩;
          candidateUnder (socketOn .watch) r .socketA = some ⟨20, 20, none, false⟩
            ∧ safetyTotal (socketOn .watch) + candidateSum (socketOn .watch) r (fun _ => true) (·.d) ≤ r.budget)
      ∧ (let r : BudgetReport := ⟨.reserve, 19, [0, 1, 2, 3, 4, 5, 6, 7]⟩;
          candidateUnder (socketOn .watch) r .socketA = some ⟨20, 20, none, false⟩
            ∧ r.budget < safetyTotal (socketOn .watch) + 20)
      ∧ noChimeHeld (withMode fun m => { m with mode := .standby }) :=
  ⟨by decide, awake_noChime _ rfl, fun c q h => by
    have a : (entryOf (socketOn .watch) c).request.all Request.ok = true := by cases c <;> decide
    rw [h] at a
    exact a, fun k => ⟨by revert k; decide, fun c => by revert k; cases c <;> decide⟩, by decide, by decide, fun _ => by decide⟩

theorem witness_RequestsStandInTheTable :
    State.reset.mc.supply = .running ∧ noChimeHeld .reset ∧ noChimeHeld (socketOn .watch)
      ∧ (⟨8, 8, none, true⟩ : Request).safety = true
      ∧ (entryOf (socketOn .watch) .socketA).request.isSome ∧ 0 < (entryOf (socketOn .watch) .socketA).grant
      ∧ tget (socketOn .watch).cfg.orders (effectiveClass (socketOn .watch) .socketA) = .rotating
      ∧ effectiveClass .reset .heat = tget State.reset.cfg.classes 1 ∧ effectiveClass .reset .heat ≠ 0 :=
  ⟨by decide, awake_noChime _ rfl, awake_noChime _ rfl, by decide, by decide, by decide, by decide, by decide, by decide⟩

/-- SOCKET B tripped twice within its window, its retry running. -/
def twiceTripped : State :=
  let s := State.reset
  { s with ga := { s.ga with entries := tset s.ga.entries 7 { tget s.ga.entries 7 with
      tripCount := 2, window := some 0, retryStep := 2, lastTrip := some 0, retry := some 40, state := .tripped, holds := [.socket .b] } } }

theorem witness_TripHoldsCountsAndLatches :
    twiceTripped.mc.supply = .running ∧ .socketB ∈ namedBy .t5 ∧ (entryOf twiceTripped .socketB).latched = false
      ∧ (entryOf twiceTripped .socketB).window.isSome
      ∧ (let s : State := { State.reset with ga := { State.reset.ga with
            entries := tset State.reset.ga.entries 7 { tget State.reset.ga.entries 7 with latched := true } } };
          (entryOf s .socketB).latched = true) := by decide

theorem witness_TripsAndSocketsExpireOrClear :
    twiceTripped.mc.supply = .running ∧ noChimeHeld twiceTripped ∧ (entryOf twiceTripped .socketB).retry.isSome
      ∧ (entryOf twiceTripped .socketB).window.isSome ∧ (consIx .socketB).1 = 7 ∧ 7 < 8
      ∧ (tget (socketOn .watch).ga.sockets (socketIx .a)).runEnd = some 0 ∧ 0 ≤ (socketOn .watch).su.elapsed
      ∧ tget (socketOn .watch).asked (consIx (socketConsumer .a)) ≠ none :=
  ⟨by decide, awake_noChime _ rfl, by decide, by decide, by decide, by decide, by decide, by decide, by decide⟩

/-- A heater in a state, everything else as after reset. -/
def inState (st : HeaterState) : State := withHeater fun h => { h with state := st }

/-- A heater in PURGE with a record. -/
def purging (r : PurgeRecord) (tx : Int) : State := heaterAt .purge tx (fun h => { h with state := .purge, purge := some r }) .reset

theorem witness_HeatStartFollowsTheState :
    ((inState .dryCool).hc.state = .dryCool ∧ (inState .lockout).hc.state = .lockout
        ∧ (purging ⟨.off, some .flameLoss, 0⟩ 500).hc.state = .purge
        ∧ ((purging ⟨.off, some .flameLoss, 0⟩ 500).hc.purge.bind (·.fault)).isSome)
      ∧ (let s := withHeater fun h => { h with state := .pause, level := .cutoff };
          s.mc.supply = .running ∧ s.hc.state = .pause ∧ s.hc.level = .cutoff)
      ∧ (let s := withHeater fun h => { h with state := .vent, level := .reserve };
          s.hc.state = .vent ∧ s.hc.level = .reserve ∧ s.cfg.battery.aRes < s.cfg.demands.start)
      ∧ (State.reset.hc.state = .off ∧ State.reset.hc.level ≠ .cutoff ∧ State.reset.hc.level ≠ .reserve
          ∧ (entryOf .reset .heat).latched = false)
      ∧ (withHeater fun h => { h with state := .pause, frostRun := true }).hc.frostRun = true
      ∧ ((inState .waitPower).hc.state = .waitPower ∧ burning running.hc.state = true)
      ∧ (∃ p, (purging ⟨.off, none, 0⟩ 500).hc.purge = some p ∧ p.fault = none) :=
  ⟨by decide, by decide, by decide, by decide, by decide, by decide, ⟨_, rfl, rfl⟩⟩

theorem witness_HeatStopFollowsTheState :
    (let s := heaterAt .run 6000 (fun h => { h with state := .run, durationEnd := some 0, stroke := some 833 }) .reset;
      s.mc.supply = .running ∧ s.hc.state ≠ .vent ∧ s.hc.durationEnd.any (· ≤ s.su.elapsed) ∧ burning s.hc.state = true)
      ∧ (inState .pause).hc.state = .pause
      ∧ (∃ p, (purging ⟨.restart, none, 0⟩ 500).hc.purge = some p ∧ p.fault = none)
      ∧ (∃ p, (purging ⟨.off, some .flameLoss, 0⟩ 500).hc.purge = some p ∧ p.fault.isSome)
      ∧ (let s := withHeater fun h => { h with state := .run, durationEnd := some 1 };
          s.hc.durationEnd.all (s.su.elapsed < ·)) :=
  ⟨by decide, by decide, ⟨_, rfl, rfl⟩, ⟨_, rfl, rfl⟩, by decide⟩

/-- A part with its heater changed. -/
def heated (f : HeaterUnit → HeaterUnit) (s : State) : State := { s with hc := f s.hc }

theorem witness_GrantsDriveTheHeater :
    (let s := heaterAt .waitPower 600 (fun h => { h with state := .waitPower }) .reset;
      s.mc.supply = .running ∧ s.hc.state = .waitPower ∧ s.cfg.demands.check ≤ 3 ∧ (chanOf s .tx).filtered = some 600
        ∧ statusOf s .tx = .valid ∧ statusOf s .th = .valid)
      ∧ (let s := heaterAt .waitPower 601 (fun h => { h with state := .waitPower }) .reset;
          s.cfg.demands.check ≤ 400 ∧ (chanOf s .tx).filtered = some 601 ∧ 600 < 601)
      ∧ (let s : State := { State.reset with mu := { State.reset.mu with
            chan := tset State.reset.mu.chan 6 { tget State.reset.mu.chan 6 with filtered := some 20, status := .suspect } } };
          (chanOf s .tx).filtered = some 20 ∧ statusOf s .tx ≠ .valid)
      ∧ ((inState .preheat).hc.state = .preheat ∧ (inState .preheat).hc.phase = none ∧ (46 : Nat) = State.reset.cfg.demands.start)
      ∧ (let s := withHeater fun h => { h with state := .preheat, phase := some 400, power := some 600 };
          s.hc.state = .preheat ∧ s.hc.phase.isSome ∧ s.hc.power.isSome)
      ∧ ((inState .prime).hc.state = .prime ∧ running.hc.state = .run ∧ 13 < running.cfg.demands.low
        ∧ running.cfg.demands.low ≤ 14 ∧ 2 < State.reset.cfg.demands.check)
      ∧ (let s := at_ 60 (settled .tc 1868 running);
          validNext s .tc 1868 ∧ s.hc.frostRun = false ∧ s.hc.desired = some .low ∧ s.hc.pauseHold = none
            ∧ 30 ≤ s.cfg.heaterSet.setpoint - filteredAt s .tc 1868 ∧ s.hc.lastRise.getD 0 + 60 ≤ s.su.elapsed)
      ∧ (let s := at_ 600 (heated (fun h => { h with pauseHold := some 0 }) (settled .tc 2015 running));
          validNext s .tc 2015 ∧ s.hc.pauseHold = some 0 ∧ s.cfg.heaterSet.setpoint - filteredAt s .tc 2015 ≤ -15
            ∧ 0 + 6000 ≤ Machine.now s)
      ∧ (let s := settled .tc 1934 (inState .pause);
          validNext s .tc 1934 ∧ s.hc.state = .pause ∧ 10 ≤ s.cfg.heaterSet.setpoint - filteredAt s .tc 1934
            ∧ s.cfg.heaterSet.setpoint - filteredAt (settled .tc 1937 s) .tc 1937 < 10)
      ∧ (statusOf (settled .tc 1934 running) .tc = .valid ∧ running.hc.state = .run)
      ∧ (let r : State := { State.reset with cfg := { State.reset.cfg with heaterSet := { State.reset.cfg.heaterSet with frost := true } } };
          let s := at_ 60 (heated (fun h => { h with frostHold := some 0 }) (settled .tc 1478 r));
          validNext s .tc 1478 ∧ s.hc.state = .off ∧ s.hc.frostRun = false ∧ s.cfg.heaterSet.frost = true
            ∧ s.hc.frostBackoff.all (· ≤ s.su.elapsed) = true ∧ filteredAt s .tc 1478 < s.cfg.heaterSet.threshold
            ∧ s.hc.frostHold = some 0 ∧ 0 + 600 ≤ Machine.now s ∧ (entryOf s .heat).latched = false ∧ s.hc.level = .normal
            ∧ ¬ filteredAt (settled .tc 1479 s) .tc 1479 < s.cfg.heaterSet.threshold)
      ∧ (let s := heated (fun h => { h with frostRun := true }) (settled .tc 1642 running);
          validNext s .tc 1642 ∧ s.hc.frostRun = true ∧ s.cfg.heaterSet.threshold + 50 ≤ filteredAt s .tc 1642
            ∧ burning s.hc.state = true) := by
  and_intros <;> decide +kernel

/-- A part right before the tick, or one 0.1 s before the reading, that makes a hold begun at 0 last `secs` s. -/
def beforeTick (secs : Nat) (s : State) : State := { s with su := { s.su with elapsed := secs - 1, tenth := 9 } }
def beforeReading (secs : Nat) (s : State) : State := { s with su := { s.su with elapsed := secs - 1, tenth := 8 } }

/-- A part in OFF with the frost guard on and a frost hold begun at 0. -/
def freezing : State :=
  { withHeater (fun h => { h with frostHold := some 0 }) with
    cfg := { State.reset.cfg with heaterSet := { State.reset.cfg.heaterSet with frost := true } } }

/-- The pause and frost holds of R75 and R87, met at the tick that completes their time and not 0.1 s before it. -/
theorem witness_GrantsDriveTheHeater_holds :
    (let s := beforeTick 600 (heated (fun h => { h with pauseHold := some 0 }) running);
      s.mc.supply = .running ∧ s.su.elapsed < 4294967295 ∧ (∀ k ∈ allSlots, slotOf s k = none) ∧ s.hc.state = .run
        ∧ ∃ t, exec .elapsedTick s = .next t ∧ (decide (0 + 6000 ≤ Machine.now t) && t.hc.state == .purge) = true)
      ∧ (let s := beforeReading 600 (heated (fun h => { h with pauseHold := some 0 }) running);
          ∃ t, exec (.loadCurrentReading ⟨0, 0, 0, 0, 0, 0⟩) s = .next t
            ∧ (s.hc.pauseHold.all (Machine.now t < · + 6000) && s.hc.flameHold.all (Machine.now t < · + 100)
                && t.hc.state == .run) = true)
      ∧ (freezing.hc.state = .off ∧ freezing.cfg.heaterSet.frost = true ∧ freezing.hc.frostBackoff = none
        ∧ freezing.hc.frostHold = some 0 ∧ freezing.hc.level = .normal ∧ (entryOf freezing .heat).latched = false)
      ∧ (∃ t, exec .elapsedTick (beforeTick 60 freezing) = .next t
          ∧ (decide (0 + 600 ≤ Machine.now t) && t.hc.frostRun) = true)
      ∧ (∃ t, exec (.loadCurrentReading ⟨0, 0, 0, 0, 0, 0⟩) (beforeReading 60 freezing) = .next t
          ∧ (decide (Machine.now t < 0 + 600) && t.hc.state == .off) = true)
      ∧ ∃ t, exec .elapsedTick (beforeTick 60 (heated (fun h => { h with level := .cutoff }) freezing)) = .next t
          ∧ (decide (0 + 600 ≤ Machine.now t) && t.hc.frostBackoff == some 960) = true := by
  refine ⟨⟨?_, ?_, ?_, ?_, next_of_nextIs ?_⟩, next_of_nextIs ?_, ?_, next_of_nextIs ?_, next_of_nextIs ?_, next_of_nextIs ?_⟩ <;>
    decide +kernel

/-- R75's flame-out hold, met at the tick that completes its 10 s: the first flame-out restarts, the second ends the run. -/
theorem witness_TripsVentAndLockoutClear_holds :
    ∀ n ∈ [0, 1],
      (let s := beforeTick 10 (heated (fun h => { h with flameHold := some 0, flameOut := n }) running);
        s.mc.supply = .running ∧ s.su.elapsed < 4294967295 ∧ (∀ k ∈ allSlots, slotOf s k = none) ∧ s.hc.state = .run
          ∧ s.hc.pauseHold = none ∧ s.hc.flameOut = n
          ∧ nextIs (exec .elapsedTick s) (fun t => decide (0 + 100 ≤ Machine.now t) && t.hc.state == .purge
              && t.hc.lastFault == if n = 0 then none else some .flameLoss) = true) := by decide +kernel

theorem witness_StartPhasesFollowEachOther :
    (let s := withHeater fun h => { h with state := .check, glow := true };
      s.mc.supply = .running ∧ s.hc.state = .check ∧ s.hc.glow = true ∧ (compOf s .t0).reading ≤ 10)
      ∧ (let s : State := { inState .check with mu := { State.reset.mu with
            comp := tset State.reset.mu.comp 0 { tget State.reset.mu.comp 0 with reading := 11 } } };
          10 < (compOf s .t0).reading)
      ∧ (let s := withHeater fun h => { h with state := .preheat, phase := some 400 };
          s.hc.state = .preheat ∧ s.hc.phase.isSome)
      ∧ (inState .prime).hc.state = .prime ∧ (inState .ignite).hc.state = .ignite ∧ (inState .ignite).hc.attempt ≤ 1
      ∧ (let s := withHeater fun h => { h with state := .ignite, attempt := 2 };
          s.hc.state = .ignite ∧ 2 ≤ s.hc.attempt)
      ∧ (let s := heated (fun h => { h with igniteRef := some 200 }) (settled .tx 500 (inState .ignite));
          validNext s .tx 500 ∧ s.hc.igniteRef = some 200 ∧ 200 + s.cfg.heaterTune.flameRise ≤ filteredAt s .tx 500
            ∧ filteredAt (settled .tx 499 s) .tx 499 < 200 + s.cfg.heaterTune.flameRise)
      ∧ (let s := heated (fun h => { h with igniteRef := some 400 }) (settled .tx 499 (inState .stabilize));
          validNext s .tx 499 ∧ s.hc.igniteRef = some 400 ∧ filteredAt s .tx 499 < 400 + s.cfg.heaterTune.margin
            ∧ 400 + s.cfg.heaterTune.margin ≤ filteredAt (settled .tx 500 s) .tx 500)
      ∧ (let s := withHeater fun h => { h with state := .stabilize, failed := 2 };
          s.hc.state = .stabilize ∧ s.hc.failed ≠ 0) := by
  unfold validNext; decide +kernel

theorem witness_PurgeEndsAsItsRecordSays :
    (∀ r ∈ [(⟨.off, some .flameLoss, 0⟩ : PurgeRecord), ⟨.off, none, 0⟩, ⟨.pause, none, 0⟩, ⟨.retry, none, 0⟩, ⟨.restart, none, 0⟩],
      (purging r 599).mc.supply = .running ∧ (purging r 599).hc.state = .purge ∧ statusOf (purging r 599) .tx = .valid
        ∧ (chanOf (purging r 599) .tx).filtered = some 599 ∧ (purging r 599).hc.purge = some r
        ∧ (purging r 599).hc.failed < 3 ∧ (purging r 599).hc.overheats < 3)
      ∧ (let s := heaterAt .purge 0 (fun h => { h with state := .purge, purge := some ⟨.pause, none, 0⟩, restartPending := true }) .reset;
          s.hc.restartPending = true ∧ s.hc.level ≠ .cutoff ∧ s.hc.level ≠ .reserve ∧ (entryOf s .heat).latched = false)
      ∧ (let s := heaterAt .purge 0 (fun h => { h with
            state := .purge, purge := some ⟨.off, none, 0⟩, restartPending := true, level := .cutoff }) .reset;
          s.hc.restartPending = true ∧ s.hc.level = .cutoff)
      ∧ (let s := heaterAt .purge 0 (fun h => { h with state := .purge, purge := some ⟨.off, some .noIgnition, 0⟩, failed := 2 }) .reset;
          s.hc.failed + 1 = 3)
      ∧ (statusOf (purging ⟨.off, none, 0⟩ 600) .tx = .valid ∧ (chanOf (purging ⟨.off, none, 0⟩ 600) .tx).filtered = some 600)
      ∧ (let s := withHeater fun h => { h with state := .purge, purge := some ⟨.off, none, 0⟩ };
          s.hc.state = .purge ∧ statusOf s .tx ≠ .valid ∧ s.hc.overheats < 3 ∧ s.hc.failed < 2)
      ∧ (inState .dryCool).hc.state = .dryCool
      ∧ (let s := at_ 120 (settled .tx 499 (purging ⟨.retry, none, 0⟩ 499));
          validNext s .tx 499 ∧ s.hc.purge = some ⟨.retry, none, 0⟩ ∧ 0 + 1200 ≤ Machine.now s ∧ filteredAt s .tx 499 < 600
            ∧ s.hc.failed < 2 ∧ s.hc.overheats < 3 ∧ Machine.now (at_ 119 s) < 0 + 1200)
      ∧ (let s := settled .tx 500 (inState .dryCool);
          validNext s .tx 500 ∧ 600 ≤ filteredAt s .tx 500 ∧ filteredAt (settled .tx 499 s) .tx 499 < 600)
      ∧ (let s := settled .tx 501 .reset;
          validNext s .tx 501 ∧ s.hc.state = .off ∧ s.hc.firstTx = true ∧ 600 < filteredAt s .tx 501
            ∧ filteredAt (settled .tx 500 s) .tx 500 ≤ 600) := by
  unfold validNext; decide +kernel

theorem witness_TripsVentAndLockoutClear :
    (State.reset.mc.supply = .running ∧ (inState .check).hc.state = .check ∧ burning running.hc.state = true
      ∧ (inState .preheat).hc.state = .preheat ∧ (inState .vent).hc.state = .vent ∧ State.reset.hc.state = .off
      ∧ (inState .purge).hc.state = .purge ∧ (inState .dryCool).hc.state = .dryCool
      ∧ (inState .lockout).hc.state = .lockout ∧ (inState .lockout).hc.state ≠ .purge)
      ∧ (statusOf running .tx = .valid ∧ statusOf running .th = .valid)
      ∧ (let s := at_ 2 (heated (fun h => { h with overHold := some 0 }) (settled .th 2727 running));
          validNext s .th 2727 ∧ 1200 < filteredAt s .th 2727 ∧ s.hc.overHold = some 0 ∧ 0 + 20 ≤ Machine.now s
            ∧ filteredAt (settled .th 2726 s) .th 2726 ≤ 1200)
      ∧ (let s := at_ 20 (heated (fun h => { h with underHold := some 0 }) (settled .vh 2047 running));
          validNext s .vh 2047 ∧ filteredAt s .vh 2047 < 20000 ∧ s.hc.underHold = some 0 ∧ 0 + 200 ≤ Machine.now s
            ∧ 20000 ≤ filteredAt (settled .vh 2048 s) .vh 2048)
      ∧ (let s := at_ 10 (heated (fun h => { h with flameHold := some 0 }) (settled .tx 500 running));
          validNext s .tx 500 ∧ filteredAt s .tx 500 < s.cfg.heaterTune.flameLoss ∧ s.hc.flameHold = some 0
            ∧ 0 + 100 ≤ Machine.now s ∧ s.hc.flameOut = 0 ∧ s.hc.state = .run) := by
  unfold validNext; decide +kernel

/-- The blower on, in RUN, with a grant. -/
def blowing (f : HeaterUnit → HeaterUnit) : State :=
  let s := heaterAt .run 6000 (fun h => f { h with state := .run, stroke := some 833, desired := some .low, effective := some .low }) .reset
  { s with ga := { s.ga with entries := tset s.ga.entries 1 { tget s.ga.entries 1 with
      request := some ⟨14, 14, some [14], false⟩, grant := 14, state := .granted } } }

theorem witness_BlowerAndStrokesKeepTime :
    (blowing id).mc.supply = .running ∧ energized (blowing id) .blower = true
      ∧ (let s := blowing fun h => { h with duty := 400, stallRun := 3, slowRun := 19 };
          energized s .blower = true ∧ s.mu.tach.speed = 0 ∧ s.hc.stallRun + 1 < 5 ∧ s.hc.slowRun + 1 < 21)
      ∧ (let s := blowing fun h => { h with duty := 400, stallRun := 4, slowRun := 20 };
          energized s .blower = true ∧ burning s.hc.state = true ∧ s.mu.tach.speed = 0 ∧ 5 ≤ s.hc.stallRun + 1)
      ∧ energized .reset .blower = false ∧ (blowing id).hc.stroke.isSome ∧ gateOpen (blowing id) .pump = true := by decide

/-- The fridge with TF read, in a state. -/
def fridgeAt (st : FridgeState) (tf : Int) (r : TfReading) (f : FridgeUnit → FridgeUnit) : State :=
  let s := State.reset
  { s with
    fc := f { s.fc with state := st, reading := r }
    mu := { s.mu with chan := tset s.mu.chan 4 { tget s.mu.chan 4 with filtered := some tf, sample := some tf, status := .valid } } }

/-- The same with FRIDGE's grant, so that a commanded compressor runs. -/
def granted (s : State) : State :=
  { s with ga := { s.ga with entries := tset s.ga.entries 2 { tget s.ga.entries 2 with
      request := some ⟨9, 9, some [9], false⟩, grant := 9, state := .granted } } }

/-- TF SUSPECT by the host at 25, and a fridge in fallback for it since before 60 s, with the satisfied flag set. -/
def suspectTf (st : FridgeState) : State :=
  let s := at_ 60 (fridgeAt st 25 .lost fun f => { f with drive := st == .fallbackOn, switchOn := some 0, satisfied := true })
  { s with mu := { s.mu with chan := tset s.mu.chan 4 { tget s.mu.chan 4 with hostMark := true, status := .suspect } } }

theorem witness_FridgePhasesEnd :
    ((let s := fridgeAt .waitOff 50 .reading id;
      s.mc.supply = .running ∧ s.fc.state = .waitOff ∧ (chanOf s .tf).filtered = some 50
        ∧ s.fc.used.setpoint + ((s.fc.used.hyst + 1) / 2 : Nat) ≤ 50)
      ∧ (let s := fridgeAt .waitOff 49 .reading id;
          (chanOf s .tf).filtered = some 49 ∧ 49 < s.fc.used.setpoint + ((s.fc.used.hyst + 1) / 2 : Nat))
      ∧ (let s := withFridge fun f => { f with state := .start, phase := some 100, wanted := some 4 };
          s.fc.state = .start ∧ s.fc.phase.isSome ∧ s.fc.wanted = some 4)
      ∧ (let s := granted (fridgeAt .run 30 .reading fun f => { f with drive := true, satisfied := true, effective := some 1, wanted := some 1 });
          s.fc.state = .run ∧ s.fc.satisfied = true ∧ s.fc.reading = .reading ∧ energized s .compressor = true
            ∧ 0 < s.cfg.fridgeSet.minOff)
      ∧ (let s := fridgeAt .run 31 .reading id;
          s.fc.state = .run ∧ s.fc.satisfied = false)
      ∧ (let s := withFridge fun f => { f with state := .stallWait, reading := .lost };
          s.fc.state = .stallWait ∧ s.fc.reading = .lost ∧ Machine.now s < s.fc.lastStop + 12000)
      ∧ (let s := withFridge fun f => { f with state := .stallWait };
          s.fc.reading ≠ .lost ∧ Machine.now s < s.fc.lastStop + 10 * s.cfg.fridgeSet.minOff)
      ∧ (let s := granted (withFridge fun f => { f with state := .fallbackOn, drive := true });
          s.fc.state = .fallbackOn ∧ energized s .compressor = true)
      ∧ (let s : State := { withFridge (fun f => { f with state := .fallbackOn, drive := true }) with
            su := { State.reset.su with elapsed := 1200 } };
          energized s .compressor = false ∧ s.fc.lastStop + 12000 ≤ Machine.now s)
      ∧ (withFridge fun f => { f with state := .fallbackOff }).fc.state = .fallbackOff)
      ∧ (let s := settled .tf 2048 (fridgeAt .idle 50 .reading id);
          validNext s .tf 2048 ∧ s.fc.reading = .reading ∧ filteredAt s .tf 2048 = 50 ∧ s.fc.state = .idle
            ∧ Machine.now s < s.fc.lastStop + 10 * s.cfg.fridgeSet.minOff
            ∧ s.fc.lastStop + 10 * s.cfg.fridgeSet.minOff ≤ Machine.now (at_ 180 s))
      ∧ (let s := settled .tf 1958 (fridgeAt .start 30 .reading fun f => { f with drive := true });
          validNext s .tf 1958 ∧ filteredAt s .tf 1958 = 30 ∧ s.fc.phase = none ∧ s.fc.drive = true)
      ∧ (let s := at_ 60 (granted (settled .tf 1958 (fridgeAt .run 30 .reading fun f => { f with
            drive := true, switchOn := some 0, wanted := some 1, effective := some 1 })));
          validNext s .tf 1958 ∧ s.fc.switchOn = some 0 ∧ 0 + 600 ≤ Machine.now s ∧ energized s .compressor = true
            ∧ Machine.now (at_ 59 s) < 0 + 600)
      ∧ (let s := settled .tf 4079 (fridgeAt .run 30 .reading fun f => { f with switchOn := some 0, wanted := some 1 });
          validNext s .tf 4079 ∧ s.fc.wanted ≠ some (min (tempSpeed (filteredAt s .tf 4079 - fridgeSetpoint s)) s.cfg.fridgeSet.maxSpeed)) := by
  and_intros <;> decide +kernel

theorem witness_StallsFaultsAndLostSensor :
    (State.reset.mc.supply = .running ∧ State.reset.fc.state ≠ .off ∧ State.reset.fc.state ≠ .fault
        ∧ State.reset.fc.stallLog.length < 2)
      ∧ 2 ≤ (withFridge fun f => { f with stallLog := [0, 1] }).fc.stallLog.length
      ∧ (withFridge fun f => { f with state := .off }).fc.state = .off
      ∧ (let s := withFridge fun f => { f with state := .fault, stallLog := [0, 1, 2] };
          s.fc.state = .fault ∧ s.cfg.fridgeSet.enable = true ∧ s.fc.reading ≠ .lost
            ∧ Machine.now s < s.fc.lastStop + 10 * s.cfg.fridgeSet.minOff)
      ∧ (let s := withFridge fun f => { f with state := .fault, reading := .lost };
          s.fc.reading = .lost ∧ Machine.now s < s.fc.lastStop + 12000)
      ∧ (let s : State := { State.reset with cfg := { State.reset.cfg with
            fridgeSet := { State.reset.cfg.fridgeSet with enable := false } } };
          s.cfg.fridgeSet.enable = false)
      ∧ (State.reset.fc.reading = .pending ∧ statusOf .reset .tf = .stale ∧ State.reset.fc.state = .idle)
      ∧ ((withFridge fun f => { f with state := .run }).fc.state = .run
        ∧ (withFridge fun f => { f with reading := .reading }).fc.reading ≠ .pending)
      ∧ (let s := fridgeAt .start 30 .reading id;
          s.fc.reading ≠ .lost ∧ statusOf s .tf ≠ .suspect ∧ isConverted s .tf = true ∧ (chanOf s .tf).sample.isSome)
      ∧ (let s := granted (settled .tf 1962 (fridgeAt .fallbackOn 31 .lost fun f => { f with drive := true }));
          validNext s .tf 1962 ∧ s.fc.reading = .lost ∧ energized s .compressor = true
            ∧ lowerThreshold s < filteredAt s .tf 1962 ∧ filteredAt s .tf 1962 < upperThreshold s)
      ∧ (let s := settled .tf 1962 (fridgeAt .fallbackOff 31 .lost id);
          s.fc.state = .fallbackOff ∧ energized s .compressor = false
            ∧ Machine.now s < s.fc.lastStop + 10 * s.cfg.fridgeSet.minOff)
      ∧ (let s := granted (suspectTf .fallbackOn);
          s.fc.reading = .lost ∧ statusOf s .tf ≠ .valid ∧ isConverted s .tf = true ∧ (chanOf s .tf).sample.isSome
            ∧ (chanOf s .tf).rangeMark = false ∧ (chanOf s .tf).filtered = some 25 ∧ energized s .compressor = true)
      ∧ (let s := suspectTf .fallbackOff;
          s.fc.state = .fallbackOff ∧ energized s .compressor = false ∧ s.cfg.fridgeSet.enable = true
            ∧ Machine.now s < s.fc.lastStop + 10 * s.cfg.fridgeSet.minOff) := by
  unfold validNext; decide +kernel

/-- R99, R102: CLEAR SUSPECT regains TF at 60 s of a satisfied FALLBACK_ON; RUN goes on, and the next conversion stops it. -/
theorem test_clear_suspect_resumes_run :
    (match exec (.clearSuspect 4) (granted (suspectTf .fallbackOn)) with
      | .next t => t.fc.state == .run && t.fc.drive
          && nextIs (exec (.conversion .tf 1958) { t with mu := { t.mu with scanLeft := [.tf] } }) (fun u => u.fc.state == .waitOff)
      | _ => false) = true := by decide +kernel

theorem witness_FridgeTakesGrantsAndBoost :
    (let s := withFridge fun f => { f with state := .start, phase := some 100 };
      s.mc.supply = .running ∧ s.fc.state = .start ∧ s.fc.phase.isSome ∧ energized s .compressor = false
        ∧ Machine.now s < s.fc.lastStop + 10 * s.cfg.fridgeSet.minOff)
      ∧ (let s := withFridge fun f => { f with state := .run, wanted := some 2 };
          s.fc.state = .run ∧ s.fc.wanted = some 2 ∧ 8 < tget s.cfg.demands.fridge 0 ∧ tget s.cfg.demands.fridge 0 ≤ 9
            ∧ s.fc.reading = .pending ∧ (withFridge fun f => { f with state := .run, reading := .reading }).fc.reading ≠ .pending)
      ∧ (let s := withFridge fun f => { f with state := .fallbackOn, switchOn := some 0 };
          s.fc.state = .fallbackOn ∧ s.fc.switchOn.isSome ∧ Machine.now s < s.fc.lastStop + 12000)
      ∧ (let s := withFridge fun f => { f with state := .fallbackOn, drive := false, lastStop := 0 };
          s.fc.switchOn = none ∧ s.fc.drive = false ∧ energized s .compressor = false ∧ Machine.now s < s.fc.lastStop + 12000)
      ∧ (let s := withFridge fun f => { f with state := .start, drive := false, lastStop := 0 };
          s.fc.phase = none ∧ s.fc.drive = false ∧ energized s .compressor = false
            ∧ Machine.now s < s.fc.lastStop + 10 * s.cfg.fridgeSet.minOff)
      ∧ (∀ st ∈ [FridgeState.start, .fallbackOn], let s := withFridge fun f => { f with state := st, drive := true };
          s.fc.state = st ∧ s.fc.phase = none ∧ s.fc.switchOn = none ∧ s.fc.drive = true)
      ∧ State.reset.fc.state = .idle ∧ State.reset.cfg.fridgeSet.enable = true
      ∧ (withFridge fun f => { f with boostEnd := some 0 }).fc.boostEnd = some 0
      ∧ (let s := settled .tf 1962 (fridgeAt .run 31 .pending fun f => { f with wanted := some 1 });
          validNext s .tf 1962 ∧ s.fc.reading = .pending ∧ lowerThreshold s < filteredAt s .tf 1962) := by
  unfold validNext; decide +kernel

theorem witness_DoorAndVentFollowTheirEvents :
    (let s := withFridge fun f => { f with doorOpen := true, openSince := some 0, alerts := 4, doorTimer := some 0 };
      s.mc.supply = .running ∧ s.fc.openSince = some 0 ∧ 0 < s.fc.alerts ∧ s.fc.doorTimer.isSome ∧ ¬(s.fc.alerts + 1 < 5))
      ∧ (let s := withFridge fun f => { f with ventSpeed := 3, ventRunEnd := some 0 };
          s.fc.ventSpeed ≠ 0 ∧ s.fc.ventRunEnd = some 0 ∧ 0 ≤ s.su.elapsed) := by decide

/-- L1 lit at 700 of its target, fading. -/
def fading (f : Fade) : State := withLights fun l => { l with chan := tset l.chan 0 ⟨700, 0, some f, 0, none⟩ }

theorem witness_ScenesSetTargetsAndFade :
    State.reset.mc.supply = .running ∧ 0 = 0 ∧ 8 < 9
      ∧ (tget (tget State.reset.cfg.scenes 0).levels 0).isSome ∧ (tget (tget State.reset.cfg.scenes 1).levels 1) = none
      ∧ (tget State.reset.cfg.scenes 0).fade ≠ 0
      ∧ (let s : State := { State.reset with cfg := { State.reset.cfg with
            scenes := tset State.reset.cfg.scenes 0 { tget State.reset.cfg.scenes 0 with fade := 0 } } };
          (tget s.cfg.scenes 0).fade = 0 ∧ (tget (tget s.cfg.scenes 0).levels 0) = some 600)
      ∧ (lightOf (fading ⟨0, 10, 8⟩) 0).fade = some ⟨0, 10, 8⟩ ∧ 8 + 1 < 10
      ∧ (lightOf (fading ⟨0, 10, 9⟩) 0).fade = some ⟨0, 10, 9⟩ ∧ 10 ≤ 9 + 1
      ∧ (lightOf .reset 0).fade = none := by decide

theorem witness_GroupGrantsScaleAndCap :
    State.reset.mc.supply = .running ∧ groupOf 0 = .bunk ∧ groupOf 5 = .cab
      ∧ (let s : State := { State.reset with asked := tset State.reset.asked 3 (some ⟨5, 2, none, false⟩) };
          tget s.asked (consIx (groupConsumer .bunk)) = some ⟨5, 2, none, false⟩) := by decide

theorem witness_EntrySceneStartsAndReturns :
    (State.reset.mc.supply = .running ∧ State.reset.lc.door = .unknown ∧ (.active : ContactState) ≠ .unknown)
      ∧ (let s := withLights fun l => { l with door := .closed, entry := .active };
          s.lc.door ≠ .unknown ∧ s.lc.entry = .active)
      ∧ (let s := withLights fun l => { l with door := .closed };
          s.lc.door ≠ .unknown ∧ s.lc.entry ≠ .active ∧ s.cfg.lights.entryScene = some (3 + 1)
            ∧ ∀ i ∈ groupLights .cab, (lightOf s i).target = 0)
      ∧ (let s := withLights fun l => { l with door := .closed, chan := tset l.chan 2 ⟨700, 700, none, 0, none⟩ };
          s.lc.door ≠ .unknown ∧ s.lc.entry ≠ .active ∧ ∃ i ∈ groupLights .cab, (lightOf s i).target ≠ 0) := by decide

/-- One key in a state with a run. -/
def key (k : Fin 16) (c : KeyCell) : State := withPanel fun p => { p with keys := tset p.keys k c }

theorem witness_KeysPressHoldAndRelease :
    (∀ run ∈ [0, 1], let s := key 15 ⟨true, run, .opened, false⟩
      s.mc.supply = .running ∧ s.pn.standby = false ∧ s.cfg.panel.mode = .single ∧ s.pn.ambig = 0
        ∧ (∀ j ∈ allKeys, (keyOf s j).state = .opened ∧ (j ≠ 15 → (keyOf s j).run ≤ 1)) ∧ (keyOf s 15).run = run)
      ∧ (tget State.reset.cfg.keymap 15).report.getLsbD 0 = true ∧ State.reset.pn.queue.length < 8
      ∧ 8 ≤ (withPanel fun p => { p with queue := List.replicate 8 ⟨0, .press, ⟨0, true⟩⟩ }).pn.queue.length
      ∧ State.reset.cfg.panel.click = true ∧ (tget State.reset.cfg.keymap 0).action ≠ .none
      ∧ (tget State.reset.cfg.keymap 14).action = .silence
      ∧ (let s := key 15 ⟨false, 1, .pressed, true⟩;
          (keyOf s 15).state = .pressed ∧ (keyOf s 15).run = 1 ∧ (keyOf s 15).hold = true
            ∧ (∀ j ∈ allKeys, j ≠ 15 → (keyOf s j).state = .opened ∧ (keyOf s j).run ≤ 1)
            ∧ (tget s.cfg.keymap 15).report.getLsbD 1 = true ∧ (tget s.cfg.keymap 15).report.getLsbD 2 = true)
      ∧ State.reset.pn.queue = []
      ∧ (∀ c ∈ [(⟨true, 1, .opened, false⟩ : KeyCell), ⟨false, 1, .pressed, true⟩],
          let s := { key 15 c with cfg := { State.reset.cfg with panel := { State.reset.cfg.panel with mode := .multi } } }
          let reads : BitVec 16 := if c.state = .opened then 0x8000 else 0
          s.pn.standby = false ∧ s.cfg.panel.mode = .multi ∧ s.pn.ambig = 0 ∧ (∀ j ∈ allKeys, inRectangle reads j = false)
            ∧ (keyOf s 15).run = 1 ∧ (∀ j ∈ allKeys, j ≠ 15 → readsClosed reads j = acceptedClosed (keyOf s j).state))
      ∧ (3 ≤ closedCount 0x33 ∧ inRectangle 0x33 5 = true ∧ (keyOf .reset 5).state ≠ .pressed ∧ closedCount 0x30 < 3
          ∧ readsClosed 0x30 5 = true ∧ (withPanel fun p => { p with ambig := 0x20 }).pn.ambig.getLsbD 5 = true) := by
  and_intros <;> decide +kernel

/-- A key about to be PRESSED, or PRESSED with its hold timer running, whose keymap entry is `e`. -/
def mapped (e : KeyEntry) (c : KeyCell) (s : State) : State :=
  { s with
    pn := { s.pn with keys := tset s.pn.keys 15 c }
    cfg := { s.cfg with keymap := tset s.cfg.keymap 15 e } }

/-- What one PRESS of key 15 gives, its entry's action with parameter `p`, from `s`. -/
def pressed (a : KeyAction) (p : Nat) (s : State) : Host.Outcome State Fault Refusal :=
  exec (.keyScan 0x8000) (mapped ⟨a, p, 0⟩ ⟨true, 1, .opened, false⟩ s)

/-- What one HOLD of key 15 gives, its entry's action `a`, from `s`. -/
def heldFor (a : KeyAction) (s : State) : Host.Outcome State Fault Refusal :=
  exec (.holdTimerExpiry 15) (mapped ⟨a, 0, 0⟩ ⟨true, 0, .pressed, true⟩ s)

theorem test_press_actions_on_lights :
    nextIs (pressed .lightToggle 0 .reset) (fun t =>
        (allLights.map fun i => (lightOf t i).target) == [700, 700, 0, 0, 0, 0]) = true
      ∧ nextIs (pressed .lightUp 0 .reset) (fun t =>
          (lightOf t 0).target == 0 && t.pn.dims == [⟨15, .lightUp, 2, .ok⟩]
            && (t.handed.drop 1).take 3 == groupAdjusts 15 .bunk 100 ++ [Instr.chimeRequest 0]) = true
      ∧ nextIs (pressed .scene 3 .reset) (fun t => (lightOf t 0).target == 100 && t.pn.last == some ⟨15, .scene, .ok⟩) = true := by
  and_intros <;> decide +kernel

/-- L1 and L2 at a level, with the last ADJUST of key 15's action on the bunk group on its way. -/
def dimming (level : Nat) (run : DimRun) : State :=
  { State.reset with
    lc := { State.reset.lc with chan := tset (tset State.reset.lc.chan 0 ⟨level, level, none, 0, none⟩) 1 ⟨level, level, none, 0, none⟩ }
    pn := { State.reset.pn with dims := [run] }
    handed := [dimOperation 15 100 1] }

/-- A host that sets L1 and L2 between the two ADJUSTs of LIGHT_UP is stepped from at L2 alone (R116), and the action's status is the
last that is not OK (R127). -/
theorem test_light_up_steps_from_a_host_write_between :
    nextIs (step (dimming 400 ⟨15, .lightUp, 1, .clamped⟩)) (fun t =>
        (lightOf t 0).target == 400 && (lightOf t 1).target == 500 && t.pn.last == some ⟨15, .lightUp, .clamped⟩
          && t.pn.dims.isEmpty && t.answer.isNone) = true
      ∧ nextIs (step (dimming 950 ⟨15, .lightUp, 2, .ok⟩)) (fun t =>
        (lightOf t 1).target == 1000 && t.pn.last.isNone && t.pn.dims == [⟨15, .lightUp, 1, .clamped⟩]) = true := by
  and_intros <;> decide +kernel

theorem test_press_actions_on_heater_and_fridge :
    nextIs (pressed .heatUp 0 .reset) (fun t => t.cfg.heaterSet.setpoint == State.reset.cfg.heaterSet.setpoint + 5) = true
      ∧ nextIs (pressed .fridgeBoost 0 .reset) (fun t => t.fc.boostEnd == some 3600) = true
      ∧ nextIs (pressed .ventStep 0 .reset) (fun t => t.fc.ventSpeed == 1 && t.pn.last == some ⟨15, .ventStep, .ok⟩) = true := by
  and_intros <;> decide +kernel

theorem test_hold_actions :
    nextIs (heldFor .heatToggle (withHeater fun h => { h with level := .normal })) (fun t =>
        t.hc.state == .waitPower && t.handed.any (· == .chimeRequest 1)) = true
      ∧ nextIs (heldFor .heatToggle (withHeater fun h => { h with level := .cutoff })) (fun t =>
          t.hc.state == .off && t.pn.last == some ⟨15, .heatToggle, .noPower⟩ && !(t.handed.any (· == .chimeRequest 1))) = true
      ∧ nextIs (heldFor .restToggle (withRest fun r => { r with state := .stopped, stopSeg := some ⟨0, false⟩ })) (fun t =>
          t.rm.state == .resting) = true
      ∧ nextIs (heldFor .restToggle (withRest fun r => { r with state := .driving })) (fun t =>
          t.rm.state == .driving && t.pn.last == some ⟨15, .restToggle, .state⟩) = true := by
  and_intros <;> decide +kernel

theorem witness_KeysPressHoldAndRelease_dims :
    (∀ n ∈ [1, 2], let s := dimming 0 ⟨15, .lightUp, n, .ok⟩;
      s.mc.supply = .running ∧ s.pn.dims = [⟨15, .lightUp, n, .ok⟩] ∧ (lightOf s 1).target = 0)
      ∧ State.reset.pn.dims = []
      ∧ ∀ g ∈ [Group.bunk, .cab], let s := { dimming 1000 ⟨15, .lightUp, (groupAdjusts 15 g 100).length, .ok⟩ with
            handed := groupAdjusts 15 g 100 ++ [Instr.chimeRequest 0] };
          s.mc.supply = .running ∧ s.pending = [] ∧ s.handed = groupAdjusts 15 g 100 ++ [Instr.chimeRequest 0]
            ∧ s.pn.dims = [⟨15, .lightUp, (groupAdjusts 15 g 100).length, .ok⟩] := by decide +kernel

theorem witness_KeysPressHoldAndRelease_actions :
    (let s := mapped ⟨.scene, 3, 0⟩ ⟨true, 1, .opened, false⟩ .reset;
      s.cfg.panel.mode = .single ∧ s.pn.ambig = 0 ∧ (keyOf s 15).run = 1 ∧ (tget s.cfg.keymap 15).action = .scene
        ∧ (tget s.cfg.keymap 15).param = 2 + 1 ∧ (∀ j ∈ allKeys, (keyOf s j).state = .opened ∧ (j ≠ 15 → (keyOf s j).run ≤ 1)))
      ∧ (∀ st ∈ [HeaterState.waitPower, .run, .off, .dryCool],
          let s := mapped ⟨.heatToggle, 0, 0⟩ ⟨true, 0, .pressed, true⟩ (withHeater fun h => { h with state := st, level := .normal });
          (keyOf s 15).state = .pressed ∧ (keyOf s 15).hold = true ∧ (tget s.cfg.keymap 15).action = .heatToggle
            ∧ s.hc.state = st ∧ (entryOf s .heat).latched = false ∧ Instr.chimeRequest 1 ∉ s.handed)
      ∧ (∀ p ∈ [PurgeExit.off, .retry], let s := purging ⟨p, none, 0⟩ 800;
          s.hc.state = .purge ∧ s.hc.purge = some ⟨p, none, 0⟩ ∧ s.hc.restartPending = false)
      ∧ burning .run = true ∧ State.reset.rm.state = .unknown ∧ State.reset.rm.move ≠ .inactive
      ∧ (withRest fun r => { r with move := .inactive }).rm.move = .inactive := by
  and_intros <;> decide +kernel

/-- One contact, debouncing. -/
def contact (c : Contact) (x : ContactCell) : State := withPanel fun p => { p with contacts := tset p.contacts (contactIx c) x }

theorem witness_ContactsAreDebouncedAndHanded :
    State.reset.mc.supply = .running ∧ (.high : LineLevel) ≠ (contactOf .reset .move).pin
      ∧ (contactOf .reset .move).timer.isSome ∧ (contactOf .reset .move).state = .unknown
      ∧ (let s := contact .move ⟨.high, some .low, .inactive, some 500⟩;
          (contactOf s .move).timer.isSome ∧ (contactOf s .move).state ≠ .active
            ∧ (contactOf s .move).pin = (tget s.cfg.contacts (contactIx .move)).activeLevel
            ∧ (tget s.cfg.contacts (contactIx .move)).wake = true)
      ∧ (let s : State := { contact .move ⟨.high, some .low, .inactive, some 500⟩ with mc := { State.reset.mc with silence := 120 } };
          s.mc.mode = .awake ∧ nextIs (exec (.debounceExpiry .move) s) (fun t =>
            dozeReady { t with mc := s.mc } && t.mc.mode == .awake && t.mc.silence == 0) = true)
      ∧ (contactOf (contact .move ⟨.low, some .low, .inactive, none⟩) .move).timer = none
      ∧ State.reset.mc.supply ≠ .held false
      ∧ (withMode fun m => { m with supply := .held true }).mc.supply = .held true := by decide +kernel

/-- The panel with its grant. -/
def sounding (f : PanelUnit → PanelUnit) : State := withPanel fun p => f { p with grant := 1 }

theorem witness_ChimesAreJudgedAndPlayed :
    (State.reset.mc.supply = .running ∧ State.reset.pn.grant = 0)
      ∧ (let s := sounding id;
          s.pn.grant ≠ 0 ∧ s.pn.standby = false ∧ s.pn.resting = false ∧ s.pn.player = none ∧ s.pn.chimes = [])
      ∧ (let s := sounding fun p => { p with chimes := [⟨2, 2, 0⟩] };
          s.pn.chimes.any (fun q => q.pattern == 2) = true)
      ∧ (let s := sounding fun p => { p with chimes := [⟨2, 2, 0⟩, ⟨4, 2, 1⟩, ⟨1, 1, 2⟩, ⟨0, 0, 3⟩] };
          4 ≤ s.pn.chimes.length ∧ ∀ q ∈ s.pn.chimes, 0 ≤ q.priority)
      ∧ (let s := sounding fun p => { p with player := some ⟨2, ⟨4, 200, 300, 3, 2⟩, 3, true, 200, false⟩ };
          (s.pn.player.any fun pl => decide (pl.shape.priority < 3) && pl.on && !pl.ending && decide (pl.shape.gap ≠ 0)) = true)
      ∧ (let s := sounding fun p => { p with chimes := [⟨1, 1, 0⟩], player := some ⟨2, ⟨4, 200, 300, 3, 2⟩, 3, false, 300, false⟩ };
          (s.pn.player.any fun pl => !pl.on && decide (pl.shape.repeats ≤ pl.burst)) = true ∧ s.pn.chimes.head?.isSome)
      ∧ (let s := sounding fun p => { p with player := some ⟨2, ⟨4, 200, 300, 3, 2⟩, 2, false, 300, false⟩ };
          (s.pn.player.any fun pl => !pl.on && decide (pl.burst < pl.shape.repeats)) = true)
      ∧ (let s := sounding fun p => { p with
            resting := true, chimes := [⟨8, 3, 0⟩], player := some ⟨3, ⟨7, 400, 200, 5, 3⟩, 5, false, 200, false⟩ };
          s.pn.resting = true ∧ (∀ r ∈ s.pn.chimes, (patternOf s.cfg r.pattern).priority < 3)
            ∧ (s.pn.player.any fun pl => !pl.on && decide (pl.shape.repeats ≤ pl.burst)) = true)
      ∧ 3 ≤ (patternOf State.reset.cfg 3).priority
      ∧ 9 < 10
      ∧ (let s := sounding fun p => { p with
            chimes := [⟨2, 2, 0⟩, ⟨4, 2, 1⟩, ⟨1, 1, 2⟩, ⟨8, 1, 3⟩], player := some ⟨3, ⟨7, 400, 200, 5, 3⟩, 1, true, 400, false⟩ };
          4 ≤ s.pn.chimes.length ∧ (patternOf s.cfg 6).priority = 2 ∧ s.pn.chimes.any (fun q => q.pattern == 6) = false
            ∧ (⟨8, 1, 3⟩ : ChimeRequest) ∈ s.pn.chimes
            ∧ (∀ q ∈ s.pn.chimes, q = ⟨8, 1, 3⟩ ∨ 1 < q.priority ∨ (q.priority = 1 ∧ q.arrival < 3))
            ∧ (s.pn.player.any fun pl => decide (2 ≤ pl.shape.priority)) = true) := by decide

theorem witness_MoveAndStopChangeTheState :
    (State.reset.mc.supply = .running ∧ State.reset.rm.state = .unknown)
      ∧ (let s := withRest fun r => { r with state := .driving, candidate := some 5, stopTimer := some 65, repeatTimer := some 300 };
          s.rm.state = .driving ∧ s.rm.stopTimer.isSome ∧ s.rm.candidate = some 5 ∧ s.rm.repeatTimer.isSome)
      ∧ (let s := withRest fun r => { r with state := .stopped, stopSeg := some ⟨0, false⟩, done := true };
          s.rm.state = .stopped ∧ s.rm.stopSeg.isSome ∧ s.rm.done = true)
      ∧ (let s := withRest fun r => { r with state := .resting, log := [⟨0, none, false, false⟩] };
          s.rm.state = .resting)
      ∧ (withRest fun r => { r with state := .rested }).rm.state = .rested
      ∧ (let s := at_ 60 (settled .vs 2453 (withRest fun r => { r with state := .resting, starterHold := some 0 }));
          validNext s .vs 2453 ∧ statusOf s .vs = .valid ∧ filteredAt s .vs 2453 < (s.cfg.profile.starterGuard : Int)
            ∧ s.rm.starterHold = some 0 ∧ 0 + 60 ≤ cabTime s ∧ cabTime (at_ 59 s) < 0 + 60 ∧ s.rm.startRisk = false
            ∧ (s.cfg.profile.starterGuard : Int) ≤ filteredAt (settled .vs 2454 s) .vs 2454) := by
  unfold validNext; decide +kernel

theorem witness_RestsOpenCloseAndEnd :
    (let s := withRest fun r => { r with state := .stopped, stopSeg := some ⟨0, false⟩ };
      s.mc.supply = .running ∧ s.rm.state = .stopped ∧ s.rm.stopSeg.isSome ∧ s.rm.log.length < 8)
      ∧ (let s := withRest fun r => { r with move := .inactive, log := List.replicate 7 ⟨0, some 1, false, false⟩ };
          s.rm.state = .unknown ∧ s.rm.move = .inactive ∧ s.rm.log.length < 8)
      ∧ (State.reset.rm.state = .unknown ∧ State.reset.rm.move ≠ .inactive)
      ∧ (let s := withRest fun r => { r with state := .resting, plannedEnd := some 0, endSoon := some 0 };
          s.rm.state = .resting ∧ s.rm.plannedEnd = some 0 ∧ s.rm.endSoon = some 0 ∧ 0 ≤ cabTime s ∧ ¬cabTime (at_ 1 s) ≤ 0)
      ∧ (let s := withRest fun r => { r with state := .resting, plannedEnd := some 1 };
          s.rm.plannedEnd = some 1 ∧ cabTime s < 1)
      ∧ (withRest fun r => { r with state := .rested }).rm.state = .rested
      ∧ (let s := withRest fun r => { r with
            state := .resting, log := [⟨0, none, false, false⟩], plannedEnd := some 0, endSoon := some 0, horizon := 1 };
          s.rm.log.getLast? = some ⟨0, none, false, false⟩ ∧ s.rm.horizon ≠ s.cfg.battery.horizon
            ∧ s.cfg.profile.wakeScene = some (0 + 1) ∧ s.rm.endSoonRaised = false) := by decide

theorem witness_SetClockMovesTheCabTime :
    State.reset.mc.supply = .running ∧ 4294967295 < 4294967296 ∧ 4294967295 ≤ 4294967295
      ∧ (∀ x ∈ restTimes State.reset.rm ++ (restEntryTime .reset).toList,
          0 ≤ (x : Int) + 1000 ∧ (x : Int) + 1000 ≤ 4294967295)
      ∧ (let s := withRest fun r => { r with plannedEnd := some 4294967295 };
          ¬ ∀ x ∈ restTimes s.rm ++ (restEntryTime s).toList, 0 ≤ (x : Int) + 1 ∧ (x : Int) + 1 ≤ 4294967295)
      ∧ (let s : State := { State.reset with su := { State.reset.su with
            slots := tset State.reset.su.slots 0 (some ⟨false, 500, false, .heatStop, .armed, none⟩) } };
          (slotOf s 0).any (fun e => !e.rest && e.state == .armed && !e.daily && decide (e.time ≤ 1000)) = true
            ∧ s.su.unset = true) := by decide

/-- The schedule with entries in some slots. -/
def scheduled (v : Vector (Option SchedEntry) 8 → Vector (Option SchedEntry) 8) : State :=
  { State.reset with su := { State.reset.su with slots := v State.reset.su.slots } }

/-- A host entry and the rest monitor's. -/
def hostEntry : SchedEntry := ⟨false, 500, false, .heatStop, .done, none⟩
def restEntry : SchedEntry := ⟨true, 500, false, .heatStart 210 (some 30), .armed, none⟩

theorem witness_EntriesAreAddedMovedAndRemoved :
    (State.reset.mc.supply = .running ∧ hostEntries .reset < 7 ∧ slotOf .reset 0 = none
        ∧ (∀ j ∈ allSlots, j < 0 → slotOf .reset j ≠ none) ∧ State.reset.su.unset = true)
      ∧ (let s : State := { State.reset with su := { State.reset.su with unset := false, elapsed := 500 } };
          s.su.unset = false ∧ 500 ≤ cabTime s ∧ cabTime s < 501)
      ∧ (let s := scheduled fun v => tset v 0 (some hostEntry);
          slotOf s 1 = none ∧ (∀ j ∈ allSlots, j < 1 → slotOf s j ≠ none) ∧ (slotOf s 0).all (fun e => !e.rest) = true)
      ∧ (let s := scheduled fun _ => #v[some hostEntry, some hostEntry, some hostEntry, some hostEntry, some hostEntry,
            some hostEntry, some hostEntry, none];
          7 ≤ hostEntries s)
      ∧ (let s := scheduled fun v => tset v 7 (some restEntry);
          (slotOf s 7).any (·.rest) = true ∧ slotOf s 7 = some restEntry ∧ restEntry.rest = true
            ∧ ∀ j ∈ allSlots, j ≠ 7 → (slotOf s j).all (fun e => !e.rest) = true)
      ∧ (9 < 10 ∧ 8 < 9 ∧ 3 < 4)
      ∧ (let s : State := { withMode (fun m => { m with mode := .standby }) with
            su := { State.reset.su with unset := false, elapsed := 500 } };
          hostEntries s < 7 ∧ slotOf s 0 = none ∧ s.su.unset = false ∧ 500 ≤ cabTime s) := by decide

theorem witness_ReceiverTakesFrames :
    (State.reset.mc.supply = .running ∧ State.reset.mc.mode ≠ .standby ∧ State.reset.lk.rx = .hunt)
      ∧ (withMode fun m => { m with mode := .standby }).mc.mode = .standby
      ∧ (withLink fun l => { l with rx := .skip }).lk.rx = .skip
      ∧ (withLink fun l => { l with rx := .length }).lk.rx = .length
      ∧ ((0x02 : Byte).getLsbD 1 = true ∧ (0x00 : Byte).getLsbD 1 = false ∧ State.reset.lk.queue.length < 4
          ∧ State.reset.lk.inHand = none)
      ∧ 4 ≤ (withLink fun l => { l with queue := [[0, 0, 1], [0, 0, 1], [0, 0, 1], [0, 0, 1]] }).lk.queue.length
      ∧ (0 : Byte) ≠ crc8 (byte 3 :: [0, 0, 1]) := by decide +kernel

theorem witness_RequestsAreTakenAndAnswered :
    (State.reset.mc.supply = .running ∧ State.reset.mc.restart = .none ∧ State.reset.lk.inHand = none)
      ∧ ((0x10 : Byte) ≠ 0x62 ∧ (1 : Byte).getLsbD 0 = true ∧ alwaysAnswered 0x10 = true ∧ (0 : Byte).getLsbD 0 = false)
      ∧ (0x62 < (0x63 : Byte).toNat ∧ (0 : Byte).toNat = 0)
      ∧ (let s := withLink fun l => { l with inHand := some ⟨5, 0x10, false, some (replyFrame 5 0x10 ⟨.ok, []⟩)⟩, queue := [[0, 0, 1]] };
          (s.lk.inHand.any fun h => h.reply.isSome) = true ∧ s.lk.queue ≠ [])
      ∧ ((0x30 : Byte) ≠ 0x61 ∧ (0x30 : Byte) ≠ 0x62 ∧ alwaysAnswered 0x30 = false) := by decide +kernel

/-- A notice of a severity. -/
def noticed (sev : Severity) : Notice := ⟨.trip, .ga, sev, false, ⟨0, true⟩, []⟩

theorem witness_NoticesQueueAndAreFetched :
    (let s := withLink fun l => { l with notices := [⟨.shedLevel, .cc, .info, false, ⟨0, true⟩, [0, 1, 0]⟩] };
      s.mc.supply = .running ∧ s.lk.notices.any (fun x => x.kind == .shedLevel && x.source == .cc) = true)
      ∧ State.reset.lk.notices.length < 16
      ∧ (∀ sev ∈ [Severity.info, .attention, .warning],
          16 ≤ (withLink fun l => { l with notices := List.replicate 16 (noticed sev) }).lk.notices.length)
      ∧ (withLink fun l => { l with notices := [] }).lk.notices = [] := by decide +kernel

theorem witness_RecordOperationsRefuseByCheck :
    State.reset.mc.supply = .running ∧ (0 = 0 ∧ 26 < 27) ∧ 15 ∈ [1, 2, 4, 13, 15]
      ∧ Instr.get 27 0 0 0 ∈ [Instr.get 27 0 0 0, .fieldWrite 27 []] ∧ 3 < 4
      ∧ 1 ≠ tget State.reset.rev 10 ∧ 7 < 8 ∧ State.reset.cfg.battery.vLow ≤ 4 := by decide +kernel

/-- R168: SAMPLES has 7 elements and is read-only, and the element's check comes first. -/
theorem test_put_judges_the_element_before_the_access :
    nextIs (exec (.put 9 (some 7) none []) .reset) (fun t => t.answer == some ⟨.range, [0]⟩) = true
      ∧ nextIs (exec (.put 9 (some 6) none []) .reset) (fun t => t.answer == some ⟨.readOnly, [0]⟩) = true := by decide +kernel

theorem witness_OneFieldOperationsOnHeaterSet :
    State.reset.mc.supply = .running ∧ 20 ≤ 20 ∧ 100 ≤ 100 ∧ (50 : Int) ≤ State.reset.cfg.heaterSet.setpoint
      ∧ State.reset.cfg.heaterSet.setpoint ≤ 300 ∧ (-32768 : Int) ≤ -32768 ∧ (32767 : Int) ≤ 32767
      ∧ (201 : Int) ≠ State.reset.cfg.heaterSet.setpoint := by decide +kernel

theorem witness_SettingsWritesSetTheirField :
    State.reset.mc.supply = .running ∧ risesStrictly State.reset.cfg.battery.ocv.toList = true
      ∧ State.reset.cfg.battery.vCut < State.reset.cfg.battery.vLow ∧ (∀ ch ∈ allChannels, (tget State.reset.cfg.chan (chanIx ch)).enabled = true)
      ∧ tget State.reset.cfg.thresholds (compIx .t0) ≠ 0 ∧ tget State.reset.cfg.masks (consIx .socketA) = false
      ∧ ((entryOf (socketOn .watch) .socketA).request.all fun q => !q.safety) = true
      ∧ demandsOrdered State.reset.cfg.demands = true ∧ (∀ j ∈ allKeys, keyEntryOk (tget State.reset.cfg.keymap j) = true)
      ∧ (80 ≤ 80 ∧ 100 ≤ 100 ∧ 7 ≤ 7 ∧ 15 ≤ 15 ∧ 1 ≤ 1 ∧ 400 ≤ 400 ∧ 20 ≤ 20 ∧ 120 ≤ 120 ∧ 255 ≤ 255)      ∧ State.reset.mc.mode ≠ .standby := by decide +kernel

theorem witness_OwnerWritesActAtOnce :
    (State.reset.mc.supply = .running ∧ (tget State.reset.ga.sockets (socketIx .a)).on = !true
        ∧ (tget (socketOn .watch).ga.sockets (socketIx .a)).on = !false)
      ∧ (20 ≤ 100 ∧ State.reset.cfg.heaterSet.threshold ≠ 20 ∧ State.reset.cfg.heaterSet.threshold ≠ 100)
      ∧ ((-180 : Int) ≤ -180 ∧ (100 : Int) ≤ 100)
      ∧ (State.reset.cfg.fridgeSet.enable = true ∧ State.reset.fc.state ≠ .fault ∧ State.reset.fc.state ≠ .off)
      ∧ (3 ≠ State.reset.fc.ventSpeed ∧ 0 ≠ (withFridge fun f => { f with ventSpeed := 3 }).fc.ventSpeed)
      ∧ ((lightOf .reset 5).target ≠ 1000)
      ∧ (let s : State := { State.reset with cfg := { State.reset.cfg with lights := { State.reset.cfg.lights with fade := 0 } } };
          s.cfg.lights.fade = 0) := by decide +kernel

theorem witness_ScheduleAndRestAreRestored :
    (State.reset.mc.supply = .running ∧ slotOf .reset 7 = none ∧ State.reset.su.unset = true)
      ∧ (let s := scheduled fun v => tset (tset v 0 (some hostEntry)) 7 (some restEntry);
          (slotOf s 7).any (·.rest) = true ∧ slotOf s 0 = some hostEntry ∧ hostEntry.rest = false)
      ∧ (let s : State := { State.reset with su := { State.reset.su with unset := false } };
          s.su.unset = false ∧ cabTime s < 1)
      ∧ (State.reset.rm.state = .unknown ∧ restoreAdmitted .reset 999999 2699 []
          ∧ .restStatePut 999999 2699 [] ∈ restoresOf 999999 2699 [] none)
      ∧ ((withRest fun r => { r with state := .stopped }).rm.state = .stopped
          ∧ .put 25 none (some 0) [some 0, some 0] ∈ restoresOf 0 0 [] (some 0) ∧ (some 1).any (· != tget State.reset.rev 24) = true
          ∧ (some 0).all (· == tget State.reset.rev 24) = true)
      ∧ (let s := at_ 40000 .reset;
          restoreAdmitted s 0 0 [⟨0, some 10800⟩, ⟨10800, some 40000⟩] ∧ restoreAdmitted s 0 0 [⟨0, some 10799⟩, ⟨40000, none⟩])
      ∧ (let s := at_ 40000 .reset;
          ¬restoreAdmitted s 1000000 0 [] ∧ ¬restoreAdmitted s 0 2700 [] ∧ ¬restoreAdmitted s 0 0 [⟨1, some 0⟩]
            ∧ ¬restoreAdmitted s 0 0 [⟨0, some 40001⟩] ∧ ¬restoreAdmitted s 0 0 [⟨40001, none⟩]
            ∧ ¬restoreAdmitted s 0 0 [⟨0, some 10⟩, ⟨9, none⟩] ∧ ¬restoreAdmitted s 0 0 [⟨0, none⟩, ⟨10, none⟩]
            ∧ ¬restoreAdmitted s 0 0 [⟨-1, none⟩] ∧ ¬restoreAdmitted s 0 0 (List.replicate 9 ⟨0, some 0⟩))
      ∧ ((withRest fun r => { r with state := .driving }).rm.state ≠ .unknown
          ∧ (withRest fun r => { r with state := .driving }).rm.state ≠ .stopped)
      ∧ (State.reset.rm.drive = 0 ∧ State.reset.rm.acc = 0 ∧ State.reset.rm.log = [])
      ∧ nextIs (exec (.restStatePut 0 0 []) (withRest fun r => { r with state := .stopped })) (fun t =>
          t.rm == { State.reset.rm with state := .stopped }) = true
      ∧ (let s := at_ (660 * 60) (withRest fun r => { r with state := .stopped });
          0 ≤ cabTime s ∧ 0 + s.cfg.profile.tRest * 60 ≤ cabTime s
            ∧ cabTime s < 1 + s.cfg.profile.tRest * 60) := by
  and_intros <;> decide +kernel

/-- SOCKETS OFF and ON are still on their way as DEMANDS is written: the change stands behind them (R46). -/
theorem test_demands_change_stands_behind_the_socket_handings :
    nextIs (exec (.demandsWrite [⟨18, none, some 33⟩])
        { socketOn .watch with handed := [.withdrawRequest .socketA, .placeRequest .socketA ⟨20, 20, none, false⟩] })
      (fun t => (entryOf t .socketA).request == some ⟨33, 33, none, false⟩
        && (t.handed.filter (movesRequest .socketA)).getLast? == some (.changeRequest .socketA ⟨33, 33, none, false⟩)) = true := by
  decide +kernel

/-- A restore of a split-first segment of 180 min and an open one behind it: RESTING, to the end of the split rest (R144, R151). -/
theorem test_restore_of_closed_and_open_segments :
    nextIs (exec (.restStatePut 60 0 [⟨0, some 10800⟩, ⟨20000, none⟩]) (at_ 40000 .reset)) (fun t =>
        t.rm.log == [⟨0, some 10800, true, false⟩, ⟨20000, none, false, false⟩] && t.rm.state == .resting
          && t.rm.plannedEnd == some (20000 + 540 * 60)) = true := by decide +kernel

/-- A restore of what UNKNOWN holds makes the steps of R151 all the same: STOPPED, a stop segment from the cab time, and a reply at
the revision its replacement did not advance (R151, R169). -/
theorem test_restore_of_equal_values_enters_stopped :
    nextIs (exec (.restStatePut 0 0 []) .reset) (fun t =>
        t.rm.state == .stopped && t.rm.stopSeg == some ⟨0, false⟩ && t.answer == some ⟨.ok, [0]⟩ && tget t.rev 24 == 1
          && t.handed.any (· == .noticePost ⟨.restChange, .rm, .info, false, [2, 5, 0]⟩)) = true := by decide +kernel

/-- The last trip time of TRIPS is absent until the first trip: ADJUST is refused with RANGE then (R171), and with READ_ONLY after
one (R16, R168). -/
theorem test_adjust_of_a_last_trip_time :
    nextIs (exec (.adjust (.host 10) 5 (some 0) 1) .reset) (fun t => (t.answer.map (·.status)) == some .range) = true
      ∧ nextIs (exec (.adjust (.host 10) 5 (some 0) 1) { State.reset with mu := { State.reset.mu with
            comp := State.reset.mu.comp.map fun c => { c with lastTrip := some ⟨7, true⟩ } } })
          (fun t => (t.answer.map (·.status)) == some .readOnly) = true := by and_intros <;> decide +kernel

/-- The origin of a SCHEDULE entry is an enumeration, which ADJUST refuses with RANGE before READ_ONLY (R168, R171). -/
theorem test_adjust_of_an_origin_is_refused_with_range :
    nextIs (exec (.adjust (.host 26) 1 (some 0) 1) (scheduled fun v => v.set 0 (some hostEntry)))
      (fun t => (t.answer.map (·.status)) == some .range) = true := by decide +kernel

end Sys2Proof.Tests
end

section
/-! SUPPORT. What the users of a channel leave of the Measurement Unit when a conversion reaches them (R10): the CC, the FC and
the RM leave all of it; the HC, which can wake the part on a start, leaves all but the mark of a mode change during a scan. -/

namespace Sys2Proof.Machine

variable (s : State)

/-! ### Charge Counter -/

@[simp] theorem updateBudget_mu : (updateBudget s).mu = s.mu := by
  unfold updateBudget; dsimp only; split <;> simp

@[simp] theorem moveLevel_mu (new : ShedLevel) (cause : LevelCause) : (moveLevel new cause s).mu = s.mu := by
  simp [moveLevel]

@[simp] theorem raiseNow_mu : (raiseNow s).mu = s.mu := by simp [raiseNow]

@[simp] theorem raiseCheck_mu : (raiseCheck s).mu = s.mu := by
  unfold raiseCheck; split <;> simp

@[simp] theorem reckon_mu : (reckon s).mu = s.mu := by simp [reckon]

@[simp] theorem evaluateRaise_mu : (evaluateRaise s).mu = s.mu := by
  unfold evaluateRaise; dsimp only; split <;> simp

@[simp] theorem countCharge_mu (i : Int) : (countCharge i s).mu = s.mu := by
  unfold countCharge
  split
  · rfl
  · dsimp only; split <;> simp

@[simp] theorem syncNotice_mu (k : SyncKind) : (syncNotice k s).mu = s.mu := by simp [syncNotice]

@[simp] theorem setFromOcv_mu (vh : Int) : (setFromOcv vh s).mu = s.mu := by simp [setFromOcv]

@[simp] theorem startEstimate_mu (vh : Int) : (startEstimate vh s).mu = s.mu := by
  unfold startEstimate; split <;> simp

@[simp] theorem fullSync_mu (i : Option Int) : (fullSync i s).mu = s.mu := by
  unfold fullSync
  split
  · split
    · simp
    · split <;> simp
  · simp

@[simp] theorem restHoldStep_mu (i : Int) : (restHoldStep i s).mu = s.mu := by
  unfold restHoldStep
  split
  · split <;> simp
  · simp

@[simp] theorem guardStep_mu (vh : Int) : (guardStep vh s).mu = s.mu := by simp [guardStep]

@[simp] theorem chargeIh_mu : (chargeIh s).mu = s.mu := by
  unfold chargeIh; dsimp only; split <;> simp

@[simp] theorem chargeVh_mu : (chargeVh s).mu = s.mu := by
  unfold chargeVh; split <;> simp

@[simp] theorem chargeConversion_mu (ch : Channel) : (chargeConversion ch s).mu = s.mu := by
  unfold chargeConversion; split <;> simp

@[simp] theorem sensorHoldOn_mu : (sensorHoldOn s).mu = s.mu := by
  unfold sensorHoldOn; dsimp only; split <;> simp

@[simp] theorem chargeLeft_mu (ch : Channel) : (chargeLeft ch s).mu = s.mu := by
  cases ch
  case vh => unfold chargeLeft; dsimp only; split <;> simp
  case ih => unfold chargeLeft; dsimp only; split <;> simp
  all_goals rfl

@[simp] theorem chargeRegained_mu (ch : Channel) : (chargeRegained ch s).mu = s.mu := by
  unfold chargeRegained; split <;> simp

/-! ### Fridge Controller -/

@[simp] theorem fridgeNotice_mu (e : FridgeEvent) : (fridgeNotice e s).mu = s.mu := by simp [fridgeNotice]

@[simp] theorem toStart_mu : (toStart s).mu = s.mu := by simp [toStart]

@[simp] theorem toIdle_mu : (toIdle s).mu = s.mu := by simp [toIdle]

@[simp] theorem waitOffEnd_mu : (waitOffEnd s).mu = s.mu := by
  unfold waitOffEnd; split <;> simp

@[simp] theorem toWaitOff_mu : (toWaitOff s).mu = s.mu := by
  unfold toWaitOff; split <;> simp

@[simp] theorem toFallbackOn_mu (drive : Bool) : (toFallbackOn drive s).mu = s.mu := by simp [toFallbackOn]

@[simp] theorem toFallbackOff_mu : (toFallbackOff s).mu = s.mu := by
  unfold toFallbackOff; split <;> simp

@[simp] theorem updateWanted_mu (tf : Int) : (updateWanted tf s).mu = s.mu := by
  unfold updateWanted; dsimp only; split <;> simp

@[simp] theorem thermostatStop_mu : (thermostatStop s).mu = s.mu := by simp [thermostatStop]

@[simp] theorem thermostat_mu (tf : Int) : (thermostat tf s).mu = s.mu := by
  unfold thermostat
  cases s.fc.state
  case idle => dsimp only; split_ifs <;> simp
  case start => dsimp only; split <;> simp
  case run => dsimp only; split <;> simp
  all_goals rfl

@[simp] theorem judgeTf_mu (conv : Option Int) : (judgeTf conv s).mu = s.mu := by
  cases conv <;> simp [judgeTf]

@[simp] theorem tfLostState_mu : (tfLostState s).mu = s.mu := by
  unfold tfLostState; split <;> simp

@[simp] theorem tfLost_mu : (tfLost s).mu = s.mu := by
  unfold tfLost; dsimp only; split <;> simp

@[simp] theorem resumeRun_mu (tf : Int) : (resumeRun tf s).mu = s.mu := by simp [resumeRun]

@[simp] theorem tfRegainedState_mu (conv : Option Int) : (tfRegainedState conv s).mu = s.mu := by
  unfold tfRegainedState
  split
  · rw [judgeTf_mu]; split <;> simp
  · rw [toWaitOff_mu]; cases conv <;> rfl
  · simp
  · rfl

@[simp] theorem tfRegained_mu (conv : Option Int) : (tfRegained conv s).mu = s.mu := by
  unfold tfRegained; dsimp only; split <;> simp

@[simp] theorem speedReturns_mu : (speedReturns s).mu = s.mu := by
  unfold speedReturns; split <;> simp

@[simp] theorem fridgeTf_mu (isConversion : Bool) : (fridgeTf isConversion s).mu = s.mu := by
  unfold fridgeTf
  extract_lets conv t
  have ht : t.mu = s.mu := by unfold t; split <;> rfl
  clear_value t
  split
  · simp [ht]
  · simp [ht]
  · simp [ht]
  · dsimp only
    rw [judgeTf_mu]
    split <;> simp [ht]

/-! ### Rest Monitor -/

@[simp] theorem startRisk_mu (vs : Int) : (startRisk vs s).mu = s.mu := by simp [startRisk]

@[simp] theorem restVs_mu : (restVs s).mu = s.mu := by
  unfold restVs
  split
  · split
    · rfl
    · split
      · split
        · split <;> simp
        · split <;> simp
      · simp
  · rfl

@[simp] theorem restVsLeft_mu : (restVsLeft s).mu = s.mu := by simp [restVsLeft]

/-! ### Heater Controller -/

@[simp] theorem writeHeater_mu : (writeHeater s).mu = s.mu := by
  unfold writeHeater; split <;> rfl

@[simp] theorem keepHeater_mu (t : State) : (keepHeater s t).mu = t.mu := by
  unfold keepHeater; split <;> simp

@[simp] theorem postFault_mu (f : HeaterFault) (arose : HeaterState) (leads : Bool) :
    (postFault f arose leads s).mu = s.mu := by simp [postFault]

@[simp] theorem recordFault_mu (f : HeaterFault) (arose : HeaterState) (leads : Bool) :
    (recordFault f arose leads s).mu = s.mu := by simp [recordFault]

@[simp] theorem countPurge_mu : (countPurge s).mu = s.mu := by
  unfold countPurge; split <;> simp

@[simp] theorem setDesired_mu (g : Stage) : (setDesired g s).mu = s.mu := by
  unfold setDesired; dsimp only; split <;> simp

@[simp] theorem moveStage_mu (t : Stage) : (moveStage t s).mu = s.mu := by
  unfold moveStage; dsimp only; split_ifs <;> simp

/-- The entry of a heater state leaves the MU, less the mark that its wake can set. -/
@[simp] theorem enterHeater_measureCore (new : HeaterState) (upd : HeaterUnit → HeaterUnit) :
    measureCore (enterHeater new upd s).mu = measureCore s.mu := by
  obtain ⟨b, e⟩ := enterHeater_mu s new upd
  rw [e]; rfl

@[simp] theorem offWith_measureCore (f : HeaterFault) : measureCore (offWith f s).mu = measureCore s.mu := by
  simp [offWith]

@[simp] theorem heaterOff_measureCore : measureCore (heaterOff s).mu = measureCore s.mu := by simp [heaterOff]

@[simp] theorem toLockout_measureCore : measureCore (toLockout s).mu = measureCore s.mu := by simp [toLockout]

@[simp] theorem toPurge_measureCore (exit : PurgeExit) (fault : Option HeaterFault) :
    measureCore (toPurge exit fault s).mu = measureCore s.mu := by
  cases fault <;> simp [toPurge]

@[simp] theorem toOverheat_measureCore : measureCore (toOverheat s).mu = measureCore s.mu := by simp [toOverheat]

@[simp] theorem toWaitPower_measureCore (upd : HeaterUnit → HeaterUnit) :
    measureCore (toWaitPower upd s).mu = measureCore s.mu := by simp [toWaitPower]

@[simp] theorem newRun_measureCore : measureCore (newRun s).mu = measureCore s.mu := by simp [newRun]

@[simp] theorem heaterStop_measureCore : measureCore (heaterStop s).mu = measureCore s.mu := by
  unfold heaterStop
  cases s.hc.state
  case purge =>
    dsimp only
    split
    · split <;> simp
    · rfl
  all_goals simp

@[simp] theorem attemptFailed_measureCore : measureCore (attemptFailed s).mu = measureCore s.mu := by
  unfold attemptFailed; split <;> simp

@[simp] theorem toStabilize_measureCore : measureCore (toStabilize s).mu = measureCore s.mu := by simp [toStabilize]

@[simp] theorem pauseStep_measureCore (e : Int) : measureCore (pauseStep e s).mu = measureCore s.mu := by
  unfold pauseStep
  split
  · split
    · simp
    · split <;> simp
  · simp

@[simp] theorem regulate_measureCore (tc : Int) : measureCore (regulate tc s).mu = measureCore s.mu := by
  simp [regulate]

@[simp] theorem frostStart_measureCore : measureCore (frostStart s).mu = measureCore s.mu := by
  unfold frostStart; split <;> simp

@[simp] theorem frostStep_measureCore (tc : Int) : measureCore (frostStep tc s).mu = measureCore s.mu := by
  unfold frostStep
  split
  · split
    · split <;> simp
    · split <;> simp
  · simp

@[simp] theorem heaterVh_measureCore : measureCore (heaterVh s).mu = measureCore s.mu := by
  unfold heaterVh
  split
  · split
    · split
      · simp
      · split <;> simp
    · simp
  · rfl

@[simp] theorem heaterTh_measureCore : measureCore (heaterTh s).mu = measureCore s.mu := by
  unfold heaterTh
  split
  · split
    · split
      · simp
      · split <;> simp
    · simp
  · rfl

@[simp] theorem heaterTc_measureCore : measureCore (heaterTc s).mu = measureCore s.mu := by
  unfold heaterTc
  split
  · split
    · simp
    · split
      · simp
      · split <;> simp
      · simp
      · rfl
  · split <;> simp

@[simp] theorem purgeExit_measureCore (p : PurgeRecord) : measureCore (purgeExit p s).mu = measureCore s.mu := by
  unfold purgeExit
  split
  · simp
  · simp
  · split_ifs <;> simp
  · split_ifs <;> simp

@[simp] theorem purgeEnd_measureCore : measureCore (purgeEnd s).mu = measureCore s.mu := by
  unfold purgeEnd
  split
  · rfl
  · dsimp only
    rw [keepHeater_mu]
    split <;> simp

@[simp] theorem flameGone_measureCore : measureCore (flameGone s).mu = measureCore s.mu := by
  unfold flameGone; split <;> simp

@[simp] theorem flameStep_measureCore (tx : Int) : measureCore (flameStep tx s).mu = measureCore s.mu := by
  unfold flameStep
  split
  · split
    · simp
    · split <;> simp
  · simp

@[simp] theorem heaterTxState_measureCore : measureCore (heaterTxState s).mu = measureCore s.mu := by
  unfold heaterTxState
  split
  · rfl
  · split
    · split
      · split <;> simp
      · rfl
    · split
      · split <;> simp
      · rfl
    · simp
    · split <;> simp
    · split <;> simp
    · rfl

@[simp] theorem heaterTx_measureCore : measureCore (heaterTx s).mu = measureCore s.mu := by
  unfold heaterTx
  split
  · dsimp only; split <;> simp
  · simp

@[simp] theorem heaterConversion_measureCore (ch : Channel) :
    measureCore (heaterConversion ch s).mu = measureCore s.mu := by
  unfold heaterConversion; split <;> simp

@[simp] theorem heaterLeft_measureCore (ch : Channel) : measureCore (heaterLeft ch s).mu = measureCore s.mu := by
  cases ch
  case th => unfold heaterLeft; dsimp only; split <;> simp
  case tx => unfold heaterLeft; dsimp only; split <;> simp
  case tc => unfold heaterLeft; dsimp only; split <;> simp
  all_goals rfl

end Sys2Proof.Machine
end

section
/-! PROOFS. A conversion of the scan's next channel sets that channel's entry by R4 to R8 and leaves every other; from it the
statements on the sample and the counts. -/

namespace Sys2Proof.Machine

/-! ### The entry of a channel after a conversion (R4, R5) -/

theorem rangeKindOf_inRange {code : Nat} (hlo : 16 ≤ code) (hhi : code ≤ 4079) : rangeKindOf code = .inRange := by
  unfold rangeKindOf
  rw [if_neg (by omega), if_neg (by omega)]

theorem rangeKindOf_outOfRange {code : Nat} (h : code ≤ 15 ∨ 4080 ≤ code) :
    rangeKindOf code = if code ≤ 15 then .short else .openLead := by
  unfold rangeKindOf
  obtain hs | ho := h
  · rw [if_pos (by omega), if_pos hs]
  · rw [if_neg (by omega), if_pos (by omega), if_neg (by omega)]

/-- The entry after an in-range code (R4, R6, R8). -/
theorem convertEntry_inRange (ch : Channel) (k : Nat) {code : Nat} (e : ChanEntry) (h : rangeKindOf code = .inRange) :
    convertEntry ch k code e =
      { e with
        code := some code
        kind := some .inRange
        sample := some (scaled ch code)
        filtered := some (filterStep k e.filtered (scaled ch code))
        outCount := 0
        inCount := if e.rangeMark && !(e.rangeMark && decide (10 ≤ e.inCount + 1)) then e.inCount + 1 else 0
        rangeMark := e.rangeMark && !(e.rangeMark && decide (10 ≤ e.inCount + 1)) } := by
  simp only [convertEntry, h]

/-- The entry after an out-of-range code: sample and filtered value are held (R5, R8). -/
theorem convertEntry_outOfRange (ch : Channel) (k : Nat) {code : Nat} (e : ChanEntry) (h : rangeKindOf code ≠ .inRange) :
    convertEntry ch k code e =
      { e with
        code := some code
        kind := some (rangeKindOf code)
        outCount := min 3 (e.outCount + 1)
        inCount := 0
        rangeMark := e.rangeMark || decide (3 ≤ e.outCount + 1) } := by
  cases hk : rangeKindOf code
  case inRange => exact absurd hk h
  case short => simp only [convertEntry, hk]
  case openLead => simp only [convertEntry, hk]

/-- What a conversion makes of a channel's entry, its status judged again (R4 to R8). -/
def convertedEntry (ch : Channel) (code : Nat) (s : State) : ChanEntry :=
  let e := convertEntry ch (tget s.cfg.chan (chanIx ch)).k code (chanOf s ch)
  { e with status := statusFrom (isConverted s ch) e }

/-! ### The command -/

@[simp] theorem sensorNotice_mu (ch : Channel) (old : SampleStatus) (s : State) : (sensorNotice ch old s).mu = s.mu := by
  unfold sensorNotice; dsimp only; split_ifs <;> simp

@[simp] theorem statusChange_measureCore (ch : Channel) (old : SampleStatus) (s : State) :
    measureCore (statusChange ch old s).mu = measureCore s.mu := by
  unfold statusChange; dsimp only; split_ifs <;> simp

@[simp] theorem sampleReport_measureCore (ch : Channel) (old : SampleStatus) (s : State) :
    measureCore (sampleReport ch old s).mu = measureCore s.mu := by
  unfold sampleReport; dsimp only; split <;> simp

/-- States that agree but for the mark of a mode change during a scan hold the same channels. -/
theorem chan_eq_of_measureCore {m n : MeasureUnit} (h : measureCore m = measureCore n) : m.chan = n.chan := by
  change (measureCore m).chan = (measureCore n).chan
  rw [h]

@[simp] theorem leaveScan_chan (chs : List Channel) (s : State) : (leaveScan chs s).mu.chan = s.mu.chan := by
  obtain e | ⟨-, -, -, e | e⟩ := leaveScan_cases chs s <;> rw [e] <;> simp

/-- The users leave the channels' entries: what `setChannel` wrote stands at the end of the conversion. -/
theorem convert_chan (ch : Channel) (code : Nat) (s : State) (h : s.mu.scanLeft.head? = some ch) :
    (convert ch code s).mu.chan = tset s.mu.chan (chanIx ch) (convertedEntry ch code s) := by
  unfold convert
  rw [if_pos h]
  dsimp only
  rw [leaveScan_chan, chan_eq_of_measureCore (sampleReport_measureCore ch _ _), sensorNotice_mu]
  rfl

/-- A conversion of the scan's next channel, as the running part takes it. -/
theorem exec_conversion_chan (ch : Channel) (code : Nat) (s : State) (hrun : s.mc.supply = .running)
    (hnext : s.mu.scanLeft.head? = some ch) :
    ∃ t, exec (.conversion ch code) s = .next t
      ∧ t.mu.chan = tset s.mu.chan (chanIx ch) (convertedEntry ch code s) := by
  refine ⟨_, event_running (.conversion ch code) (convert ch code) s hrun, ?_⟩
  rw [close_mu_chan, convert_chan ch code _ (by rwa [startEvent_mu])]
  rfl

/-- The converted channel's own entry after the command. -/
theorem exec_conversion_chanOf (ch : Channel) (code : Nat) (s : State) (hrun : s.mc.supply = .running)
    (hnext : s.mu.scanLeft.head? = some ch) :
    ∃ t, exec (.conversion ch code) s = .next t ∧ chanOf t ch = convertedEntry ch code s := by
  obtain ⟨t, hexec, hchan⟩ := exec_conversion_chan ch code s hrun hnext
  exact ⟨t, hexec, by rw [chanOf, hchan, tget_tset, if_pos rfl]⟩

end Sys2Proof.Machine

namespace Sys2Proof.Proofs

open Sys2Proof Sys2Proof.Machine

/-- Settles O20: the users of the channel leave the entry that R4 gives an in-range code. -/
theorem inRangeConversionScalesSample : Obligations.InRangeConversionScalesSample := by
  intro ch code s hrun hnext hlo hhi
  obtain ⟨t, hexec, hentry⟩ := exec_conversion_chanOf ch code s hrun hnext
  have hin := convertEntry_inRange ch (tget s.cfg.chan (chanIx ch)).k (chanOf s ch) (rangeKindOf_inRange hlo hhi)
  exact ⟨t, hexec, by simp only [hentry, convertedEntry, hin, scaled, and_self]⟩

/-- Settles O21: as O20, with the entries that R5 gives a code on either side of the range, and R4 one within it. -/
theorem outOfRangeConversionHoldsSample : Obligations.OutOfRangeConversionHoldsSample := by
  refine ⟨fun ch code s hrun hnext hcode => ?_, fun ch code s hrun hnext hlo hhi => ?_⟩
  · obtain ⟨t, hexec, hentry⟩ := exec_conversion_chanOf ch code s hrun hnext
    have hkind := rangeKindOf_outOfRange (hcode.imp_right And.left)
    have hne : rangeKindOf code ≠ .inRange := by rw [hkind]; split <;> decide
    have hout := convertEntry_outOfRange ch (tget s.cfg.chan (chanIx ch)).k (chanOf s ch) hne
    exact ⟨t, hexec, by simp only [hentry, convertedEntry, hout, hkind, and_self]⟩
  · obtain ⟨t, hexec, hentry⟩ := exec_conversion_chanOf ch code s hrun hnext
    have hin := convertEntry_inRange ch (tget s.cfg.chan (chanIx ch)).k (chanOf s ch) (rangeKindOf_inRange hlo hhi)
    exact ⟨t, hexec, by simp only [hentry, convertedEntry, hin]⟩

end Sys2Proof.Proofs
end

section
/-! PROOFS. Every command as one event: what it does between the event's start and its close. -/

namespace Sys2Proof.Machine

/-- What a command does at its running part, between the event's start and its close. A part takes the supply's own commands
outside an event. -/
def effect (i : Instr) : State → State :=
  match i with
  | .supplyChange mv => supplyAt mv
  | .powerOnReset => powerOn
  | .elapsedTick => tick
  | .scanStart => startScan
  | .conversion ch code => convert ch code
  | .suspectChannel channel => setHostMark channel true
  | .clearSuspect channel => setHostMark channel false
  | .currentRise c ma => currentRises c ma
  | .currentFall c ma => currentFalls c ma
  | .blankingExpiry c => blankingOver c
  | .qualifyExpiry c => qualifyOver c
  | .loadCurrentReading r => loadReading r
  | .tachEdge us => withMu fun m => { m with tach := tachEdge us m.tach }
  | .tachTimeout => withMu fun m => { m with tach := ⟨none, none, 0⟩ }
  | .minuteEnd => minuteEnd
  | .horizonChange minutes => takeHorizon minutes
  | .budgetReport r => fun s => pass s (withGa (fun g => { g with report := r }) s)
  | .placeRequest c r => setRequest c r
  | .changeRequest c r => setRequest c r
  | .withdrawRequest c => withdraw c
  | .classOverride on => setOverride on
  | .tripReport r => takeTrip r.comparator
  | .retryTimerExpiry c => retryOver c
  | .tripWindowExpiry c => windowOver c
  | .clearTrip id => clearTrip id
  | .socketRunLimitExpiry k => socketRunOut k
  | .heaterGrantReport grant _ => heaterGrant grant
  | .heaterTripReport c _ => heaterTrip c
  | .heaterLevelChange level => withHc fun h => { h with level := level }
  | .heatStart setpoint duration => heatStartRequest setpoint duration
  | .heatStop => fun s => answer .ok [] (heaterStop s)
  | .heatVent on => heatVent on
  | .clearLockout => clearLockout
  | .waitPowerTimeout => inHeater .waitPower (offWith .noPower)
  | .glowTest => glowTest
  | .checkPhaseEnd => inHeater .check toPreheat
  | .preheatPowerTimeout => inHeater .preheat fun s => if s.hc.power.isSome then offWith .noPower s else s
  | .preheatPhaseEnd => inHeater .preheat fun s => if s.hc.phase.isSome then toPrime s else s
  | .primePhaseEnd => inHeater .prime toIgnite
  | .igniteLimitExpiry => inHeater .ignite attemptFailed
  | .stabilizePhaseEnd => inHeater .stabilize toRun
  | .durationExpiry => durationStop
  | .purgeEnd => inHeater .purge fun s => if txCool s then purgeEnd s else s
  | .purgeHotTimeout => purgeHot
  | .dryCoolTimeout => inHeater .dryCool toLockout
  | .blowerStep => blowerStep
  | .strokeStart => fun s => if s.hc.stroke.isSome then strokeAt s else s
  | .strokePulseEnd => withHc fun h => { h with pulse := false }
  | .fridgeGrantReport grant _ => fridgeGrant grant
  | .stall _ => fridgeStall
  | .fridgeLevelChange level => withFc fun f => { f with level := level }
  | .tfStaleExpiry => fun s => if s.fc.reading = .pending ∧ statusOf s .tf = .stale then tfLost s else s
  | .fridgeBoost on => boostRequest on
  | .boostEnd => boostOver
  | .clearFault => fun s => answer .ok [] (fridgeClearFault s)
  | .waitOffEnd => inFridge .waitOff waitOffEnd
  | .softStartEnd => inFridge .start fun s => if s.fc.phase.isSome then softStartEnd s else s
  | .minOnTimeEnd => inFridge .run fun s => if s.fc.satisfied && s.fc.reading == .reading then thermostatStop s else s
  | .stallWaitEnd => inFridge .stallWait stallWaitEnd
  | .stallLogExpiry => fun s => if s.fc.state = .fault then s else withFc (fun f => { f with stallLog := f.stallLog.tail }) s
  | .fallbackOnEnd => inFridge .fallbackOn fun s => toFallbackOff (commandOff s)
  | .fallbackOffEnd => inFridge .fallbackOff (toFallbackOn true)
  | .fdoorHanding st => fridgeDoor st
  | .doorTimerExpiry => doorAlert
  | .ventRunEnd => ventRunReached
  | .ventGrantReport grant _ => ventGrantIn grant
  | .lightGrantReport g grant _ => lightsGrant g grant
  | .lightTripReport g o => lightsTrip g (some o)
  | .lightLevelChange level => lightsLevel level
  | .fadeStep ch => fadeStep ch
  | .lightScene n => fun s => answerWith (sceneRequest n s)
  | .cdoorHanding st => lightsDoor st
  | .entryTimerExpiry => entryTimeout
  | .keyScan reads => keyScan reads
  | .holdTimerExpiry k => holdOver k
  | .columnWakeEdge => wakeEdge
  | .readKeys => readKeys
  | .clearKeys => clearKeys
  | .contactInputChange c l => contactInput c l
  | .debounceExpiry c => debounceOver c
  | .chimeRequest pattern => fun s => (judgeChime pattern s).1
  | .playChime pattern => fun s => answerWith (chimeStatus pattern s)
  | .silenceChime => fun s => answer .ok [] (stopChimes s)
  | .chimePhaseEnd => chimePhase
  | .panelGrantReport grant _ => panelGrant grant
  | .moveHanding st => restMove st
  | .ignHanding st => restIgn st
  | .stopConfirmExpiry => stopConfirmed
  | .declareRest => fun s => answerWith (declareRest s)
  | .endRest => fun s => answerWith (endRest s)
  | .limitRepeatExpiry => limitRepeats
  | .plannedEndReached => plannedEndNow
  | .endSoonReached => endSoonNow
  | .setClock time => setClock time
  | .addEntry time rep state action => addEntry time rep state action
  | .removeEntry slot => removeEntry slot
  | .prewarmEntryPlace time setpoint duration => prewarmPlace time setpoint duration
  | .prewarmEntryMove time setpoint duration => prewarmMove time setpoint duration
  | .prewarmEntryRemove => prewarmRemove
  | .rxByte b => receive b
  | .rxGapTimeout => rxGap
  | .linkBreak => linkBroken
  | .rxdWakeEdge => wakeEdge
  | .requestTake => takeRequest
  | .replySent => replySent
  | .noticePost p => queueNotice p
  | .fetchNotices => fetch
  | .attnPulseEnd => pulseOver
  | .get record list start count => getOp record list start count
  | .put record elem expected values => putOp record elem expected values
  | .fieldWrite record ws => fieldWriteOp record ws
  | .adjust record field elem delta => adjustFor record field elem delta
  | .exchange record field elem value => exchangeOp record field elem value
  | .compareWrite record field elem expected value => compareOp record field elem expected value
  | .batteryWrite ws => fieldWriteOp 3 ws
  | .channelsWrite ws => fieldWriteOp 8 ws
  | .tripsWrite ws => fieldWriteOp 10 ws
  | .consumersWrite ws => fieldWriteOp 5 ws
  | .demandsWrite ws => fieldWriteOp 7 ws
  | .socketsWrite ws => fieldWriteOp 17 ws
  | .heaterSetWrite ws => fieldWriteOp 11 ws
  | .fridgeSetWrite ws => fieldWriteOp 14 ws
  | .ventWrite ws => fieldWriteOp 16 ws
  | .lightsWrite ws => fieldWriteOp 18 ws
  | .panelWrite ws => fieldWriteOp 21 ws
  | .contactsWrite ws => fieldWriteOp 22 ws
  | .restProfileWrite ws => fieldWriteOp 24 ws
  | .restStatePut drive acc log => restPut none drive acc log
  | .scheduleWrite ws => fieldWriteOp 26 ws
  | .recordWrite r ws => fieldWriteOp (plainId r) ws
  | .standby => standby
  | .restart quiet => restart quiet
  | .saveSettings => saveSettings
  | .storeWriteDone part => storeWritten part
  | .rxStartBit => startBit

/-- The commands after which the reset of a RESTART may begin (R193). -/
def mayRestart (i : Instr) : Bool :=
  match i with
  | .restart _ | .requestTake | .replySent | .storeWriteDone _ => true
  | _ => false

/-- The commands that a part held in reset takes (R190). -/
def takenInReset (i : Instr) : Bool :=
  match i with
  | .supplyChange _ | .powerOnReset | .contactInputChange _ _ => true
  | _ => false

/-- A command is one event, but for those of the supply, of a RESTART and of a contact input. -/
theorem exec_event (i : Instr) (htaken : takenInReset i = false) (hrestart : mayRestart i = false) :
    exec i = event i (effect i) := by
  cases i
  case restart | requestTake | replySent | storeWriteDone => cases hrestart
  case supplyChange | powerOnReset | contactInputChange => cases htaken
  all_goals rfl

theorem exec_resettingEvent (i : Instr) (h : mayRestart i = true) : exec i = resettingEvent i (effect i) := by
  cases i
  case restart | requestTake | replySent | storeWriteDone => rfl
  all_goals cases h

theorem exec_contactInputChange (c : Contact) (l : LineLevel) {s : State} (hrun : s.mc.supply = .running) :
    exec (.contactInputChange c l) s = event (.contactInputChange c l) (contactInput c l) s := by
  change execContactInputChange c l s = _
  rw [execContactInputChange, hrun]

/-- A running part takes a command that resets nothing as one event. -/
theorem exec_running {i : Instr} {s : State} (hrun : s.mc.supply = .running) (hreset : mayReset i = false) :
    exec i s = .next (close s (effect i (startEvent i s))) := by
  by_cases htaken : takenInReset i = true
  · cases i
    case contactInputChange c l => rw [exec_contactInputChange c l hrun]; exact event_running _ _ s hrun
    case supplyChange | powerOnReset => cases hreset
    all_goals cases htaken
  · have hrestart : mayRestart i = false := by
      cases i
      case restart | requestTake | replySent | storeWriteDone => cases hreset
      all_goals rfl
    rw [exec_event i (by simpa using htaken) hrestart]
    exact event_running _ _ s hrun

theorem resettingEvent_held (i : Instr) (f : State → State) (s : State) (b : Bool) (h : s.mc.supply = .held b) :
    resettingEvent i f s = .next s := by
  rw [resettingEvent, event_held i f s b h]
  simp [restartDue, h]

/-- A running part takes a command of a RESTART as one event, after which its reset may begin. -/
theorem exec_restarting {i : Instr} {s : State} (hrun : s.mc.supply = .running) (h : mayRestart i = true) :
    exec i s = .next (restartDue (close s (effect i (startEvent i s)))) := by
  rw [exec_resettingEvent i h, resettingEvent, event_running i (effect i) s hrun]

/-- A part held in reset takes no command but the supply's, the power-on reset and a contact input (R190). -/
theorem exec_held {i : Instr} {s : State} {b : Bool} (h : s.mc.supply = .held b) (htaken : takenInReset i = false) :
    exec i s = .next s := by
  by_cases hrestart : mayRestart i = true
  · rw [exec_resettingEvent i hrestart, resettingEvent_held _ _ s b h]
  · rw [exec_event i htaken (by simpa using hrestart), event_held _ _ s b h]

theorem exec_contactInputChange_held (c : Contact) (l : LineLevel) {s : State} {b : Bool} (h : s.mc.supply = .held b) :
    exec (.contactInputChange c l) s = .next (pinInReset c l s) := by
  change execContactInputChange c l s = _
  rw [execContactInputChange, h]

end Sys2Proof.Machine
end

section
/-! PROOFS. The step's front command, the state right after a reset, and the supply monitor. -/

namespace Sys2Proof.Machine

/-! ### The state right after a reset -/

theorem statusOf_reset (ch : Channel) : statusOf .reset ch = .stale := by cases ch <;> rfl

theorem entryOf_reset_grant (c : Consumer) : (entryOf .reset c).grant = 0 := by cases c <;> rfl

theorem flameGuarded_reset : flameGuarded .reset :=
  ⟨fun ch _ => statusOf_reset ch, fun h => absurd h (by decide)⟩

theorem grantSound_reset : grantSound .reset :=
  ⟨by decide, fun c hc => absurd hc (by rw [entryOf_reset_grant]; decide)⟩

/-- After a reset each class's list holds the consumers whose class it is by default, none being boosted. -/
theorem listsSound_reset : listsSound .reset := by
  intro k
  fin_cases k <;> exact ⟨by decide, fun c => by cases c <;> decide⟩

theorem lightsSound_reset : lightsSound .reset := by
  intro i
  fin_cases i <;> exact ⟨fun _ => rfl, fun f hf => (by cases hf), rfl⟩

theorem requestsSound_reset : requestsSound .reset :=
  ⟨by decide, by decide, by decide, by decide, by decide, by decide, fun k => by cases k <;> decide⟩

theorem heaterSound_reset : heaterSound .reset := by
  unfold heaterSound
  refine ⟨by decide, by decide, by decide, by decide, by decide, by decide, by decide, by decide, fun p hp => ?_, fun p hp => ?_⟩
  · cases hp
  · cases hp

theorem fridgeSound_reset : fridgeSound .reset := by
  unfold fridgeSound
  decide

theorem chargeSound_reset : chargeSound .reset := by
  refine ⟨fun c hc => ?_, by decide⟩
  cases hc

theorem queuesSound_reset : queuesSound .reset := by
  unfold queuesSound
  decide

/-! ### The supply monitor -/

/-- No output of a part held in reset is energized (R190). -/
theorem energized_held {s : State} {b : Bool} (h : s.mc.supply = .held b) (o : Output) : energized s o = false := by
  rw [energized, h]

end Sys2Proof.Machine

namespace Sys2Proof.Proofs

open Sys2Proof Sys2Proof.Machine

/-- Settles O1: a step with a command waiting is that command's `exec`, by the definition of `step`. -/
theorem stepRunsFrontCommand : Obligations.StepRunsFrontCommand := by
  intro c rest s h
  rw [Machine.step, h]

/-- Settles O8: each invariant is read off the state of the reset. -/
theorem resetIsSound : Obligations.ResetIsSound :=
  ⟨heaterSound_reset, flameGuarded_reset, fridgeSound_reset, chargeSound_reset, grantSound_reset, listsSound_reset,
    lightsSound_reset, requestsSound_reset, queuesSound_reset⟩

/-- Settles O14: each value is read off the state of the reset. -/
theorem resetLeavesSpecValues : Obligations.ResetLeavesSpecValues := by
  unfold Obligations.ResetLeavesSpecValues
  dsimp only
  and_intros
  all_goals decide

/-- Settles O15: each clause is the meaning that a command has in the one state of the supply it speaks of. -/
theorem supplyMonitorHoldsAndReleases : Obligations.SupplyMonitorHoldsAndReleases := by
  refine ⟨⟨fun mv s hrun hmv => ?_, fun mv s hrun hmv => ?_, fun mv s b hheld => ?_⟩,
    ⟨fun i s b hheld h1 h2 h3 => exec_held hheld ?_, fun c l s b hheld => ?_⟩, fun s hheld => ?_⟩
  · refine ⟨_, rfl, ?_⟩
    rw [supplyAt, hrun]
    dsimp only
    rw [if_pos hmv]
    exact ⟨rfl, energized_held rfl, rfl, rfl, rfl, rfl, rfl⟩
  · change Host.Outcome.next (supplyAt mv s) = _
    rw [supplyAt, hrun]
    dsimp only
    rw [if_neg (by omega)]
  · refine ⟨_, rfl, ?_⟩
    rw [supplyAt, hheld]
    rfl
  · cases i
    case supplyChange mv => exact absurd rfl (h2 mv)
    case powerOnReset => exact absurd rfl h1
    case contactInputChange c l => exact absurd rfl (h3 c l)
    all_goals rfl
  · exact ⟨_, exec_contactInputChange_held c l hheld, contactOf_withContact_same c _ s,
      fun d hd => contactOf_withContact_of_ne _ s hd, rfl⟩
  · refine ⟨_, rfl, ?_⟩
    rw [powerOn, hheld]
    exact ⟨rfl, rfl, rfl, rfl⟩

end Sys2Proof.Proofs
end

section
/-! PROOFS. What an operation can do to the part, as moves: each move changes one block, keeps what the invariants of Safety.lean
ask of that block, and names the area it needs. Every operation is a run of moves over its areas, so a fact that each move keeps
holds of every operation. -/

namespace Sys2Proof.Machine

/-! ### Unit-level soundness -/

/-- The HC's own part of `heaterSound`. -/
def heaterUnitSound (h : HeaterUnit) : Prop :=
  (h.glow = true → h.state = .check ∨ h.state = .preheat ∨ h.state = .prime ∨ h.state = .ignite)
    ∧ h.stroke.isSome = burning h.state
    ∧ (h.pulse = true → burning h.state = true)
    ∧ h.purge.isSome = (h.state == .purge)
    ∧ h.desired.isSome = (h.state == .run)
    ∧ h.lockout = (h.state == .dryCool || h.state == .lockout)
    ∧ (h.restartPending = true → h.state = .purge)
    ∧ h.failed ≤ 3 ∧ h.overheats ≤ 3

/-- A heater part of the store within its counters' range. -/
def heaterPartSmall (p : HeaterPart) : Prop := p.failed ≤ 3 ∧ p.overheats ≤ 3

/-- Both heater parts that the MC holds are within range. -/
def storeSmall (m : ModeUnit) : Prop :=
  (∀ p, m.heaterPart = some p → heaterPartSmall p) ∧ ∀ p, m.heaterWrite = some p → heaterPartSmall p

/-- The FC's own `fridgeSound`. -/
def fridgeUnitSound (f : FridgeUnit) : Prop :=
  (f.drive = true → f.state = .start ∨ f.state = .run ∨ f.state = .fallbackOn)
    ∧ f.wanted.isSome = (f.state == .start || f.state == .run)
    ∧ (f.state ≠ .fault → f.stallLog.length < 3)
    ∧ f.stallLog.length ≤ 3
    ∧ f.alerts ≤ 5

/-- The CC's own `chargeSound` under a capacity. -/
def chargeUnitSound (cap : Nat) (u : ChargeUnit) : Prop :=
  (∀ c, u.c = some c → c ≤ cap) ∧ -360000 < u.residue ∧ u.residue < 360000 ∧ u.window.length ≤ 16 ∧ u.relief < 5

/-- A light channel's fade is sound: none at the target, or its steps done below its steps. -/
def fadeSound (c : LightChan) : Prop :=
  (c.fade = none → c.faded = c.target) ∧ ∀ f, c.fade = some f → f.k < f.n

/-- The states that R70 guards: from CHECK to RUN. -/
abbrev flaming (st : HeaterState) : Prop := st = .check ∨ st = .preheat ∨ burning st = true

/-- The burning states and the two that follow them (R82). -/
abbrev hot (st : HeaterState) : Prop := burning st = true ∨ st = .purge ∨ st = .dryCool

/-! ### Moves -/

/-- What a move changes, finer than the parts of a footprint. The areas `poked`, `relisted`, `rawChan`, `sleep`, `demand` and
`clock` are changes after which an invariant needs a further step. -/
inductive Area where
  | setpoint | poked (r : Nat) | mu | comp | chan | rawChan | cc | ga | relisted | asked | demand | hc | leave | fc | lc | pn | sleep
  | rm | su | clock | lk | skip | mc | restart | doze | answer | choices | panelTakes
deriving DecidableEq, Repr

/-- The parts of a footprint that an area touches. -/
def Area.parts : Area → List Part
  | .setpoint => [.cfg]
  | .poked 16 => [.cfg, .fc]
  | .poked 17 => [.cfg, .ga]
  | .poked 18 => [.cfg, .lc]
  | .poked 26 => [.su]
  | .poked _ => [.cfg]
  | .mu => [.mu]
  | .comp => [.mu]
  | .chan => [.mu]
  | .rawChan => [.mu]
  | .cc => [.cc]
  | .ga => [.ga]
  | .relisted => [.ga]
  | .asked => [.asked]
  | .demand => [.asked]
  | .hc => [.hc]
  | .leave => []
  | .fc => [.fc]
  | .lc => [.lc]
  | .pn => [.pn]
  | .sleep => [.pn]
  | .rm => [.rm]
  | .su => [.su]
  | .clock => [.su]
  | .lk => [.lk]
  | .skip => [.lk]
  | .mc => [.mc]
  | .restart => []
  | .doze => []
  | .answer => [.answer]
  | .choices => [.choices]
  | .panelTakes => []

/-- The parts that a list of areas touches. -/
def partsOf (as : List Area) : List Part := as.flatMap Area.parts

/-- A change of revisions as an update makes it: a byte stays a byte, and CLOCK's stays. -/
def revisionsStep (s : State) (v : Vector Nat 26) : Prop :=
  (∀ i, tget s.rev i < 256 → tget v i < 256) ∧ tget v 1 = tget s.rev 1

/-- The heater may go from its state to `new`: into a guarded state only from one or with TX and TH VALID (R70), and out of the
burning states only into PURGE or DRY_COOL, which only the area `leave` lets it leave again (R82). -/
def heaterMayEnter (as : List Area) (s : State) (new : HeaterState) : Prop :=
  (flaming new → flaming s.hc.state ∨ (statusOf s .tx = .valid ∧ statusOf s .th = .valid))
    ∧ (hot s.hc.state → hot new ∨ ((s.hc.state = .purge ∨ s.hc.state = .dryCool) ∧ .leave ∈ as))

/-- The silence time goes from `m` to `n`: it stays, or is made 0, or gains up to 120 s where DOZE may follow (R187). -/
def silenceMove (as : List Area) (m n : Nat) : Prop := n = m ∨ n = 0 ∨ (.doze ∈ as ∧ (m ≤ 120 → n ≤ 120))

theorem silenceMove.le {as : List Area} {m n : Nat} (h : silenceMove as m n) (hm : m ≤ 120) : n ≤ 120 := by
  obtain rfl | rfl | ⟨-, h⟩ := h
  · exact hm
  · exact Nat.zero_le _
  · exact h hm

theorem silenceMove.mono {as bs : List Area} {m n : Nat} (h : silenceMove as m n) (hab : as ⊆ bs) : silenceMove bs m n :=
  h.imp_right fun h => h.imp_right fun ⟨ha, hle⟩ => ⟨hab ha, hle⟩

/-- One move over the areas `as`. -/
inductive Move (as : List Area) : State → State → Prop
  | hand (i : Instr) (s : State) : Move as s (hand i s)
  | takes (i : Instr) (s : State) (ha : .panelTakes ∈ as) (hi : notPanels i = false) : Move as s (takeHanding i s)
  | rev (v : Vector Nat 26) (s : State) (hv : revisionsStep s v) : Move as s { s with rev := v }
  | awake (s : State) (h : s.mc.silence = 0) : Move as s { s with mc := { s.mc with mode := .awake } }
  | doze (s : State) (ha : .doze ∈ as) (h : dozeReady s = true) : Move as s { s with mc := { s.mc with mode := .doze } }
  | sleep (s : State) (ha : .sleep ∈ as) : Move as s { s with mc := { s.mc with mode := .standby } }
  | rescan (b : Bool) (s : State) (h : s.mu.rescan = true → b = true) : Move as s { s with mu := { s.mu with rescan := b } }
  | mc (m : ModeUnit) (s : State) (ha : .mc ∈ as) (hmode : m.mode = s.mc.mode) (hsup : m.supply = s.mc.supply)
      (hsil : silenceMove as s.mc.silence m.silence) (hpart : heaterUnitSound s.hc → storeSmall s.mc → storeSmall m)
      (hdue : m.restart = .store → s.mc.restart = .store ∨ .restart ∈ as := by exact fun h => .inl h) :
      Move as s { s with mc := m }
  | measure (m : MeasureUnit) (s : State) (ha : .mu ∈ as) (hchan : m.chan = s.mu.chan) (hcomp : m.comp = s.mu.comp) :
      Move as s { s with mu := m }
  | comps (v : Vector CompEntry 6) (s : State) (ha : .comp ∈ as) : Move as s { s with mu := { s.mu with comp := v } }
  | channels (v : Vector ChanEntry 7) (s : State) (ha : .chan ∈ as)
      (h : flameGuarded s → flameGuarded { s with mu := { s.mu with chan := v } }) :
      Move as s { s with mu := { s.mu with chan := v } }
  | rawChannels (v : Vector ChanEntry 7) (s : State) (ha : .rawChan ∈ as) : Move as s { s with mu := { s.mu with chan := v } }
  | charge (u : ChargeUnit) (s : State) (ha : .cc ∈ as) (hlevel : u.level = s.cc.level) (hbudget : u.budget = s.cc.budget)
      (h : .poked 3 ∈ as ∨ (chargeUnitSound s.cfg.battery.cap s.cc → chargeUnitSound s.cfg.battery.cap u)) :
      Move as s { s with cc := u }
  | budget (s : State) (ha : .cc ∈ as) : Move as s (updateBudget s)
  | level (new : ShedLevel) (cause : LevelCause) (s : State) (ha : .cc ∈ as) : Move as s (moveLevel new cause s)
  | grants (g : GrantUnit) (s : State) (ha : .ga ∈ as)
      (hentries : ∀ c, (tget g.entries c).boosted = (tget s.ga.entries c).boosted
        ∧ (tget g.entries c).request = (tget s.ga.entries c).request ∧ (tget g.entries c).grant = (tget s.ga.entries c).grant
        ∧ (tget g.entries c).latched = (tget s.ga.entries c).latched ∧ (tget g.entries c).retry = (tget s.ga.entries c).retry)
      (hlists : g.lists = s.ga.lists) (hreport : g.report = s.ga.report) (hsafety : g.safetySum = s.ga.safetySum)
      (hon : ∀ k, (tget g.sockets k).on = (tget s.ga.sockets k).on) : Move as s { s with ga := g }
  | passesOn (g : GrantUnit) (s : State) (ha : .ga ∈ as) (hlists : listsSound s → listsSound { s with ga := g })
      (hon : ∀ k, (tget g.sockets k).on = (tget s.ga.sockets k).on) : Move as s (passTable { s with ga := g })
  | relists (v : Vector (List Consumer) 8) (s : State) (ha : .relisted ∈ as) : Move as s { s with ga := { s.ga with lists := v } }
  | socket (k : Socket) (e : SocketEntry) (s : State) (ha : .ga ∈ as) (hb : .asked ∈ as) :
      Move as s (ask (socketConsumer k) (if e.on then some (socketRequest s.cfg.demands k) else none) (withSocket k (fun _ => e) s))
  | asks (v : Vector (Option Request) 8) (s : State) (ha : .demand ∈ as)
      (hl : ∀ g, tget v (consIx (groupConsumer g)) = tget s.asked (consIx (groupConsumer g))) : Move as s { s with asked := v }
  | heater (h : HeaterUnit) (s : State) (ha : .hc ∈ as) (hstate : h.state = s.hc.state) (hdes : h.desired = s.hc.desired)
      (hs : heaterUnitSound s.hc → heaterUnitSound h) : Move as s { s with hc := h }
  | heaterEnter (h : HeaterUnit) (s : State) (ha : .hc ∈ as) (hb : .asked ∈ as) (hs : heaterUnitSound s.hc → heaterUnitSound h)
      (hm : heaterMayEnter as s h.state) :
      Move as s (ask .heat (heaterRequest s.cfg.demands h) { s with hc := h })
  | fridge (f : FridgeUnit) (s : State) (ha : .fc ∈ as) (hstate : f.state = s.fc.state) (hw : f.wanted = s.fc.wanted)
      (hv : f.ventSpeed = s.fc.ventSpeed) (hs : fridgeUnitSound s.fc → fridgeUnitSound f) : Move as s { s with fc := f }
  | fridgeEnter (f : FridgeUnit) (s : State) (ha : .fc ∈ as) (hb : .asked ∈ as) (hv : f.ventSpeed = s.fc.ventSpeed)
      (hs : fridgeUnitSound s.fc → fridgeUnitSound f) :
      Move as s (ask .fridge (fridgeRequest s.cfg.demands f) { s with fc := f })
  | vent (f : FridgeUnit) (s : State) (ha : .fc ∈ as) (hb : .asked ∈ as) (hstate : f.state = s.fc.state)
      (hw : f.wanted = s.fc.wanted) (hs : fridgeUnitSound s.fc → fridgeUnitSound f) :
      Move as s (ask .vent (ventRequest s.cfg.demands f.ventSpeed) { s with fc := f })
  | lights (l : LightUnit) (s : State) (ha : .lc ∈ as) (hlevel : l.level = s.lc.level) (hrest : l.resting = s.lc.resting)
      (hentry : l.entry = s.lc.entry) (hgroup : ∀ g, (tget l.group g).grant = (tget s.lc.group g).grant)
      (hchan : l.chan = s.lc.chan) : Move as s { s with lc := l }
  | lightsApply (l : LightUnit) (s : State) (ha : .lc ∈ as) (hfade : ∀ i, fadeSound (tget s.lc.chan i) → fadeSound (tget l.chan i))
      (hdemand : ∀ i, demandLevel (tget l.chan i) = demandLevel (tget s.lc.chan i)) : Move as s (applyLevels { s with lc := l })
  | lightsFollow (l : LightUnit) (s : State) (ha : .lc ∈ as) (hb : .asked ∈ as)
      (hfade : ∀ i, fadeSound (tget s.lc.chan i) → fadeSound (tget l.chan i)) : Move as s (lightsFollow { s with lc := l })
  | panel (p : PanelUnit) (s : State) (ha : .pn ∈ as) (hq : s.pn.queue.length ≤ 8 → p.queue.length ≤ 8)
      (hstand : p.standby = s.pn.standby) : Move as s { s with pn := p }
  | panelBack (s : State) (ha : .pn ∈ as) (hb : .asked ∈ as) :
      Move as s (ask .panel (some (panelRequest s.cfg.demands)) { s with pn := { s.pn with standby := false } })
  | panelSleep (s : State) (ha : .sleep ∈ as) : Move as s { s with pn := { s.pn with standby := true } }
  | rest (r : RestUnit) (s : State) (ha : .rm ∈ as) (hlog : s.rm.log.length ≤ 8 → r.log.length ≤ 8) : Move as s { s with rm := r }
  | sched (u : ScheduleUnit) (s : State) (ha : .su ∈ as) (ho : u.offset = s.su.offset) (hu : u.unset = s.su.unset)
      (hd : u.lastDelta = s.su.lastDelta) : Move as s { s with su := u }
  | clock (u : ScheduleUnit) (v : Vector Nat 26) (s : State) (ha : .clock ∈ as) (hv : ∀ i, tget s.rev i < 256 → tget v i < 256) :
      Move as s { s with su := u, rev := v }
  | skips (s : State) (ha : .skip ∈ as) : Move as s { s with lk := { s.lk with rx := .skip } }
  | link (l : LinkUnit) (s : State) (ha : .lk ∈ as) (hq : s.lk.queue.length ≤ 4 → l.queue.length ≤ 4)
      (hn : s.lk.notices.length ≤ 16 → l.notices.length ≤ 16) : Move as s { s with lk := l }
  | answer (a : Option Answer) (s : State) (ha : .answer ∈ as) : Move as s { s with answer := a }
  | choices (n : Nat) (s : State) (ha : .choices ∈ as) : Move as s { s with choices := n }
  | setpoint (h : HeaterSet) (s : State) (ha : .setpoint ∈ as) : Move as s { s with cfg := { s.cfg with heaterSet := h } }
  | poke (r : Nat) (ws : List FieldWrite) (s : State) (ha : .poked r ∈ as) : Move as s (pokeAll r ws s)

/-- A run of moves over the areas `as`. -/
def Moves (as : List Area) : State → State → Prop := Relation.ReflTransGen (Move as)

namespace Moves

variable {as bs : List Area} {s t u : State}

theorem refl : Moves as s s := Relation.ReflTransGen.refl

theorem of_move (h : Move as s t) : Moves as s t := Relation.ReflTransGen.single h

theorem trans (h : Moves as s t) (k : Moves as t u) : Moves as s u := Relation.ReflTransGen.trans h k

/-- A relation that every move keeps, and that is reflexive and transitive, holds of every run. -/
theorem lift {R : State → State → Prop} (hr : ∀ s, R s s) (ht : ∀ s t u, R s t → R t u → R s u)
    (hm : ∀ s t, Move as s t → R s t) (h : Moves as s t) : R s t := by
  induction h with
  | refl => exact hr s
  | tail _ hmove ih => exact ht _ _ _ ih (hm _ _ hmove)

/-- A predicate that every move keeps is kept by every run. -/
theorem keeps {P : State → Prop} (hm : ∀ s t, Move as s t → P s → P t) (h : Moves as s t) : P s → P t :=
  h.lift (R := fun s t => P s → P t) (fun _ hp => hp) (fun _ _ _ f g hp => g (f hp)) hm

end Moves

theorem heaterMayEnter.mono {as bs : List Area} {s : State} {new : HeaterState} (h : heaterMayEnter as s new) (hab : as ⊆ bs) :
    heaterMayEnter bs s new :=
  ⟨h.1, fun hh => (h.2 hh).imp_right fun ⟨a, b⟩ => ⟨a, hab b⟩⟩

theorem Move.mono {as bs : List Area} {s t : State} (h : Move as s t) (hab : as ⊆ bs) : Move bs s t := by
  cases h with
  | hand i => exact .hand i _
  | takes i _ ha hi => exact .takes i _ (hab ha) hi
  | rev v _ hv => exact .rev v _ hv
  | awake _ h => exact .awake _ h
  | doze _ ha h => exact .doze _ (hab ha) h
  | sleep _ ha => exact .sleep _ (hab ha)
  | rescan b _ h => exact .rescan b _ h
  | mc m _ ha h1 h2 h3 h4 h5 => exact .mc m _ (hab ha) h1 h2 (h3.mono hab) h4 fun h => (h5 h).imp_right fun h => hab h
  | measure m _ ha h h1 => exact .measure m _ (hab ha) h h1
  | comps v _ ha => exact .comps v _ (hab ha)
  | channels v _ ha h => exact .channels v _ (hab ha) h
  | rawChannels v _ ha => exact .rawChannels v _ (hab ha)
  | charge u _ ha h1 h2 h3 => exact .charge u _ (hab ha) h1 h2 (h3.imp_left fun h => hab h)
  | budget _ ha => exact .budget _ (hab ha)
  | level n c _ ha => exact .level n c _ (hab ha)
  | grants g _ ha h1 h2 h3 h4 h5 => exact .grants g _ (hab ha) h1 h2 h3 h4 h5
  | passesOn g _ ha h1 h2 => exact .passesOn g _ (hab ha) h1 h2
  | relists v _ ha => exact .relists v _ (hab ha)
  | socket k e _ ha hb => exact .socket k e _ (hab ha) (hab hb)
  | asks v _ ha hl => exact .asks v _ (hab ha) hl
  | heater h _ ha h1 h2 h3 => exact .heater h _ (hab ha) h1 h2 h3
  | heaterEnter h _ ha hb h1 h2 => exact .heaterEnter h _ (hab ha) (hab hb) h1 (h2.mono hab)
  | fridge f _ ha h1 h2 h3 h4 => exact .fridge f _ (hab ha) h1 h2 h3 h4
  | fridgeEnter f _ ha hb h1 h2 => exact .fridgeEnter f _ (hab ha) (hab hb) h1 h2
  | vent f _ ha hb h1 h2 h3 => exact .vent f _ (hab ha) (hab hb) h1 h2 h3
  | lights l _ ha h1 h2 h3 h4 h5 => exact .lights l _ (hab ha) h1 h2 h3 h4 h5
  | lightsApply l _ ha h1 h2 => exact .lightsApply l _ (hab ha) h1 h2
  | lightsFollow l _ ha hb h1 => exact .lightsFollow l _ (hab ha) (hab hb) h1
  | panel p _ ha h1 h2 => exact .panel p _ (hab ha) h1 h2
  | panelBack _ ha hb => exact .panelBack _ (hab ha) (hab hb)
  | panelSleep _ ha => exact .panelSleep _ (hab ha)
  | rest r _ ha h => exact .rest r _ (hab ha) h
  | sched u _ ha h1 h2 h3 => exact .sched u _ (hab ha) h1 h2 h3
  | clock u v _ ha hv => exact .clock u v _ (hab ha) hv
  | skips _ ha => exact .skips _ (hab ha)
  | link l _ ha h1 h2 => exact .link l _ (hab ha) h1 h2
  | answer a _ ha => exact .answer a _ (hab ha)
  | choices n _ ha => exact .choices n _ (hab ha)
  | setpoint h _ ha => exact .setpoint h _ (hab ha)
  | poke r ws _ ha => exact .poke r ws _ (hab ha)

namespace Moves

variable {as bs : List Area} {s t u : State}

theorem mono (h : Moves as s t) (hab : as ⊆ bs := by decide) : Moves bs s t :=
  h.lift (fun _ => refl) (fun _ _ _ => trans) fun _ _ m => of_move (m.mono hab)

/-- A run goes on with another over areas among its own. -/
theorem step (h : Moves as s t) (k : Moves bs t u) (hab : bs ⊆ as := by decide) : Moves as s u := h.trans (k.mono hab)

end Moves

end Sys2Proof.Machine
end

section
/-! PROOFS. What the composite moves leave unchanged, and the frame of a run of moves. -/

namespace Sys2Proof.Machine

-- One proof after another: started together they wait for one another, each on a thread of its own.
set_option Elab.async false

variable {s t u : State}

/-! ### The pass -/

/-- A pass step leaves all but the entries' grants and states, and may hand a report. -/
theorem concludeOne_eq (sh : Share) (s : State) (c : Consumer) :
    ∃ st h, concludeOne sh s c = { s with
      ga := { s.ga with entries := (tset s.ga.entries (consIx c)
        { tget s.ga.entries (consIx c) with grant := tget sh.grants (consIx c), state := st }) },
      handed := s.handed ++ h } := by
  unfold concludeOne
  dsimp only
  split_ifs
  · exact ⟨_, [], by simp [withEntry, withGa]; rfl⟩
  · split
    · exact ⟨_, [_], rfl⟩
    · exact ⟨_, [], by simp [withEntry, withGa]; rfl⟩

/-- What a pass leaves of an entry: all but its grant and state. -/
def entryKept (e e' : ConsumerEntry) : Prop := ∃ g st, e' = { e with grant := g, state := st }

/-- The table after some of a pass's conclusions: handings added, and of the GA the entries' grants and states changed. -/
structure PassStep (s t : State) : Prop where
  eq : ∃ v h, t = { s with ga := { s.ga with entries := v }, handed := s.handed ++ h }
  kept : ∀ i, entryKept (tget s.ga.entries i) (tget t.ga.entries i)

theorem PassStep.refl (s : State) : PassStep s s :=
  ⟨⟨s.ga.entries, [], by simp⟩, fun _ => ⟨_, _, rfl⟩⟩

theorem PassStep.trans (h : PassStep s t) (k : PassStep t u) : PassStep s u := by
  obtain ⟨⟨v, l, rfl⟩, h2⟩ := h
  obtain ⟨⟨w, m, rfl⟩, k2⟩ := k
  refine ⟨⟨w, l ++ m, by simp⟩, fun i => ?_⟩
  obtain ⟨g, st, e⟩ := h2 i
  obtain ⟨g', st', e'⟩ := k2 i
  exact ⟨g', st', by rw [e', e]⟩

theorem concludeOne_passStep (sh : Share) (s : State) (c : Consumer) : PassStep s (concludeOne sh s c) := by
  obtain ⟨st, h, e⟩ := concludeOne_eq sh s c
  rw [e]
  refine ⟨⟨_, h, rfl⟩, fun i => ?_⟩
  dsimp only
  rw [tget_tset]
  split_ifs with hi
  · exact ⟨_, _, by rw [hi]⟩
  · exact ⟨_, _, rfl⟩

/-- The state after the conclusions of a pass over the given consumers. -/
theorem foldl_concludeOne_passStep (sh : Share) (cs : List Consumer) (s : State) : PassStep s (cs.foldl (concludeOne sh) s) := by
  induction cs generalizing s with
  | nil => exact .refl s
  | cons c cs ih => exact (concludeOne_passStep sh s c).trans (ih _)

/-- A pass concludes every consumer and sets the counts. -/
theorem passTable_fold (s : State) : passTable s = withGa (fun g => { g with
      passes := (g.passes + 1) % 65536, safetySum := safetyTotal s, remainder := (passShare s).left })
      (allConsumers.foldl (concludeOne (passShare s)) s) := by rw [passTable]

/-- What a pass leaves: everything but the GA's table and the handings, and of an entry all but its grant and state. -/
theorem passTable_eq (s : State) : ∃ v h, passTable s = { s with
      ga := { s.ga with
        entries := v, passes := (s.ga.passes + 1) % 65536, safetySum := safetyTotal s, remainder := (passShare s).left },
      handed := s.handed ++ h } := by
  obtain ⟨v, h, e⟩ := (foldl_concludeOne_passStep (passShare s) allConsumers s).eq
  exact ⟨v, h, by rw [passTable_fold, e, withGa]⟩

theorem passTable_entry (s : State) (i : Fin 8) : entryKept (tget s.ga.entries i) (tget (passTable s).ga.entries i) := by
  have hkept := (foldl_concludeOne_passStep (passShare s) allConsumers s).kept i
  rw [passTable_fold]
  generalize allConsumers.foldl (concludeOne (passShare s)) s = x at hkept
  exact hkept

@[simp] theorem passTable_cfg (s : State) : (passTable s).cfg = s.cfg := by obtain ⟨v, h, e⟩ := passTable_eq s; rw [e]
@[simp] theorem passTable_mu (s : State) : (passTable s).mu = s.mu := by obtain ⟨v, h, e⟩ := passTable_eq s; rw [e]
@[simp] theorem passTable_cc (s : State) : (passTable s).cc = s.cc := by obtain ⟨v, h, e⟩ := passTable_eq s; rw [e]
@[simp] theorem passTable_asked (s : State) : (passTable s).asked = s.asked := by obtain ⟨v, h, e⟩ := passTable_eq s; rw [e]
@[simp] theorem passTable_hc (s : State) : (passTable s).hc = s.hc := by obtain ⟨v, h, e⟩ := passTable_eq s; rw [e]
@[simp] theorem passTable_fc (s : State) : (passTable s).fc = s.fc := by obtain ⟨v, h, e⟩ := passTable_eq s; rw [e]
@[simp] theorem passTable_lc (s : State) : (passTable s).lc = s.lc := by obtain ⟨v, h, e⟩ := passTable_eq s; rw [e]
@[simp] theorem passTable_pn (s : State) : (passTable s).pn = s.pn := by obtain ⟨v, h, e⟩ := passTable_eq s; rw [e]
@[simp] theorem passTable_rm (s : State) : (passTable s).rm = s.rm := by obtain ⟨v, h, e⟩ := passTable_eq s; rw [e]
@[simp] theorem passTable_su (s : State) : (passTable s).su = s.su := by obtain ⟨v, h, e⟩ := passTable_eq s; rw [e]
@[simp] theorem passTable_rev (s : State) : (passTable s).rev = s.rev := by obtain ⟨v, h, e⟩ := passTable_eq s; rw [e]
@[simp] theorem passTable_lk (s : State) : (passTable s).lk = s.lk := by obtain ⟨v, h, e⟩ := passTable_eq s; rw [e]
@[simp] theorem passTable_mc (s : State) : (passTable s).mc = s.mc := by obtain ⟨v, h, e⟩ := passTable_eq s; rw [e]
@[simp] theorem passTable_answer (s : State) : (passTable s).answer = s.answer := by
  obtain ⟨v, h, e⟩ := passTable_eq s; rw [e]
@[simp] theorem passTable_choices (s : State) : (passTable s).choices = s.choices := by
  obtain ⟨v, h, e⟩ := passTable_eq s; rw [e]
@[simp] theorem passTable_pending (s : State) : (passTable s).pending = s.pending := by
  obtain ⟨v, h, e⟩ := passTable_eq s; rw [e]
@[simp] theorem passTable_lists (s : State) : (passTable s).ga.lists = s.ga.lists := by
  obtain ⟨v, h, e⟩ := passTable_eq s; rw [e]
@[simp] theorem passTable_report (s : State) : (passTable s).ga.report = s.ga.report := by
  obtain ⟨v, h, e⟩ := passTable_eq s; rw [e]
@[simp] theorem passTable_sockets (s : State) : (passTable s).ga.sockets = s.ga.sockets := by
  obtain ⟨v, h, e⟩ := passTable_eq s; rw [e]

theorem passTable_handed (s : State) : ∃ h, (passTable s).handed = s.handed ++ h := by
  obtain ⟨v, h, e⟩ := passTable_eq s; exact ⟨h, by rw [e]⟩

/-! ### The level and the budget -/

/-- An update of the budget leaves it, or sets it and hands the report. -/
theorem updateBudget_cases (s : State) : updateBudget s = s
    ∨ updateBudget s = hand (.budgetReport ⟨s.cc.level, budgetNow s, classesAdmitted s.cc.level⟩)
        { s with cc := { s.cc with budget := budgetNow s } } := by
  unfold updateBudget
  dsimp only
  split_ifs
  · exact .inl rfl
  · exact .inr rfl

/-- A move of the level sets it with the budget, and hands both and the notice. -/
theorem moveLevel_eq (new : ShedLevel) (cause : LevelCause) (s : State) :
    ∃ b p, moveLevel new cause s = { s with
      cc := { s.cc with level := new, budget := b },
      handed := s.handed ++ [.budgetReport ⟨new, b, classesAdmitted new⟩, .lightLevelChange new, .fridgeLevelChange new,
        .heaterLevelChange new, .noticePost p] } := by
  refine ⟨budgetNow (withCc (fun c => { c with level := new }) s), ⟨.shedLevel, .cc, levelSeverity new, false,
    [byte (levelCode new), byte (levelCode s.cc.level), byte (levelCauseCode cause)]⟩, ?_⟩
  unfold moveLevel
  dsimp only [post, hand, withCc, reportNow]
  simp only [List.append_assoc, List.cons_append, List.nil_append]

@[simp] theorem updateBudget_cfg (s : State) : (updateBudget s).cfg = s.cfg := by
  obtain e | e := updateBudget_cases s <;> simp [e]
@[simp] theorem updateBudget_ga (s : State) : (updateBudget s).ga = s.ga := by
  obtain e | e := updateBudget_cases s <;> simp [e]
@[simp] theorem updateBudget_asked (s : State) : (updateBudget s).asked = s.asked := by
  obtain e | e := updateBudget_cases s <;> simp [e]
@[simp] theorem updateBudget_hc (s : State) : (updateBudget s).hc = s.hc := by
  obtain e | e := updateBudget_cases s <;> simp [e]
@[simp] theorem updateBudget_fc (s : State) : (updateBudget s).fc = s.fc := by
  obtain e | e := updateBudget_cases s <;> simp [e]
@[simp] theorem updateBudget_lc (s : State) : (updateBudget s).lc = s.lc := by
  obtain e | e := updateBudget_cases s <;> simp [e]
@[simp] theorem updateBudget_pn (s : State) : (updateBudget s).pn = s.pn := by
  obtain e | e := updateBudget_cases s <;> simp [e]
@[simp] theorem updateBudget_rm (s : State) : (updateBudget s).rm = s.rm := by
  obtain e | e := updateBudget_cases s <;> simp [e]
@[simp] theorem updateBudget_su (s : State) : (updateBudget s).su = s.su := by
  obtain e | e := updateBudget_cases s <;> simp [e]
@[simp] theorem updateBudget_rev (s : State) : (updateBudget s).rev = s.rev := by
  obtain e | e := updateBudget_cases s <;> simp [e]
@[simp] theorem updateBudget_lk (s : State) : (updateBudget s).lk = s.lk := by
  obtain e | e := updateBudget_cases s <;> simp [e]
@[simp] theorem updateBudget_mc (s : State) : (updateBudget s).mc = s.mc := by
  obtain e | e := updateBudget_cases s <;> simp [e]
@[simp] theorem updateBudget_answer (s : State) : (updateBudget s).answer = s.answer := by
  obtain e | e := updateBudget_cases s <;> simp [e]
@[simp] theorem updateBudget_choices (s : State) : (updateBudget s).choices = s.choices := by
  obtain e | e := updateBudget_cases s <;> simp [e]
@[simp] theorem updateBudget_pending (s : State) : (updateBudget s).pending = s.pending := by
  obtain e | e := updateBudget_cases s <;> simp [e]

@[simp] theorem moveLevel_cfg (new : ShedLevel) (cause : LevelCause) (s : State) : (moveLevel new cause s).cfg = s.cfg := by
  obtain ⟨b, p, e⟩ := moveLevel_eq new cause s; rw [e]
@[simp] theorem moveLevel_ga (new : ShedLevel) (cause : LevelCause) (s : State) : (moveLevel new cause s).ga = s.ga := by
  obtain ⟨b, p, e⟩ := moveLevel_eq new cause s; rw [e]
@[simp] theorem moveLevel_asked (new : ShedLevel) (cause : LevelCause) (s : State) : (moveLevel new cause s).asked = s.asked := by
  obtain ⟨b, p, e⟩ := moveLevel_eq new cause s; rw [e]
@[simp] theorem moveLevel_hc (new : ShedLevel) (cause : LevelCause) (s : State) : (moveLevel new cause s).hc = s.hc := by
  obtain ⟨b, p, e⟩ := moveLevel_eq new cause s; rw [e]
@[simp] theorem moveLevel_fc (new : ShedLevel) (cause : LevelCause) (s : State) : (moveLevel new cause s).fc = s.fc := by
  obtain ⟨b, p, e⟩ := moveLevel_eq new cause s; rw [e]
@[simp] theorem moveLevel_lc (new : ShedLevel) (cause : LevelCause) (s : State) : (moveLevel new cause s).lc = s.lc := by
  obtain ⟨b, p, e⟩ := moveLevel_eq new cause s; rw [e]
@[simp] theorem moveLevel_pn (new : ShedLevel) (cause : LevelCause) (s : State) : (moveLevel new cause s).pn = s.pn := by
  obtain ⟨b, p, e⟩ := moveLevel_eq new cause s; rw [e]
@[simp] theorem moveLevel_rm (new : ShedLevel) (cause : LevelCause) (s : State) : (moveLevel new cause s).rm = s.rm := by
  obtain ⟨b, p, e⟩ := moveLevel_eq new cause s; rw [e]
@[simp] theorem moveLevel_su (new : ShedLevel) (cause : LevelCause) (s : State) : (moveLevel new cause s).su = s.su := by
  obtain ⟨b, p, e⟩ := moveLevel_eq new cause s; rw [e]
@[simp] theorem moveLevel_rev (new : ShedLevel) (cause : LevelCause) (s : State) : (moveLevel new cause s).rev = s.rev := by
  obtain ⟨b, p, e⟩ := moveLevel_eq new cause s; rw [e]
@[simp] theorem moveLevel_lk (new : ShedLevel) (cause : LevelCause) (s : State) : (moveLevel new cause s).lk = s.lk := by
  obtain ⟨b, p, e⟩ := moveLevel_eq new cause s; rw [e]
@[simp] theorem moveLevel_mc (new : ShedLevel) (cause : LevelCause) (s : State) : (moveLevel new cause s).mc = s.mc := by
  obtain ⟨b, p, e⟩ := moveLevel_eq new cause s; rw [e]
@[simp] theorem moveLevel_answer (new : ShedLevel) (cause : LevelCause) (s : State) : (moveLevel new cause s).answer = s.answer := by
  obtain ⟨b, p, e⟩ := moveLevel_eq new cause s; rw [e]
@[simp] theorem moveLevel_choices (new : ShedLevel) (cause : LevelCause) (s : State) : (moveLevel new cause s).choices = s.choices := by
  obtain ⟨b, p, e⟩ := moveLevel_eq new cause s; rw [e]
@[simp] theorem moveLevel_pending (new : ShedLevel) (cause : LevelCause) (s : State) : (moveLevel new cause s).pending = s.pending := by
  obtain ⟨b, p, e⟩ := moveLevel_eq new cause s; rw [e]

/-! ### Sockets -/

@[simp] theorem withSocket_cfg (k : Socket) (g : SocketEntry → SocketEntry) (s : State) :
    (withSocket k g s).cfg = s.cfg := rfl
@[simp] theorem withSocket_mu (k : Socket) (g : SocketEntry → SocketEntry) (s : State) :
    (withSocket k g s).mu = s.mu := rfl
@[simp] theorem withSocket_cc (k : Socket) (g : SocketEntry → SocketEntry) (s : State) :
    (withSocket k g s).cc = s.cc := rfl
@[simp] theorem withSocket_asked (k : Socket) (g : SocketEntry → SocketEntry) (s : State) :
    (withSocket k g s).asked = s.asked := rfl
@[simp] theorem withSocket_hc (k : Socket) (g : SocketEntry → SocketEntry) (s : State) :
    (withSocket k g s).hc = s.hc := rfl
@[simp] theorem withSocket_fc (k : Socket) (g : SocketEntry → SocketEntry) (s : State) :
    (withSocket k g s).fc = s.fc := rfl
@[simp] theorem withSocket_lc (k : Socket) (g : SocketEntry → SocketEntry) (s : State) :
    (withSocket k g s).lc = s.lc := rfl
@[simp] theorem withSocket_pn (k : Socket) (g : SocketEntry → SocketEntry) (s : State) :
    (withSocket k g s).pn = s.pn := rfl
@[simp] theorem withSocket_rm (k : Socket) (g : SocketEntry → SocketEntry) (s : State) :
    (withSocket k g s).rm = s.rm := rfl
@[simp] theorem withSocket_su (k : Socket) (g : SocketEntry → SocketEntry) (s : State) :
    (withSocket k g s).su = s.su := rfl
@[simp] theorem withSocket_rev (k : Socket) (g : SocketEntry → SocketEntry) (s : State) :
    (withSocket k g s).rev = s.rev := rfl
@[simp] theorem withSocket_lk (k : Socket) (g : SocketEntry → SocketEntry) (s : State) :
    (withSocket k g s).lk = s.lk := rfl
@[simp] theorem withSocket_mc (k : Socket) (g : SocketEntry → SocketEntry) (s : State) :
    (withSocket k g s).mc = s.mc := rfl
@[simp] theorem withSocket_answer (k : Socket) (g : SocketEntry → SocketEntry) (s : State) :
    (withSocket k g s).answer = s.answer := rfl
@[simp] theorem withSocket_handed (k : Socket) (g : SocketEntry → SocketEntry) (s : State) :
    (withSocket k g s).handed = s.handed := rfl
@[simp] theorem withSocket_choices (k : Socket) (g : SocketEntry → SocketEntry) (s : State) :
    (withSocket k g s).choices = s.choices := rfl
@[simp] theorem withSocket_pending (k : Socket) (g : SocketEntry → SocketEntry) (s : State) :
    (withSocket k g s).pending = s.pending := rfl

/-! ### Lights -/

@[simp] theorem lightsFollow_cfg (s : State) : (lightsFollow s).cfg = s.cfg := by simp [lightsFollow]
@[simp] theorem lightsFollow_mu (s : State) : (lightsFollow s).mu = s.mu := by simp [lightsFollow]
@[simp] theorem lightsFollow_cc (s : State) : (lightsFollow s).cc = s.cc := by simp [lightsFollow]
@[simp] theorem lightsFollow_ga (s : State) : (lightsFollow s).ga = s.ga := by simp [lightsFollow]
@[simp] theorem lightsFollow_hc (s : State) : (lightsFollow s).hc = s.hc := by simp [lightsFollow]
@[simp] theorem lightsFollow_fc (s : State) : (lightsFollow s).fc = s.fc := by simp [lightsFollow]
@[simp] theorem lightsFollow_pn (s : State) : (lightsFollow s).pn = s.pn := by simp [lightsFollow]
@[simp] theorem lightsFollow_rm (s : State) : (lightsFollow s).rm = s.rm := by simp [lightsFollow]
@[simp] theorem lightsFollow_su (s : State) : (lightsFollow s).su = s.su := by simp [lightsFollow]
@[simp] theorem lightsFollow_rev (s : State) : (lightsFollow s).rev = s.rev := by simp [lightsFollow]
@[simp] theorem lightsFollow_lk (s : State) : (lightsFollow s).lk = s.lk := by simp [lightsFollow]
@[simp] theorem lightsFollow_mc (s : State) : (lightsFollow s).mc = s.mc := by simp [lightsFollow]
@[simp] theorem lightsFollow_answer (s : State) : (lightsFollow s).answer = s.answer := by simp [lightsFollow]
@[simp] theorem lightsFollow_choices (s : State) : (lightsFollow s).choices = s.choices := by simp [lightsFollow]
@[simp] theorem lightsFollow_pending (s : State) : (lightsFollow s).pending = s.pending := by simp [lightsFollow]

theorem ask_handed (c : Consumer) (r : Option Request) (s : State) : ∃ h, (ask c r s).handed = s.handed ++ h := by
  obtain ⟨e, -⟩ | ⟨j, -, e⟩ := ask_cases c r s
  · exact ⟨[], by rw [e]; simp⟩
  · exact ⟨[j], by rw [e]; simp⟩

theorem lightsFollow_handed (s : State) : ∃ h, (lightsFollow s).handed = s.handed ++ h := by
  unfold lightsFollow
  obtain ⟨h1, e1⟩ := ask_handed .bunk (groupRequest s .bunk) s
  obtain ⟨h2, e2⟩ := ask_handed .cab (groupRequest (ask .bunk (groupRequest s .bunk) s) .cab) (ask .bunk (groupRequest s .bunk) s)
  exact ⟨h1 ++ h2, by simp [e1, e2]⟩

/-! ### The written fields of a record -/

/-- What one written field changes: the settings but for the records with a field outside them. -/
theorem poke_cases (r : Nat) (w : FieldWrite) (s : State) :
    (r = 16 ∧ ∃ n, poke r s w = { s with fc := { s.fc with ventSpeed := n } })
      ∨ (r = 17 ∧ ∃ v, poke r s w = { s with ga := { s.ga with sockets := v } })
      ∨ (r = 18 ∧ ∃ v, poke r s w = { s with lc := { s.lc with chan := v } })
      ∨ (r = 26 ∧ ∃ v, poke r s w = { s with su := { s.su with slots := v } })
      ∨ (r ≠ 26 ∧ poke r s w = { s with cfg := pokeSettings r w s.cfg }) := by
  unfold poke
  split_ifs with h1 h2 h3 h4
  · exact .inl ⟨h1.1, _, rfl⟩
  · exact .inr (.inl ⟨h2.1, _, rfl⟩)
  · exact .inr (.inr (.inl ⟨h3.1, _, rfl⟩))
  · exact .inr (.inr (.inr (.inl ⟨h4, _, rfl⟩)))
  · exact .inr (.inr (.inr (.inr ⟨h4, rfl⟩)))

/-- What the written fields of record `r` may change, as one relation: the settings, and the field that stands outside them. -/
structure Poked (r : Nat) (s t : State) : Prop where
  eq : ∃ c f g l u, t = { s with cfg := c, fc := f, ga := g, lc := l, su := u }
  cfg : r = 26 → t.cfg = s.cfg
  fc : ∃ n, t.fc = { s.fc with ventSpeed := n }
  fc_of_ne : r ≠ 16 → t.fc = s.fc
  ga : ∃ v, t.ga = { s.ga with sockets := v }
  ga_of_ne : r ≠ 17 → t.ga = s.ga
  lc : ∃ v, t.lc = { s.lc with chan := v }
  lc_of_ne : r ≠ 18 → t.lc = s.lc
  su : ∃ v, t.su = { s.su with slots := v }
  su_of_ne : r ≠ 26 → t.su = s.su

theorem Poked.refl (r : Nat) (s : State) : Poked r s s :=
  ⟨⟨_, _, _, _, _, rfl⟩, fun _ => rfl, ⟨_, rfl⟩, fun _ => rfl, ⟨_, rfl⟩, fun _ => rfl, ⟨_, rfl⟩, fun _ => rfl, ⟨_, rfl⟩,
    fun _ => rfl⟩

theorem Poked.trans {r : Nat} (h : Poked r s t) (k : Poked r t u) : Poked r s u := by
  obtain ⟨⟨c1, f1, g1, l1, u1, rfl⟩, hc, ⟨n1, hf⟩, hf', ⟨v1, hg⟩, hg', ⟨w1, hl⟩, hl', ⟨x1, hu⟩, hu'⟩ := h
  obtain ⟨⟨c2, f2, g2, l2, u2, rfl⟩, kc, ⟨n2, kf⟩, kf', ⟨v2, kg⟩, kg', ⟨w2, kl⟩, kl', ⟨x2, ku⟩, ku'⟩ := k
  dsimp only at *
  subst hf hg hl hu kf kg kl ku
  exact ⟨⟨_, _, _, _, _, rfl⟩, fun e => (kc e).trans (hc e), ⟨_, rfl⟩, fun e => (kf' e).trans (hf' e), ⟨_, rfl⟩,
    fun e => (kg' e).trans (hg' e), ⟨_, rfl⟩, fun e => (kl' e).trans (hl' e), ⟨_, rfl⟩, fun e => (ku' e).trans (hu' e)⟩

theorem poke_poked (r : Nat) (w : FieldWrite) (s : State) : Poked r s (poke r s w) := by
  obtain ⟨h, n, e⟩ | ⟨h, v, e⟩ | ⟨h, v, e⟩ | ⟨h, v, e⟩ | ⟨h, e⟩ := poke_cases r w s <;> rw [e]
  · exact ⟨⟨_, _, _, _, _, rfl⟩, fun _ => rfl, ⟨_, rfl⟩, fun k => absurd h k, ⟨_, rfl⟩, fun _ => rfl, ⟨_, rfl⟩, fun _ => rfl,
      ⟨_, rfl⟩, fun _ => rfl⟩
  · exact ⟨⟨_, _, _, _, _, rfl⟩, fun _ => rfl, ⟨_, rfl⟩, fun _ => rfl, ⟨_, rfl⟩, fun k => absurd h k, ⟨_, rfl⟩, fun _ => rfl,
      ⟨_, rfl⟩, fun _ => rfl⟩
  · exact ⟨⟨_, _, _, _, _, rfl⟩, fun _ => rfl, ⟨_, rfl⟩, fun _ => rfl, ⟨_, rfl⟩, fun _ => rfl, ⟨_, rfl⟩, fun k => absurd h k,
      ⟨_, rfl⟩, fun _ => rfl⟩
  · exact ⟨⟨_, _, _, _, _, rfl⟩, fun _ => rfl, ⟨_, rfl⟩, fun _ => rfl, ⟨_, rfl⟩, fun _ => rfl, ⟨_, rfl⟩, fun _ => rfl,
      ⟨_, rfl⟩, fun k => absurd h k⟩
  · exact ⟨⟨_, _, _, _, _, rfl⟩, fun k => absurd k h, ⟨_, rfl⟩, fun _ => rfl, ⟨_, rfl⟩, fun _ => rfl, ⟨_, rfl⟩, fun _ => rfl,
      ⟨_, rfl⟩, fun _ => rfl⟩

theorem foldl_poke_poked (r : Nat) (ws : List FieldWrite) (s : State) : Poked r s (ws.foldl (poke r) s) := by
  induction ws generalizing s with
  | nil => exact .refl r s
  | cons w ws ih => exact (poke_poked r w s).trans (ih _)

/-- The written fields of record `r` change its settings, or the field of it that stands outside them. -/
theorem pokeAll_poked (r : Nat) (ws : List FieldWrite) (s : State) : Poked r s (pokeAll r ws s) := by
  unfold pokeAll
  dsimp only
  split_ifs with h
  · refine (foldl_poke_poked r ws s).trans
      ⟨⟨_, _, _, _, _, rfl⟩, fun _ => rfl, ⟨_, rfl⟩, fun _ => rfl, ⟨_, rfl⟩, fun _ => rfl, ⟨_, rfl⟩, fun _ => rfl, ⟨_, rfl⟩,
        fun k => absurd h k⟩
  · exact foldl_poke_poked r ws s

@[simp] theorem pokeAll_mu (r : Nat) (ws : List FieldWrite) (s : State) : (pokeAll r ws s).mu = s.mu := by
  obtain ⟨c, f, g, l, u, e⟩ := (pokeAll_poked r ws s).eq; rw [e]
@[simp] theorem pokeAll_cc (r : Nat) (ws : List FieldWrite) (s : State) : (pokeAll r ws s).cc = s.cc := by
  obtain ⟨c, f, g, l, u, e⟩ := (pokeAll_poked r ws s).eq; rw [e]
@[simp] theorem pokeAll_asked (r : Nat) (ws : List FieldWrite) (s : State) : (pokeAll r ws s).asked = s.asked := by
  obtain ⟨c, f, g, l, u, e⟩ := (pokeAll_poked r ws s).eq; rw [e]
@[simp] theorem pokeAll_hc (r : Nat) (ws : List FieldWrite) (s : State) : (pokeAll r ws s).hc = s.hc := by
  obtain ⟨c, f, g, l, u, e⟩ := (pokeAll_poked r ws s).eq; rw [e]
@[simp] theorem pokeAll_pn (r : Nat) (ws : List FieldWrite) (s : State) : (pokeAll r ws s).pn = s.pn := by
  obtain ⟨c, f, g, l, u, e⟩ := (pokeAll_poked r ws s).eq; rw [e]
@[simp] theorem pokeAll_rm (r : Nat) (ws : List FieldWrite) (s : State) : (pokeAll r ws s).rm = s.rm := by
  obtain ⟨c, f, g, l, u, e⟩ := (pokeAll_poked r ws s).eq; rw [e]
@[simp] theorem pokeAll_rev (r : Nat) (ws : List FieldWrite) (s : State) : (pokeAll r ws s).rev = s.rev := by
  obtain ⟨c, f, g, l, u, e⟩ := (pokeAll_poked r ws s).eq; rw [e]
@[simp] theorem pokeAll_lk (r : Nat) (ws : List FieldWrite) (s : State) : (pokeAll r ws s).lk = s.lk := by
  obtain ⟨c, f, g, l, u, e⟩ := (pokeAll_poked r ws s).eq; rw [e]
@[simp] theorem pokeAll_mc (r : Nat) (ws : List FieldWrite) (s : State) : (pokeAll r ws s).mc = s.mc := by
  obtain ⟨c, f, g, l, u, e⟩ := (pokeAll_poked r ws s).eq; rw [e]
@[simp] theorem pokeAll_answer (r : Nat) (ws : List FieldWrite) (s : State) : (pokeAll r ws s).answer = s.answer := by
  obtain ⟨c, f, g, l, u, e⟩ := (pokeAll_poked r ws s).eq; rw [e]
@[simp] theorem pokeAll_handed (r : Nat) (ws : List FieldWrite) (s : State) : (pokeAll r ws s).handed = s.handed := by
  obtain ⟨c, f, g, l, u, e⟩ := (pokeAll_poked r ws s).eq; rw [e]
@[simp] theorem pokeAll_choices (r : Nat) (ws : List FieldWrite) (s : State) : (pokeAll r ws s).choices = s.choices := by
  obtain ⟨c, f, g, l, u, e⟩ := (pokeAll_poked r ws s).eq; rw [e]
@[simp] theorem pokeAll_pending (r : Nat) (ws : List FieldWrite) (s : State) : (pokeAll r ws s).pending = s.pending := by
  obtain ⟨c, f, g, l, u, e⟩ := (pokeAll_poked r ws s).eq; rw [e]

/-! ### The frame of a run -/

theorem changesOnly.trans {ps : List Part} (h : changesOnly ps s t) (k : changesOnly ps t u) : changesOnly ps s u := by
  intro p hp
  have h1 := h p hp
  have h2 := k p hp
  cases p <;> exact h2.trans h1

theorem changesOnly.refl (ps : List Part) (s : State) : changesOnly ps s s := by
  intro p _
  cases p <;> rfl

theorem changesOnly.mono {ps qs : List Part} (h : changesOnly ps s t) (hpq : ps ⊆ qs) : changesOnly qs s t :=
  fun p hp => h p fun hm => hp (hpq hm)

theorem parts_subset {a : Area} {as : List Area} (h : a ∈ as) : a.parts ⊆ partsOf as :=
  fun _ hp => List.mem_flatMap.2 ⟨a, h, hp⟩

/-- The parts a record's written fields touch. -/
theorem Poked.changesOnly {r : Nat} (h : Poked r s t) : changesOnly (Area.poked r).parts s t := by
  obtain ⟨⟨c, f, g, l, u, rfl⟩, hc, -, hf, -, hg, -, hl, -, hu⟩ := h
  dsimp only at hc hf hg hl hu
  by_cases h16 : r = 16
  · subst h16
    rw [hg (by decide), hl (by decide), hu (by decide)]
    intro p hp
    cases p <;> first | rfl | exact absurd (by decide) hp
  by_cases h17 : r = 17
  · subst h17
    rw [hf (by decide), hl (by decide), hu (by decide)]
    intro p hp
    cases p <;> first | rfl | exact absurd (by decide) hp
  by_cases h18 : r = 18
  · subst h18
    rw [hf (by decide), hg (by decide), hu (by decide)]
    intro p hp
    cases p <;> first | rfl | exact absurd (by decide) hp
  by_cases h26 : r = 26
  · subst h26
    rw [hf (by decide), hg (by decide), hl (by decide), hc rfl]
    intro p hp
    cases p <;> first | rfl | exact absurd (by decide) hp
  have hparts : (Area.poked r).parts = [.cfg] := by
    unfold Area.parts
    split <;> simp_all
  rw [hf h16, hg h17, hl h18, hu h26, hparts]
  intro p hp
  cases p <;> first | rfl | exact absurd (by decide) hp

end Sys2Proof.Machine
end

section
/-! PROOFS. The frame of a run of moves: it touches the parts of its areas alone, the mode, the revisions and the handings apart. -/

namespace Sys2Proof.Machine

-- One proof after another: started together they wait for one another, each on a thread of its own.
set_option Elab.async false

variable {s t u : State} {as : List Area}

/-- A part outside the frame of a run lies in none of its areas and is none of those that follow every event. -/
theorem changesOnly_frame {a : Area} (ha : a ∈ as) (h : changesOnly (a.parts ++ everyEvent) s t) :
    changesOnly (partsOf as ++ everyEvent) s t :=
  h.mono (List.append_subset.2 ⟨fun _ hp => List.mem_append_left _ (parts_subset ha hp), fun _ => List.mem_append_right _⟩)

theorem changesOnly_everyEvent (h : changesOnly everyEvent s t) : changesOnly (partsOf as ++ everyEvent) s t :=
  h.mono fun _ => List.mem_append_right _

theorem changesOnly_hand (i : Instr) : changesOnly everyEvent s (hand i s) := by
  intro p hp; cases p <;> first | rfl | exact absurd (by decide) hp

/-- A request brought to its owner's state moves that alone, with the handing. -/
theorem changesOnly_ask (c : Consumer) (r : Option Request) : changesOnly ([.asked] ++ everyEvent) s (ask c r s) := by
  intro p hp
  cases p <;> first | exact absurd (by decide) hp | simp [agrees]

theorem changesOnly_updateBudget (s : State) : changesOnly ([.cc] ++ everyEvent) s (updateBudget s) := by
  obtain e | e := updateBudget_cases s <;> rw [e]
  · exact .refl _ _
  · intro p hp; cases p <;> first | rfl | exact absurd (by decide) hp

theorem changesOnly_moveLevel (new : ShedLevel) (cause : LevelCause) (s : State) :
    changesOnly ([.cc] ++ everyEvent) s (moveLevel new cause s) := by
  obtain ⟨b, p, e⟩ := moveLevel_eq new cause s
  rw [e]
  intro p hp
  cases p <;> first | rfl | exact absurd (by decide) hp

theorem changesOnly_passTable (s : State) : changesOnly ([.ga] ++ everyEvent) s (passTable s) := by
  intro p hp
  cases p <;> first | exact absurd (by decide) hp | simp [agrees]

theorem changesOnly_applyLevels (s : State) : changesOnly ([.lc] ++ everyEvent) s (applyLevels s) := by
  intro p hp
  cases p <;> first | exact absurd (by decide) hp | simp [agrees]

theorem changesOnly_lightsFollow (s : State) : changesOnly ([.lc, .asked] ++ everyEvent) s (lightsFollow s) := by
  intro p hp
  cases p <;> first | exact absurd (by decide) hp | simp [agrees]

/-- Two areas of a run together. -/
theorem changesOnly_frame_pair {a b : Area} (ha : a ∈ as) (hb : b ∈ as)
    (h : changesOnly (a.parts ++ b.parts ++ everyEvent) s t) : changesOnly (partsOf as ++ everyEvent) s t := by
  refine h.mono (List.append_subset.2 ⟨List.append_subset.2 ⟨?_, ?_⟩, fun _ => List.mem_append_right _⟩)
  · exact fun _ hp => List.mem_append_left _ (parts_subset ha hp)
  · exact fun _ hp => List.mem_append_left _ (parts_subset hb hp)

/-- A move touches the parts of its areas alone, the mode, the revisions and the handings apart. -/
theorem Move.frame (h : Move as s t) : changesOnly (partsOf as ++ everyEvent) s t := by
  cases h with
  | hand i => exact changesOnly_everyEvent (changesOnly_hand i)
  | takes i _ ha hi => exact changesOnly_everyEvent fun p hp => by cases p <;> first | rfl | exact absurd (by decide) hp
  | rev v _ hv => exact changesOnly_everyEvent fun p hp => by cases p <;> first | rfl | exact absurd (by decide) hp
  | awake => exact changesOnly_everyEvent fun p hp => by cases p <;> first | rfl | exact absurd (by decide) hp
  | doze _ ha h => exact changesOnly_everyEvent fun p hp => by cases p <;> first | rfl | exact absurd (by decide) hp
  | sleep _ ha => exact changesOnly_everyEvent fun p hp => by cases p <;> first | rfl | exact absurd (by decide) hp
  | rescan b => exact changesOnly_everyEvent fun p hp => by cases p <;> rfl
  | mc m _ ha h1 h2 h3 h4 =>
    exact changesOnly_frame ha fun p hp => by cases p <;> first | rfl | exact absurd (by decide) hp
  | measure m _ ha h => exact changesOnly_frame ha fun p hp => by cases p <;> first | rfl | exact absurd (by decide) hp
  | comps v _ ha => exact changesOnly_frame ha fun p hp => by cases p <;> first | rfl | exact absurd (by decide) hp
  | channels v _ ha h => exact changesOnly_frame ha fun p hp => by cases p <;> first | rfl | exact absurd (by decide) hp
  | rawChannels v _ ha => exact changesOnly_frame ha fun p hp => by cases p <;> first | rfl | exact absurd (by decide) hp
  | charge u _ ha h1 h2 h3 => exact changesOnly_frame ha fun p hp => by cases p <;> first | rfl | exact absurd (by decide) hp
  | budget _ ha => exact changesOnly_frame ha (changesOnly_updateBudget s)
  | level n c _ ha => exact changesOnly_frame ha (changesOnly_moveLevel n c s)
  | grants g _ ha h1 h2 h3 h4 h5 =>
    exact changesOnly_frame ha fun p hp => by cases p <;> first | rfl | exact absurd (by decide) hp
  | passesOn g _ ha h1 h2 =>
    have hg : changesOnly ([.ga] ++ everyEvent) s { s with ga := g } := fun p hp => by
      cases p <;> first | rfl | exact absurd (by decide) hp
    exact changesOnly_frame ha (hg.trans (changesOnly_passTable _))
  | relists v _ ha => exact changesOnly_frame ha fun p hp => by cases p <;> first | rfl | exact absurd (by decide) hp
  | socket k e _ ha hb =>
    have hg : changesOnly (Area.ga.parts ++ Area.asked.parts ++ everyEvent) s (withSocket k (fun _ => e) s) := fun p hp => by
      cases p <;> first | rfl | exact absurd (by decide) hp
    exact changesOnly_frame_pair ha hb (hg.trans ((changesOnly_ask _ _).mono (by decide)))
  | asks v _ ha => exact changesOnly_frame ha fun p hp => by cases p <;> first | rfl | exact absurd (by decide) hp
  | heater h _ ha h1 h2 h3 => exact changesOnly_frame ha fun p hp => by cases p <;> first | rfl | exact absurd (by decide) hp
  | heaterEnter h _ ha hb h1 h2 =>
    have hg : changesOnly (Area.hc.parts ++ Area.asked.parts ++ everyEvent) s { s with hc := h } := fun p hp => by
      cases p <;> first | rfl | exact absurd (by decide) hp
    exact changesOnly_frame_pair ha hb (hg.trans ((changesOnly_ask _ _).mono (by decide)))
  | fridge f _ ha h1 h2 h3 h4 => exact changesOnly_frame ha fun p hp => by cases p <;> first | rfl | exact absurd (by decide) hp
  | fridgeEnter f _ ha hb h1 h2 =>
    have hg : changesOnly (Area.fc.parts ++ Area.asked.parts ++ everyEvent) s { s with fc := f } := fun p hp => by
      cases p <;> first | rfl | exact absurd (by decide) hp
    exact changesOnly_frame_pair ha hb (hg.trans ((changesOnly_ask _ _).mono (by decide)))
  | vent f _ ha hb h1 h2 h3 =>
    have hg : changesOnly (Area.fc.parts ++ Area.asked.parts ++ everyEvent) s { s with fc := f } := fun p hp => by
      cases p <;> first | rfl | exact absurd (by decide) hp
    exact changesOnly_frame_pair ha hb (hg.trans ((changesOnly_ask _ _).mono (by decide)))
  | lights l _ ha h1 h2 h3 h4 h5 =>
    exact changesOnly_frame ha fun p hp => by cases p <;> first | rfl | exact absurd (by decide) hp
  | lightsApply l _ ha h1 h2 =>
    have hg : changesOnly ([.lc] ++ everyEvent) s { s with lc := l } := fun p hp => by
      cases p <;> first | rfl | exact absurd (by decide) hp
    exact changesOnly_frame ha (hg.trans (changesOnly_applyLevels _))
  | lightsFollow l _ ha hb h1 =>
    have hg : changesOnly (Area.lc.parts ++ Area.asked.parts ++ everyEvent) s { s with lc := l } := fun p hp => by
      cases p <;> first | rfl | exact absurd (by decide) hp
    exact changesOnly_frame_pair ha hb (hg.trans (changesOnly_lightsFollow _))
  | panel p _ ha h1 h2 => exact changesOnly_frame ha fun p hp => by cases p <;> first | rfl | exact absurd (by decide) hp
  | panelBack _ ha hb =>
    have hg : changesOnly (Area.pn.parts ++ Area.asked.parts ++ everyEvent) s { s with pn := { s.pn with standby := false } } :=
      fun p hp => by cases p <;> first | rfl | exact absurd (by decide) hp
    exact changesOnly_frame_pair ha hb (hg.trans ((changesOnly_ask _ _).mono (by decide)))
  | panelSleep _ ha => exact changesOnly_frame ha fun p hp => by cases p <;> first | rfl | exact absurd (by decide) hp
  | rest r _ ha h => exact changesOnly_frame ha fun p hp => by cases p <;> first | rfl | exact absurd (by decide) hp
  | sched u _ ha h1 h2 h3 => exact changesOnly_frame ha fun p hp => by cases p <;> first | rfl | exact absurd (by decide) hp
  | clock u v _ ha hv => exact changesOnly_frame ha fun p hp => by cases p <;> first | rfl | exact absurd (by decide) hp
  | skips _ ha => exact changesOnly_frame ha fun p hp => by cases p <;> first | rfl | exact absurd (by decide) hp
  | link l _ ha h1 h2 => exact changesOnly_frame ha fun p hp => by cases p <;> first | rfl | exact absurd (by decide) hp
  | answer a _ ha => exact changesOnly_frame ha fun p hp => by cases p <;> first | rfl | exact absurd (by decide) hp
  | choices n _ ha => exact changesOnly_frame ha fun p hp => by cases p <;> first | rfl | exact absurd (by decide) hp
  | setpoint h _ ha => exact changesOnly_frame ha fun p hp => by cases p <;> first | rfl | exact absurd (by decide) hp
  | poke r ws _ ha =>
    exact changesOnly_frame ha ((pokeAll_poked r ws s).changesOnly.mono (List.subset_append_left _ _))

/-- A run touches the parts of its areas alone, the mode, the revisions and the handings apart. -/
theorem Moves.frame (h : Moves as s t) : changesOnly (partsOf as ++ everyEvent) s t :=
  h.lift (changesOnly.refl _) (fun _ _ _ => changesOnly.trans) fun _ _ m => m.frame

end Sys2Proof.Machine
end

section
/-! PROOFS. The invariants of Safety.lean under a run of moves: each is kept by every move, but for the areas named in its premise. -/

namespace Sys2Proof.Machine

-- One proof after another: started together they wait for one another, each on a thread of its own.
set_option Elab.async false

variable {s t u : State} {as : List Area}

/-! ### The settings that a record's fields set -/

theorem pokeSettings_battery {r : Nat} (h : r ≠ 3) (w : FieldWrite) (c : Settings) :
    (pokeSettings r w c).battery = c.battery := by
  unfold pokeSettings pokeConsumers pokeUser
  dsimp only
  repeat' split
  all_goals first | rfl | exact absurd rfl h

theorem pokeSettings_demands {r : Nat} (h : r ≠ 7) (w : FieldWrite) (c : Settings) :
    (pokeSettings r w c).demands = c.demands := by
  unfold pokeSettings pokeConsumers pokeUser
  dsimp only
  repeat' split
  all_goals first | rfl | exact absurd rfl h

theorem pokeSettings_masks {r : Nat} (h : r ≠ 5) (w : FieldWrite) (c : Settings) :
    (pokeSettings r w c).masks = c.masks := by
  unfold pokeSettings pokeUser
  dsimp only
  repeat' split
  all_goals first | rfl | exact absurd rfl h

theorem pokeSettings_classes {r : Nat} (h : r ≠ 5) (w : FieldWrite) (c : Settings) :
    (pokeSettings r w c).classes = c.classes := by
  unfold pokeSettings pokeUser
  dsimp only
  repeat' split
  all_goals first | rfl | exact absurd rfl h

theorem pokeSettings_chan {r : Nat} (h : r ≠ 8) (w : FieldWrite) (c : Settings) :
    (pokeSettings r w c).chan = c.chan := by
  unfold pokeSettings pokeConsumers pokeUser
  dsimp only
  repeat' split
  all_goals first | rfl | exact absurd rfl h

theorem pokeSettings_lights {r : Nat} (h : r ≠ 18) (w : FieldWrite) (c : Settings) :
    (pokeSettings r w c).lights = c.lights := by
  unfold pokeSettings pokeConsumers pokeUser
  dsimp only
  repeat' split
  all_goals first | rfl | exact absurd rfl h

/-- A setting that no written field of a record sets stands after all of them. -/
theorem pokeAll_setting {α : Type} {r : Nat} (f : Settings → α) (h : ∀ w c, f (pokeSettings r w c) = f c)
    (ws : List FieldWrite) (s : State) : f (pokeAll r ws s).cfg = f s.cfg := by
  have hfold : ∀ s : State, f (ws.foldl (poke r) s).cfg = f s.cfg := by
    induction ws with
    | nil => exact fun _ => rfl
    | cons w ws ih =>
      intro s
      refine (ih (poke r s w)).trans ?_
      unfold poke
      split_ifs <;> first | rfl | exact h w s.cfg
  unfold pokeAll
  dsimp only
  split_ifs
  · exact hfold s
  · exact hfold s

/-! ### The heater -/

theorem heaterSound_iff : heaterSound s ↔ heaterUnitSound s.hc ∧ storeSmall s.mc := by
  unfold heaterSound heaterUnitSound storeSmall heaterPartSmall heaterPartOf
  dsimp only
  tauto

theorem heaterSound_congr (hhc : t.hc = s.hc) (hmc : storeSmall s.mc → storeSmall t.mc) : heaterSound s → heaterSound t := by
  rw [heaterSound_iff, heaterSound_iff, hhc]
  exact fun ⟨a, b⟩ => ⟨a, hmc b⟩

/-- Every move keeps the heater sound. -/
theorem Move.heaterSound (h : Move as s t) : Machine.heaterSound s → Machine.heaterSound t := by
  cases h with
  | mc m _ ha h1 h2 h3 h4 =>
    rw [heaterSound_iff, heaterSound_iff]
    exact fun ⟨a, b⟩ => ⟨a, h4 a b⟩
  | heater h _ ha h1 h2 h3 =>
    rw [heaterSound_iff, heaterSound_iff]
    exact fun ⟨a, b⟩ => ⟨h3 a, b⟩
  | heaterEnter h _ ha hb h1 h2 =>
    rw [heaterSound_iff, heaterSound_iff]
    simpa using fun a b => ⟨h1 a, b⟩
  | _ => exact heaterSound_congr (by simp) (by simp [storeSmall])

/-! ### The fridge -/

theorem fridgeSound_iff : fridgeSound s ↔ fridgeUnitSound s.fc := Iff.rfl

/-- Every move keeps the fridge sound. -/
theorem Move.fridgeSound (h : Move as s t) : Machine.fridgeSound s → Machine.fridgeSound t := by
  rw [fridgeSound_iff, fridgeSound_iff]
  cases h with
  | fridge f _ ha h1 h2 h3 h4 => exact h4
  | fridgeEnter f _ ha hb h1 h2 => simpa using h2
  | vent f _ ha hb h1 h2 h3 => simpa using h3
  | poke r ws =>
    obtain ⟨n, e⟩ := (pokeAll_poked r ws s).fc
    rw [e]
    exact id
  | _ => simp

/-! ### The charge -/

theorem chargeSound_iff : chargeSound s ↔ chargeUnitSound s.cfg.battery.cap s.cc := Iff.rfl

/-- Every move keeps the charge sound, but a write of BATTERY's fields alone. -/
theorem Move.chargeSound (h : Move as s t) (hr : .poked 3 ∉ as) : Machine.chargeSound s → Machine.chargeSound t := by
  rw [chargeSound_iff, chargeSound_iff]
  cases h with
  | charge u _ ha h1 h2 h3 => exact h3.resolve_left hr
  | poke r ws _ ha =>
    have hne : r ≠ 3 := fun e => hr (e ▸ ha)
    have hcap : (pokeAll r ws s).cfg.battery = s.cfg.battery :=
      pokeAll_setting (·.battery) (fun w c => pokeSettings_battery hne w c) ws s
    simp [hcap]
  | budget => obtain e | e := updateBudget_cases s <;> rw [e] <;> exact id
  | level n c => obtain ⟨b, p, e⟩ := moveLevel_eq n c s; rw [e]; exact id
  | _ => simp

/-! ### The queues -/

/-- Every move keeps the queues within their depths. -/
theorem Move.queuesSound (h : Move as s t) : Machine.queuesSound s → Machine.queuesSound t := by
  unfold Machine.queuesSound
  cases h with
  | rev v _ hv => exact fun ⟨a, b, c, d, e, f⟩ => ⟨a, b, c, d, e, fun i => hv.1 i (f i)⟩
  | clock u v _ ha hv => exact fun ⟨a, b, c, d, e, f⟩ => ⟨a, b, c, d, e, fun i => hv i (f i)⟩
  | mc m _ ha h1 h2 h3 h4 => exact fun ⟨a, b, c, d, e, f⟩ => ⟨a, b, c, d, h3.le e, f⟩
  | panel p _ ha h1 h2 => exact fun ⟨a, b, c, d, e, f⟩ => ⟨a, b, h1 c, d, e, f⟩
  | rest r _ ha h => exact fun ⟨a, b, c, d, e, f⟩ => ⟨a, b, c, h d, e, f⟩
  | link l _ ha h1 h2 => exact fun ⟨a, b, c, d, e, f⟩ => ⟨h1 a, h2 b, c, d, e, f⟩
  | _ => simp

/-! ### The flame's sensors -/

theorem flameGuarded_iff : flameGuarded s ↔ (∀ ch, isConverted s ch = false → statusOf s ch = .stale)
    ∧ (flaming s.hc.state → statusOf s .tx = .valid ∧ statusOf s .th = .valid) := Iff.rfl

theorem isConverted_congr (hcfg : t.cfg.chan = s.cfg.chan) (hmode : t.mc.mode = s.mc.mode) (ch : Channel) :
    isConverted t ch = isConverted s ch := by
  unfold isConverted
  rw [hcfg, hmode]

theorem statusOf_congr (hmu : t.mu.chan = s.mu.chan) (ch : Channel) : statusOf t ch = statusOf s ch := by
  unfold statusOf chanOf
  rw [hmu]

theorem flameGuarded_congr (hcfg : t.cfg.chan = s.cfg.chan) (hmode : t.mc.mode = s.mc.mode) (hmu : t.mu.chan = s.mu.chan)
    (hhc : t.hc.state = s.hc.state) : flameGuarded s → flameGuarded t := by
  simp only [flameGuarded_iff, isConverted_congr hcfg hmode, statusOf_congr hmu, hhc]
  exact id

/-- A channel that the present mode leaves unconverted in AWAKE or DOZE is left so in every mode. -/
theorem isConverted_of_sampled {m : Mode} (hm : m ≠ .standby) {ch : Channel}
    (h : isConverted { s with mc := { s.mc with mode := m } } ch = false) : isConverted s ch = false := by
  unfold isConverted at *
  have hs : sampledIn m ch = true := by cases m <;> first | rfl | exact absurd rfl hm
  simp only [hs, Bool.and_true] at h
  simp [h]

theorem flameGuarded_mode {m : Mode} (hm : m ≠ .standby) :
    flameGuarded s → flameGuarded { s with mc := { s.mc with mode := m } } :=
  fun ⟨h1, h2⟩ => ⟨fun ch hch => h1 ch (isConverted_of_sampled hm hch), h2⟩

/-- Every move keeps the flame guarded, but the raw changes of the channels and a write of CHANNELS' fields alone. -/
theorem Move.flameGuarded (h : Move as s t) (hraw : .rawChan ∉ as) (hsleep : .sleep ∉ as) (hr : .poked 8 ∉ as) :
    Machine.flameGuarded s → Machine.flameGuarded t := by
  cases h with
  | awake => exact flameGuarded_mode (by decide)
  | doze _ ha h => exact flameGuarded_mode (by decide)
  | sleep _ ha => exact absurd ha hsleep
  | rawChannels v _ ha => exact absurd ha hraw
  | channels v _ ha h => exact h
  | mc m _ ha h1 h2 h3 h4 => exact flameGuarded_congr rfl h1 rfl rfl
  | measure m _ ha h => exact flameGuarded_congr rfl rfl h rfl
  | heater h _ ha h1 h2 h3 => exact flameGuarded_congr rfl rfl rfl h1
  | heaterEnter h _ ha hb h1 h2 =>
    rw [flameGuarded_iff, flameGuarded_iff]
    rintro ⟨hstale, hvalid⟩
    refine ⟨fun ch hch => ?_, fun hf => ?_⟩
    · rw [isConverted_congr (s := s) (by simp) (by simp)] at hch
      rw [statusOf_congr (s := s) (by simp), hstale ch hch]
    · rw [ask_hc] at hf
      rw [statusOf_congr (s := s) (by simp) .tx, statusOf_congr (s := s) (by simp) .th]
      exact (h2.1 hf).elim hvalid id
  | poke r ws _ ha =>
    have hne : r ≠ 8 := fun e => hr (e ▸ ha)
    have hchan : (pokeAll r ws s).cfg.chan = s.cfg.chan := pokeAll_setting (·.chan) (fun w c => pokeSettings_chan hne w c) ws s
    exact flameGuarded_congr hchan (by simp) (by simp) (by simp)
  | _ => exact flameGuarded_congr (by simp) (by simp) (by simp) (by simp)

end Sys2Proof.Machine
end

section
/-! PROOFS. The rounds of a pass keep within the budget, and with them the invariants of the grants, the order lists, the lights
and the requests under a run of moves. -/

namespace Sys2Proof.Machine

-- One proof after another: started together they wait for one another, each on a thread of its own.
set_option Elab.async false

variable {s t u : State} {as : List Area}

/-! ### The rounds of a pass (R50 to R52) -/

theorem consIx_inj {c d : Consumer} (h : consIx c = consIx d) : c = d := by
  cases c <;> cases d <;> first | rfl | exact absurd h (by decide)

theorem mem_allConsumers (c : Consumer) : c ∈ allConsumers := by cases c <;> decide

/-- The sum of the rounds' grants. -/
def shareSum (sh : Share) : Nat := (allConsumers.map fun c => tget sh.grants (consIx c)).sum

theorem shareSum_tset (sh : Share) (c : Consumer) (n left : Nat) :
    shareSum ⟨tset sh.grants (consIx c) n, left⟩ + tget sh.grants (consIx c) = shareSum sh + n := by
  unfold shareSum allConsumers
  cases c <;> simp [tget_tset, consIx] <;> omega

/-- What the rounds keep: grants and R within the budget, or within the safety grants where those exceed it, and a grant above 0
to none but safety requests and candidates. -/
structure ShareSound (s : State) (sh : Share) : Prop where
  within : shareSum sh + sh.left ≤ max s.ga.report.budget (safetyTotal s)
  owed : ∀ c, 0 < tget sh.grants (consIx c) → 0 < safetyDemand (entryOf s c) ∨ ∃ r, candidate s c = some r

theorem safetyRound_sound (s : State) : ShareSound s (safetyRound s) := by
  have hgrant : ∀ c, tget (safetyRound s).grants (consIx c) = safetyDemand (entryOf s c) := fun c => by
    rw [safetyRound, tget_map, entryOf]
  have hsum : shareSum (safetyRound s) = safetyTotal s := by
    unfold shareSum safetyTotal
    simp only [hgrant]
  refine ⟨?_, fun c hc => .inl (hgrant c ▸ hc)⟩
  have hleft : (safetyRound s).left = s.ga.report.budget - safetyTotal s := rfl
  omega

theorem floorStep_sound {sh : Share} (h : ShareSound s sh) (c : Consumer) : ShareSound s (floorStep s sh c) := by
  unfold floorStep
  split
  · rename_i r hr
    split_ifs with hle
    · refine ⟨?_, fun d hd => ?_⟩
      · have hsum := shareSum_tset sh c r.dmin (sh.left - r.dmin)
        have hin := h.within
        dsimp only
        omega
      · dsimp only at hd
        rw [tget_tset] at hd
        split_ifs at hd with e
        · exact .inr ⟨r, by rw [← consIx_inj e]; exact hr⟩
        · exact h.owed d hd
    · exact h
  · exact h

theorem foldl_max_le {xs : List Nat} {a b : Nat} (h : ∀ x ∈ xs, x ≤ b) : xs.foldl max a ≤ max a b := by
  induction xs generalizing a with
  | nil => exact le_max_left a b
  | cons x xs ih =>
    have hx := h x (List.mem_cons_self ..)
    refine (ih fun y hy => h y (List.mem_cons_of_mem _ hy)).trans ?_
    omega

/-- What a candidate takes is at most its grant or the offer. -/
theorem takeOffer_le (r : Request) (g offer : Nat) : takeOffer r g offer ≤ max g offer := by
  unfold takeOffer
  split
  · exact le_max_right _ _
  · exact foldl_max_le fun x hx => by simpa using (List.mem_filter.1 hx).2

theorem topUpStep_sound {sh : Share} (h : ShareSound s sh) (c : Consumer) : ShareSound s (topUpStep s sh c) := by
  unfold topUpStep
  split
  · rename_i r hr
    dsimp only
    split_ifs
    · exact h
    · have htake := takeOffer_le r (tget sh.grants (consIx c)) (min r.d (tget sh.grants (consIx c) + sh.left))
      generalize takeOffer r (tget sh.grants (consIx c)) (min r.d (tget sh.grants (consIx c) + sh.left)) = n at htake
      refine ⟨?_, fun d hd => ?_⟩
      · have hsum := shareSum_tset sh c n (sh.left - (n - tget sh.grants (consIx c)))
        have hin := h.within
        dsimp only
        omega
      · dsimp only at hd
        rw [tget_tset] at hd
        split_ifs at hd with e
        · exact .inr ⟨r, by rw [← consIx_inj e]; exact hr⟩
        · exact h.owed d hd
  · exact h

theorem foldl_sound {f : Share → Consumer → Share} (hf : ∀ sh c, ShareSound s sh → ShareSound s (f sh c)) (cs : List Consumer)
    {sh : Share} (h : ShareSound s sh) : ShareSound s (cs.foldl f sh) := by
  induction cs generalizing sh with
  | nil => exact h
  | cons c cs ih => exact ih (hf sh c h)

/-- The three rounds together keep within the budget. -/
theorem passShare_sound (s : State) : ShareSound s (passShare s) :=
  foldl_sound (fun _ c h => topUpStep_sound h c) _
    (foldl_sound (fun _ c h => floorStep_sound h c) _ (safetyRound_sound s))

/-! ### The table after a pass -/

theorem concludeOne_grant (sh : Share) (s : State) (c d : Consumer) : (entryOf (concludeOne sh s c) d).grant =
    if c = d then tget sh.grants (consIx d) else (entryOf s d).grant := by
  obtain ⟨st, h, e⟩ := concludeOne_eq sh s c
  rw [e]
  unfold entryOf
  dsimp only
  rw [tget_tset]
  by_cases hcd : c = d
  · simp [hcd]
  · rw [if_neg fun h => hcd (consIx_inj h), if_neg hcd]

theorem foldl_concludeOne_grant (sh : Share) (cs : List Consumer) (s : State) (c : Consumer)
    (h : c ∈ cs ∨ (entryOf s c).grant = tget sh.grants (consIx c)) :
    (entryOf (cs.foldl (concludeOne sh) s) c).grant = tget sh.grants (consIx c) := by
  induction cs generalizing s with
  | nil => exact h.resolve_left (by simp)
  | cons d cs ih =>
    refine ih _ ?_
    rw [concludeOne_grant]
    by_cases hdc : d = c
    · simp [hdc]
    · simpa [hdc, Ne.symm hdc] using h

/-- Each consumer's grant after a pass is the one of the rounds. -/
theorem passTable_grant (s : State) (c : Consumer) :
    (entryOf (passTable s) c).grant = tget (passShare s).grants (consIx c) := by
  have h := foldl_concludeOne_grant (passShare s) allConsumers s c (.inl (mem_allConsumers c))
  rw [passTable_fold]
  generalize allConsumers.foldl (concludeOne (passShare s)) s = x at h
  exact h

theorem passTable_entryOf (s : State) (c : Consumer) : entryKept (entryOf s c) (entryOf (passTable s) c) :=
  passTable_entry s (consIx c)

theorem effectiveClass_congr (c : Consumer) (hb : (entryOf t c).boosted = (entryOf s c).boosted)
    (hc : t.cfg.classes = s.cfg.classes) : effectiveClass t c = effectiveClass s c := by
  unfold effectiveClass
  rw [hb, hc]

theorem passTable_effectiveClass (s : State) (c : Consumer) : effectiveClass (passTable s) c = effectiveClass s c := by
  obtain ⟨g, st, e⟩ := passTable_entryOf s c
  exact effectiveClass_congr c (by rw [e]) (by simp)

/-- After a pass the grants are sound, whatever stood before it (R50 to R52). -/
theorem passTable_grantSound (s : State) : grantSound (passTable s) := by
  have hsound := passShare_sound s
  refine ⟨?_, fun c hc => ?_⟩
  · have hsum : grantSum (passTable s) = shareSum (passShare s) := by
      unfold grantSum shareSum
      simp only [passTable_grant]
    have hsafety : (passTable s).ga.safetySum = safetyTotal s := by obtain ⟨v, h, e⟩ := passTable_eq s; rw [e]
    rw [hsum, passTable_report, hsafety]
    exact (Nat.le_add_right _ _).trans hsound.within
  · rw [passTable_grant] at hc
    obtain ⟨g, st, e⟩ := passTable_entryOf s c
    rw [passTable_effectiveClass, passTable_cfg, passTable_report, e]
    obtain h | ⟨r, h⟩ := hsound.owed c hc
    · unfold safetyDemand at h
      split at h
      · rename_i r hr
        refine ⟨r, hr, .inl ?_⟩
        by_contra hno
        simp [hno] at h
      · exact absurd h (by decide)
    · unfold candidate at h
      dsimp only at h
      split at h
      · exact absurd h (by simp)
      · rename_i q hq
        split_ifs at h with hcond
        refine ⟨q, hq, .inr ?_⟩
        simpa [not_or, and_assoc] using (by simpa [not_or, and_assoc] using hcond :
          _ ∧ tget s.cfg.masks (consIx c) = false ∧ (entryOf s c).latched = false ∧ (entryOf s c).retry = none
            ∧ effectiveClass s c ∈ s.ga.report.classes).2

/-! ### The grants -/

theorem grantSound_congr (hentry : ∀ c, (entryOf t c).boosted = (entryOf s c).boosted
        ∧ (entryOf t c).request = (entryOf s c).request ∧ (entryOf t c).grant = (entryOf s c).grant
        ∧ (entryOf t c).latched = (entryOf s c).latched ∧ (entryOf t c).retry = (entryOf s c).retry)
    (hreport : t.ga.report = s.ga.report) (hsafety : t.ga.safetySum = s.ga.safetySum) (hmasks : t.cfg.masks = s.cfg.masks)
    (hclasses : t.cfg.classes = s.cfg.classes) : grantSound s → grantSound t := by
  rintro ⟨hsum, hgrant⟩
  have hcls : ∀ c, effectiveClass t c = effectiveClass s c := fun c => effectiveClass_congr c (hentry c).1 hclasses
  refine ⟨?_, fun c hc => ?_⟩
  · have : grantSum t = grantSum s := by unfold grantSum; simp only [(hentry _).2.2.1]
    rw [this, hreport, hsafety]
    exact hsum
  · obtain ⟨hb, hr, hg, hl, hy⟩ := hentry c
    rw [hr, hl, hy, hmasks, hcls, hreport]
    exact hgrant c (hg ▸ hc)

theorem grantSound_of_ga (hga : t.ga = s.ga) (hmasks : t.cfg.masks = s.cfg.masks) (hclasses : t.cfg.classes = s.cfg.classes) :
    grantSound s → grantSound t :=
  grantSound_congr (fun c => by simp [entryOf, hga]) (by rw [hga]) (by rw [hga]) hmasks hclasses

/-- Every move keeps the grants sound, but a write of CONSUMERS' fields alone. -/
theorem Move.grantSound (h : Move as s t) (hr : .poked 5 ∉ as) : Machine.grantSound s → Machine.grantSound t := by
  cases h with
  | grants g _ ha h1 h2 h3 h4 h5 => exact grantSound_congr (fun c => h1 (consIx c)) h3 h4 rfl rfl
  | passesOn g => exact fun _ => passTable_grantSound _
  | relists v => exact grantSound_congr (fun c => ⟨rfl, rfl, rfl, rfl, rfl⟩) rfl rfl rfl rfl
  | socket k e _ ha hb =>
    have hga := ask_ga (socketConsumer k) (if e.on then some (socketRequest s.cfg.demands k) else none) (withSocket k (fun _ => e) s)
    exact grantSound_congr (fun c => by simp [entryOf, withSocket, withGa]) (by rw [hga]; rfl) (by rw [hga]; rfl) (by simp)
      (by simp)
  | poke r ws _ ha =>
    have hne : r ≠ 5 := fun e => hr (e ▸ ha)
    obtain ⟨v, e⟩ := (pokeAll_poked r ws s).ga
    exact grantSound_congr (fun c => by simp [entryOf, e]) (by rw [e]) (by rw [e])
      (pokeAll_setting (·.masks) (fun w c => pokeSettings_masks hne w c) ws s)
      (pokeAll_setting (·.classes) (fun w c => pokeSettings_classes hne w c) ws s)
  | _ => exact grantSound_of_ga (by simp) (by simp) (by simp)

/-! ### The order lists -/

theorem listsSound_congr (hlists : t.ga.lists = s.ga.lists) (hcls : ∀ c, effectiveClass t c = effectiveClass s c) :
    listsSound s → listsSound t := by
  intro h k
  simp only [hlists, hcls]
  exact h k

theorem listsSound_of_ga (hga : t.ga = s.ga) (hclasses : t.cfg.classes = s.cfg.classes) : listsSound s → listsSound t :=
  listsSound_congr (by rw [hga]) fun c => effectiveClass_congr c (by simp [entryOf, hga]) hclasses

/-- Every move keeps the order lists sound, but a raw change of them and a write of CONSUMERS' fields alone. -/
theorem Move.listsSound (h : Move as s t) (hl : .relisted ∉ as) (hr : .poked 5 ∉ as) :
    Machine.listsSound s → Machine.listsSound t := by
  cases h with
  | grants g _ ha h1 h2 h3 h4 h5 =>
    exact listsSound_congr h2 fun c => effectiveClass_congr c (h1 (consIx c)).1 rfl
  | passesOn g _ ha h1 h2 =>
    exact fun hs => listsSound_congr (by simp) (fun c => passTable_effectiveClass _ c) (h1 hs)
  | relists v _ ha => exact absurd ha hl
  | socket k e _ ha hb =>
    have hga := ask_ga (socketConsumer k) (if e.on then some (socketRequest s.cfg.demands k) else none) (withSocket k (fun _ => e) s)
    exact listsSound_congr (by rw [hga]; rfl) fun c => effectiveClass_congr c (by simp [entryOf, withSocket, withGa]) (by simp)
  | poke r ws _ ha =>
    have hne : r ≠ 5 := fun e => hr (e ▸ ha)
    obtain ⟨v, e⟩ := (pokeAll_poked r ws s).ga
    exact listsSound_congr (by rw [e]) fun c => effectiveClass_congr c (by simp [entryOf, e])
      (pokeAll_setting (·.classes) (fun w c => pokeSettings_classes hne w c) ws s)
  | _ => exact listsSound_of_ga (by simp) (by simp)

end Sys2Proof.Machine
end

section
/-! PROOFS. The lights and the owners' requests under a run of moves. -/

namespace Sys2Proof.Machine

-- One proof after another: started together they wait for one another, each on a thread of its own.
set_option Elab.async false

variable {s t u : State} {as : List Area}

/-! ### The lights -/

theorem lightsSound_iff : lightsSound s ↔ ∀ i, fadeSound (lightOf s i) ∧ (lightOf s i).applied = appliedLevel s i := by
  unfold lightsSound fadeSound
  simp only [and_assoc]

/-- What an applied level is formed from besides the channel: the group's request, its grant and the caps in force (R112). -/
theorem appliedLevel_congr {i : Fin 6} (hcfg : t.cfg.lights = s.cfg.lights)
    (hasked : ∀ g, tget t.asked (consIx (groupConsumer g)) = tget s.asked (consIx (groupConsumer g)))
    (hlevel : t.lc.level = s.lc.level) (hrest : t.lc.resting = s.lc.resting) (hentry : t.lc.entry = s.lc.entry)
    (hgroup : ∀ g, (tget t.lc.group g).grant = (tget s.lc.group g).grant)
    (hfaded : (lightOf t i).faded = (lightOf s i).faded) : appliedLevel t i = appliedLevel s i := by
  have hcaps : ∀ g, capsInForce t g = capsInForce s g := fun g => by
    unfold capsInForce
    rw [hlevel, hrest, hentry, hcfg]
  unfold appliedLevel
  dsimp only
  rw [hasked, hgroup, hfaded, hcaps]

theorem lightsSound_congr (hcfg : t.cfg.lights = s.cfg.lights)
    (hasked : ∀ g, tget t.asked (consIx (groupConsumer g)) = tget s.asked (consIx (groupConsumer g)))
    (hlc : t.lc = s.lc) : lightsSound s → lightsSound t := by
  rw [lightsSound_iff, lightsSound_iff]
  intro h i
  have hlight : lightOf t i = lightOf s i := by rw [lightOf, lightOf, hlc]
  have happ := appliedLevel_congr (i := i) hcfg hasked (by rw [hlc]) (by rw [hlc]) (by rw [hlc]) (fun g => by rw [hlc])
    (by rw [hlight])
  rw [hlight, happ]
  exact h i

theorem groupConsumer_ne {c : Consumer} (h : c ≠ .bunk) (h' : c ≠ .cab) (g : Group) : consIx c ≠ consIx (groupConsumer g) := by
  intro e
  have e' := consIx_inj e
  cases g
  · exact h e'
  · exact h' e'

/-- A request of a consumer that is no light group leaves the lights. -/
theorem lightsSound_ask {c : Consumer} {r : Option Request} (hc : c ≠ .bunk) (hc' : c ≠ .cab) :
    lightsSound s → lightsSound (ask c r s) :=
  lightsSound_congr (by simp) (fun g => ask_asked_other _ _ _ _ (groupConsumer_ne hc hc' g)) (by simp)

/-- The levels recomputed are sound where every fade is. -/
theorem applyLevels_sound (h : ∀ i, fadeSound (lightOf s i)) : lightsSound (applyLevels s) := by
  rw [lightsSound_iff]
  intro i
  have happ : appliedLevel (applyLevels s) i = appliedLevel s i :=
    appliedLevel_congr rfl (fun _ => rfl) rfl rfl rfl (fun _ => rfl) (by rw [lightOf_applyLevels])
  rw [happ, lightOf_applyLevels]
  exact ⟨h i, rfl⟩

theorem lightsFollow_sound (h : ∀ i, fadeSound (lightOf s i)) : lightsSound (lightsFollow s) := by
  unfold lightsFollow
  exact applyLevels_sound fun i => by simpa [lightOf] using h i

/-- Every move keeps the lights sound, but a write of LIGHTS' fields alone. -/
theorem Move.lightsSound (h : Move as s t) (hr : .poked 18 ∉ as) :
    Machine.lightsSound s → Machine.lightsSound t := by
  cases h with
  | asks v _ ha hl => exact lightsSound_congr rfl hl rfl
  | socket k e _ ha hb =>
    intro hs
    exact lightsSound_ask (by cases k <;> decide) (by cases k <;> decide) (lightsSound_congr (s := s) rfl (fun _ => rfl) rfl hs)
  | heaterEnter h _ ha hb h1 h2 =>
    exact fun hs => lightsSound_ask (by decide) (by decide) (lightsSound_congr (s := s) rfl (fun _ => rfl) rfl hs)
  | fridgeEnter f _ ha hb h1 h2 =>
    exact fun hs => lightsSound_ask (by decide) (by decide) (lightsSound_congr (s := s) rfl (fun _ => rfl) rfl hs)
  | vent f _ ha hb h1 h2 h3 =>
    exact fun hs => lightsSound_ask (by decide) (by decide) (lightsSound_congr (s := s) rfl (fun _ => rfl) rfl hs)
  | panelBack _ ha hb =>
    exact fun hs => lightsSound_ask (by decide) (by decide) (lightsSound_congr (s := s) rfl (fun _ => rfl) rfl hs)
  | lights l _ ha h1 h2 h3 h4 h5 =>
    rw [lightsSound_iff, lightsSound_iff]
    intro hs i
    have hlight : lightOf { s with lc := l } i = lightOf s i := by rw [lightOf, lightOf, h5]
    have happ : appliedLevel { s with lc := l } i = appliedLevel s i :=
      appliedLevel_congr rfl (fun _ => rfl) h1 h2 h3 h4 (by rw [hlight])
    rw [hlight, happ]
    exact hs i
  | lightsApply l _ ha h1 h2 =>
    rw [lightsSound_iff]
    exact fun hs => applyLevels_sound fun i => h1 i (hs i).1
  | lightsFollow l _ ha hb h1 =>
    rw [lightsSound_iff]
    exact fun hs => lightsFollow_sound fun i => h1 i (hs i).1
  | poke r ws _ ha =>
    have hne : r ≠ 18 := fun e => hr (e ▸ ha)
    exact lightsSound_congr (pokeAll_setting (·.lights) (fun w c => pokeSettings_lights hne w c) ws s) (fun g => by simp)
      ((pokeAll_poked r ws s).lc_of_ne hne)
  | _ => exact lightsSound_congr (by simp) (fun g => by simp) (by simp)

/-! ### The owners' requests -/

/-- The request that a consumer's owner places by its state (R45 to R47, R63, R94, R104, R111, R120). -/
def ownerRequest (s : State) (c : Consumer) : Option Request :=
  match c with
  | .panel => if s.pn.standby then none else some (panelRequest s.cfg.demands)
  | .heat => heaterRequest s.cfg.demands s.hc
  | .fridge => fridgeRequest s.cfg.demands s.fc
  | .bunk => groupRequest s .bunk
  | .cab => groupRequest s .cab
  | .vent => ventRequest s.cfg.demands s.fc.ventSpeed
  | .socketA => if (tget s.ga.sockets 0).on then some (socketRequest s.cfg.demands .a) else none
  | .socketB => if (tget s.ga.sockets 1).on then some (socketRequest s.cfg.demands .b) else none

theorem requestsSound_iff : requestsSound s ↔ ∀ c, tget s.asked (consIx c) = ownerRequest s c := by
  refine ⟨fun ⟨hp, hh, hf, hb, hc, hv, hk⟩ c => ?_, fun h => ⟨h .panel, h .heat, h .fridge, h .bunk, h .cab, h .vent, fun k => ?_⟩⟩
  · cases c
    case panel => exact hp
    case heat => exact hh
    case fridge => exact hf
    case bunk => exact hb
    case cab => exact hc
    case vent => exact hv
    case socketA => exact hk .a
    case socketB => exact hk .b
  · cases k
    · exact h .socketA
    · exact h .socketB

/-- The states agree on all that the owner of a consumer forms its request from, the demand table apart. -/
def ownerAgrees (s t : State) (c : Consumer) : Prop :=
  match c with
  | .panel => t.pn.standby = s.pn.standby
  | .heat => t.hc.state = s.hc.state ∧ t.hc.desired = s.hc.desired
  | .fridge => t.fc.state = s.fc.state ∧ t.fc.wanted = s.fc.wanted
  | .bunk | .cab => ∀ i, demandLevel (lightOf t i) = demandLevel (lightOf s i)
  | .vent => t.fc.ventSpeed = s.fc.ventSpeed
  | .socketA => (tget t.ga.sockets 0).on = (tget s.ga.sockets 0).on
  | .socketB => (tget t.ga.sockets 1).on = (tget s.ga.sockets 1).on

theorem groupRequest_congr (h : ∀ i, demandLevel (lightOf t i) = demandLevel (lightOf s i)) (g : Group) :
    groupRequest t g = groupRequest s g := by
  unfold groupRequest groupDemand
  simp only [h]

theorem ownerRequest_congr {c : Consumer} (hd : t.cfg.demands = s.cfg.demands) (h : ownerAgrees s t c) :
    ownerRequest t c = ownerRequest s c := by
  cases c
  case panel => have e : t.pn.standby = s.pn.standby := h; simp only [ownerRequest, e, hd]
  case heat => obtain ⟨e1, e2⟩ := h; simp only [ownerRequest, heaterRequest, e1, e2, hd]
  case fridge => obtain ⟨e1, e2⟩ := h; simp only [ownerRequest, fridgeRequest, e1, e2, hd]
  case bunk => exact groupRequest_congr h .bunk
  case cab => exact groupRequest_congr h .cab
  case vent => have e : t.fc.ventSpeed = s.fc.ventSpeed := h; simp only [ownerRequest, e, hd]
  case socketA => have e : (tget t.ga.sockets 0).on = (tget s.ga.sockets 0).on := h; simp only [ownerRequest, e, hd]
  case socketB => have e : (tget t.ga.sockets 1).on = (tget s.ga.sockets 1).on := h; simp only [ownerRequest, e, hd]

theorem requestsSound_congr (hd : t.cfg.demands = s.cfg.demands) (hasked : t.asked = s.asked) (h : ∀ c, ownerAgrees s t c) :
    requestsSound s → requestsSound t := by
  rw [requestsSound_iff, requestsSound_iff]
  intro hs c
  rw [hasked, ownerRequest_congr hd (h c)]
  exact hs c

/-- An owner brings its request to its new state: every other owner's stands as it did. -/
theorem requestsSound_ask {c : Consumer} (hd : t.cfg.demands = s.cfg.demands) (hasked : t.asked = s.asked)
    (h : ∀ c', c' ≠ c → ownerAgrees s t c') {r : Option Request} (hr : r = ownerRequest t c) :
    requestsSound s → requestsSound (ask c r t) := by
  rw [requestsSound_iff, requestsSound_iff]
  intro hs c'
  have howner : ownerRequest (ask c r t) c' = ownerRequest t c' :=
    ownerRequest_congr (by simp) (by cases c' <;> simp [ownerAgrees, lightOf])
  rw [howner]
  by_cases e : c' = c
  · rw [e, ask_asked_same, hr]
  · rw [ask_asked_other _ _ _ _ (fun k => e (consIx_inj k).symm), hasked, ownerRequest_congr hd (h c' e)]
    exact hs c'

/-- The demand levels stand where the applied levels alone are formed again. -/
theorem demandLevel_applyLevels (i : Fin 6) : demandLevel (lightOf (applyLevels s) i) = demandLevel (lightOf s i) := by
  rw [lightOf_applyLevels]
  rfl

/-- Both groups' requests follow the channels' new targets. -/
theorem requestsSound_lightsFollow (hd : t.cfg.demands = s.cfg.demands) (hasked : t.asked = s.asked)
    (h : ∀ c, c ≠ .bunk → c ≠ .cab → ownerAgrees s t c) : requestsSound s → requestsSound (lightsFollow t) := by
  rw [requestsSound_iff, requestsSound_iff]
  intro hs c
  have hlight : ∀ i, demandLevel (lightOf (lightsFollow t) i) = demandLevel (lightOf t i) := fun i => by
    unfold lightsFollow
    rw [demandLevel_applyLevels]
    simp [lightOf]
  have howner : ownerRequest (lightsFollow t) c = ownerRequest t c := by
    refine ownerRequest_congr (by simp) ?_
    cases c
    case bunk => exact hlight
    case cab => exact hlight
    all_goals simp [ownerAgrees]
  rw [howner]
  unfold lightsFollow
  rw [applyLevels_asked]
  by_cases e : c = .cab
  · rw [e, ask_asked_same]
    exact groupRequest_congr (fun i => by simp [lightOf]) .cab
  · rw [ask_asked_other _ _ _ _ fun k => e (consIx_inj k).symm]
    by_cases e' : c = .bunk
    · rw [e', ask_asked_same]
      rfl
    · rw [ask_asked_other _ _ _ _ fun k => e' (consIx_inj k).symm, hasked, ownerRequest_congr hd (h c e' e)]
      exact hs c

/-- Every move keeps the owners' requests sound, but a write of the fields they are formed from and STANDBY's steps alone. -/
theorem Move.requestsSound (h : Move as s t) (hd : .demand ∉ as) (hsleep : .sleep ∉ as) (h7 : .poked 7 ∉ as)
    (h16 : .poked 16 ∉ as) (h17 : .poked 17 ∉ as) (h18 : .poked 18 ∉ as) :
    Machine.requestsSound s → Machine.requestsSound t := by
  cases h with
  | asks v _ ha => exact absurd ha hd
  | panelSleep _ ha => exact absurd ha hsleep
  | grants g _ ha h1 h2 h3 h4 h5 => exact requestsSound_congr rfl rfl fun c => by cases c <;> simp [ownerAgrees, lightOf, h5]
  | passesOn g _ ha h1 h2 =>
    exact requestsSound_congr (by simp) (by simp) fun c => by cases c <;> simp [ownerAgrees, lightOf, h2]
  | socket k e _ ha hb =>
    refine requestsSound_ask (s := s) (by rfl) (by rfl) (fun c hc => ?_) ?_
    · cases c
      case socketA =>
        cases k
        · exact absurd rfl hc
        · simp [ownerAgrees, withSocket, withGa, socketIx, tget_tset]
      case socketB =>
        cases k
        · simp [ownerAgrees, withSocket, withGa, socketIx, tget_tset]
        · exact absurd rfl hc
      all_goals simp [ownerAgrees, lightOf]
    · cases k <;> simp [ownerRequest, socketConsumer, withSocket, withGa, socketIx]
  | heater h _ ha h1 h2 h3 => exact requestsSound_congr rfl rfl fun c => by cases c <;> simp [ownerAgrees, lightOf, h1, h2]
  | heaterEnter h _ ha hb h1 h2 =>
    exact requestsSound_ask (s := s) (by rfl) (by rfl) (fun c hc => by cases c <;> simp [ownerAgrees, lightOf] at hc ⊢) (by rfl)
  | fridge f _ ha h1 h2 h3 h4 => exact requestsSound_congr rfl rfl fun c => by cases c <;> simp [ownerAgrees, lightOf, h1, h2, h3]
  | fridgeEnter f _ ha hb h1 h2 =>
    exact requestsSound_ask (s := s) (by rfl) (by rfl) (fun c hc => by cases c <;> simp [ownerAgrees, lightOf, h1] at hc ⊢) (by rfl)
  | vent f _ ha hb h1 h2 h3 =>
    exact requestsSound_ask (s := s) (by rfl) (by rfl) (fun c hc => by cases c <;> simp [ownerAgrees, lightOf, h1, h2] at hc ⊢) (by rfl)
  | lights l _ ha h1 h2 h3 h4 h5 => exact requestsSound_congr rfl rfl fun c => by cases c <;> simp [ownerAgrees, lightOf, h5]
  | lightsApply l _ ha h1 h2 =>
    refine requestsSound_congr (by simp) (by simp) fun c => ?_
    have hlight : ∀ i, demandLevel (lightOf (applyLevels { s with lc := l }) i) = demandLevel (lightOf s i) := fun i => by
      rw [demandLevel_applyLevels]
      exact h2 i
    cases c
    case bunk => exact hlight
    case cab => exact hlight
    all_goals simp [ownerAgrees]
  | lightsFollow l _ ha hb h1 =>
    exact requestsSound_lightsFollow rfl rfl fun c hc hc' => by cases c <;> simp [ownerAgrees] at hc hc' ⊢
  | panel p _ ha h1 h2 => exact requestsSound_congr rfl rfl fun c => by cases c <;> simp [ownerAgrees, lightOf, h2]
  | panelBack _ ha hb => exact requestsSound_ask (s := s) (by rfl) (by rfl) (fun c hc => by cases c <;> simp [ownerAgrees, lightOf] at hc ⊢) (by rfl)
  | poke r ws _ ha =>
    have hdem : (pokeAll r ws s).cfg.demands = s.cfg.demands :=
      pokeAll_setting (·.demands) (fun w c => pokeSettings_demands (fun e => h7 (e ▸ ha)) w c) ws s
    have hfc := (pokeAll_poked r ws s).fc_of_ne fun e => h16 (e ▸ ha)
    have hga := (pokeAll_poked r ws s).ga_of_ne fun e => h17 (e ▸ ha)
    have hlc := (pokeAll_poked r ws s).lc_of_ne fun e => h18 (e ▸ ha)
    exact requestsSound_congr hdem (by simp) fun c => by cases c <;> simp [ownerAgrees, lightOf, hfc, hga, hlc]
  | _ => exact requestsSound_congr (by simp) (by simp) fun c => by cases c <;> simp [ownerAgrees, lightOf]

end Sys2Proof.Machine
end

section
/-! PROOFS. The shared operations, the chimes and the fridge as runs of moves. -/

namespace Sys2Proof.Machine

-- One proof after another: started together they wait for one another, each on a thread of its own.
set_option Elab.async false

variable {s t u : State} {as : List Area}

/-! ### Handings and revisions -/

theorem moves_hand (i : Instr) (s : State) : Moves [] s (hand i s) := .of_move (.hand i s)

theorem moves_post (k : NoticeKind) (src : Source) (sev : Severity) (d : List Byte) (s : State) :
    Moves [] s (post k src sev d s) := moves_hand _ s

theorem moves_chime (p : Fin 10) (s : State) : Moves [] s (chime p s) := moves_hand _ s

theorem moves_raise (i : Instr) (s : State) : Moves [] s (raise i s) := by
  unfold raise
  split_ifs
  · exact .refl
  · exact moves_hand i s

theorem moves_answer (st : Status) (d : List Byte) (s : State) : Moves [.answer] s (answer st d s) :=
  .of_move (.answer _ s (by decide))

theorem moves_countChoices (n : Nat) (s : State) : Moves [.choices] s (countChoices n s) :=
  .of_move (.choices _ s (by decide))

theorem tget_foldl_tset {α : Type} {n : Nat} (is : List (Fin n)) (g : Fin n → α) (v : Vector α n) (i : Fin n) :
    tget (is.foldl (fun v i => tset v i (g i)) v) i = if i ∈ is then g i else tget v i := by
  induction is generalizing v with
  | nil => simp
  | cons j is ih =>
    rw [List.foldl_cons, ih, tget_tset]
    by_cases hi : i ∈ is
    · simp [hi]
    · by_cases hj : j = i
      · simp [hj]
      · simp [hi, hj, Ne.symm hj]

/-- A revision after an event is the one before it or the next. -/
theorem revisionAfter_cases (s t : State) (i : Fin 26) :
    revisionAfter s t i = tget t.rev i
      ∨ revisionView s (i.1 + 1) ≠ revisionView t (i.1 + 1) ∧ revisionAfter s t i = (tget t.rev i + 1) % 256 := by
  unfold revisionAfter
  dsimp only
  split_ifs with h1 h2
  · exact .inl rfl
  · exact .inl rfl
  · exact .inr ⟨h2, rfl⟩

/-- The revisions advanced for some records stay bytes, and CLOCK's stays where its content does. -/
theorem revisionsStep_advance (which : List (Fin 26)) (s t : State) (h : 1 ∉ which ∨ revisionView s 2 = revisionView t 2) :
    revisionsStep t (advance which s t).rev := by
  refine ⟨fun i hi => ?_, ?_⟩
  · rw [advance, tget_foldl_tset]
    split_ifs
    · obtain e | ⟨-, e⟩ := revisionAfter_cases s t i
      · rw [e]; exact hi
      · rw [e]; omega
    · exact hi
  · rw [advance, tget_foldl_tset]
    split_ifs with hmem
    · obtain e | ⟨hne, -⟩ := revisionAfter_cases s t 1
      · exact e
      · exact absurd (h.resolve_left fun hn => hn hmem) hne
    · rfl

theorem moves_advance (which : List (Fin 26)) (s t : State) (h : 1 ∉ which ∨ revisionView s 2 = revisionView t 2) :
    Moves [] t (advance which s t) :=
  .of_move (.rev _ t (revisionsStep_advance which s t h))

theorem moves_ownerEvent (which : List (Fin 26)) {f : State → State} (hw : 1 ∉ which) (h : Moves as s (f s)) :
    Moves as s (ownerEvent which f s) :=
  h.step (moves_advance which s (f s) (.inl hw)) (List.nil_subset _)

theorem operate_eq (i : Fin 26) (f : State → State) (s : State) :
    operate i f s = { f s with
      rev := if revisionView s (i.1 + 1) = revisionView (f s) (i.1 + 1) then (f s).rev
        else tset (f s).rev i ((tget (f s).rev i + 1) % 256) } := by
  unfold operate
  dsimp only
  split_ifs <;> rfl

/-- An operation on a record other than CLOCK moves what its change moves, and the record's revision. -/
theorem moves_operate (i : Fin 26) {f : State → State} (hi : i ≠ 1) (h : Moves as s (f s)) : Moves as s (operate i f s) := by
  rw [operate_eq]
  refine h.step (.of_move (.rev _ _ ⟨fun j hj => ?_, ?_⟩)) (List.nil_subset _)
  · split_ifs
    · exact hj
    · rw [tget_tset]
      split_ifs
      · omega
      · exact hj
  · split_ifs
    · rfl
    · rw [tget_tset, if_neg hi]

/-! ### Modes -/

/-- A change of the mode marks the next scan where one is in progress, and hands it where none is; a mark stands (R186). -/
theorem setMode_marks (m : Mode) (s : State) : ∃ b, (s.mu.rescan = true → b = true)
    ∧ (setMode m s = { s with mc := { s.mc with mode := m }, mu := { s.mu with rescan := b } }
      ∨ setMode m s = hand .scanStart { s with mc := { s.mc with mode := m }, mu := { s.mu with rescan := b } }) := by
  unfold setMode
  dsimp only
  split
  · exact ⟨s.mu.rescan, id, raise_eq _ _⟩
  · exact ⟨true, fun _ => rfl, .inl rfl⟩

theorem moves_setMode_awake (h : s.mc.silence = 0) : Moves [] s (setMode .awake s) := by
  obtain ⟨b, hb, e | e⟩ := setMode_marks .awake s <;> rw [e]
  · exact .trans (.of_move (.awake s h)) (.of_move (.rescan b _ hb))
  · exact .trans (.trans (.of_move (.awake s h)) (.of_move (.rescan b _ hb))) (moves_hand _ _)

theorem moves_silence (s : State) : Moves [.mc] s { s with mc := { s.mc with silence := 0 } } :=
  .of_move (.mc _ s (by decide) rfl rfl (.inr (.inl rfl)) fun _ h => h)

theorem moves_enterAwake (s : State) : Moves [.mc] s (enterAwake s) :=
  moves_ownerEvent [0] (by decide) ((moves_silence s).step (moves_setMode_awake rfl))

theorem moves_wakeFromDoze (s : State) : Moves [.mc] s (wakeFromDoze s) := by
  unfold wakeFromDoze
  split
  · exact moves_enterAwake s
  · exact .of_move (.mc _ s (by decide) rfl rfl (.inl rfl) fun _ h => h)
  · exact .refl

/-! ### Chimes -/

theorem moves_withPn (f : PanelUnit → PanelUnit) (s : State) (hq : (f s.pn).queue = s.pn.queue)
    (hstand : (f s.pn).standby = s.pn.standby) : Moves [.pn] s (withPn f s) :=
  .of_move (.panel (f s.pn) s (by decide) (by rw [hq]; exact id) hstand)

theorem moves_startNext (s : State) : Moves [.pn] s (startNext s) := by
  obtain ⟨-, e⟩ | ⟨r, rest, -, -, e⟩ := startNext_cases (s := s) <;> rw [e] <;> exact moves_withPn _ s rfl rfl

theorem moves_afterInsertion (n : Nat) (s : State) : Moves [.pn] s (afterInsertion n s) := by
  unfold afterInsertion
  split
  · exact moves_startNext s
  · split_ifs
    · exact moves_withPn _ s rfl rfl
    · exact moves_startNext s
    · exact .refl

theorem moves_admitChime (p : Fin 10) (q : List ChimeRequest) (s : State) : Moves [.pn] s (admitChime p q s) :=
  (moves_withPn _ s rfl rfl).step (moves_afterInsertion _ _)

theorem moves_judgeChime (p : Fin 10) (s : State) : Moves [.pn] s (judgeChime p s).1 := by
  unfold judgeChime
  dsimp only
  split_ifs
  · exact .refl
  · exact .refl
  · exact .refl
  · exact moves_admitChime p _ s
  · exact .refl
  · exact moves_admitChime p _ s

theorem moves_chimeStatus (n : Nat) (s : State) : Moves [.pn] s (chimeStatus n s).1 := by
  unfold chimeStatus
  split_ifs
  · exact moves_judgeChime _ s
  · exact .refl

theorem moves_stopChimes (s : State) : Moves [.pn] s (stopChimes s) := moves_withPn _ s rfl rfl

theorem moves_nextBurst (p : Player) (s : State) : Moves [.pn] s (nextBurst p s) := by
  unfold nextBurst
  split_ifs
  · exact moves_withPn _ s rfl rfl
  · exact moves_startNext s

theorem moves_chimePhase (s : State) : Moves [.pn] s (chimePhase s) := by
  unfold chimePhase
  split
  · exact .refl
  · split_ifs
    · exact moves_startNext s
    · exact moves_nextBurst _ s
    · exact moves_withPn _ s rfl rfl
    · exact moves_nextBurst _ s

theorem moves_panelResting (b : Bool) (s : State) : Moves [.pn] s (panelResting b s) := by
  unfold panelResting
  dsimp only
  have hrest : Moves [.pn] s (withPn (fun u => { u with resting := b }) s) := moves_withPn _ s rfl rfl
  split_ifs
  · refine hrest.trans ?_
    generalize withPn (fun u => { u with resting := b }) s = t
    have hfilter : Moves [.pn] t (withPn (fun u => { u with chimes := u.chimes.filter fun q => decide (3 ≤ q.priority) }) t) :=
      moves_withPn _ t rfl rfl
    refine hfilter.trans ?_
    split
    · split_ifs
      · exact moves_startNext _
      · exact .refl
    · exact .refl
  · exact hrest

theorem moves_panelGrant (n : Nat) (s : State) : Moves [.pn] s (panelGrant n s) := by
  unfold panelGrant
  dsimp only
  split_ifs
  · exact .trans (moves_withPn _ s rfl rfl) (moves_stopChimes _)
  · exact moves_withPn _ s rfl rfl

end Sys2Proof.Machine
end

section
/-! PROOFS. The Fridge Controller's operations as runs of moves. -/

namespace Sys2Proof.Machine

-- One proof after another: started together they wait for one another, each on a thread of its own.
set_option Elab.async false

variable {s t u : State} {as : List Area}

/-! ### Entering a state of the fridge -/

/-- A sound fridge in this state commands no compressor and holds fewer than three stalls: it may enter any state. -/
def fridgeQuiet (f : FridgeUnit) : Prop := fridgeUnitSound f → f.drive = false ∧ f.stallLog.length < 3

theorem fridgeQuiet_of_state {f : FridgeUnit} (h1 : f.state ≠ .start) (h2 : f.state ≠ .run) (h3 : f.state ≠ .fallbackOn)
    (h4 : f.state ≠ .fault) : fridgeQuiet f := by
  rintro ⟨hdrive, -, hlog, -, -⟩
  refine ⟨?_, hlog h4⟩
  by_contra hd
  obtain h | h | h := hdrive (by simpa using hd)
  · exact h1 h
  · exact h2 h
  · exact h3 h

/-- What the FC does to itself as it commands the compressor off. -/
theorem commandOff_eq (s : State) : ∃ f, commandOff s = { s with fc := f } ∧ f.drive = false ∧ f.state = s.fc.state
    ∧ f.wanted = s.fc.wanted ∧ f.ventSpeed = s.fc.ventSpeed ∧ f.stallLog = s.fc.stallLog ∧ f.alerts = s.fc.alerts := by
  obtain ⟨-, e⟩ | ⟨-, e⟩ := commandOff_cases s <;> exact ⟨_, e, rfl, rfl, rfl, rfl, rfl, rfl⟩

theorem fridgeUnitSound_driveOff {f g : FridgeUnit} (hdrive : g.drive = false) (hstate : g.state = f.state)
    (hw : g.wanted = f.wanted) (hlog : g.stallLog = f.stallLog) (hal : g.alerts = f.alerts) :
    fridgeUnitSound f → fridgeUnitSound g := by
  rintro ⟨-, h2, h3, h4, h5⟩
  exact ⟨by simp [hdrive], by rw [hw, hstate]; exact h2, by rw [hstate, hlog]; exact h3, hlog ▸ h4, hal ▸ h5⟩

theorem moves_commandOff (s : State) : Moves [.fc] s (commandOff s) := by
  obtain ⟨f, e, hdrive, hstate, hw, hv, hlog, hal⟩ := commandOff_eq s
  rw [e]
  exact .of_move (.fridge f s (by decide) hstate hw hv (fridgeUnitSound_driveOff hdrive hstate hw hlog hal))

theorem commandOff_quiet (h : s.fc.state ≠ .fault) : fridgeQuiet (commandOff s).fc := by
  obtain ⟨f, e, hdrive, hstate, hw, hv, hlog, hal⟩ := commandOff_eq s
  rw [e]
  exact fun ⟨_, _, h3, _, _⟩ => ⟨hdrive, h3 (hstate ▸ h)⟩

theorem moves_withFc (f : FridgeUnit → FridgeUnit) (s : State) (hstate : (f s.fc).state = s.fc.state)
    (hw : (f s.fc).wanted = s.fc.wanted) (hv : (f s.fc).ventSpeed = s.fc.ventSpeed)
    (hs : fridgeUnitSound s.fc → fridgeUnitSound (f s.fc)) : Moves [.fc] s (withFc f s) :=
  .of_move (.fridge (f s.fc) s (by decide) hstate hw hv hs)

theorem moves_enterFridge (new : FridgeState) (upd : FridgeUnit → FridgeUnit) (s : State)
    (hv : (upd { s.fc with state := new, phase := none, wanted := none, effective := none }).ventSpeed = s.fc.ventSpeed)
    (hs : fridgeUnitSound s.fc →
      fridgeUnitSound (upd { s.fc with state := new, phase := none, wanted := none, effective := none })) :
    Moves [.fc, .asked] s (enterFridge new upd s) :=
  .of_move (.fridgeEnter _ s (by decide) (by decide) hv hs)

/-- A quiet fridge is sound in a state that needs no drive and no speed. -/
theorem fridgeUnitSound_of_quiet {f g : FridgeUnit} (hq : fridgeQuiet f) (hdrive : g.drive = f.drive)
    (hw : g.wanted = none) (h1 : g.state ≠ .start) (h2 : g.state ≠ .run) (hlog : g.stallLog = f.stallLog)
    (hal : g.alerts = f.alerts) (hf : fridgeUnitSound f) : fridgeUnitSound g := by
  obtain ⟨hd, hl⟩ := hq hf
  refine ⟨by simp [hdrive, hd], by simp [hw, h1, h2], fun _ => hlog ▸ hl, by rw [hlog]; omega, hal ▸ hf.2.2.2.2⟩

theorem moves_toStart (hq : fridgeQuiet s.fc) : Moves [.fc, .asked] s (toStart s) :=
  moves_enterFridge _ _ s rfl fun hf =>
    ⟨fun _ => .inl rfl, rfl, fun _ => (hq hf).2, hf.2.2.2.1, hf.2.2.2.2⟩

theorem moves_toIdle (hq : fridgeQuiet s.fc) : Moves [.fc, .asked] s (toIdle s) :=
  moves_enterFridge _ _ s rfl (fridgeUnitSound_of_quiet hq rfl rfl (by simp) (by simp) rfl rfl)

theorem moves_waitOffEnd (hq : fridgeQuiet s.fc) : Moves [.fc, .asked] s (waitOffEnd s) := by
  unfold waitOffEnd
  split_ifs
  · exact moves_toStart hq
  · exact moves_toIdle hq

theorem moves_toWaitOff (hq : fridgeQuiet s.fc) : Moves [.fc, .asked] s (toWaitOff s) := by
  unfold toWaitOff
  split_ifs
  · exact moves_waitOffEnd hq
  · exact moves_enterFridge _ _ s rfl (fridgeUnitSound_of_quiet hq rfl rfl (by simp) (by simp) rfl rfl)

theorem moves_toFallbackOn (drive : Bool) (hlog : fridgeUnitSound s.fc → s.fc.stallLog.length < 3) :
    Moves [.fc, .asked] s (toFallbackOn drive s) :=
  moves_enterFridge _ _ s rfl fun hf =>
    ⟨fun _ => .inr (.inr rfl), rfl, fun _ => hlog hf, hf.2.2.2.1, hf.2.2.2.2⟩

theorem moves_toFallbackOff (hq : fridgeQuiet s.fc) : Moves [.fc, .asked] s (toFallbackOff s) := by
  unfold toFallbackOff
  split_ifs
  · exact moves_toFallbackOn true fun hf => (hq hf).2
  · exact moves_enterFridge _ _ s rfl (fridgeUnitSound_of_quiet hq rfl rfl (by simp) (by simp) rfl rfl)

theorem moves_enterRun (w : Nat) (eff : Option Nat) (h : s.fc.state ≠ .fault) :
    Moves [.fc, .asked] s (enterFridge .run (fun f => { f with wanted := some w, effective := eff }) s) :=
  moves_enterFridge _ _ s rfl fun hf =>
    ⟨fun _ => .inr (.inl rfl), rfl, fun _ => hf.2.2.1 h, hf.2.2.2.1, hf.2.2.2.2⟩

/-- A stop on command: off, and then into a waiting state. -/
theorem moves_thermostatStop (h : s.fc.state ≠ .fault) : Moves [.fc, .asked] s (thermostatStop s) :=
  ((moves_commandOff s).mono).trans (moves_toWaitOff (commandOff_quiet h))

theorem moves_fallbackStop (h : s.fc.state ≠ .fault) : Moves [.fc, .asked] s (toFallbackOff (commandOff s)) :=
  ((moves_commandOff s).mono).trans (moves_toFallbackOff (commandOff_quiet h))

theorem moves_idleStop (h : s.fc.state ≠ .fault) : Moves [.fc, .asked] s (toIdle (commandOff s)) :=
  ((moves_commandOff s).mono).trans (moves_toIdle (commandOff_quiet h))

/-! ### Thermostat and reading -/

theorem moves_updateWanted (tf : Int) (h : s.fc.state = .start ∨ s.fc.state = .run) :
    Moves [.fc, .asked] s (updateWanted tf s) := by
  unfold updateWanted
  dsimp only
  split_ifs
  · exact .refl
  all_goals
    refine .of_move (.fridgeEnter _ s (by decide) (by decide) rfl fun ⟨h1, _, h3, h4, h5⟩ => ⟨h1, ?_, h3, h4, h5⟩)
    obtain e | e := h <;> simp [e]

theorem moves_satisfied (b : Bool) (s : State) : Moves [.fc] s (withFc (fun f => { f with satisfied := b }) s) :=
  moves_withFc _ s rfl rfl rfl fun h => h

theorem moves_thermostat (tf : Int) (s : State) : Moves [.fc, .asked] s (thermostat tf s) := by
  unfold thermostat
  dsimp only
  have hsat := (moves_satisfied (decide (tf ≤ usedLower s.fc.used)) s).mono (bs := [.fc, .asked])
  split
  case h_1 hst =>
    have hq : fridgeQuiet s.fc := fridgeQuiet_of_state (by simp [hst]) (by simp [hst]) (by simp [hst]) (by simp [hst])
    split_ifs
    · exact hsat.trans (moves_toStart hq)
    · exact hsat.trans (moves_toWaitOff hq)
    · exact hsat
  case h_2 hst => exact hsat
  case h_3 hst => exact hsat
  case h_4 hst =>
    split_ifs
    · exact hsat.trans (moves_idleStop (by rw [withFc]; simp [hst]))
    · exact hsat.trans (moves_updateWanted tf (.inl hst))
  case h_5 hst =>
    split_ifs
    · exact hsat.trans (moves_thermostatStop (by rw [withFc]; simp [hst]))
    · exact hsat.trans (moves_updateWanted tf (.inr hst))
  all_goals exact .refl

theorem moves_judgeTf (conv : Option Int) (s : State) : Moves [.fc, .asked] s (judgeTf conv s) := by
  cases conv
  · exact .refl
  · exact moves_thermostat _ s

theorem moves_fridgeNotice (e : FridgeEvent) (s : State) : Moves [] s (fridgeNotice e s) := moves_post _ _ _ _ s

theorem moves_tfLostState (s : State) : Moves [.fc, .asked] s (tfLostState s) := by
  unfold tfLostState
  split
  case h_1 hst => exact moves_toFallbackOff (fridgeQuiet_of_state (by simp [hst]) (by simp [hst]) (by simp [hst]) (by simp [hst]))
  case h_2 hst => exact moves_toFallbackOff (fridgeQuiet_of_state (by simp [hst]) (by simp [hst]) (by simp [hst]) (by simp [hst]))
  case h_3 hst => exact moves_toFallbackOn _ fun hf => hf.2.2.1 (by simp [hst])
  case h_4 hst => exact moves_toFallbackOn _ fun hf => hf.2.2.1 (by simp [hst])
  case h_5 => exact .refl

theorem moves_reading (r : TfReading) (s : State) : Moves [.fc] s (withFc (fun f => { f with reading := r }) s) :=
  moves_withFc _ s rfl rfl rfl fun h => h

theorem moves_tfLost (s : State) : Moves [.fc, .asked] s (tfLost s) := by
  have h : Moves [.fc, .asked] s (tfLostState (withFc (fun f => { f with reading := .lost }) s)) :=
    (moves_reading .lost s).mono.trans (moves_tfLostState _)
  unfold tfLost
  dsimp only
  split_ifs
  · exact h.step (moves_fridgeNotice _ _)
  · exact h

theorem moves_resumeRun (tf : Int) (h : s.fc.state ≠ .fault) : Moves [.fc, .asked] s (resumeRun tf s) := moves_enterRun _ _ h

theorem moves_tfRegainedState (conv : Option Int) (s : State) : Moves [.fc, .asked] s (tfRegainedState conv s) := by
  unfold tfRegainedState
  split
  case h_1 hst =>
    refine Moves.trans ?_ (moves_judgeTf conv _)
    split_ifs
    · exact moves_resumeRun _ (by simp [hst])
    · exact moves_idleStop (by simp [hst])
  case h_2 hst =>
    dsimp only
    refine Moves.trans ?_ (moves_toWaitOff ?_)
    · split
      · exact (moves_satisfied _ s).mono
      · exact .refl
    · refine fridgeQuiet_of_state ?_ ?_ ?_ ?_ <;> split <;> simp [withFc, hst]
  case h_3 => exact moves_judgeTf conv s
  case h_4 => exact .refl

theorem moves_tfRegained (conv : Option Int) (s : State) : Moves [.fc, .asked] s (tfRegained conv s) := by
  have h : Moves [.fc, .asked] s (tfRegainedState conv (withFc (fun f => { f with reading := .reading }) s)) :=
    (moves_reading .reading s).mono.trans (moves_tfRegainedState conv _)
  unfold tfRegained
  dsimp only
  split_ifs
  · exact h.step (moves_fridgeNotice _ _)
  · exact h

theorem moves_speedReturns (s : State) : Moves [.fc] s (speedReturns s) := by
  unfold speedReturns
  split_ifs
  · exact moves_withFc _ s rfl rfl rfl fun h => h
  · exact .refl

theorem moves_fridgeTf (b : Bool) (s : State) : Moves [.fc, .asked] s (fridgeTf b s) := by
  unfold fridgeTf
  extract_lets conv t
  have hused : Moves [.fc, .asked] s t := by
    unfold t
    split_ifs
    · exact (moves_withFc _ s rfl rfl rfl fun h => h).mono
    · exact .refl
  clear_value t
  refine hused.trans ?_
  split
  · exact moves_tfRegained conv t
  · exact moves_tfLost t
  · exact moves_tfLost t
  · extract_lets s1 s2
    have h1 : Moves [.fc, .asked] t s1 := (moves_reading _ t).mono
    have h2 : Moves [.fc, .asked] s1 s2 := by
      unfold s2
      split_ifs
      · exact (moves_speedReturns _).mono
      · exact .refl
    exact (h1.trans h2).trans (moves_judgeTf conv s2)

/-! ### Grants, stalls, faults -/

theorem moves_fridgeGrant (n : Nat) (s : State) : Moves [.fc, .asked] s (fridgeGrant n s) := by
  unfold fridgeGrant
  extract_lets t
  have h : Moves [.fc, .asked] s t := (moves_withFc (fun f => { f with grant := n }) s rfl rfl rfl fun h => h).mono
  refine h.trans ?_
  clear_value t
  split
  case h_1 hst =>
    split_ifs
    · exact moves_thermostatStop (by simp [hst])
    · exact .refl
  case h_2 hst =>
    split_ifs
    · exact moves_thermostatStop (by simp [hst])
    · exact .refl
    · exact (moves_withFc _ t rfl rfl rfl fun h => h).mono
  case h_3 hst =>
    split_ifs
    · exact moves_fallbackStop (by simp [hst])
    · exact .refl
  case h_4 => exact .refl

/-- A stall's own log entry and the state it leads to are one step: three entries stand only in FAULT. -/
theorem moves_stallEntry (new : FridgeState) (upd : FridgeUnit → FridgeUnit) (log : List Nat) (s : State)
    (hupd : ∀ f, (upd f).ventSpeed = f.ventSpeed ∧ (upd f).drive = f.drive ∧ (upd f).wanted = f.wanted ∧ (upd f).state = f.state
      ∧ (upd f).stallLog = f.stallLog ∧ (upd f).alerts = f.alerts)
    (h1 : new ≠ .start) (h2 : new ≠ .run) (hlog : fridgeUnitSound s.fc → (new ≠ .fault → log.length < 3) ∧ log.length ≤ 3) :
    Moves [.fc, .asked] s (enterFridge new upd (commandOff (withFc (fun f => { f with stallLog := log }) s))) := by
  obtain ⟨f, e, hdrive, hstate, hw, hv, hl, hal⟩ := commandOff_eq (withFc (fun f => { f with stallLog := log }) s)
  rw [e]
  obtain ⟨u1, u2, u3, u4, u5, u6⟩ := hupd { f with state := new, phase := none, wanted := none, effective := none }
  refine .of_move (.fridgeEnter (upd { f with state := new, phase := none, wanted := none, effective := none }) s (by decide)
    (by decide) (u1.trans hv) fun hf => ⟨fun hd => absurd ((u2.trans hdrive).symm.trans hd) (by decide), ?_, ?_, ?_, ?_⟩)
  · rw [u3, u4]; simp [h1, h2]
  · rw [u4, u5]; exact fun hne => hl ▸ (hlog hf).1 hne
  · rw [u5]; exact hl ▸ (hlog hf).2
  · rw [u6]; exact hal ▸ hf.2.2.2.2

theorem moves_fridgeStall (s : State) : Moves [.fc, .asked] s (fridgeStall s) := by
  unfold fridgeStall
  split
  · exact .refl
  · exact .refl
  · rename_i hst
    dsimp only
    have hlen : fridgeUnitSound s.fc → (s.fc.stallLog ++ [now s]).length ≤ 3 := fun hf => by
      have := hf.2.2.1 (by simpa using hst)
      simpa using this
    split_ifs with hfull
    · exact ((moves_stallEntry .fault id _ s (fun _ => ⟨rfl, rfl, rfl, rfl, rfl, rfl⟩) (by simp) (by simp)
        fun hf => ⟨fun h => absurd rfl h, hlen hf⟩).step (moves_fridgeNotice _ _)).step (moves_chime _ _)
    · exact (moves_stallEntry .stallWait (fun f => { f with phase := some (now s + 600) }) _ s
        (fun _ => ⟨rfl, rfl, rfl, rfl, rfl, rfl⟩) (by simp) (by simp)
        fun hf => ⟨fun _ => not_le.1 hfull, hlen hf⟩).step (moves_fridgeNotice _ _)

theorem moves_softStartEnd (h : s.fc.state = .start) : Moves [.fc, .asked] s (softStartEnd s) :=
  moves_enterRun _ _ (by simp [h])

theorem moves_stallWaitEnd (hq : fridgeQuiet s.fc) : Moves [.fc, .asked] s (stallWaitEnd s) := by
  unfold stallWaitEnd
  split_ifs
  · exact moves_toFallbackOff hq
  · exact moves_toWaitOff hq

theorem moves_fridgeClearFault (s : State) : Moves [.fc, .asked] s (fridgeClearFault s) := by
  have hclear : Moves [.fc, .asked] s (withFc (fun f => { f with stallLog := [] }) s) :=
    (moves_withFc _ s rfl rfl rfl fun ⟨h1, h2, _, _, h5⟩ => ⟨h1, h2, fun _ => by simp, by simp, h5⟩).mono
  unfold fridgeClearFault
  dsimp only
  split_ifs with hst
  all_goals try exact hclear
  all_goals
    have hq : fridgeQuiet (withFc (fun f => { f with stallLog := [] }) s).fc := by
      refine fun hf => ⟨?_, by simp [withFc]⟩
      by_contra hd
      have := hf.1 (by simpa using hd)
      simp [withFc, hst] at this
  · exact hclear.trans (moves_enterFridge _ _ _ rfl (fridgeUnitSound_of_quiet hq rfl rfl (by simp) (by simp) rfl rfl))
  · exact hclear.trans (moves_toFallbackOff hq)
  · exact hclear.trans (moves_toWaitOff hq)

/-! ### Boost and settings -/

theorem moves_boostStart (s : State) : Moves [.fc] s (boostStart s).1 := by
  unfold boostStart
  split_ifs
  · dsimp only
    exact moves_withFc _ s rfl rfl rfl fun h => h
  · exact .refl

theorem moves_boostStop (s : State) : Moves [.fc] s (boostStop s) := moves_withFc _ s rfl rfl rfl fun h => h

theorem moves_fridgeDisable (s : State) : Moves [.fc, .asked] s (fridgeDisable s) := by
  have hquiet : Moves [.fc] s (withFc (fun f => { f with boostEnd := none, doorTimer := none, alerts := 0 }) s) :=
    moves_withFc _ s rfl rfl rfl fun ⟨h1, h2, h3, h4, _⟩ => ⟨h1, h2, h3, h4, Nat.zero_le _⟩
  unfold fridgeDisable
  dsimp only
  split
  · exact hquiet.mono
  · exact hquiet.mono
  · rename_i hst
    refine (moves_commandOff s).mono.trans (moves_enterFridge _ _ _ rfl fun hf => ?_)
    obtain ⟨hd, hl⟩ := commandOff_quiet (by simpa using hst) hf
    exact ⟨by simp [hd], rfl, fun _ => hl, hf.2.2.2.1, Nat.zero_le _⟩

theorem moves_fridgeEnable (s : State) : Moves [.fc, .asked] s (fridgeEnable s) := by
  unfold fridgeEnable
  extract_lets t
  have ht : Moves [.fc, .asked] s t ∧ t.fc.state = s.fc.state := by
    unfold t
    split_ifs
    · exact ⟨(moves_withFc _ s rfl rfl rfl fun h => h).mono, rfl⟩
    · exact ⟨.refl, rfl⟩
  clear_value t
  refine ht.1.trans ?_
  split
  · rename_i hst
    have hq : fridgeQuiet t.fc := fridgeQuiet_of_state (by simp [ht.2, hst]) (by simp [ht.2, hst]) (by simp [ht.2, hst])
      (by simp [ht.2, hst])
    split_ifs
    · exact moves_toFallbackOff hq
    · exact moves_toIdle hq
  · exact .refl

theorem moves_fridgeSetEffect (old new : FridgeSet) (s : State) : Moves [.fc, .asked] s (fridgeSetEffect old new s) := by
  unfold fridgeSetEffect
  by_cases hoff : (old.enable && !new.enable) = true
  · rw [if_pos hoff]
    exact moves_fridgeDisable s
  rw [if_neg hoff]
  extract_lets t
  have ht : Moves [.fc, .asked] s t := by
    unfold t
    split_ifs
    · exact moves_fridgeEnable s
    · exact .refl
  clear_value t
  refine ht.trans ?_
  split_ifs with hmin
  · exact moves_waitOffEnd (fridgeQuiet_of_state (by simp [hmin.2]) (by simp [hmin.2]) (by simp [hmin.2]) (by simp [hmin.2]))
  · exact (moves_withFc _ t rfl rfl rfl fun h => h).mono
  · exact .refl

/-! ### Door and vent -/

theorem moves_fridgeDoor (st : ContactState) (s : State) : Moves [.fc] s (fridgeDoor st s) := by
  unfold fridgeDoor
  split
  · exact moves_withFc _ s rfl rfl rfl fun ⟨h1, h2, h3, h4, _⟩ => ⟨h1, h2, h3, h4, Nat.zero_le _⟩
  · dsimp only
    have h : Moves [.fc] s (withFc (fun f => { f with doorOpen := false, doorTimer := none, alerts := 0, openSince := none }) s) :=
      moves_withFc _ s rfl rfl rfl fun ⟨h1, h2, h3, h4, _⟩ => ⟨h1, h2, h3, h4, Nat.zero_le _⟩
    split
    · split_ifs
      · exact h.step (moves_post _ _ _ _ _)
      · exact h
    · exact h
  · exact .refl

theorem moves_doorAlert (s : State) : Moves [.fc] s (doorAlert s) := by
  unfold doorAlert
  split
  · dsimp only
    have h : Moves [.fc] s (withFc (fun f => { f with
        alerts := min 5 (s.fc.alerts + 1)
        doorTimer := if min 5 (s.fc.alerts + 1) < 5 then some (now s + 600) else none }) s) :=
      moves_withFc _ s rfl rfl rfl fun ⟨h1, h2, h3, h4, _⟩ => ⟨h1, h2, h3, h4, Nat.min_le_left _ _⟩
    exact (h.step (moves_post _ _ _ _ _)).step (moves_chime _ _)
  · exact .refl

/-- The speed written and its consequences taken are one change of the vent. -/
theorem moves_setVentSpeed (v : Nat) (s : State) : Moves [.fc, .asked] s (setVentSpeed v s) := by
  unfold setVentSpeed ventEffect
  split
  · rename_i h
    have e : withFc (fun f => { f with ventSpeed := v }) s = s := by
      have hv : v = s.fc.ventSpeed := h.symm
      rw [withFc, hv]
    rw [e]
    exact .refl
  · exact .of_move (.vent _ s (by decide) (by decide) rfl rfl fun hf => hf)

theorem ask_rev_comm (c : Consumer) (r : Option Request) (s : State) (v : Vector Nat 26) :
    ask c r { s with rev := v } = { ask c r s with rev := v } := by
  unfold ask
  dsimp only
  split
  · rfl
  · rfl
  · rfl
  · split_ifs <;> rfl

/-- The FC once a change of the vent speed from `old` is taken (R104). -/
def ventTaken (old : Nat) (s : State) : FridgeUnit :=
  { s.fc with
    ventRunEnd := if s.fc.ventSpeed = 0 then none else if old = 0 then ventRunFrom s else s.fc.ventRunEnd
    ventEff := ventEffective s }

theorem ventEffect_eq (old : Nat) (s : State) : ventEffect old s =
    if old = s.fc.ventSpeed then s
    else ask .vent (ventRequest s.cfg.demands s.fc.ventSpeed) { s with fc := ventTaken old s } := rfl

theorem ventEffect_rev_comm (old : Nat) (s : State) (v : Vector Nat 26) :
    ventEffect old { s with rev := v } = { ventEffect old s with rev := v } := by
  rw [ventEffect_eq, ventEffect_eq]
  dsimp only
  split_ifs
  · rfl
  · exact ask_rev_comm .vent _ { s with fc := ventTaken old s } v

/-- A change of a record and its owner's taking of it, each its own update of the record, move what the two move together,
where the taking reads no revision. -/
theorem moves_operate_operate (i : Fin 26) {f g : State → State} (hi : i ≠ 1)
    (hcomm : ∀ (t : State) (v : Vector Nat 26), f { t with rev := v } = { f t with rev := v }) (h : Moves as s (f (g s))) :
    Moves as s (operate i f (operate i g s)) := by
  have hrev : (f (g s)).rev = (g s).rev := by rw [hcomm (g s) (g s).rev]
  rw [operate_eq i g s]
  generalize hv : (if revisionView s (i.1 + 1) = revisionView (g s) (i.1 + 1) then (g s).rev
    else tset (g s).rev i ((tget (g s).rev i + 1) % 256)) = v
  have hbyte : ∀ j, tget (g s).rev j < 256 → tget v j < 256 := fun j hj => by
    rw [← hv]
    split_ifs
    · exact hj
    · rw [tget_tset]
      split_ifs
      · omega
      · exact hj
  have hclock : tget v 1 = tget (g s).rev 1 := by
    rw [← hv]
    split_ifs
    · rfl
    · rw [tget_tset, if_neg hi]
  have hmove : Moves as s (f { g s with rev := v }) := by
    rw [hcomm]
    exact h.step (.of_move (.rev v _ ⟨fun j hj => hbyte j (hrev ▸ hj), by rw [hrev]; exact hclock⟩)) (List.nil_subset _)
  generalize { g s with rev := v } = x at *
  rw [operate_eq]
  refine hmove.step (.of_move (.rev _ _ ⟨fun j hj => ?_, ?_⟩)) (List.nil_subset _)
  · split_ifs
    · exact hj
    · rw [tget_tset]
      split_ifs
      · omega
      · exact hj
  · split_ifs
    · rfl
    · rw [tget_tset, if_neg hi]

theorem moves_writeVentSpeed (v : Nat) (s : State) : Moves [.fc, .asked] s (writeVentSpeed v s) :=
  moves_operate_operate 15 (by decide) (ventEffect_rev_comm _) (moves_setVentSpeed v s)

theorem moves_ventLimitEffect (s : State) : Moves [.fc] s (ventLimitEffect s) := by
  unfold ventLimitEffect
  split_ifs
  · exact .refl
  · exact moves_withFc _ s rfl rfl rfl fun h => h

theorem moves_ventRunOut (s : State) : Moves [.fc, .asked] s (ventRunOut s) :=
  (moves_setVentSpeed 0 s).step (moves_post _ _ _ _ _)

theorem moves_ventGrantIn (n : Nat) (s : State) : Moves [.fc] s (ventGrantIn n s) := by
  unfold ventGrantIn
  exact .trans (moves_withFc (fun f => { f with ventGrant := n }) s rfl rfl rfl fun h => h)
    (moves_withFc _ _ rfl rfl rfl fun h => h)

end Sys2Proof.Machine
end

section
/-! PROOFS. The Heater Controller's operations as runs of moves. -/

namespace Sys2Proof.Machine

-- One proof after another: started together they wait for one another, each on a thread of its own.
set_option Elab.async false

variable {s t u : State} {as : List Area}

/-! ### The states a heater may enter -/

theorem mayEnter_of_cool {new : HeaterState} (hs : ¬hot s.hc.state) (hn : ¬flaming new) : heaterMayEnter as s new :=
  ⟨fun h => absurd h hn, fun h => absurd h hs⟩

theorem mayEnter_hot {new : HeaterState} (hh : hot new) (hn : ¬flaming new) : heaterMayEnter as s new :=
  ⟨fun h => absurd h hn, fun _ => .inl hh⟩

theorem mayEnter_of_purged {new : HeaterState} (hs : s.hc.state = .purge ∨ s.hc.state = .dryCool) (hn : ¬flaming new)
    (hl : .leave ∈ as) : heaterMayEnter as s new :=
  ⟨fun h => absurd h hn, fun _ => .inr ⟨hs, hl⟩⟩

theorem mayEnter_of_flaming {new : HeaterState} (hs : flaming s.hc.state) (hn : hot s.hc.state → hot new) :
    heaterMayEnter as s new :=
  ⟨fun _ => .inl hs, fun h => .inl (hn h)⟩

theorem mayEnter_congr {new : HeaterState} (hstate : t.hc.state = s.hc.state) (hmu : t.mu.chan = s.mu.chan)
    (h : heaterMayEnter as s new) : heaterMayEnter as t new := by
  unfold heaterMayEnter at *
  rw [hstate, statusOf_congr hmu, statusOf_congr hmu]
  exact h

/-- The lockout flag is clear outside DRY_COOL and LOCKOUT. -/
abbrev unlocked (st : HeaterState) : Prop := st ≠ .dryCool ∧ st ≠ .lockout

theorem lockout_of_unlocked {h : HeaterUnit} (hu : unlocked h.state) (hs : heaterUnitSound h) : h.lockout = false := by
  obtain ⟨-, -, -, -, -, hl, -⟩ := hs
  simp [hl, hu.1, hu.2]

/-! ### The heater's own fields -/

theorem moves_withHc (f : HeaterUnit → HeaterUnit) (s : State) (hstate : (f s.hc).state = s.hc.state)
    (hd : (f s.hc).desired = s.hc.desired) (hs : heaterUnitSound s.hc → heaterUnitSound (f s.hc)) :
    Moves [.hc] s (withHc f s) :=
  .of_move (.heater (f s.hc) s (by decide) hstate hd hs)

theorem moves_writeHeater (s : State) : Moves [.mc] s (writeHeater s) := by
  unfold writeHeater
  split
  · refine .of_move (.mc _ s (by decide) rfl rfl (.inl rfl) fun hs ⟨h1, h2⟩ => ⟨h1, fun p hp => ?_⟩)
    obtain rfl := Option.some.inj hp
    exact hs.2.2.2.2.2.2.2
  · exact .of_move (.mc _ s (by decide) rfl rfl (.inl rfl) fun _ h => h)

theorem moves_keepHeater (s t : State) : Moves [.mc] t (keepHeater s t) := by
  unfold keepHeater
  split_ifs
  · exact .refl
  · exact moves_writeHeater t

theorem moves_endFrost (s : State) : Moves [.hc] s (endFrost s) := by
  unfold endFrost
  split_ifs
  · exact Moves.step (moves_withHc (fun h => { h with frostRun := false }) s rfl rfl fun h => h) (moves_hand _ _)
  · exact .refl

theorem moves_frostAtEntry (s : State) : Moves [.hc] s (frostAtEntry s) := by
  unfold frostAtEntry
  dsimp only
  split_ifs
  · exact (moves_endFrost s).trans (moves_withHc _ _ rfl rfl fun h => h)
  · exact moves_endFrost s
  · exact .refl

theorem moves_entrySigns (h : .mc ∈ as ∨ s.hc.state ≠ .waitPower) : Moves as s (entrySigns s) := by
  unfold entrySigns
  split
  · exact (moves_chime _ s).mono (List.nil_subset _)
  · exact (moves_chime _ s).mono (List.nil_subset _)
  · rename_i hst
    exact (moves_wakeFromDoze s).mono (by simpa using h.resolve_right fun hn => hn hst)
  · exact .refl

theorem moves_recordFault (f : HeaterFault) (arose : HeaterState) (leads : Bool) (s : State) :
    Moves [.hc] s (recordFault f arose leads s) :=
  Moves.step (moves_withHc (fun h => { h with lastFault := some f }) s rfl rfl fun h => h) (moves_post _ _ _ _ _)

theorem recordFault_hc (f : HeaterFault) (arose : HeaterState) (leads : Bool) (s : State) :
    (recordFault f arose leads s).hc = { s.hc with lastFault := some f } := rfl

theorem addFailed_sound {h : HeaterUnit} : heaterUnitSound h → heaterUnitSound (addFailed h) :=
  fun ⟨h1, h2, h3, h4, h5, h6, h7, _, h9⟩ => ⟨h1, h2, h3, h4, h5, h6, h7, Nat.min_le_left _ _, h9⟩

theorem moves_countPurge (s : State) : Moves [.hc] s (countPurge s) := by
  unfold countPurge
  split_ifs
  · exact moves_withHc _ s rfl rfl addFailed_sound
  · exact .refl

theorem countPurge_state (s : State) : (countPurge s).hc.state = s.hc.state := by
  unfold countPurge
  split_ifs <;> rfl

theorem countPurge_chan (s : State) : (countPurge s).mu.chan = s.mu.chan := by
  unfold countPurge
  split_ifs <;> rfl

/-! ### The entry of a state -/

/-- What an entry's own rule may set besides the items that `heaterIn` brings to the state (R62, R63): the purge record, the
desired stage and the lockout flag as the state has them, and the counters within their range. -/
structure EntrySound (new : HeaterState) (h g : HeaterUnit) : Prop where
  state : g.state = new
  glow : g.glow = (heaterIn new h).glow
  stroke : g.stroke = (heaterIn new h).stroke
  pulse : g.pulse = (heaterIn new h).pulse
  restart : g.restartPending = (heaterIn new h).restartPending
  purge : g.purge.isSome = (new == .purge)
  desired : g.desired.isSome = (new == .run)
  lockout : g.lockout = (new == .dryCool || new == .lockout)
  failed : g.failed ≤ 3
  overheats : g.overheats ≤ 3

/-- A unit so entered is sound, once the generator runs where the state is a burning one. -/
theorem EntrySound.sound {new : HeaterState} {h g : HeaterUnit} (e : EntrySound new h g) {stroke : Option Nat} {pulse : Bool}
    {n m : Nat} (hstroke : stroke.isSome = burning new) (hpulse : pulse = true → burning new = true) :
    heaterUnitSound { g with stroke := stroke, pulse := pulse, strokesRun := n, strokesTotal := m } := by
  refine ⟨fun hg => ?_, by rw [e.state]; exact hstroke, fun hp => by rw [e.state]; exact hpulse hp, by rw [e.state]; exact e.purge,
    by rw [e.state]; exact e.desired, by rw [e.state]; exact e.lockout, fun hr => ?_, e.failed, e.overheats⟩
  · have hglow : g.glow = true := hg
    rw [e.glow] at hglow
    rw [e.state]
    simpa [heaterIn, or_assoc] using hglow
  · have hrestart : g.restartPending = true := hr
    rw [e.restart] at hrestart
    rw [e.state]
    simp only [heaterIn] at hrestart
    split_ifs at hrestart with hp
    exact hp

/-- The HC once it has entered a state, with the generator's first stroke where the burning states are entered, is sound. -/
theorem enterHeater_unit (new : HeaterState) (upd : HeaterUnit → HeaterUnit) (s : State)
    (he : heaterUnitSound s.hc → EntrySound new s.hc (upd (heaterIn new s.hc))) :
    ∃ h, (if burning new && !(burning s.hc.state) then strokeAt (withHc (fun h => upd (heaterIn new h)) s)
        else withHc (fun h => upd (heaterIn new h)) s) = { s with hc := h }
      ∧ h.state = (upd (heaterIn new s.hc)).state ∧ (heaterUnitSound s.hc → heaterUnitSound h) := by
  split_ifs with hb
  · have hburn : burning new = true := by simp at hb; exact hb.1
    unfold strokeAt
    dsimp only
    split_ifs
    · exact ⟨_, rfl, rfl, fun hs => (he hs).sound (by simp [hburn]) fun _ => hburn⟩
    · refine ⟨_, rfl, rfl, fun hs => (he hs).sound (by simp [hburn]) fun hp => hburn⟩
  · refine ⟨_, rfl, rfl, fun hs => ?_⟩
    have e := he hs
    obtain ⟨-, hstroke, hpulse, -⟩ := hs
    refine e.sound ?_ ?_
    · rw [e.stroke]
      by_cases hn : burning new = true
      · have ho : burning s.hc.state = true := by simpa [hn] using hb
        simp [heaterIn, hn, hstroke, ho]
      · simp [heaterIn, hn]
    · rw [e.pulse]
      by_cases hn : burning new = true
      · exact fun _ => hn
      · simp [heaterIn, hn]

theorem moves_enterHeater {new : HeaterState} {upd : HeaterUnit → HeaterUnit} (ha : .hc ∈ as) (hb : .asked ∈ as)
    (hw : .mc ∈ as ∨ new ≠ .waitPower) (hstate : (upd (heaterIn new s.hc)).state = new)
    (he : heaterUnitSound s.hc → EntrySound new s.hc (upd (heaterIn new s.hc))) (hm : heaterMayEnter as s new) :
    Moves as s (enterHeater new upd s) := by
  obtain ⟨h, e, hst, hs⟩ := enterHeater_unit new upd s he
  unfold enterHeater
  dsimp only
  rw [e]
  have hstate' : h.state = new := hst.trans hstate
  have hask : Moves as s (ask .heat (heaterRequest s.cfg.demands h) { s with hc := h }) :=
    .of_move (.heaterEnter h s ha hb hs (hstate'.symm ▸ hm))
  have hcool : [Area.hc] ⊆ as := by simpa using ha
  refine ((hask.step (moves_frostAtEntry _) hcool).step (moves_post _ _ _ _ _) (List.nil_subset _)).trans
    (moves_entrySigns (hw.imp_right fun hne => ?_))
  obtain ⟨b, o, ef⟩ := frostAtEntry_hc (ask .heat (heaterRequest s.cfg.demands h) { s with hc := h })
  change (frostAtEntry _).hc.state ≠ _
  rw [ef]
  simpa [hstate'] using hne

/-! ### Leaving for OFF, LOCKOUT, PURGE and DRY_COOL -/

/-- A state that needs no purge record, stage or lockout flag is entered soundly with its items as `heaterIn` leaves them. -/
theorem entrySound_id {new : HeaterState} {h : HeaterUnit} (hu : unlocked h.state) (hp : new ≠ .purge) (hr : new ≠ .run)
    (hn : unlocked new) (hs : heaterUnitSound h) : EntrySound new h (heaterIn new h) where
  state := rfl
  glow := rfl
  stroke := rfl
  pulse := rfl
  restart := rfl
  purge := by simp [heaterIn, hp]
  desired := by simp [heaterIn, hr]
  lockout := by simp [heaterIn, lockout_of_unlocked hu hs, hn.1, hn.2]
  failed := hs.2.2.2.2.2.2.2.1
  overheats := hs.2.2.2.2.2.2.2.2

/-- Fields that an entry's rule sets besides those that `EntrySound` speaks of. -/
theorem EntrySound.of_same {new : HeaterState} {h g g' : HeaterUnit} (e : EntrySound new h g) (h1 : g'.state = g.state)
    (h2 : g'.glow = g.glow) (h3 : g'.stroke = g.stroke) (h4 : g'.pulse = g.pulse) (h5 : g'.restartPending = g.restartPending)
    (h6 : g'.purge = g.purge) (h7 : g'.desired = g.desired) (h8 : g'.lockout = g.lockout) (h9 : g'.failed = g.failed)
    (h10 : g'.overheats = g.overheats) : EntrySound new h g' := by
  obtain ⟨e1, e2, e3, e4, e5, e6, e7, e8, e9, e10⟩ := e
  exact ⟨h1 ▸ e1, h2 ▸ e2, h3 ▸ e3, h4 ▸ e4, h5 ▸ e5, h6 ▸ e6, h7 ▸ e7, h8 ▸ e8, h9 ▸ e9, h10 ▸ e10⟩

theorem moves_heaterOff (ha : .hc ∈ as) (hb : .asked ∈ as) (hu : unlocked s.hc.state) (hm : heaterMayEnter as s .off) :
    Moves as s (heaterOff s) :=
  moves_enterHeater ha hb (.inr (by decide)) rfl (entrySound_id hu (by decide) (by decide) (by decide)) hm

theorem moves_enterOffWith (f : HeaterFault) (arose : HeaterState) (ha : .hc ∈ as) (hb : .asked ∈ as) (hu : unlocked s.hc.state)
    (hm : heaterMayEnter as s .off) : Moves as s (enterHeater .off id (recordFault f arose false s)) :=
  ((moves_recordFault f arose false s).mono (by simpa using ha)).trans (moves_heaterOff ha hb hu (mayEnter_congr rfl rfl hm))

theorem moves_offWith (f : HeaterFault) (ha : .hc ∈ as) (hb : .asked ∈ as) (hu : unlocked s.hc.state)
    (hm : heaterMayEnter as s .off) : Moves as s (offWith f s) := moves_enterOffWith f s.hc.state ha hb hu hm

theorem moves_toLockout (ha : .hc ∈ as) (hb : .asked ∈ as) (hm : heaterMayEnter as s .lockout) : Moves as s (toLockout s) :=
  moves_enterHeater ha hb (.inr (by decide)) rfl
    (fun hs => ⟨rfl, rfl, rfl, rfl, rfl, rfl, rfl, rfl, hs.2.2.2.2.2.2.2.1, hs.2.2.2.2.2.2.2.2⟩) hm

theorem moves_toPurge (exit : PurgeExit) (fault : Option HeaterFault) (hu : unlocked s.hc.state) :
    Moves [.hc, .asked] s (toPurge exit fault s) := by
  have henter : ∀ t : State, t.hc.state = s.hc.state → ∀ p : PurgeRecord,
      Moves [.hc, .asked] t (enterHeater .purge (fun h => { h with purge := some p, flameRestart := false }) t) :=
    fun t ht p => moves_enterHeater (by decide) (by decide) (.inr (by decide)) rfl
      (fun hs => ⟨rfl, rfl, rfl, rfl, rfl, rfl, rfl, (lockout_of_unlocked (by rw [ht]; exact hu) hs :), hs.2.2.2.2.2.2.2.1, hs.2.2.2.2.2.2.2.2⟩)
      (mayEnter_hot (.inr (.inl rfl)) (by decide))
  unfold toPurge
  cases fault
  case none =>
    dsimp only
    exact henter s rfl ⟨exit, none, now s⟩
  case some f =>
    dsimp only
    exact (moves_recordFault f s.hc.state (leadsToLockout f s.hc) s).mono.trans (henter _ (by rfl) ⟨exit, some f, now s⟩)

theorem moves_toOverheat (hu : unlocked s.hc.state) : Moves [.hc, .asked, .mc] s (toOverheat s) := by
  unfold toOverheat
  have h : Moves [.hc, .asked, .mc] s (withHc (fun h => { h with overheats := min 3 (h.overheats + 1) }) s) :=
    (moves_withHc _ s rfl rfl fun ⟨h1, h2, h3, h4, h5, h6, h7, h8, _⟩ =>
      ⟨h1, h2, h3, h4, h5, h6, h7, h8, Nat.min_le_left _ _⟩).mono
  exact (h.step (moves_toPurge .off _ hu)).step (moves_keepHeater s _)

theorem moves_toDryCool (s : State) : Moves [.hc, .asked, .mc] s (toDryCool s) := by
  unfold toDryCool
  have h : Moves [.hc, .asked, .mc] s (recordFault .blower s.hc.state true (countPurge s)) :=
    (moves_countPurge s).mono.step (moves_recordFault _ _ _ _)
  refine (h.trans ?_).step (moves_keepHeater s _)
  exact moves_enterHeater (by decide) (by decide) (.inr (by decide)) rfl
    (fun hs => ⟨rfl, rfl, rfl, rfl, rfl, rfl, rfl, rfl, hs.2.2.2.2.2.2.2.1, hs.2.2.2.2.2.2.2.2⟩)
    (mayEnter_hot (.inr (.inr rfl)) (by decide))

theorem moves_blowerFault (s : State) : Moves [.hc, .asked, .mc] s (blowerFault s) := by
  unfold blowerFault
  split
  case h_6 hst => exact moves_offWith _ (by decide) (by decide) (by rw [hst]; decide) (mayEnter_of_cool (by rw [hst]; decide) (by decide))
  case h_7 hst => exact moves_offWith _ (by decide) (by decide) (by rw [hst]; decide) (mayEnter_of_cool (by rw [hst]; decide) (by decide))
  case h_8 => exact .refl
  all_goals exact moves_toDryCool s

end Sys2Proof.Machine
end

section
/-! PROOFS. Starts, stops, phases, regulation and the sensors of the Heater Controller as runs of moves. -/

namespace Sys2Proof.Machine

-- One proof after another: started together they wait for one another, each on a thread of its own.
set_option Elab.async false

variable {s t u : State} {as : List Area}

/-! ### Start and stop -/

theorem moves_toWaitPower {upd : HeaterUnit → HeaterUnit} (ha : .hc ∈ as) (hb : .asked ∈ as) (hc : .mc ∈ as)
    (hstate : ∀ h, (upd h).state = h.state) (hupd : ∀ h g, EntrySound .waitPower h g → EntrySound .waitPower h (upd g))
    (hu : unlocked s.hc.state) (hm : heaterMayEnter as s .waitPower) : Moves as s (toWaitPower upd s) :=
  moves_enterHeater ha hb (.inl hc) (hstate _)
    (fun hs => hupd _ _
      ((entrySound_id hu (by decide) (by decide) (by decide) hs).of_same rfl rfl rfl rfl rfl rfl rfl rfl rfl rfl)) hm

theorem moves_newRun (ha : .hc ∈ as) (hb : .asked ∈ as) (hc : .mc ∈ as) (hu : unlocked s.hc.state)
    (hm : heaterMayEnter as s .waitPower) : Moves as s (newRun s) :=
  moves_toWaitPower ha hb hc (fun _ => rfl) (fun _ _ e => e.of_same rfl rfl rfl rfl rfl rfl rfl rfl rfl rfl) hu hm

/-- A new run from a state that is neither hot nor locked. -/
theorem moves_newRun_cool (hs : ¬hot s.hc.state) (hu : unlocked s.hc.state) : Moves [.hc, .asked, .mc] s (newRun s) :=
  moves_newRun (by decide) (by decide) (by decide) hu (mayEnter_of_cool hs (by decide))

theorem moves_heaterOff_cool (hs : ¬hot s.hc.state) (hu : unlocked s.hc.state) : Moves [.hc, .asked] s (heaterOff s) :=
  moves_heaterOff (by decide) (by decide) hu (mayEnter_of_cool hs (by decide))

theorem moves_offWith_cool (f : HeaterFault) (hs : ¬hot s.hc.state) (hu : unlocked s.hc.state) :
    Moves [.hc, .asked] s (offWith f s) :=
  moves_offWith f (by decide) (by decide) hu (mayEnter_of_cool hs (by decide))

theorem moves_startEffect (s : State) : Moves [.hc, .asked, .mc] s (startEffect s) := by
  unfold startEffect
  split
  case h_1 hst => exact moves_newRun_cool (by rw [hst]; decide) (by rw [hst]; decide)
  case h_2 hst => exact moves_newRun_cool (by rw [hst]; decide) (by rw [hst]; decide)
  case h_3 hst => exact moves_newRun_cool (by rw [hst]; decide) (by rw [hst]; decide)
  case h_4 hst =>
    split
    · split_ifs
      · exact (moves_withHc _ s rfl rfl fun ⟨h1, h2, h3, h4, h5, h6, _, h8⟩ => ⟨h1, h2, h3, h4, h5, h6, fun _ => hst, h8⟩).mono
      · exact .refl
    · exact .refl
  case h_5 => exact .refl

theorem moves_heaterStart (sp du : Option Nat) (s : State) : Moves [.setpoint, .hc, .asked, .mc] s (heaterStart sp du s).1 := by
  unfold heaterStart
  split
  · exact .refl
  · dsimp only
    refine Moves.step (Moves.step ?_ (moves_endFrost _)) (moves_startEffect _)
    exact .trans (.of_move (.setpoint _ s (by decide))) (.of_move (.heater _ _ (by decide) rfl rfl fun h => h))

theorem moves_heaterStop (s : State) : Moves [.hc, .asked] s (heaterStop s) := by
  unfold heaterStop
  split
  case h_1 | h_2 | h_3 => exact .refl
  case h_4 hst => exact moves_heaterOff_cool (by rw [hst]; decide) (by rw [hst]; decide)
  case h_5 hst => exact moves_heaterOff_cool (by rw [hst]; decide) (by rw [hst]; decide)
  case h_6 hst => exact moves_heaterOff_cool (by rw [hst]; decide) (by rw [hst]; decide)
  case h_7 hst => exact moves_heaterOff_cool (by rw [hst]; decide) (by rw [hst]; decide)
  case h_8 hst => exact moves_heaterOff_cool (by rw [hst]; decide) (by rw [hst]; decide)
  case h_9 hst => exact moves_toPurge _ _ (by rw [hst]; decide)
  case h_10 hst => exact moves_toPurge _ _ (by rw [hst]; decide)
  case h_11 hst => exact moves_toPurge _ _ (by rw [hst]; decide)
  case h_12 hst => exact moves_toPurge _ _ (by rw [hst]; decide)
  case h_13 hst =>
    split
    · split_ifs
      · exact .refl
      · exact (moves_withHc _ s rfl rfl fun ⟨h1, h2, h3, h4, h5, h6, _, h8⟩ =>
          ⟨h1, h2, h3, by simp [hst], h5, h6, fun h => absurd h (by simp), h8⟩).mono
    · exact .refl

theorem moves_heaterToggle (s : State) : Moves [.setpoint, .hc, .asked, .mc] s (heaterToggle s).1 := by
  unfold heaterToggle
  split_ifs
  · exact (moves_heaterStop s).mono
  · exact moves_heaterStart none none s

theorem moves_durationStop (s : State) : Moves [.hc, .asked] s (durationStop s) := by
  unfold durationStop
  split
  · exact .refl
  · split_ifs
    · exact .refl
    · split
      case h_5 => exact Moves.step (moves_withHc _ s rfl rfl fun h => h).mono (moves_heaterStop _)
      all_goals exact .refl

/-! ### The start sequence -/

theorem moves_toCheck (hs : ¬hot s.hc.state) (hu : unlocked s.hc.state) : Moves [.hc, .asked] s (toCheck s) := by
  unfold toCheck
  split_ifs with hv
  · exact moves_enterOffWith _ _ (by decide) (by decide) hu (mayEnter_of_cool hs (by decide))
  · exact moves_toPurge _ _ hu
  · refine moves_enterHeater (by decide) (by decide) (.inr (by decide)) rfl
      (fun h => (entrySound_id hu (by decide) (by decide) (by decide) h).of_same rfl rfl rfl rfl rfl rfl rfl rfl rfl rfl)
      ⟨fun _ => .inr ?_, fun h => absurd h hs⟩
    simpa [isValid] using hv

theorem moves_glowTest (s : State) : Moves [.hc, .asked, .mc] s (glowTest s) := by
  unfold glowTest
  by_cases hc : s.hc.state = .check ∧ s.hc.glow
  · have hst := hc.1
    rw [if_pos hc]
    by_cases hr : 10 < (tget s.mu.comp 0).reading
    · rw [if_pos hr]
      exact (moves_withHc _ s rfl rfl fun ⟨_, h⟩ => ⟨fun h => absurd h (by simp), h⟩).mono
    · rw [if_neg hr]
      dsimp only
      refine Moves.step ?_ (moves_keepHeater s _)
      have hfail : Moves [.hc, .asked, .mc] s (withHc addFailed s) := (moves_withHc _ s rfl rfl addFailed_sound).mono
      have hcool : ¬hot s.hc.state := by rw [hst]; decide
      have hunlocked : unlocked s.hc.state := by rw [hst]; decide
      refine (hfail.step (moves_recordFault .glowOpen .check (decide (3 ≤ (withHc addFailed s).hc.failed)) _)).trans ?_
      split_ifs
      · exact moves_toLockout (by decide) (by decide) (mayEnter_of_cool (by exact hcool) (by decide))
      · exact (moves_heaterOff_cool (by exact hcool) (by exact hunlocked)).mono
  · rw [if_neg hc]
    exact .refl

/-- A phase of a start follows another in which the flame was guarded as well. -/
theorem moves_nextPhase {new : HeaterState} {upd : HeaterUnit → HeaterUnit} (hf : flaming s.hc.state)
    (hh : hot s.hc.state → hot new) (hw : new ≠ .waitPower) (hp : new ≠ .purge) (hr : new ≠ .run) (hn : unlocked new)
    (hu : unlocked s.hc.state) (hupd : ∀ h g, EntrySound new h g → EntrySound new h (upd g))
    (hstate : ∀ h, (upd h).state = h.state) : Moves [.hc, .asked] s (enterHeater new upd s) :=
  moves_enterHeater (by decide) (by decide) (.inr hw) (hstate _) (fun hs => hupd _ _ (entrySound_id hu hp hr hn hs))
    (mayEnter_of_flaming hf hh)

theorem moves_toPreheat (h : s.hc.state = .check) : Moves [.hc, .asked] s (toPreheat s) :=
  moves_nextPhase (by rw [h]; decide) (by rw [h]; decide) (by decide) (by decide) (by decide) (by decide) (by rw [h]; decide)
    (fun _ _ e => e.of_same rfl rfl rfl rfl rfl rfl rfl rfl rfl rfl) fun _ => rfl

theorem moves_toPrime (h : s.hc.state = .preheat) : Moves [.hc, .asked] s (toPrime s) :=
  moves_nextPhase (by rw [h]; decide) (by rw [h]; decide) (by decide) (by decide) (by decide) (by decide) (by rw [h]; decide)
    (fun _ _ e => e.of_same rfl rfl rfl rfl rfl rfl rfl rfl rfl rfl) fun _ => rfl

theorem moves_toIgnite (h : s.hc.state = .prime) : Moves [.hc, .asked] s (toIgnite s) :=
  moves_nextPhase (by rw [h]; decide) (fun _ => by decide) (by decide) (by decide) (by decide) (by decide) (by rw [h]; decide)
    (fun _ _ e => e.of_same rfl rfl rfl rfl rfl rfl rfl rfl rfl rfl) fun _ => rfl

theorem moves_toStabilize (h : s.hc.state = .ignite) : Moves [.hc, .asked] s (toStabilize s) :=
  moves_nextPhase (by rw [h]; decide) (fun _ => by decide) (by decide) (by decide) (by decide) (by decide) (by rw [h]; decide)
    (fun _ _ e => e.of_same rfl rfl rfl rfl rfl rfl rfl rfl rfl rfl) fun _ => rfl

theorem moves_attemptFailed (hu : unlocked s.hc.state) : Moves [.hc, .asked] s (attemptFailed s) := by
  unfold attemptFailed
  split_ifs
  · exact moves_toPurge _ _ hu
  · exact moves_toPurge _ _ hu

theorem moves_toRun (h : s.hc.state = .stabilize) : Moves [.hc, .asked, .mc] s (toRun s) := by
  unfold toRun
  refine Moves.step ?_ (moves_keepHeater s _)
  exact moves_enterHeater (by decide) (by decide) (.inr (by decide)) rfl
    (fun hs => ⟨rfl, rfl, rfl, rfl, rfl, rfl, rfl, (lockout_of_unlocked (by rw [h]; decide) hs :), Nat.zero_le _,
      hs.2.2.2.2.2.2.2.2⟩) (mayEnter_of_flaming (by rw [h]; decide) fun _ => by decide)

/-! ### Run, pause and frost -/

theorem moves_setDesired (g : Stage) (h : s.hc.state = .run) : Moves [.hc, .asked] s (setDesired g s) := by
  unfold setDesired
  split_ifs
  · exact .refl
  · refine .of_move (.heaterEnter _ s (by decide) (by decide) (fun ⟨h1, h2, h3, h4, _, h6⟩ => ⟨h1, h2, h3, h4, by simp [h], h6⟩)
      (mayEnter_of_flaming (by rw [h]; decide) fun hh => hh))

theorem moves_moveStage (g : Stage) (h : s.hc.state = .run) : Moves [.hc, .asked] s (moveStage g s) := by
  unfold moveStage
  dsimp only
  split_ifs
  · exact moves_setDesired g h
  · exact Moves.trans (moves_withHc _ s rfl rfl fun h => h).mono (moves_setDesired _ h)
  · exact .refl

theorem setDesired_state (g : Stage) (s : State) : (setDesired g s).hc.state = s.hc.state := by
  unfold setDesired
  dsimp only
  split_ifs <;> simp [withHc]

theorem moveStage_state (g : Stage) (s : State) : (moveStage g s).hc.state = s.hc.state := by
  unfold moveStage
  dsimp only
  split_ifs
  · exact setDesired_state _ _
  · exact setDesired_state _ _
  · rfl

theorem moves_pauseStep (e : Int) (h : s.hc.state = .run) : Moves [.hc, .asked] s (pauseStep e s) := by
  unfold pauseStep
  split_ifs
  · split
    · exact (moves_withHc _ s rfl rfl fun h => h).mono
    · split_ifs
      · exact moves_toPurge _ _ (by rw [h]; decide)
      · exact .refl
  · exact (moves_withHc _ s rfl rfl fun h => h).mono

theorem moves_regulate (tc : Int) (h : s.hc.state = .run) : Moves [.hc, .asked] s (regulate tc s) := by
  unfold regulate
  dsimp only
  have hstage : Moves [.hc, .asked] s (withHc (fun h => { h with tempStage := some (stageOf (workingSetpoint s - tc)) }) s) :=
    (moves_withHc _ s rfl rfl fun h => h).mono
  exact (hstage.trans (moves_moveStage _ h)).trans (moves_pauseStep _ ((moveStage_state _ _).trans h))

theorem moves_frostStart (hs : ¬hot s.hc.state) (hu : unlocked s.hc.state) : Moves [.hc, .asked, .mc] s (frostStart s) := by
  unfold frostStart
  split_ifs
  · exact Moves.step (moves_withHc _ s rfl rfl fun h => h).mono (moves_post _ _ _ _ _)
  · refine Moves.step (Moves.trans ?_ (moves_newRun_cool (by exact hs) (by exact hu))) (moves_hand _ _)
    exact (moves_withHc _ s rfl rfl fun h => h).mono

theorem frostActs_off (h : frostActs s = true) : s.hc.state = .off := by
  simp only [frostActs, Bool.and_eq_true, beq_iff_eq] at h
  exact h.1.2

theorem moves_frostStep (tc : Int) (s : State) : Moves [.hc, .asked, .mc] s (frostStep tc s) := by
  unfold frostStep
  split
  · split
    · split
      · exact (moves_withHc _ s rfl rfl fun h => h).mono
      · exact .refl
    · split
      · rename_i hact
        have hoff : s.hc.state = .off := by simp only [Bool.and_eq_true] at hact; exact frostActs_off hact.1
        exact moves_frostStart (by rw [hoff]; decide) (by rw [hoff]; decide)
      · exact .refl
  · exact (moves_withHc _ s rfl rfl fun h => h).mono

theorem moves_heaterTc (s : State) : Moves [.hc, .asked, .mc] s (heaterTc s) := by
  unfold heaterTc
  split
  · split
    · exact (moves_heaterStop s).mono
    · split
      case h_1 hst => exact (moves_regulate _ hst).mono
      case h_2 hst =>
        split
        · exact moves_newRun_cool (by rw [hst]; decide) (by rw [hst]; decide)
        · exact .refl
      case h_3 => exact moves_frostStep _ s
      case h_4 => exact .refl
  · split
    case h_1 hst => exact moves_newRun_cool (by rw [hst]; decide) (by rw [hst]; decide)
    case h_2 => exact .refl

/-! ### The checks on VH, TH and TX -/

theorem unlocked_of_burning (h : burning s.hc.state = true) : unlocked s.hc.state := by
  generalize s.hc.state = st at h
  cases st <;> first | decide | exact absurd h (by decide)

theorem moves_heaterVh (s : State) : Moves [.hc, .asked] s (heaterVh s) := by
  unfold heaterVh
  split_ifs with hb
  · split
    · exact (moves_withHc _ s rfl rfl fun h => h).mono
    · split_ifs
      · exact moves_toPurge _ _ (unlocked_of_burning hb)
      · exact .refl
  · exact (moves_withHc _ s rfl rfl fun h => h).mono
  · exact .refl

theorem moves_heaterTh (s : State) : Moves [.hc, .asked, .mc] s (heaterTh s) := by
  unfold heaterTh
  split_ifs with hb
  · split
    · exact (moves_withHc _ s rfl rfl fun h => h).mono
    · split_ifs
      · exact moves_toOverheat (unlocked_of_burning hb)
      · exact .refl
  · exact (moves_withHc _ s rfl rfl fun h => h).mono
  · exact .refl

theorem moves_purgeExit (p : PurgeRecord) (h : s.hc.state = .purge) : Moves [.hc, .asked, .mc, .leave] s (purgeExit p s) := by
  have hm : ∀ new, ¬flaming new → heaterMayEnter [.hc, .asked, .mc, .leave] s new := fun new hn =>
    mayEnter_of_purged (.inl h) hn (by decide)
  have hu : unlocked s.hc.state := by rw [h]; decide
  unfold purgeExit
  split
  · exact moves_toWaitPower (by decide) (by decide) (by decide) (fun _ => rfl)
      (fun _ _ e => e.of_same rfl rfl rfl rfl rfl rfl rfl rfl rfl rfl) hu (hm _ (by decide))
  · exact moves_toWaitPower (by decide) (by decide) (by decide) (fun _ => rfl)
      (fun _ _ e => e.of_same rfl rfl rfl rfl rfl rfl rfl rfl rfl rfl) hu (hm _ (by decide))
  · split_ifs
    · exact moves_offWith _ (by decide) (by decide) hu (hm _ (by decide))
    · exact moves_newRun (by decide) (by decide) (by decide) hu (hm _ (by decide))
    · exact moves_heaterOff (by decide) (by decide) hu (hm _ (by decide))
  · split_ifs
    · exact moves_offWith _ (by decide) (by decide) hu (hm _ (by decide))
    · exact moves_newRun (by decide) (by decide) (by decide) hu (hm _ (by decide))
    · exact moves_enterHeater (by decide) (by decide) (.inr (by decide)) rfl
        (entrySound_id hu (by decide) (by decide) (by decide)) (hm _ (by decide))

theorem moves_purgeEnd (h : s.hc.state = .purge) : Moves [.hc, .asked, .mc, .leave] s (purgeEnd s) := by
  unfold purgeEnd
  split
  · exact .refl
  · dsimp only
    refine Moves.step ?_ (moves_keepHeater s _)
    have hst : (countPurge s).hc.state = .purge := (countPurge_state s).trans h
    refine (moves_countPurge s).mono.trans ?_
    split_ifs
    · exact moves_toLockout (by decide) (by decide) (mayEnter_of_purged (.inl hst) (by decide) (by decide))
    · exact moves_purgeExit _ hst

theorem moves_purgeHot (s : State) : Moves [.hc, .asked, .mc, .leave] s (purgeHot s) := by
  unfold purgeHot
  split
  · rename_i hst _
    split
    · exact moves_purgeEnd hst
    split
    · refine Moves.step ((moves_recordFault .purgeHot .purge true s).mono.trans ?_) (moves_keepHeater s _)
      exact moves_toLockout (by decide) (by decide) (mayEnter_of_purged (.inl hst) (by decide) (by decide))
    · extract_lets t
      have ht : Moves [.hc, .asked, .mc, .leave] s t ∧ t.hc.state = .purge := by
        unfold t
        split_ifs
        · exact ⟨.refl, hst⟩
        · exact ⟨(moves_recordFault _ _ _ s).mono, hst⟩
      clear_value t
      refine (ht.1.trans (Moves.mono (as := [.hc]) ?_)).trans (moves_purgeEnd ht.2)
      exact moves_withHc _ t rfl rfl fun ⟨h1, h2, h3, h4, h5, h6, _, h8⟩ =>
        ⟨h1, h2, h3, by simp [ht.2], h5, h6, fun h => absurd h (by simp), h8⟩
  · exact .refl

theorem moves_flameGone (hu : unlocked s.hc.state) : Moves [.hc, .asked] s (flameGone s) := by
  unfold flameGone
  split_ifs
  · have h1 : Moves [.hc, .asked] s (withHc (fun h => { h with flameOut := 1 }) s) := (moves_withHc _ s rfl rfl fun h => h).mono
    exact (h1.trans (moves_toPurge .restart none hu)).trans (moves_withHc _ _ rfl rfl fun h => h).mono
  · exact moves_toPurge _ _ hu

theorem moves_flameStep (tx : Int) (hu : unlocked s.hc.state) : Moves [.hc, .asked] s (flameStep tx s) := by
  unfold flameStep
  split_ifs
  · split
    · exact (moves_withHc _ s rfl rfl fun h => h).mono
    · split_ifs
      · exact moves_flameGone hu
      · exact .refl
  · exact (moves_withHc _ s rfl rfl fun h => h).mono

theorem moves_heaterHolds (s : State) : Moves [.hc, .asked, .mc] s (heaterHolds s) := by
  obtain ⟨-, e⟩ | ⟨⟨hst, -⟩, e⟩ | ⟨⟨hst, -⟩, e⟩ | ⟨⟨hst, -⟩, e⟩ := heaterHolds_cases s <;> rw [e]
  · exact .refl
  · exact (moves_toPurge _ _ (by rw [hst]; decide)).mono
  · exact (moves_flameGone (by rw [hst]; decide)).mono
  · exact moves_frostStart (by rw [hst]; decide) (by rw [hst]; decide)

theorem moves_heaterTxState (s : State) : Moves [.hc, .asked, .mc, .leave] s (heaterTxState s) := by
  unfold heaterTxState
  split
  · exact .refl
  · split
    case h_1 hst =>
      split
      · split_ifs
        · exact (moves_toStabilize hst).mono
        · exact .refl
      · exact .refl
    case h_2 hst =>
      split
      · split_ifs
        · exact (moves_attemptFailed (by rw [hst]; decide)).mono
        · exact .refl
      · exact .refl
    case h_3 hst => exact (moves_flameStep _ (by rw [hst]; decide)).mono
    case h_4 hst =>
      split_ifs
      · exact moves_purgeEnd hst
      · exact .refl
    case h_5 hst =>
      split_ifs
      · exact moves_toLockout (by decide) (by decide) (mayEnter_of_purged (.inr hst) (by decide) (by decide))
      · exact .refl
    case h_6 => exact .refl

theorem moves_heaterTx (s : State) : Moves [.hc, .asked, .mc, .leave] s (heaterTx s) := by
  unfold heaterTx
  split
  · have h : Moves [.hc, .asked, .mc, .leave] s (withHc (fun h => { h with firstTx := false }) s) :=
      (moves_withHc _ s rfl rfl fun h => h).mono
    dsimp only
    split
    · rename_i hoff
      exact h.step (moves_toPurge .off none (by rw [withHc]; rw [hoff.1]; decide))
    · exact h.trans (moves_heaterTxState _)
  · exact moves_heaterTxState s

theorem moves_heaterConversion (ch : Channel) (s : State) : Moves [.hc, .asked, .mc, .leave] s (heaterConversion ch s) := by
  unfold heaterConversion
  split
  · exact (moves_heaterVh s).mono
  · exact (moves_heaterTc s).mono
  · exact (moves_heaterTh s).mono
  · exact moves_heaterTx s
  · exact .refl

theorem moves_heaterLeft (ch : Channel) (s : State) : Moves [.hc, .asked, .mc] s (heaterLeft ch s) := by
  unfold heaterLeft
  split
  · exact (moves_withHc _ s rfl rfl fun h => h).mono
  · split
    case h_1 hst => exact (moves_offWith_cool _ (by rw [hst]; decide) (by rw [hst]; decide)).mono
    case h_2 hst => exact (moves_offWith_cool _ (by rw [hst]; decide) (by rw [hst]; decide)).mono
    case h_3 hst => exact moves_toOverheat (by rw [hst]; decide)
    case h_4 hst => exact moves_toOverheat (by rw [hst]; decide)
    case h_5 hst => exact moves_toOverheat (by rw [hst]; decide)
    case h_6 hst => exact moves_toOverheat (by rw [hst]; decide)
    case h_7 => exact .refl
  · split
    case h_1 hst => exact (moves_offWith_cool _ (by rw [hst]; decide) (by rw [hst]; decide)).mono
    case h_2 hst => exact (moves_offWith_cool _ (by rw [hst]; decide) (by rw [hst]; decide)).mono
    case h_3 hst => exact (moves_toPurge _ _ (by rw [hst]; decide)).mono
    case h_4 hst => exact (moves_toPurge _ _ (by rw [hst]; decide)).mono
    case h_5 hst => exact (moves_toPurge _ _ (by rw [hst]; decide)).mono
    case h_6 hst => exact (moves_toPurge _ _ (by rw [hst]; decide)).mono
    case h_7 => exact .refl
  · split
    case h_1 hst => exact Moves.step (moves_withHc _ s rfl rfl fun h => h).mono (moves_setDesired .low hst)
    case h_2 hst => exact moves_newRun_cool (by rw [hst]; decide) (by rw [hst]; decide)
    case h_3 => exact (moves_withHc _ s rfl rfl fun h => h).mono
  · exact .refl

/-! ### Grants, trips, the blower, vent mode and the lockout's clearing -/

theorem moves_heaterGrant (n : Nat) (s : State) : Moves [.hc, .asked] s (heaterGrant n s) := by
  unfold heaterGrant
  extract_lets t d
  have ht : Moves [.hc, .asked] s t := (moves_withHc (fun h => { h with grant := n }) s rfl rfl fun h => h).mono
  clear_value t
  refine ht.trans ?_
  split
  case h_1 hst =>
    split_ifs
    · exact moves_toCheck (by rw [hst]; decide) (by rw [hst]; decide)
    · exact .refl
  case h_2 hst =>
    split_ifs
    · exact moves_offWith_cool _ (by rw [hst]; decide) (by rw [hst]; decide)
    · exact .refl
  case h_3 hst =>
    split
    · split_ifs
      · exact (moves_withHc _ t rfl rfl fun h => h).mono
      · exact .refl
    · split_ifs
      · exact moves_offWith_cool _ (by rw [hst]; decide) (by rw [hst]; decide)
      · exact .refl
  case h_7 hst =>
    split_ifs
    · exact moves_toPurge _ _ (by rw [hst]; decide)
    · exact (moves_withHc _ t rfl rfl fun h => h).mono
  case h_8 => exact .refl
  all_goals
    rename_i hst
    split_ifs
    · exact moves_toPurge _ _ (by rw [hst]; decide)
    · exact .refl

theorem moves_heaterTrip (c : Comparator) (s : State) : Moves [.hc, .asked, .mc] s (heaterTrip c s) := by
  unfold heaterTrip
  split
  · split
    case h_1 hst => exact (moves_offWith_cool _ (by rw [hst]; decide) (by rw [hst]; decide)).mono
    case h_2 hst => exact (moves_offWith_cool _ (by rw [hst]; decide) (by rw [hst]; decide)).mono
    case h_3 hst => exact (moves_toPurge _ _ (by rw [hst]; decide)).mono
    case h_4 hst => exact (moves_toPurge _ _ (by rw [hst]; decide)).mono
    case h_5 hst => exact (moves_toPurge _ _ (by rw [hst]; decide)).mono
    case h_6 hst => exact (moves_toPurge _ _ (by rw [hst]; decide)).mono
    case h_7 => exact .refl
  · exact moves_blowerFault s
  · exact .refl

theorem moves_blowerStep (s : State) : Moves [.hc, .asked, .mc] s (blowerStep s) := by
  unfold blowerStep
  by_cases h : energized s .blower = true
  · rw [if_pos h]
    extract_lets target speed duty stall slow t
    have ht : Moves [.hc, .asked, .mc] s t :=
      (moves_withHc (fun h => { h with duty := duty, stallRun := stall, slowRun := slow }) s rfl rfl fun h => h).mono
    split_ifs
    · exact ht.trans (moves_blowerFault t)
    · exact ht
  · rw [if_neg h]
    exact .refl

theorem moves_heatVent (on : Bool) (s : State) : Moves [.hc, .asked, .answer] s (heatVent on s) := by
  unfold heatVent
  split
  case h_1 hst =>
    refine Moves.step (Moves.mono (as := [.hc, .asked]) ?_) (moves_answer _ _ _)
    have hu : unlocked s.hc.state := by rw [hst]; decide
    exact moves_enterHeater (by decide) (by decide) (.inr (by decide)) rfl
      (entrySound_id hu (by decide) (by decide) (by decide)) (mayEnter_of_cool (by rw [hst]; decide) (by decide))
  case h_4 hst =>
    exact Moves.step (moves_heaterOff_cool (by rw [hst]; decide) (by rw [hst]; decide)).mono (moves_answer _ _ _)
  all_goals exact (moves_answer _ _ s).mono

theorem moves_clearLockout (s : State) : Moves [.hc, .asked, .mc, .answer] s (clearLockout s) := by
  unfold clearLockout
  split
  case h_1 | h_2 => exact (moves_answer _ _ s).mono
  case h_3 hst =>
    refine Moves.step (Moves.step (Moves.mono (as := [.hc, .asked]) ?_) (moves_writeHeater _)) (moves_answer _ _ _)
    exact moves_enterHeater (by decide) (by decide) (.inr (by decide)) rfl
      (fun hs => ⟨rfl, rfl, rfl, rfl, rfl, rfl, rfl, rfl, Nat.zero_le _, Nat.zero_le _⟩)
      (mayEnter_of_cool (by rw [hst]; decide) (by decide))
  case h_4 =>
    have h : Moves [.hc, .asked, .mc, .answer] s (withHc (fun h => { h with failed := 0, overheats := 0 }) s) :=
      (moves_withHc _ s rfl rfl fun ⟨h1, h2, h3, h4, h5, h6, h7, _, _⟩ =>
        ⟨h1, h2, h3, h4, h5, h6, h7, Nat.zero_le _, Nat.zero_le _⟩).mono
    exact (h.step (moves_writeHeater _)).step (moves_answer _ _ _)

end Sys2Proof.Machine
end

section
/-! PROOFS. The Light Controller's operations as runs of moves. -/

namespace Sys2Proof.Machine

-- One proof after another: started together they wait for one another, each on a thread of its own.
set_option Elab.async false

variable {s t u : State} {as : List Area}

/-- A change of the LC alone that leaves every fade sound, the levels and requests not yet brought to it. -/
def LightsRaw (s t : State) : Prop :=
  ∃ l, t = { s with lc := l } ∧ ∀ i, fadeSound (tget s.lc.chan i) → fadeSound (tget l.chan i)

theorem LightsRaw.refl (s : State) : LightsRaw s s := ⟨s.lc, rfl, fun _ h => h⟩

theorem LightsRaw.trans (h : LightsRaw s t) (k : LightsRaw t u) : LightsRaw s u := by
  obtain ⟨l, rfl, hl⟩ := h
  obtain ⟨m, rfl, hm⟩ := k
  exact ⟨m, rfl, fun i hi => hm i (hl i hi)⟩

theorem LightsRaw.follow (h : LightsRaw s t) : Moves [.lc, .asked] s (lightsFollow t) := by
  obtain ⟨l, rfl, hl⟩ := h
  exact .of_move (.lightsFollow l s (by decide) (by decide) hl)

theorem withLc_raw (f : LightUnit → LightUnit) (s : State) (h : (f s.lc).chan = s.lc.chan) : LightsRaw s (withLc f s) :=
  ⟨f s.lc, rfl, fun i hi => by rw [h]; exact hi⟩

theorem mapLights_raw (f : Fin 6 → LightChan → LightChan) (s : State)
    (h : ∀ i, fadeSound (lightOf s i) → fadeSound (f i (lightOf s i))) : LightsRaw s (mapLights f s) :=
  ⟨(mapLights f s).lc, rfl, fun i hi => by
    have e := lightOf_mapLights s f i
    rw [lightOf] at e
    rw [e]
    exact h i hi⟩

theorem entrySettles_raw (s : State) : LightsRaw s (entrySettles s) := by
  unfold entrySettles
  split_ifs
  · exact withLc_raw _ s rfl
  · exact .refl s

/-- A started fade is sound, whatever the channel stood at. -/
theorem startFade_sound (n : Nat) (c : LightChan) : fadeSound (startFade n c) := by
  unfold startFade
  split_ifs with hn hc
  · exact ⟨fun _ => rfl, fun f hf => by cases hf⟩
  · exact ⟨fun _ => hc.2.symm, fun f hf => by rw [hc.1] at hf; cases hf⟩
  · refine ⟨fun h => (by cases h), fun f hf => ?_⟩
    obtain rfl := Option.some.inj hf
    exact Nat.pos_of_ne_zero hn

/-- The channels whose targets are no longer those of `old`, with their fades started (R109, R118). -/
def fadesStarted (old : Vector Nat 6) (n : Nat) (own : Bool) (s : State) : State :=
  mapLights (fun i c => if tget old i = c.target then c else startFade n { c with saved := if own then c.saved else none }) s

theorem targetEvent_eq (old : Vector Nat 6) (n : Nat) (own : Bool) (s : State) :
    targetEvent old n own s = lightsFollow (entrySettles (fadesStarted old n own s)) := rfl

/-- A channel whose target has changed stands soundly in its new fade; any other as it did. -/
theorem fadesStarted_sound {old : Vector Nat 6} {n : Nat} {own : Bool} {i : Fin 6}
    (h : tget old i = (lightOf s i).target → fadeSound (lightOf s i)) : fadeSound (lightOf (fadesStarted old n own s) i) := by
  rw [fadesStarted, lightOf_mapLights]
  split_ifs with e
  · exact h e
  · exact startFade_sound n _
  · exact startFade_sound n _

theorem entrySettles_eq (s : State) : ∃ e, entrySettles s = withLc (fun l => { l with entry := e }) s := by
  unfold entrySettles
  split_ifs
  · exact ⟨_, rfl⟩
  · exact ⟨s.lc.entry, rfl⟩

theorem lightOf_entrySettles (s : State) (i : Fin 6) : lightOf (entrySettles s) i = lightOf s i := by
  obtain ⟨e, h⟩ := entrySettles_eq s
  rw [h]
  rfl

theorem lightOf_putTargets (f : Fin 6 → Option Nat) (s : State) (i : Fin 6) :
    lightOf (putTargets f s) i = { lightOf s i with target := (f i).getD (lightOf s i).target } := lightOf_mapLights s _ i

theorem tget_targetsOf (s : State) (i : Fin 6) : tget (targetsOf s) i = (lightOf s i).target := by
  rw [targetsOf, tget_map, lightOf]

/-- The targets as one event sets them, before the requests and levels follow. -/
theorem setTargets_raw (f : Fin 6 → Option Nat) (n : Nat) (own : Bool) (s : State) :
    LightsRaw s (entrySettles (fadesStarted (targetsOf s) n own (putTargets f s))) := by
  obtain ⟨e, h⟩ := entrySettles_eq (fadesStarted (targetsOf s) n own (putTargets f s))
  refine ⟨(entrySettles (fadesStarted (targetsOf s) n own (putTargets f s))).lc, by rw [h]; rfl, fun i hi => ?_⟩
  have hlight := lightOf_entrySettles (fadesStarted (targetsOf s) n own (putTargets f s)) i
  rw [lightOf] at hlight
  rw [hlight]
  refine fadesStarted_sound fun ht => ?_
  rw [tget_targetsOf, lightOf_putTargets] at ht
  rw [lightOf_putTargets]
  dsimp only at ht ⊢
  rw [← ht]
  exact hi

theorem moves_setTargets (f : Fin 6 → Option Nat) (n : Nat) (own : Bool) (h : LightsRaw s t) :
    Moves [.lc, .asked] s (setTargets f n own t) :=
  (h.trans (setTargets_raw f n own t)).follow

theorem moves_applyScene (sc : Scene) (own : Bool) (h : LightsRaw s t) : Moves [.lc, .asked] s (applyScene sc own t) :=
  moves_setTargets _ _ _ h

theorem moves_sceneRequest (n : Nat) (s : State) : Moves [.lc, .asked] s (sceneRequest n s).1 := by
  unfold sceneRequest
  split
  · exact moves_applyScene _ _ (.refl s)
  · exact .refl

/-! ### Levels alone -/

/-- A change of the LC that moves no demand level is a change of the applied levels alone. -/
theorem moves_applyLevels (f : LightUnit → LightUnit) (s : State)
    (hfade : ∀ i, fadeSound (tget s.lc.chan i) → fadeSound (tget (f s.lc).chan i))
    (hdemand : ∀ i, demandLevel (tget (f s.lc).chan i) = demandLevel (tget s.lc.chan i)) :
    Moves [.lc] s (applyLevels (withLc f s)) :=
  .of_move (.lightsApply (f s.lc) s (by decide) hfade hdemand)

theorem moves_lightsGrant (g : Group) (n : Nat) (s : State) : Moves [.lc] s (lightsGrant g n s) :=
  moves_applyLevels _ s (fun _ h => h) fun _ => rfl

theorem moves_lightsLevel (l : ShedLevel) (s : State) : Moves [.lc] s (lightsLevel l s) :=
  moves_applyLevels _ s (fun _ h => h) fun _ => rfl

theorem moves_lightsResting (b : Bool) (s : State) : Moves [.lc] s (lightsResting b s) :=
  moves_applyLevels _ s (fun _ h => h) fun _ => rfl

theorem moves_withLc (f : LightUnit → LightUnit) (s : State) (h1 : (f s.lc).level = s.lc.level)
    (h2 : (f s.lc).resting = s.lc.resting) (h3 : (f s.lc).entry = s.lc.entry)
    (h4 : ∀ g, (tget (f s.lc).group g).grant = (tget s.lc.group g).grant) (h5 : (f s.lc).chan = s.lc.chan) :
    Moves [.lc] s (withLc f s) :=
  .of_move (.lights (f s.lc) s (by decide) h1 h2 h3 h4 h5)

theorem moves_lightsTrip (g : Group) (o : Option TripOutcome) (s : State) : Moves [.lc] s (lightsTrip g o s) := by
  refine moves_withLc _ s rfl rfl rfl (fun g' => ?_) rfl
  dsimp only
  rw [tget_tset]
  split_ifs with h
  · rw [h]
  · rfl

theorem moves_fadeStep (i : Fin 6) (s : State) : Moves [.lc, .asked] s (fadeStep i s) := by
  unfold fadeStep
  dsimp only
  split
  · exact .refl
  · rename_i f hf
    split
    · rename_i hk
      refine (moves_applyLevels _ s (fun j hj => ?_) fun j => ?_).mono
      · dsimp only
        rw [tget_tset]
        split_ifs
        · refine ⟨fun h => (by cases h), fun g hg => ?_⟩
          obtain rfl := Option.some.inj hg
          exact hk
        · exact hj
      · dsimp only
        rw [tget_tset]
        split_ifs with hij
        · subst hij
          change demandLevel _ = demandLevel (lightOf s i)
          simp [demandLevel, hf]
        · rfl
    · refine LightsRaw.follow (LightsRaw.trans ⟨_, rfl, fun j hj => ?_⟩ (entrySettles_raw _))
      dsimp only
      rw [tget_tset]
      split
      · exact ⟨fun _ => rfl, fun g hg => by cases hg⟩
      · exact hj

/-! ### The entry scene -/

theorem moves_startEntry (sc : Scene) (s : State) : Moves [.lc, .asked] s (startEntry sc s) := by
  unfold startEntry
  refine moves_applyScene sc true (LightsRaw.trans (mapLights_raw _ s fun i h => h) (withLc_raw _ _ rfl))

theorem moves_doorOpening (s : State) : Moves [.lc, .asked] s (doorOpening s) := by
  unfold doorOpening
  split
  · exact (moves_withLc _ s rfl rfl rfl (fun _ => rfl) rfl).mono
  all_goals
    split
    · split
      · exact moves_startEntry _ s
      · exact .refl
    · exact .refl

theorem moves_lightsDoor (st : ContactState) (s : State) : Moves [.lc, .asked] s (lightsDoor st s) := by
  unfold lightsDoor
  split
  · exact .refl
  · exact (moves_withLc _ s rfl rfl rfl (fun _ => rfl) rfl).mono
  · have h : Moves [.lc, .asked] s (withLc (fun l => { l with door := .opened }) s) :=
      (moves_withLc _ s rfl rfl rfl (fun _ => rfl) rfl).mono
    dsimp only
    split
    · exact h
    · exact h.trans (moves_doorOpening _)

theorem moves_entryTimeout (s : State) : Moves [.lc, .asked] s (entryTimeout s) := by
  unfold entryTimeout
  split
  · extract_lets s1 s2 s3
    have h2 : Moves [.lc, .asked] s s2 := moves_setTargets _ _ _ (withLc_raw _ s rfl)
    have h3 : LightsRaw s2 s3 := mapLights_raw _ s2 fun i h => by
      split_ifs
      · exact h
      · exact h
    exact h2.trans (h3.trans (entrySettles_raw s3)).follow
  · exact .refl

/-! ### The panel's toggle -/

theorem mapLights_rev_comm (f : Fin 6 → LightChan → LightChan) (s : State) (v : Vector Nat 26) :
    mapLights f { s with rev := v } = { mapLights f s with rev := v } := rfl

theorem entrySettles_rev_comm (s : State) (v : Vector Nat 26) :
    entrySettles { s with rev := v } = { entrySettles s with rev := v } := by
  unfold entrySettles
  change (if s.lc.entry = .returning ∧ anySaved s = false then _ else _) = _
  split_ifs <;> rfl

theorem lightsFollow_rev_comm (s : State) (v : Vector Nat 26) :
    lightsFollow { s with rev := v } = { lightsFollow s with rev := v } := by
  have hbunk := ask_rev_comm .bunk (groupRequest s .bunk) s v
  unfold lightsFollow
  dsimp only
  change applyLevels (ask .cab (groupRequest (ask .bunk (groupRequest s .bunk) { s with rev := v }) .cab)
    (ask .bunk (groupRequest s .bunk) { s with rev := v })) = _
  rw [hbunk]
  generalize ask .bunk (groupRequest s .bunk) s = t
  have hcab := ask_rev_comm .cab (groupRequest t .cab) t v
  change applyLevels (ask .cab (groupRequest t .cab) { t with rev := v }) = _
  rw [hcab]
  rfl

theorem targetEvent_rev_comm (old : Vector Nat 6) (n : Nat) (own : Bool) (s : State) (v : Vector Nat 26) :
    targetEvent old n own { s with rev := v } = { targetEvent old n own s with rev := v } := by
  rw [targetEvent_eq, targetEvent_eq, fadesStarted, mapLights_rev_comm, entrySettles_rev_comm, lightsFollow_rev_comm]
  rfl

theorem moves_panelToggle (g : Group) (s : State) : Moves [.lc, .asked] s (panelToggle g s) := by
  unfold panelToggle
  dsimp only
  exact moves_operate_operate 17 (by decide) (fun t v => targetEvent_rev_comm _ t.cfg.lights.fade false t v)
    (moves_setTargets _ _ false (.refl s))

end Sys2Proof.Machine
end

section
/-! PROOFS. The schedule and the wake out of STANDBY as runs of moves. -/

namespace Sys2Proof.Machine

-- One proof after another: started together they wait for one another, each on a thread of its own.
set_option Elab.async false

variable {s t u : State} {as : List Area}

/-- The areas that the firing of schedule entries moves (R160, R161). -/
def fireAreas : List Area := [.setpoint, .hc, .asked, .mc, .lc, .pn, .fc, .su]

/-- The areas that a wake out of STANDBY moves, with the held entries fired (R163, R189). -/
def wakeAreas : List Area := [.setpoint, .hc, .asked, .mc, .lc, .pn, .fc, .su, .ga, .choices, .panelTakes, .skip, .chan]

/-- A folded operation moves what each of its steps moves. -/
theorem moves_foldl {α : Type} {f : State → α → State} (h : ∀ s a, Moves as s (f s a)) (xs : List α) (s : State) :
    Moves as s (xs.foldl f s) := by
  induction xs generalizing s with
  | nil => exact .refl
  | cons x xs ih => exact (h s x).trans (ih _)

theorem moves_withSu (f : ScheduleUnit → ScheduleUnit) (s : State) (ho : (f s.su).offset = s.su.offset)
    (hu : (f s.su).unset = s.su.unset) (hd : (f s.su).lastDelta = s.su.lastDelta) : Moves [.su] s (withSu f s) :=
  .of_move (.sched (f s.su) s (by decide) ho hu hd)

theorem moves_setSlot (k : Fin 8) (e : Option SchedEntry) (s : State) : Moves [.su] s (setSlot k e s) :=
  moves_withSu _ s rfl rfl rfl

theorem moves_scheduleNotice (k : Fin 8) (a : Action) (d : Bool) (r : Option Status) (s : State) :
    Moves [] s (scheduleNotice k a d r s) := moves_post _ _ _ _ s

theorem moves_ownerAct (which : List (Fin 26)) {f : State → State × Status} (hw : 1 ∉ which) (h : Moves as s (f s).1) :
    Moves as s (ownerAct which f s).1 :=
  h.step (moves_advance which s (f s).1 (.inl hw)) (List.nil_subset _)

theorem moves_runAction (a : Action) (s : State) : Moves fireAreas s (runAction a s).1 := by
  unfold runAction
  split
  · exact moves_ownerAct _ (by decide) (moves_heaterStart _ _ s).mono
  · exact moves_ownerAct (f := fun s => (heaterStop s, .ok)) _ (by decide) (moves_heaterStop s).mono
  · exact moves_ownerAct _ (by decide) (moves_sceneRequest _ s).mono
  · exact moves_ownerAct _ (by decide) (moves_chimeStatus _ s).mono
  · exact moves_ownerAct _ (by decide) (moves_boostStart s).mono
  · split
    · exact .refl
    · exact (moves_writeVentSpeed _ s).mono

theorem moves_fireEntry (s : State) (k : Fin 8) : Moves fireAreas s (fireEntry s k) := by
  unfold fireEntry
  split
  · exact .refl
  · exact ((moves_runAction _ s).step (moves_setSlot _ _ _)).step (moves_scheduleNotice _ _ _ _ _)

theorem moves_fireAll (s : State) : Moves fireAreas s (fireAll s) := moves_foldl moves_fireEntry _ s

/-! ### PANEL's grant at the wake -/

theorem boosted_withEntry (c : Consumer) (f : ConsumerEntry → ConsumerEntry) (hf : ∀ e, (f e).boosted = e.boosted) (s : State)
    (d : Consumer) : (entryOf (withEntry c f s) d).boosted = (entryOf s d).boosted := by
  unfold entryOf withEntry withGa
  dsimp only
  rw [tget_tset]
  split_ifs with h
  · rw [hf, h]
  · rfl

/-- A change of an entry that keeps its class override keeps the order lists sound. -/
theorem listsSound_withEntry (c : Consumer) (f : ConsumerEntry → ConsumerEntry) (hf : ∀ e, (f e).boosted = e.boosted) :
    listsSound s → listsSound (withEntry c f s) :=
  listsSound_congr rfl fun d => effectiveClass_congr d (boosted_withEntry c f hf s d) rfl

/-- A change of the table, and a pass on it. -/
theorem moves_passOn (g : GrantUnit → GrantUnit) (s : State) (hl : listsSound s → listsSound (withGa g s))
    (hon : ∀ k, (tget (g s.ga).sockets k).on = (tget s.ga.sockets k).on) : Moves [.ga] s (passTable (withGa g s)) :=
  .of_move (.passesOn (g s.ga) s (by decide) hl hon)

/-- A consumer's entry changed but for its class override, and a pass on it. -/
theorem moves_passEntry (c : Consumer) (f : ConsumerEntry → ConsumerEntry) (hf : ∀ e, (f e).boosted = e.boosted) (s : State) :
    Moves [.ga] s (passTable (withEntry c f s)) :=
  moves_passOn (fun g => { g with entries := tset g.entries (consIx c) (f (tget g.entries (consIx c))) }) s
    (listsSound_withEntry c f hf) fun _ => rfl

theorem moves_grantPanel (s : State) : Moves wakeAreas s (grantPanel s) := by
  unfold grantPanel
  extract_lets s1 e report
  have h1 : Moves wakeAreas s s1 := by
    have hpass := moves_passEntry .panel (fun e => { e with
      request := some (panelRequest (takeHanding (panelPlacing s) s).cfg.demands) }) (fun _ => rfl) (takeHanding (panelPlacing s) s)
    exact Moves.trans (.of_move (.takes (panelPlacing s) s (by decide) rfl)) (moves_ownerEvent [5] (by decide) hpass.mono)
  clear_value s1
  split
  · refine h1.trans (Moves.trans (.of_move (.takes report s1 (by decide) rfl)) ?_)
    exact moves_ownerEvent [20, 22] (by decide) (moves_panelGrant _ _).mono
  · exact h1

theorem moves_panelBefore (s : State) (k : Fin 8) : Moves wakeAreas s (panelBefore s k) := by
  unfold panelBefore
  split
  · dsimp only
    have h : Moves wakeAreas s (countChoices 1 s) := (moves_countChoices 1 s).mono
    split
    · exact h.trans (moves_grantPanel _)
    · exact h
  · exact .refl

theorem moves_fireHeld (s : State) : Moves wakeAreas s (fireHeld s) :=
  moves_foldl (fun t k => (moves_panelBefore t k).step (moves_fireEntry _ k)) _ s

/-! ### The wake -/

/-- The channels with those that STANDBY leaves out started again (R3). -/
def chansWoken (v : Vector ChanEntry 7) : Vector ChanEntry 7 :=
  [Channel.tc, .tf, .th, .tx].foldl (fun v ch => tset v (chanIx ch) (chanStart (tget v (chanIx ch)).hostMark)) v

theorem wakeChannels_eq (s : State) : wakeChannels s = { s with mu := { s.mu with chan := chansWoken s.mu.chan } } := rfl

theorem tget_chansWoken (v : Vector ChanEntry 7) (ch : Channel) : tget (chansWoken v) (chanIx ch) =
    if sampledIn .standby ch then tget v (chanIx ch) else chanStart (tget v (chanIx ch)).hostMark := by
  unfold chansWoken
  cases ch <;> simp [tget_tset, chanIx, sampledIn]

/-- In STANDBY no flame is guarded by TX and TH: they are not converted there. -/
theorem not_flaming_in_standby (hmode : s.mc.mode = .standby) (h : flameGuarded s) : ¬flaming s.hc.state := by
  intro hf
  obtain ⟨htx, -⟩ := h.2 hf
  have hconv : isConverted s .tx = false := by simp [isConverted, hmode, sampledIn]
  rw [h.1 .tx hconv] at htx
  exact absurd htx (by decide)

theorem flameGuarded_woken (hmode : s.mc.mode = .standby) (h : flameGuarded s) :
    flameGuarded { s with mu := { s.mu with chan := chansWoken s.mu.chan } } := by
  refine ⟨fun ch hch => ?_, fun hf => absurd (by exact hf) (not_flaming_in_standby hmode h)⟩
  change (tget (chansWoken s.mu.chan) (chanIx ch)).status = _
  rw [tget_chansWoken]
  split_ifs
  · exact h.1 ch hch
  · rfl

/-- The MC's entry into AWAKE leaves the channels, and they leave it. -/
theorem enterAwake_chan_comm (s : State) (v : Vector ChanEntry 7) :
    enterAwake { s with mu := { s.mu with chan := v } } = (let t := enterAwake s; { t with mu := { t.mu with chan := v } }) := by
  unfold enterAwake ownerEvent setMode raise
  dsimp only
  split
  · split_ifs <;> rfl
  · rfl

theorem enterAwake_mu_chan (s : State) : (enterAwake s).mu.chan = s.mu.chan := by
  unfold enterAwake ownerEvent setMode raise
  dsimp only [advance]
  split
  · split_ifs <;> rfl
  · rfl

/-- At the wake the channels start again while the mode is still STANDBY's, as far as they are concerned. -/
theorem moves_wakeChannels (hmode : s.mc.mode = .standby) :
    Moves [.mc, .chan] s (ownerEvent [8] wakeChannels (enterAwake s)) := by
  have hcomm : wakeChannels (enterAwake s) = enterAwake { s with mu := { s.mu with chan := chansWoken s.mu.chan } } := by
    rw [wakeChannels_eq, enterAwake_mu_chan]
    exact (enterAwake_chan_comm s _).symm
  have hwoken : Moves [.mc, .chan] s (wakeChannels (enterAwake s)) := by
    rw [hcomm]
    exact Moves.trans (.of_move (.channels _ s (by decide) (flameGuarded_woken hmode))) (moves_enterAwake _).mono
  exact hwoken.step (moves_advance [8] (enterAwake s) _ (.inl (by decide)))

/-- A request brought to its state behind an update of revisions moves what it moves before it. -/
theorem moves_ask_advance (which : List (Fin 26)) (hw : 1 ∉ which) (c : Consumer) (r : Option Request) (u : State)
    (h : Moves as s (ask c r t)) : Moves as s (ask c r (advance which u t)) := by
  have hstep := revisionsStep_advance which u t (.inl hw)
  change Moves as s (ask c r { t with rev := (advance which u t).rev })
  rw [ask_rev_comm]
  exact h.step (.of_move (.rev _ _ (by rw [revisionsStep, ask_rev]; exact hstep))) (List.nil_subset _)

/-- The PI scans again and places PANEL's request again (R189). -/
theorem moves_wakePanel (s : State) :
    Moves [.pn, .asked] s (ask .panel (some (panelRequest s.cfg.demands))
      (ownerEvent [20] (withPn fun u => { u with standby := false }) s)) :=
  moves_ask_advance [20] (by decide) _ _ s (.of_move (.panelBack s (by decide) (by decide)))

theorem moves_wakeStandby (hmode : s.mc.mode = .standby) : Moves wakeAreas s (wakeStandby s) := by
  have hlink : Moves wakeAreas s { s with lk := { s.lk with rx := .skip } } :=
    .of_move (.skips s (by decide))
  have h1 := hlink.trans (Moves.mono (bs := wakeAreas) (moves_wakeChannels (s := { s with lk := { s.lk with rx := .skip } }) hmode))
  have h2 := h1.trans (Moves.mono (bs := wakeAreas) (moves_wakePanel _))
  exact h2.trans (moves_ownerEvent [25] (by decide) (moves_fireHeld _))

/-- Outside STANDBY a wake source moves the MC alone. -/
theorem moves_wakePart (ha : .mc ∈ as) (hw : s.mc.mode = .standby → wakeAreas ⊆ as) : Moves as s (wakePart s) := by
  have hmc : [Area.mc] ⊆ as := by simpa using ha
  unfold wakePart
  split
  · exact (moves_wakeFromDoze s).mono hmc
  · exact (moves_wakeFromDoze s).mono hmc
  · rename_i hmode
    exact (moves_wakeStandby hmode).mono (hw hmode)

/-- STANDBY is entered by its own steps alone. -/
theorem Moves.mode_standby (h : Moves as s t) (hs : .sleep ∉ as) : t.mc.mode = .standby → s.mc.mode = .standby := by
  refine h.lift (R := fun s t => t.mc.mode = .standby → s.mc.mode = .standby) (fun _ h => h) (fun _ _ _ f g h => f (g h))
    fun s t m => ?_
  cases m with
  | awake => exact fun h => nomatch h
  | doze => exact fun h => nomatch h
  | sleep _ ha => exact absurd ha hs
  | mc m _ ha h1 h2 h3 h4 => exact fun h => h1 ▸ h
  | _ => simp

/-- The areas hold what the firing of entries moves, and in STANDBY what a wake moves. -/
structure Wakes (as : List Area) (s : State) : Prop where
  fire : fireAreas ⊆ as
  wake : s.mc.mode = .standby → wakeAreas ⊆ as
  awake : .sleep ∉ as

theorem Wakes.after (w : Wakes as s) (h : Moves as s t) : Wakes as t :=
  ⟨w.fire, fun hm => w.wake (h.mode_standby w.awake hm), w.awake⟩

theorem Wakes.subset (w : Wakes as s) {bs : List Area} (h : bs ⊆ fireAreas := by decide) : bs ⊆ as := fun _ m => w.fire (h m)

/-- A search for due entries moves what the entries' firing moves, and in STANDBY what the wake moves. -/
theorem moves_fireDue (w : Wakes as s) : Moves as s (fireDue s) := by
  unfold fireDue
  split
  · exact .refl
  · split
    · exact ((moves_wakeFromDoze s).mono w.subset).step (moves_fireAll _) w.fire
    · exact ((moves_wakeFromDoze s).mono w.subset).step (moves_fireAll _) w.fire
    · rename_i hmode
      exact (moves_wakeStandby hmode).mono (w.wake hmode)

/-! ### Entries -/

theorem moves_slotEvent (k : Fin 8) (e : Option SchedEntry) (s : State) : Moves [.su] s (ownerEvent [25] (setSlot k e) s) :=
  moves_ownerEvent [25] (by decide) (moves_setSlot k e s)

/-- A change, and a search for due entries behind it. -/
theorem moves_thenFireDue (w : Wakes as s) (h : Moves as s t) : Moves as s (fireDue t) := h.trans (moves_fireDue (w.after h))

theorem moves_addEntry (time rep state : Nat) (action : Option Action) (w : Wakes as s) (ha : .answer ∈ as) :
    Moves as s (addEntry time rep state action s) := by
  have hans : [Area.answer] ⊆ as := by simpa using ha
  unfold addEntry
  split
  · exact (moves_answer _ _ s).mono hans
  · split
    · exact (moves_answer _ _ s).mono hans
    split
    · exact (moves_answer _ _ s).mono hans
    split
    · exact (moves_answer _ _ s).mono hans
    · exact moves_thenFireDue w (((moves_slotEvent _ _ s).mono w.subset).step (moves_answer _ _ _) hans)

theorem moves_removeEntry (slot : Nat) (s : State) : Moves [.su, .answer] s (removeEntry slot s) := by
  unfold removeEntry
  split
  · split
    · exact (moves_answer _ _ s).mono
    · split
      · exact (moves_answer _ _ s).mono
      · exact (moves_setSlot _ _ s).mono.step (moves_answer _ _ _)
  · exact (moves_answer _ _ s).mono

theorem moves_prewarmPlace (time sp du : Nat) (w : Wakes as s) : Moves as s (prewarmPlace time sp du s) := by
  unfold prewarmPlace
  split
  · exact .refl
  · exact moves_thenFireDue w ((moves_slotEvent _ _ s).mono w.subset)

theorem moves_prewarmMove (time sp du : Nat) (w : Wakes as s) : Moves as s (prewarmMove time sp du s) := by
  unfold prewarmMove
  split
  · exact .refl
  · split
    · exact .refl
    · exact moves_thenFireDue w ((moves_slotEvent _ _ s).mono w.subset)

theorem moves_prewarmRemove (s : State) : Moves [.su] s (prewarmRemove s) := by
  unfold prewarmRemove
  split
  · exact .refl
  · exact moves_slotEvent _ _ s

theorem moves_passOver (s : State) (k : Fin 8) : Moves [.su] s (passOver s k) := by
  unfold passOver
  split
  · exact .refl
  · exact (moves_setSlot _ _ s).step (moves_scheduleNotice _ _ _ _ _)

theorem moves_passOverAll (s : State) : Moves [.su] s (passOverAll s) := moves_foldl moves_passOver _ s

theorem moves_pullEntries (s : State) : Moves [.su] s (pullEntries s) := moves_withSu _ s rfl rfl rfl

end Sys2Proof.Machine
end

section
/-! PROOFS. The Rest Monitor's operations as runs of moves. -/

namespace Sys2Proof.Machine

-- One proof after another: started together they wait for one another, each on a thread of its own.
set_option Elab.async false

variable {s t u : State} {as : List Area}

theorem moves_withRm (f : RestUnit → RestUnit) (s : State) (hlog : s.rm.log.length ≤ 8 → (f s.rm).log.length ≤ 8) :
    Moves [.rm] s (withRm f s) := .of_move (.rest (f s.rm) s (by decide) hlog)

/-- A change of the RM that keeps the length of its log. -/
theorem moves_withRm_same (f : RestUnit → RestUnit) (s : State) (hlog : (f s.rm).log.length = s.rm.log.length) :
    Moves [.rm] s (withRm f s) := moves_withRm f s fun h => hlog.le.trans h

theorem moves_restNotice (old : RestState) (cause : RestCause) (removed : Nat) (s : State) :
    Moves [] s (restNotice old cause removed s) := moves_post _ _ _ _ s

theorem moves_handResting (b : Bool) (s : State) : Moves [.lc, .pn] s (handResting b s) :=
  (moves_ownerEvent (as := [.lc, .pn]) [17] (by decide) (moves_lightsResting b s).mono).step
    (moves_ownerEvent [20, 22] (by decide) (moves_panelResting b _))

theorem moves_handHorizon (s : State) : Moves [.rm] s (handHorizon s) := by
  unfold handHorizon
  dsimp only
  split
  · exact .refl
  · exact (moves_withRm_same _ s rfl).step (moves_hand _ _)

/-! ### Driving and breaks -/

theorem moves_takeBreak (secs : Nat) (s : State) : Moves [.rm] s (takeBreak secs s) :=
  (moves_withRm_same _ s rfl).step (moves_post _ _ _ _ _)

theorem consumeOpen_length (r : RestUnit) : (consumeOpen r).log.length = r.log.length := by
  unfold consumeOpen
  split <;> simp

theorem moves_judgeBreak (s : State) : Moves [.rm] s (judgeBreak s) := by
  unfold judgeBreak
  dsimp only
  split
  · split
    · exact (moves_withRm_same _ s (consumeOpen_length _)).trans (moves_takeBreak _ _)
    · exact .refl
  · exact .refl

theorem moves_bankBreak (len : Nat) (c : Bool) (s : State) : Moves [.rm] s (bankBreak len c s) := by
  unfold bankBreak
  split
  · exact moves_withRm_same _ s rfl
  · exact .refl

theorem moves_closeStop (s : State) : Moves [.rm] s (closeStop s) := by
  unfold closeStop
  dsimp only
  split
  · exact ((moves_judgeBreak s).trans (moves_bankBreak _ _ _)).trans (moves_withRm_same _ _ rfl)
  · exact moves_judgeBreak s

theorem moves_driveLimit (s : State) : Moves [.rm] s (driveLimit s) :=
  ((moves_hand _ s).mono.step (moves_withRm_same _ _ rfl)).step (moves_chime _ _)

theorem moves_driveSoon (s : State) : Moves [.rm] s (driveSoon s) := (moves_hand _ s).mono.step (moves_chime _ _)

theorem moves_judgeDriving (s : State) : Moves [.rm] s (judgeDriving s) := by
  unfold judgeDriving
  extract_lets p s1
  have h1 : Moves [.rm] s s1 := by
    unfold s1
    split
    · exact (moves_withRm_same _ s rfl).trans (moves_driveSoon _)
    · exact .refl
  split
  · exact (h1.trans (moves_withRm_same _ _ rfl)).trans (moves_driveLimit _)
  · exact h1

theorem moves_driveSecond (s : State) : Moves [.rm] s (driveSecond s) := by
  unfold driveSecond
  split
  · exact (moves_withRm_same _ s rfl).trans (moves_judgeDriving _)
  · exact .refl

theorem moves_toDriving (old : RestState) (s : State) : Moves [.rm] s (toDriving old s) := by
  unfold toDriving
  extract_lets s1
  have h1 : Moves [.rm] s s1 := (moves_withRm_same _ s rfl).step (moves_restNotice _ _ _ _)
  split
  · exact h1.trans (moves_driveLimit _)
  · exact h1

theorem moves_newDuty (s : State) : Moves [.rm] s (newDuty s) := moves_withRm _ s fun _ => Nat.zero_le _

/-! ### Planned end, end-soon and pre-warm -/

theorem moves_raiseEndSoon (s : State) : Moves [.rm] s (raiseEndSoon s) :=
  (moves_withRm_same _ s rfl).step (moves_post _ _ _ _ _)

theorem moves_moveEndSoon (s : State) : Moves [.rm] s (moveEndSoon s) := by
  unfold moveEndSoon
  dsimp only
  split
  · split
    · exact .refl
    split
    · exact moves_withRm_same _ s rfl
    split
    · exact (moves_withRm_same _ s rfl).trans (moves_raiseEndSoon _)
    · exact moves_withRm_same _ s rfl
  · exact .refl

/-- The areas hold those of the entries' firing and the RM's own. -/
structure RestWakes (as : List Area) (s : State) : Prop extends Wakes as s where
  rm : .rm ∈ as

theorem RestWakes.after (w : RestWakes as s) (h : Moves as s t) : RestWakes as t := ⟨w.toWakes.after h, w.rm⟩

theorem RestWakes.sub (w : RestWakes as s) {bs : List Area} (h : bs ⊆ .rm :: fireAreas := by decide) : bs ⊆ as := fun _ m => by
  obtain rfl | hf := List.mem_cons.mp (h m)
  · exact w.rm
  · exact w.fire hf

theorem moves_placePrewarm (w : RestWakes as s) : Moves as s (placePrewarm s) := by
  unfold placePrewarm
  dsimp only
  split
  · have h := (moves_withRm_same (fun r => { r with placed := true }) s rfl).mono w.sub
    exact h.trans (moves_prewarmPlace _ _ _ (w.after h).toWakes)
  · exact .refl

theorem moves_movePrewarm (w : RestWakes as s) : Moves as s (movePrewarm s) := by
  unfold movePrewarm
  dsimp only
  split
  · exact moves_prewarmMove _ _ _ w.toWakes
  · exact .refl

theorem moves_dropPrewarm (s : State) : Moves [.rm, .su] s (dropPrewarm s) := by
  unfold dropPrewarm
  split
  · exact (moves_withRm_same _ s rfl).mono.step (moves_prewarmRemove _)
  · exact .refl

/-- What the planned end moves: the RM, the lights, the panel and their requests (R145). -/
def endAreas : List Area := [.rm, .lc, .pn, .asked]

theorem moves_plannedReached (s : State) : Moves endAreas s (plannedReached s) := by
  unfold plannedReached
  extract_lets s1 s2 s3 len s4
  have h1 : Moves endAreas s s1 := (moves_withRm_same _ s rfl).mono.step (moves_handResting _ _)
  have h2 : Moves endAreas s s2 := h1.step (moves_handHorizon _)
  have h3 : Moves endAreas s s3 := by
    unfold s3
    split
    · exact h2.step (moves_ownerEvent [17] (by decide) (moves_sceneRequest _ _))
    · exact h2
  exact ((h3.step (moves_chime 7 _)).step (moves_post _ _ _ _ _)).step (moves_restNotice _ _ _ _)

theorem moves_recompute (w : RestWakes as s) : Moves as s (recompute s) := by
  unfold recompute
  split
  · extract_lets e s1
    have h1 : Moves as s s1 := by
      unfold s1
      split
      · exact .refl
      · have h : Moves as s (moveEndSoon (withRm (fun r => { r with plannedEnd := some e }) s)) :=
          ((moves_withRm_same _ s rfl).trans (moves_moveEndSoon _)).mono w.sub
        exact h.trans (moves_movePrewarm (w.after h))
    split
    · exact h1.step (moves_plannedReached _) w.sub
    · exact h1.step (moves_handHorizon _) w.sub
  · exact .refl

/-! ### Opening and closing a rest -/

theorem dropSegment_length (log : List RestSeg) : (dropSegment log).length = log.length - 1 := by
  unfold dropSegment
  split
  · rename_i g h
    exact List.length_erase_of_mem (List.mem_of_find?_eq_some h)
  · exact List.length_tail

theorem moves_armEndSoon (s : State) : Moves [.rm] s (armEndSoon s) := by
  unfold armEndSoon
  extract_lets p t
  exact moves_withRm_same _ s rfl

theorem moves_restOpened (old : RestState) (cause : RestCause) (removed : Nat) (w : RestWakes as s) :
    Moves as s (restOpened old cause removed s) := by
  unfold restOpened
  extract_lets start s1 s2
  have h1 : Moves [.rm, .lc, .pn] s s1 := ((moves_withRm_same _ s rfl).trans (moves_armEndSoon _)).mono
  have h2 : Moves [.rm, .lc, .pn] s s2 := (h1.step (moves_withRm_same _ _ rfl)).step (moves_handResting _ _)
  have h3 : Moves as s (handHorizon s2) := (h2.step (moves_handHorizon _)).mono w.sub
  exact (h3.trans (moves_placePrewarm (w.after h3))).step (moves_restNotice _ _ _ _) (List.nil_subset _)

theorem moves_openRest (w : RestWakes as s) : Moves as s (openRest s) := by
  unfold openRest
  extract_lets full log
  have hlog : s.rm.log.length ≤ 8 → (log ++ [(⟨cabTime s, none, false, false⟩ : RestSeg)]).length ≤ 8 := by
    intro h
    unfold log full
    split
    · simp only [List.length_append, dropSegment_length, List.length_singleton]
      omega
    · rename_i hfull
      simp only [decide_eq_true_eq] at hfull
      simp only [List.length_append, List.length_singleton]
      omega
  have h := (moves_withRm (fun r => { r with state := .resting, log := log ++ [⟨cabTime s, none, false, false⟩] }) s hlog).mono w.sub
  exact h.trans (moves_restOpened _ _ _ (w.after h))

/-- What the close of a rest moves (R139). -/
def closeAreas : List Area := [.rm, .lc, .pn, .su]

theorem moves_closeRest (new : RestState) (short : Bool) (s0 : State) : Moves closeAreas s0 (closeRest new short s0) := by
  unfold closeRest
  extract_lets s cab len used s1 s2 s3
  have h0 : Moves closeAreas s0 s := (moves_judgeBreak s0).mono
  have h1 : Moves closeAreas s0 s1 :=
    (h0.step (moves_withRm_same (fun r => { r with log := r.log.map (closeSegment cab s.cfg.profile.tS1) }) s
      (by simp))).step (moves_bankBreak _ _ _)
  have h2 : Moves closeAreas s0 s2 := (h1.step (moves_dropPrewarm _)).step (moves_withRm_same _ _ rfl)
  have h3 : Moves closeAreas s0 s3 := by
    unfold s3
    split
    · exact (h2.step (moves_handResting _ _)).step (moves_handHorizon _)
    · exact h2.step (moves_handHorizon _)
  split
  · exact (h3.step (moves_post _ _ _ _ _)).step (moves_chime _ _)
  · exact h3

/-! ### Events -/

theorem moves_restMove (st : ContactState) (s0 : State) : Moves closeAreas s0 (restMove st s0) := by
  unfold restMove
  extract_lets s
  have h0 : Moves closeAreas s0 s := (moves_withRm_same _ s0 rfl).mono
  split
  · exact (h0.step (moves_withRm_same _ _ rfl)).step (moves_toDriving _ _)
  · exact h0.step (moves_withRm_same _ _ rfl)
  · split
    · exact ((h0.step (moves_newDuty _)).step (moves_closeStop _)).step (moves_toDriving _ _)
    · exact (h0.step (moves_closeStop _)).step (moves_toDriving _ _)
  · exact (h0.trans (moves_closeRest _ _ _)).step (moves_toDriving _ _)
  · exact ((h0.trans (moves_closeRest _ _ _)).step (moves_newDuty _)).step (moves_toDriving _ _)
  · exact h0.step (moves_withRm_same _ _ rfl)
  · exact h0

theorem moves_stopConfirmed (s : State) : Moves [.rm] s (stopConfirmed s) := by
  unfold stopConfirmed
  split
  · exact (moves_withRm_same _ s rfl).step (moves_restNotice _ _ _ _)
  · exact .refl

theorem moves_declareRest (w : RestWakes as s) : Moves as s (declareRest s).1 := by
  unfold declareRest
  split
  · have h := (moves_closeStop s).mono w.sub
    exact h.trans (moves_openRest (w.after h))
  · split
    · have h := (moves_withRm_same (fun r => { r with uncertain := true }) s rfl).mono w.sub
      exact h.trans (moves_openRest (w.after h))
    · exact .refl
  · exact .refl
  · exact .refl
  · exact .refl

theorem moves_endRest (s : State) : Moves closeAreas s (endRest s).1 := by
  unfold endRest
  split
  · exact ((moves_closeRest _ _ s).step (moves_withRm_same _ _ rfl)).step (moves_restNotice _ _ _ _)
  · exact ((moves_closeRest _ _ s).step (moves_withRm_same _ _ rfl)).step (moves_restNotice _ _ _ _)
  · exact .refl

theorem moves_restToggle (w : RestWakes as s) : Moves as s (restToggle s).1 := by
  unfold restToggle
  split
  · exact (moves_endRest s).mono w.sub
  · exact (moves_endRest s).mono w.sub
  · exact moves_declareRest w

theorem moves_restIgn (st : ContactState) (s : State) : Moves [.rm] s (restIgn st s) := moves_withRm_same _ s rfl

theorem moves_startRisk (vs : Int) (s : State) : Moves [.rm] s (startRisk vs s) :=
  ((moves_withRm_same _ s rfl).step (moves_post _ _ _ _ _)).step (moves_chime _ _)

theorem moves_restVs (s : State) : Moves [.rm] s (restVs s) := by
  unfold restVs
  split
  · split
    · exact .refl
    · split
      · split
        · split
          · exact .refl
          · exact moves_withRm_same _ s rfl
        · split
          · exact moves_startRisk _ s
          · exact .refl
      · exact moves_withRm_same _ s rfl
  · exact .refl

theorem moves_restVsLeft (s : State) : Moves [.rm] s (restVsLeft s) := moves_withRm_same _ s rfl

theorem moves_restTick (s : State) : Moves [.rm] s (restTick s) := by
  unfold restTick
  extract_lets s1 s2 s3
  have h1 : Moves [.rm] s s1 := (moves_driveSecond s).trans (moves_judgeBreak _)
  have h2 : Moves [.rm] s s2 := by
    unfold s2
    split
    · exact h1.trans (moves_handHorizon _)
    · exact h1
  have h3 : Moves [.rm] s s3 := by
    unfold s3
    split
    · split
      · exact h2.step (moves_raise _ _)
      · exact h2
    · exact h2
  split
  · split
    · exact h3.step (moves_raise _ _)
    · exact h3
  · exact h3

/-! ### The profile and the restore -/

theorem moves_judgeSplits (s : State) : Moves [.rm] s (judgeSplits s) := moves_withRm_same _ s (by simp)

theorem moves_lowerTotal (s : State) : Moves [.rm] s (lowerTotal s) := by
  unfold lowerTotal
  extract_lets p counts
  split
  · exact moves_takeBreak _ s
  · exact .refl

theorem moves_profileEffect (old : RestProfile) (w : RestWakes as s) : Moves as s (profileEffect old s) := by
  unfold profileEffect
  extract_lets p s1 s2 s3 s4 s5
  have h1 : Moves as s s1 := by
    unfold s1
    split
    · exact .refl
    · exact (moves_judgeSplits s).mono w.sub
  have h2 : Moves as s s2 := by
    unfold s2
    split
    · exact h1
    · exact h1.trans (moves_recompute (w.after h1))
  have h3 : Moves as s s3 := by
    unfold s3
    split
    · exact h2
    · exact h2.step (moves_moveEndSoon _) w.sub
  have h4 : Moves as s s4 := by
    unfold s4
    split
    · exact h3.step (moves_dropPrewarm _) w.sub
    split
    · split
      · exact h3.trans (moves_placePrewarm (w.after h3))
      split
      · exact h3
      · exact h3.trans (moves_movePrewarm (w.after h3))
    · exact h3
  split
  · exact h4
  · have h5 : Moves as s s5 := h4.step (moves_judgeBreak _) w.sub
    split
    · exact h5.step (moves_lowerTotal _) w.sub
    · exact h5

theorem moves_restoreContent (drive acc : Nat) (log : List RestSpan) (s : State) (hlog : log.length ≤ 8) :
    Moves [.rm] s (restoreContent drive acc log s) := moves_withRm _ s fun _ => by simpa [restoredLog] using hlog

theorem restoreOk_length {drive acc : Nat} {log : List RestSpan} (h : restoreOk s drive acc log = true) : log.length ≤ 8 := by
  simp only [restoreOk, Bool.and_eq_true, decide_eq_true_eq] at h
  exact h.1.1.2

theorem moves_restoreEffect (w : RestWakes as s) : Moves as s (restoreEffect s) := by
  unfold restoreEffect
  extract_lets p s0 s1
  have h0 : Moves as s s0 := (moves_withRm_same _ s rfl).mono w.sub
  split
  · have hstate : Moves as s (withRm (fun r => { r with state := .resting, stopSeg := none }) s0) :=
      h0.step (moves_withRm_same _ _ rfl) w.sub
    have h1 : Moves as s s1 := hstate.trans (moves_restOpened _ _ _ (w.after hstate))
    split
    · split
      · exact h1.step (moves_plannedReached _) w.sub
      · exact h1
    · exact h1
  · exact (h0.step (moves_withRm_same _ _ rfl) w.sub).step (moves_restNotice _ _ _ _) (List.nil_subset _)

/-! ### The cab clock -/

theorem moves_shiftRest (d : Int) (s : State) : Moves [.rm] s (withRm (shiftRest d) s) :=
  moves_withRm_same _ s (by simp [shiftRest])

theorem moves_withSu_clock (f : ScheduleUnit → ScheduleUnit) (s : State) : Moves [.clock] s (withSu f s) :=
  .of_move (.clock (f s.su) s.rev s (by decide) fun _ h => h)

theorem moves_shiftClock (time : Nat) (s : State) : Moves [.rm, .su, .clock] s (shiftClock time s) := by
  unfold shiftClock
  extract_lets d s1 s2
  have h1 : Moves [.rm, .su, .clock] s s1 := (moves_shiftRest d s).mono.step (moves_withSu_clock _ _)
  have h2 : Moves [.rm, .su, .clock] s s2 := by
    unfold s2
    split
    · exact h1
    · exact h1.step (moves_passOverAll _)
  split
  · exact h2.step (moves_pullEntries _)
  · exact h2

/-- An update of revisions with CLOCK's among them. -/
theorem moves_advance_clock (which : List (Fin 26)) (s t : State) : Moves [.clock] t (advance which s t) := by
  refine .of_move (.clock t.su _ t (by decide) fun i hi => ?_)
  rw [tget_foldl_tset]
  split_ifs
  · obtain h | ⟨-, h⟩ := revisionAfter_cases s t i <;> rw [h]
    · exact hi
    · exact Nat.mod_lt _ (by decide)
  · exact hi

theorem moves_moveClock (time : Nat) (w : RestWakes as s) (hc : .clock ∈ as) : Moves as s (moveClock time s) := by
  have hclock : [Area.clock] ⊆ as := by simpa using hc
  have hshift : [Area.rm, .su, .clock] ⊆ as := by
    intro a ha
    obtain h | h : a ∈ [Area.rm, .su] ∨ a ∈ [Area.clock] := by simpa [or_assoc] using ha
    · exact w.sub (by decide) h
    · exact hclock h
  exact moves_thenFireDue w.toWakes (((moves_shiftClock time s).mono hshift).step (moves_advance_clock _ _ _) hclock)

theorem moves_setClock (time : Nat) (w : RestWakes as s) (hc : .clock ∈ as) (ha : .answer ∈ as) : Moves as s (setClock time s) := by
  have hans : [Area.answer] ⊆ as := by simpa using ha
  unfold setClock
  split
  · exact (moves_answer _ _ s).mono hans
  · exact (moves_moveClock time w hc).step (moves_answer _ _ _) hans

end Sys2Proof.Machine
end

section
/-! PROOFS. The Charge Counter's operations as runs of moves. -/

namespace Sys2Proof.Machine

-- One proof after another: started together they wait for one another, each on a thread of its own.
set_option Elab.async false

variable {s t u : State} {as : List Area}

/-- A change of the CC that leaves the level and the budget. -/
theorem moves_withCc (f : ChargeUnit → ChargeUnit) (s : State) (hl : (f s.cc).level = s.cc.level) (hb : (f s.cc).budget = s.cc.budget)
    (h : chargeUnitSound s.cfg.battery.cap s.cc → chargeUnitSound s.cfg.battery.cap (f s.cc)) : Moves [.cc] s (withCc f s) :=
  .of_move (.charge (f s.cc) s (by decide) hl hb (.inr h))

theorem chargeUnitSound_congr {cap : Nat} {u v : ChargeUnit} (hc : v.c = u.c) (hr : v.residue = u.residue) (hw : v.window = u.window)
    (hrelief : v.relief = u.relief ∨ v.relief = 0) : chargeUnitSound cap u → chargeUnitSound cap v := by
  rintro ⟨h1, h2, h3, h4, h5⟩
  refine ⟨hc ▸ h1, hr ▸ h2, hr ▸ h3, hw ▸ h4, ?_⟩
  obtain h | h := hrelief <;> rw [h]
  · exact h5
  · decide

/-- A change of the CC that leaves C, the residue, the window, the level and the budget, and the relief count or clears it. -/
theorem moves_withCc_same (f : ChargeUnit → ChargeUnit) (s : State) (hl : (f s.cc).level = s.cc.level)
    (hb : (f s.cc).budget = s.cc.budget) (hc : (f s.cc).c = s.cc.c) (hr : (f s.cc).residue = s.cc.residue)
    (hw : (f s.cc).window = s.cc.window) (hrelief : (f s.cc).relief = s.cc.relief ∨ (f s.cc).relief = 0) :
    Moves [.cc] s (withCc f s) := moves_withCc f s hl hb (chargeUnitSound_congr hc hr hw hrelief)

theorem moves_updateBudget (s : State) : Moves [.cc] s (updateBudget s) := .of_move (.budget s (by decide))

theorem moves_moveLevel (new : ShedLevel) (cause : LevelCause) (s : State) : Moves [.cc] s (moveLevel new cause s) :=
  .of_move (.level new cause s (by decide))

/-- The relief count and its ceiling cleared, as at a raise and at a level held. -/
theorem moves_clearRelief (s : State) : Moves [.cc] s (withCc (fun c => { c with relief := 0, ceiling := none }) s) :=
  moves_withCc_same _ s rfl rfl rfl rfl rfl (.inr rfl)

/-! ### Evaluation -/

theorem moves_raiseNow (s : State) : Moves [.cc] s (raiseNow s) := (moves_clearRelief s).trans (moves_moveLevel _ _ _)

theorem moves_raiseCheck (s : State) : Moves [.cc] s (raiseCheck s) := by
  unfold raiseCheck
  split
  · exact moves_raiseNow s
  · exact .refl

theorem moves_reckon (s : State) : Moves [.cc] s (reckon s) := by
  unfold reckon
  extract_lets i e
  exact moves_withCc_same _ s rfl rfl rfl rfl rfl (.inl rfl)

theorem moves_evaluateRaise (s : State) : Moves [.cc] s (evaluateRaise s) := by
  unfold evaluateRaise
  extract_lets s1
  split
  · exact (moves_reckon s).trans (moves_raiseNow _)
  · exact (moves_reckon s).trans (moves_updateBudget _)

theorem moves_relieve (s : State) : Moves [.cc] s (relieve s) := by
  unfold relieve
  extract_lets t top
  split
  · exact (moves_clearRelief s).trans (moves_updateBudget _)
  split
  · exact (moves_clearRelief s).trans (moves_moveLevel _ _ _)
  · rename_i hcount
    refine (moves_withCc _ s rfl rfl ?_).trans (moves_updateBudget _)
    rintro ⟨h1, h2, h3, h4, -⟩
    exact ⟨h1, h2, h3, h4, by change s.cc.relief + 1 < 5; omega⟩

theorem moves_evaluateFull (s : State) : Moves [.cc] s (evaluateFull s) := by
  unfold evaluateFull
  extract_lets s1
  split
  · exact (moves_reckon s).trans (moves_updateBudget _)
  split
  · exact (moves_reckon s).trans (moves_raiseNow _)
  · exact (moves_reckon s).trans (moves_relieve _)

/-! ### Counting -/

/-- A residue of 0 is above minus one mAh. -/
theorem neg_residue : (-360000 : Int) < 0 := by decide

/-- A residue of 0 is below one mAh. -/
theorem residue_lt : (0 : Int) < 360000 := by decide

/-- Whole mAh moved out of a residue leave C within Cap and the residue below one mAh (R24). -/
theorem moveCharge_bounds (cap c : Nat) (r : Int) :
    (moveCharge cap c r).1 ≤ cap ∧ -360000 < (moveCharge cap c r).2 ∧ (moveCharge cap c r).2 < 360000 := by
  have hdiv : Int.tdiv r 360000 * 360000 + Int.tmod r 360000 = r := Int.tdiv_mul_add_tmod r 360000
  have hlt : Int.tmod r 360000 < 360000 := Int.tmod_lt_of_pos r (by decide)
  have hgt : -360000 < Int.tmod r 360000 := by
    have := Int.lt_tmod_of_pos r (show (0 : Int) < 360000 by decide)
    omega
  unfold moveCharge
  dsimp only
  split_ifs
  · exact ⟨le_rfl, neg_residue, residue_lt⟩
  · exact ⟨Nat.zero_le _, neg_residue, residue_lt⟩
  · exact ⟨by omega, by omega, by omega⟩

theorem moves_countCharge (i : Int) (s : State) : Moves [.cc] s (countCharge i s) := by
  unfold countCharge
  split
  · exact .refl
  · extract_lets b m s1
    have h1 : Moves [.cc] s s1 := moves_withCc _ s rfl rfl fun ⟨_, _, _, hw, hr⟩ => by
      obtain ⟨h1, h2, h3⟩ := moveCharge_bounds b.cap _
        (s.cc.residue + contribution b.eta (intervalFactor s.mu.scanMode) i)
      exact ⟨fun c hc => Option.some.inj hc ▸ h1, h2, h3, hw, hr⟩
    split
    · exact h1.trans (moves_raiseCheck _)
    · exact h1

/-! ### Setting the charge -/

theorem moves_syncNotice (k : SyncKind) (s : State) : Moves [] s (syncNotice k s) := moves_post _ _ _ _ s

/-- The interpolation stays within the table's points, which lie 125 per mille apart (R25). -/
theorem ocvWalk_le (v i : Nat) (xs : List Nat) : ocvWalk v i xs ≤ 125 * (i + (xs.length - 1)) := by
  induction xs generalizing i with
  | nil => exact Nat.mul_le_mul_left _ (Nat.le_add_right _ _)
  | cons a xs ih =>
    cases xs with
    | nil => exact Nat.mul_le_mul_left _ (Nat.le_add_right _ _)
    | cons b rest =>
      unfold ocvWalk
      simp only [List.length_cons, Nat.add_sub_cancel] at ih ⊢
      split_ifs with hv
      · have hpart : (v - a) * 125 / (b - a) ≤ 125 := by
          calc (v - a) * 125 / (b - a) ≤ (b - a) * 125 / (b - a) := Nat.div_le_div_right (Nat.mul_le_mul_right _ (by omega))
            _ ≤ 125 := Nat.div_le_of_le_mul le_rfl
        omega
      · have := ih (i + 1)
        omega

theorem ocvLookup_le (b : Battery) (vh : Int) : ocvLookup b vh ≤ 1000 := by
  unfold ocvLookup
  split_ifs
  · exact Nat.zero_le _
  · exact le_rfl
  · simpa using ocvWalk_le vh.toNat 0 b.ocv.toList

/-- The charge that the table gives lies within Cap (R25). -/
theorem chargeFromOcv_le (b : Battery) (vh : Int) : chargeFromOcv b (ocvLookup b vh) ≤ b.cap := by
  unfold chargeFromOcv
  calc ocvLookup b vh * b.cap / 1000 ≤ 1000 * b.cap / 1000 :=
        Nat.div_le_div_right (Nat.mul_le_mul_right _ (ocvLookup_le b vh))
    _ = b.cap := Nat.mul_div_cancel_left _ (by decide)

theorem moves_setFromOcv (vh : Int) (f : ChargeUnit → ChargeUnit) (s : State) (hl : ∀ u, (f u).level = u.level)
    (hb : ∀ u, (f u).budget = u.budget) (hs : ∀ cap u, chargeUnitSound cap u → chargeUnitSound cap (f u)) :
    Moves [.cc] s (withCc f (setFromOcv vh s)) := by
  refine moves_withCc (fun c => f { c with
    c := some (chargeFromOcv s.cfg.battery (ocvLookup s.cfg.battery vh)), residue := 0, source := .ocv }) s (hl _) (hb _) ?_
  rintro ⟨-, -, -, hw, hr⟩
  exact hs _ _ ⟨fun c hc => Option.some.inj hc ▸ chargeFromOcv_le _ _, neg_residue, residue_lt, hw, hr⟩

theorem moves_startEstimate (vh : Int) (s : State) : Moves [.cc] s (startEstimate vh s) := by
  unfold startEstimate
  split
  · exact ((moves_setFromOcv vh (fun c => { c with estimated := true, starting := false }) s (fun _ => rfl) (fun _ => rfl)
      fun _ _ h => h).trans (moves_evaluateRaise _)).step (moves_syncNotice _ _)
  · exact .refl

theorem moves_fullSync (i : Option Int) (s : State) : Moves [.cc] s (fullSync i s) := by
  unfold fullSync
  split
  · split
    · exact moves_withCc_same _ s rfl rfl rfl rfl rfl (.inl rfl)
    · split
      · refine ((moves_withCc _ s rfl rfl ?_).trans (moves_evaluateRaise _)).step (moves_syncNotice _ _)
        rintro ⟨-, -, -, hw, hr⟩
        exact ⟨fun c hc => (Option.some.inj hc).ge, neg_residue, residue_lt, hw, hr⟩
      · exact .refl
  · exact moves_withCc_same _ s rfl rfl rfl rfl rfl (.inl rfl)

theorem moves_restHoldStep (i : Int) (s : State) : Moves [.cc] s (restHoldStep i s) := by
  unfold restHoldStep
  split
  · split
    · exact moves_withCc_same _ s rfl rfl rfl rfl rfl (.inl rfl)
    · exact .refl
  · exact moves_withCc_same _ s rfl rfl rfl rfl rfl (.inl rfl)

theorem moves_chargeIh (s : State) : Moves [.cc] s (chargeIh s) := by
  unfold chargeIh
  dsimp only
  split
  · exact (((moves_countCharge _ s).trans (moves_withCc_same _ _ rfl rfl rfl rfl rfl (.inl rfl))).trans (moves_fullSync _ _)).trans
      (moves_restHoldStep _ _)
  · exact moves_fullSync _ s

/-! ### Voltage guard -/

theorem moves_guardStep (vh : Int) (s : State) : Moves [.cc] s (guardStep vh s) :=
  (moves_withCc_same _ s rfl rfl rfl rfl rfl (.inl rfl)).trans (moves_raiseCheck _)

theorem moves_chargeVh (s : State) : Moves [.cc] s (chargeVh s) := by
  unfold chargeVh
  split
  · exact (moves_guardStep _ s).trans (moves_startEstimate _ _)
  · exact .refl

theorem moves_chargeConversion (ch : Channel) (s : State) : Moves [.cc] s (chargeConversion ch s) := by
  unfold chargeConversion
  split
  · exact moves_chargeVh s
  · exact moves_chargeIh s
  · exact .refl

/-! ### Suspect inputs -/

theorem moves_sensorHoldOn (s : State) : Moves [.cc] s (sensorHoldOn s) := by
  unfold sensorHoldOn
  extract_lets s1
  have h1 : Moves [.cc] s s1 := moves_withCc_same _ s rfl rfl rfl rfl rfl (.inr rfl)
  split
  · exact h1.trans (moves_updateBudget _)
  · exact h1.trans (moves_moveLevel _ _ _)

theorem moves_chargeLeft (ch : Channel) (s : State) : Moves [.cc] s (chargeLeft ch s) := by
  unfold chargeLeft
  split
  · extract_lets s1
    have h1 : Moves [.cc] s s1 := moves_withCc_same _ s rfl rfl rfl rfl rfl (.inl rfl)
    split
    · exact h1
    · exact h1.trans (moves_sensorHoldOn _)
  · extract_lets s1
    have h1 : Moves [.cc] s s1 := moves_withCc_same _ s rfl rfl rfl rfl rfl (.inl rfl)
    split
    · exact h1
    · exact h1.trans (moves_sensorHoldOn _)
  · exact .refl

theorem moves_chargeRegained (ch : Channel) (s : State) : Moves [.cc] s (chargeRegained ch s) := by
  unfold chargeRegained
  split
  · exact moves_withCc_same _ s rfl rfl rfl rfl rfl (.inl rfl)
  · exact moves_withCc_same _ s rfl rfl rfl rfl rfl (.inl rfl)
  · exact .refl

/-! ### Minute end and horizon -/

theorem moves_closeMinute (s : State) : Moves [.cc] s (closeMinute s) := by
  unfold closeMinute
  extract_lets u w
  refine moves_withCc _ s rfl rfl ?_
  rintro ⟨h1, h2, h3, hw, h5⟩
  refine ⟨h1, h2, h3, ?_, h5⟩
  have hlen : w.length ≤ 17 := by
    unfold w
    split
    · simpa [u] using Nat.lt_succ_of_le hw
    · exact hw.trans (by decide)
  change (if 16 < w.length then w.tail else w).length ≤ 16
  split
  · rw [List.length_tail]; omega
  · omega

theorem moves_fallbackLookup (s : State) : Moves [.cc] s (fallbackLookup s) := by
  unfold fallbackLookup
  split
  · split
    · exact .refl
    · exact moves_setFromOcv _ (fun c => { c with estimated := true, starting := false }) s (fun _ => rfl) (fun _ => rfl)
        fun _ _ h => h
  · exact .refl

theorem moves_ocvResync (s : State) : Moves [.cc] s (ocvResync s) := by
  unfold ocvResync
  split
  · dsimp only
    split
    · exact (moves_setFromOcv _ (fun c => c) s (fun _ => rfl) (fun _ => rfl) fun _ _ h => h).step (moves_syncNotice _ _)
    · exact .refl
  · exact .refl

theorem moves_minuteEnd (s : State) : Moves [.cc] s (minuteEnd s) :=
  (((moves_closeMinute s).trans (moves_fallbackLookup _)).trans (moves_ocvResync _)).trans (moves_evaluateFull _)

theorem moves_takeHorizon (minutes : Nat) (s : State) : Moves [.cc] s (takeHorizon minutes s) :=
  (moves_withCc_same _ s rfl rfl rfl rfl rfl (.inl rfl)).trans (moves_evaluateFull _)

/-! ### BATTERY -/

theorem moves_takeDefault (s : State) : Moves [.cc, .rm] s (takeDefault s) := by
  unfold takeDefault
  extract_lets s1
  split
  · exact (moves_handHorizon s).mono
  · exact (moves_handHorizon s).mono.step (moves_withCc_same _ _ rfl rfl rfl rfl rfl (.inl rfl))

/-- C taken over to a changed capacity (R22). -/
def rescaleCharge (old : Battery) (s : State) : State :=
  match s.cc.c with
  | some c =>
    if old.cap = s.cfg.battery.cap then s
    else syncNotice .capacity
      (withCc (fun u => { u with c := some (c * s.cfg.battery.cap / old.cap), residue := 0, estimated := true }) s)
  | none => s

/-- What the CC does at a change of BATTERY once C fits the capacity. -/
def batteryFollows (old b : Battery) (s1 : State) : State :=
  let s2 := if old.vFull = b.vFull ∧ old.iTail = b.iTail then s1 else withCc (fun u => { u with fullHold := none }) s1
  let s3 := if old.vLow = b.vLow ∧ old.vCut = b.vCut then s2
    else withCc (fun u => { u with low := dropHolds u.low, cut := dropHolds u.cut }) s2
  evaluateRaise (if old.horizon = b.horizon then s3 else takeDefault s3)

theorem batteryEffect_eq (old : Battery) (s : State) : batteryEffect old s = batteryFollows old s.cfg.battery (rescaleCharge old s) :=
  rfl

theorem moves_rescaleCharge (old : Battery) (s : State) : Moves [.cc, .poked 3] s (rescaleCharge old s) := by
  unfold rescaleCharge
  split
  · rename_i c _
    split
    · exact .refl
    · have h : Moves [.cc, .poked 3] s (withCc (fun u => { u with
          c := some (c * s.cfg.battery.cap / old.cap), residue := 0, estimated := true }) s) :=
        .of_move (.charge _ s (by decide) rfl rfl (.inl (by decide)))
      exact h.step (moves_syncNotice _ _)
  · exact .refl

theorem moves_batteryFollows (old b : Battery) (s : State) : Moves [.cc, .rm] s (batteryFollows old b s) := by
  unfold batteryFollows
  extract_lets s2 s3
  have h2 : Moves [.cc, .rm] s s2 := by
    unfold s2
    split
    · exact .refl
    · exact (moves_withCc_same _ s rfl rfl rfl rfl rfl (.inl rfl)).mono
  have h3 : Moves [.cc, .rm] s s3 := by
    unfold s3
    split
    · exact h2
    · exact h2.step (moves_withCc_same _ _ rfl rfl rfl rfl rfl (.inl rfl))
  split
  · exact h3.step (moves_evaluateRaise _)
  · exact (h3.trans (moves_takeDefault _)).step (moves_evaluateRaise _)

theorem moves_batteryEffect (old : Battery) (s : State) : Moves [.cc, .rm, .poked 3] s (batteryEffect old s) := by
  rw [batteryEffect_eq]
  exact (moves_rescaleCharge old s).mono.step (moves_batteryFollows _ _ _)

/-- A charge within the old capacity is within the new one once it is taken over (R22). -/
theorem rescaleCharge_sound (old : Battery) (h : chargeUnitSound old.cap s.cc) : chargeSound (rescaleCharge old s) := by
  rw [chargeSound_iff]
  obtain ⟨h1, h2, h3, h4, h5⟩ := h
  unfold rescaleCharge
  split
  · rename_i c hc
    split
    · rename_i hcap
      exact ⟨hcap ▸ h1, h2, h3, h4, h5⟩
    · refine ⟨fun d hd => ?_, neg_residue, residue_lt, h4, h5⟩
      have hle := h1 c hc
      rw [← Option.some.inj hd]
      change c * s.cfg.battery.cap / old.cap ≤ s.cfg.battery.cap
      calc c * s.cfg.battery.cap / old.cap ≤ old.cap * s.cfg.battery.cap / old.cap :=
            Nat.div_le_div_right (Nat.mul_le_mul_right _ hle)
        _ ≤ s.cfg.battery.cap := Nat.div_le_of_le_mul le_rfl
  · rename_i hc
    exact ⟨fun d hd => absurd (hc ▸ hd) (by simp), h2, h3, h4, h5⟩

theorem batteryEffect_chargeSound (old : Battery) (h : chargeUnitSound old.cap s.cc) : chargeSound (batteryEffect old s) := by
  rw [batteryEffect_eq]
  exact (moves_batteryFollows old _ _).keeps (fun _ _ m => m.chargeSound (by decide)) (rescaleCharge_sound old h)

end Sys2Proof.Machine
end

section
/-! PROOFS. The Grant Arbiter's operations as runs of moves. -/

namespace Sys2Proof.Machine

-- One proof after another: started together they wait for one another, each on a thread of its own.
set_option Elab.async false

variable {s t u : State} {as : List Area}

/-! ### What no move but the clock's changes -/

/-- A run that does not set the clock leaves the content of CLOCK (R164). -/
theorem Moves.clockView (h : Moves as s t) (hc : .clock ∉ as) : revisionView s 2 = revisionView t 2 := by
  refine h.lift (R := fun s t => revisionView s 2 = revisionView t 2) (fun _ => rfl) (fun _ _ _ => Eq.trans) fun s t m => ?_
  have hsu : t.su.offset = s.su.offset ∧ t.su.unset = s.su.unset ∧ t.su.lastDelta = s.su.lastDelta := by
    cases m with
    | clock u v _ ha => exact absurd ha hc
    | sched u _ ha h1 h2 h3 => exact ⟨h1, h2, h3⟩
    | poke r ws =>
      obtain ⟨v, e⟩ := (pokeAll_poked r ws s).su
      rw [e]
      exact ⟨rfl, rfl, rfl⟩
    | _ => simp
  simp only [revisionView, if_true, hsu]

/-! ### The pass and the wake it may cause -/

/-- The areas hold the GA's, and in STANDBY what a wake moves. -/
structure PassWakes (as : List Area) (s : State) : Prop where
  ga : .ga ∈ as
  wake : s.mc.mode = .standby → wakeAreas ⊆ as
  awake : .sleep ∉ as
  clock : .clock ∉ as

theorem PassWakes.after (w : PassWakes as s) (h : Moves as s t) : PassWakes as t :=
  ⟨w.ga, fun hm => w.wake (h.mode_standby w.awake hm), w.awake, w.clock⟩

theorem PassWakes.sub (w : PassWakes as s) : [Area.ga] ⊆ as := by simpa using w.ga

/-- A pass behind a run from the event's start, with the wake it may cause (R49). -/
theorem moves_pass {s0 : State} (w : PassWakes as s0) (h : Moves as s0 (passTable s)) : Moves as s0 (pass s0 s) := by
  unfold pass
  generalize passTable s = s1 at h ⊢
  dsimp only
  split
  · rename_i hwake
    have hadv : Moves as s0 (advance allRecords s0 s1) :=
      h.step (moves_advance allRecords s0 s1 (.inr (h.clockView w.clock))) (List.nil_subset _)
    exact hadv.step (moves_wakeStandby hwake.1) (w.wake (h.mode_standby w.awake hwake.1))
  · exact h

/-- A change of the table and the pass that follows it. -/
theorem moves_passFrom {s0 : State} (w : PassWakes as s0) (h : Moves as s0 s) (g : GrantUnit)
    (hl : listsSound s → listsSound { s with ga := g }) (hon : ∀ k, (tget g.sockets k).on = (tget s.ga.sockets k).on) :
    Moves as s0 (pass s0 { s with ga := g }) :=
  moves_pass w (h.step (.of_move (.passesOn g s (by decide) hl hon)) w.sub)

/-- A consumer's entry changed but for its class override, and the pass that follows. -/
theorem moves_passFromEntry {s0 : State} (w : PassWakes as s0) (h : Moves as s0 s) (c : Consumer) (f : ConsumerEntry → ConsumerEntry)
    (hf : ∀ e, (f e).boosted = e.boosted) : Moves as s0 (pass s0 (withEntry c f s)) :=
  moves_passFrom w h _ (listsSound_withEntry c f hf) fun _ => rfl

/-! ### The order lists -/

/-- A consumer moved to the end of its own class's list (R42). -/
theorem listsSound_moveToEnd (c : Consumer) : listsSound s → listsSound (moveToEnd c (effectiveClass s c) s) := by
  intro h k
  obtain ⟨hnodup, hmem⟩ := h k
  change (tget (tset s.ga.lists (effectiveClass s c) _) k).Nodup ∧ ∀ d, d ∈ tget (tset s.ga.lists (effectiveClass s c) _) k ↔ _
  rw [tget_tset]
  split_ifs with hk
  · subst hk
    refine ⟨List.Nodup.append (hnodup.erase c) (List.nodup_singleton c) ?_, fun d => ?_⟩
    · simpa using fun hin => hnodup.not_mem_erase hin
    · rw [List.mem_append, List.mem_singleton, hnodup.mem_erase_iff]
      change _ ↔ effectiveClass s d = effectiveClass s c
      rw [← hmem d]
      constructor
      · rintro (⟨-, hd⟩ | rfl)
        · exact hd
        · exact (hmem d).2 rfl
      · intro hd
        by_cases hdc : d = c
        · exact .inr hdc
        · exact .inl ⟨hdc, hd⟩
  · exact ⟨hnodup, hmem⟩

/-- A change of class of one consumer with the lists that follow it (R41): every other consumer's class stays. -/
theorem listsSound_relist {c : Consumer} {old : Fin 8} (hold : effectiveClass s c = old) (hlists : t.ga.lists = s.ga.lists)
    (hother : ∀ d, d ≠ c → effectiveClass t d = effectiveClass s d) :
    listsSound s → listsSound (relist c old (effectiveClass t c) t) := by
  intro h
  unfold relist
  split_ifs with hsame
  · refine listsSound_congr hlists (fun d => ?_) h
    by_cases hd : d = c
    · rw [hd, ← hsame, hold]
    · exact hother d hd
  · intro k
    obtain ⟨hnodup, hmem⟩ := h k
    have hclass : ∀ d, effectiveClass (moveToEnd c (effectiveClass t c)
        (withGa (fun g => { g with lists := tset g.lists old ((tget g.lists old).erase c) }) t)) d = effectiveClass t d := fun _ => rfl
    have hlist : tget (moveToEnd c (effectiveClass t c)
          (withGa (fun g => { g with lists := tset g.lists old ((tget g.lists old).erase c) }) t)).ga.lists k =
        if effectiveClass t c = k then (tget s.ga.lists k).erase c ++ [c]
        else if old = k then (tget s.ga.lists k).erase c else tget s.ga.lists k := by
      change tget (tset (tset t.ga.lists old _) (effectiveClass t c) ((tget (tset t.ga.lists old _) (effectiveClass t c)).erase c ++ [c])) k = _
      rw [tget_tset, tget_tset, tget_tset, hlists, if_neg hsame]
      split_ifs with h1 h2
      · rw [h1]
      · rw [h2]
      · rfl
    simp only [hclass, hlist]
    split_ifs with h1 h2
    · subst h1
      have hc : c ∉ tget s.ga.lists (effectiveClass t c) := fun hin => hsame (hold ▸ (hmem c).1 hin)
      rw [List.erase_of_not_mem hc]
      refine ⟨List.Nodup.append hnodup (List.nodup_singleton c) (by simpa using hc), fun d => ?_⟩
      rw [List.mem_append, List.mem_singleton, hmem d]
      by_cases hd : d = c
      · simp [hd]
      · simp [hd, hother d hd]
    · subst h2
      refine ⟨hnodup.erase c, fun d => ?_⟩
      rw [hnodup.mem_erase_iff, hmem d]
      by_cases hd : d = c
      · simp [hd, Ne.symm hsame]
      · simp [hd, hother d hd]
    · refine ⟨hnodup, fun d => ?_⟩
      rw [hmem d]
      by_cases hd : d = c
      · subst hd
        exact ⟨fun e => absurd (hold ▸ e) h2, fun e => absurd e h1⟩
      · rw [hother d hd]

/-! ### Requests -/

theorem moves_setRequest (c : Consumer) (r : Request) (w : PassWakes as s) : Moves as s (setRequest c r s) :=
  moves_passFromEntry w .refl c _ fun _ => rfl

theorem moves_withdraw (c : Consumer) (w : PassWakes as s) : Moves as s (withdraw c s) := by
  unfold withdraw
  extract_lets e k released s1
  have hs1 : ∃ g, s1 = { s with ga := g } ∧ (listsSound s → listsSound { s with ga := g }) ∧ g.sockets = s.ga.sockets := by
    unfold s1
    split
    · exact ⟨_, rfl, listsSound_moveToEnd c, rfl⟩
    · exact ⟨s.ga, rfl, id, rfl⟩
  obtain ⟨g, hs, hl, hon⟩ := hs1
  rw [hs]
  exact moves_passFrom w .refl _ (fun h => listsSound_withEntry c (fun e => { e with request := none }) (fun _ => rfl) (hl h))
    fun k => by rw [← hon]

theorem relist_eq (c : Consumer) (old new : Fin 8) (s : State) : ∃ v, relist c old new s = { s with ga := { s.ga with lists := v } } := by
  unfold relist
  split
  · exact ⟨s.ga.lists, rfl⟩
  · exact ⟨_, rfl⟩

theorem entryOf_withEntry (c d : Consumer) (f : ConsumerEntry → ConsumerEntry) (s : State) :
    entryOf (withEntry c f s) d = if c = d then f (entryOf s c) else entryOf s d := by
  unfold entryOf withEntry withGa
  dsimp only
  rw [tget_tset]
  by_cases h : c = d
  · simp [h]
  · rw [if_neg h, if_neg fun e => h (consIx_inj e)]

/-- HEAT's class override with the lists that follow it (R41). -/
theorem listsSound_override (on : Bool) : listsSound s → listsSound (relist .heat (effectiveClass s .heat)
    (effectiveClass (withEntry .heat (fun e => { e with boosted := on }) s) .heat)
    (withEntry .heat (fun e => { e with boosted := on }) s)) := by
  refine listsSound_relist rfl rfl fun d hd => effectiveClass_congr d ?_ rfl
  rw [entryOf_withEntry, if_neg (Ne.symm hd)]

theorem moves_setOverride (on : Bool) (w : PassWakes as s) : Moves as s (setOverride on s) := by
  unfold setOverride
  dsimp only
  have hl := listsSound_override (s := s) on
  obtain ⟨v, e⟩ := relist_eq .heat (effectiveClass s .heat)
    (effectiveClass (withEntry .heat (fun e => { e with boosted := on }) s) .heat) (withEntry .heat (fun e => { e with boosted := on }) s)
  rw [e] at hl ⊢
  exact moves_passFrom w .refl _ hl fun _ => rfl

theorem moves_budgetReport (r : BudgetReport) (w : PassWakes as s) : Moves as s (pass s (withGa (fun g => { g with report := r }) s)) :=
  moves_passFrom w .refl _ (listsSound_congr rfl fun _ => rfl) fun _ => rfl

/-! ### Trips and demands: several changes of the table before one pass -/

/-- Whether a consumer is a light group. -/
def lightsConsumer : Consumer → Bool
  | .bunk | .cab => true
  | _ => false

/-- A change of the table that leaves the order lists, the class overrides and the sockets' switches, with what is handed and what
the owners have placed. -/
structure TableStep (s t : State) : Prop where
  eq : ∃ g a hs, t = { s with ga := g, asked := a, handed := s.handed ++ hs }
  lists : t.ga.lists = s.ga.lists
  boosted : ∀ c, (entryOf t c).boosted = (entryOf s c).boosted
  on : ∀ k, (tget t.ga.sockets k).on = (tget s.ga.sockets k).on
  lights : ∀ g, tget t.asked (consIx (groupConsumer g)) = tget s.asked (consIx (groupConsumer g))

namespace TableStep

theorem refl (s : State) : TableStep s s := ⟨⟨s.ga, s.asked, [], by simp⟩, rfl, fun _ => rfl, fun _ => rfl, fun _ => rfl⟩

theorem trans (h : TableStep s t) (k : TableStep t u) : TableStep s u := by
  refine ⟨?_, k.lists.trans h.lists, fun c => (k.boosted c).trans (h.boosted c), fun c => (k.on c).trans (h.on c),
    fun g => (k.lights g).trans (h.lights g)⟩
  obtain ⟨g1, a1, hs1, rfl⟩ := h.eq
  obtain ⟨g2, a2, hs2, rfl⟩ := k.eq
  exact ⟨g2, a2, hs1 ++ hs2, by simp⟩

theorem hand (i : Instr) (s : State) : TableStep s (hand i s) :=
  ⟨⟨s.ga, s.asked, [i], rfl⟩, rfl, fun _ => rfl, fun _ => rfl, fun _ => rfl⟩

theorem entry (c : Consumer) (f : ConsumerEntry → ConsumerEntry) (hf : (f (entryOf s c)).boosted = (entryOf s c).boosted) :
    TableStep s (withEntry c f s) := by
  refine ⟨⟨_, s.asked, [], by simp only [List.append_nil]; rfl⟩, rfl, fun d => ?_, fun _ => rfl, fun _ => rfl⟩
  rw [entryOf_withEntry]
  split_ifs with h
  · rw [hf, h]
  · rfl

theorem asked (a : Vector (Option Request) 8) (s : State)
    (hl : ∀ g, tget a (consIx (groupConsumer g)) = tget s.asked (consIx (groupConsumer g))) : TableStep s { s with asked := a } :=
  ⟨⟨s.ga, a, [], by simp⟩, rfl, fun _ => rfl, fun _ => rfl, hl⟩

theorem askedOne {c : Consumer} (hc : lightsConsumer c = false) (r : Option Request) (s : State) :
    TableStep s { s with asked := tset s.asked (consIx c) r } :=
  asked _ s fun g => by
    rw [tget_tset, if_neg]
    intro e
    rw [consIx_inj e] at hc
    cases g <;> exact absurd hc (by decide)

theorem ask {c : Consumer} (hc : lightsConsumer c = false) (r : Option Request) (s : State) : TableStep s (ask c r s) := by
  unfold Machine.ask
  dsimp only
  split
  · exact refl s
  · exact (askedOne hc _ s).trans (hand _ _)
  · exact (askedOne hc _ s).trans (hand _ _)
  · split
    · exact refl s
    · exact (askedOne hc _ s).trans (hand _ _)

theorem foldl {α : Type} {f : State → α → State} (hf : ∀ s a, TableStep s (f s a)) (xs : List α) (s : State) :
    TableStep s (xs.foldl f s) := by
  induction xs generalizing s with
  | nil => exact refl s
  | cons x xs ih => exact (hf s x).trans (ih _)

end TableStep

/-- Handings one behind another. -/
theorem moves_hands (hs : List Instr) (s : State) : Moves [] s { s with handed := s.handed ++ hs } := by
  induction hs generalizing s with
  | nil => simpa using Moves.refl
  | cons i hs ih => simpa [hand] using (moves_hand i s).trans (ih _)

/-- Changes of the table and the pass that follows them. -/
theorem moves_passFromTable (w : PassWakes as s) (h : TableStep s t) (ha : t.asked = s.asked ∨ .demand ∈ as) :
    Moves as s (pass s t) := by
  obtain ⟨heq, hlists, hboosted, hon, hlights⟩ := h
  obtain ⟨g, a, hs, rfl⟩ := heq
  have h1 : Moves as s { s with handed := s.handed ++ hs } := (moves_hands hs s).mono (List.nil_subset _)
  have h2 : Moves as s { s with asked := a, handed := s.handed ++ hs } := by
    obtain rfl | hd := ha
    · exact h1
    · exact h1.trans (.of_move (.asks a _ hd hlights))
  exact moves_passFrom w h2 g (listsSound_congr hlists fun c => effectiveClass_congr c (hboosted c) rfl) hon

theorem countTrip_boosted (t : Nat) (e : ConsumerEntry) : (countTrip t e).boosted = e.boosted := rfl

theorem tableStep_tripOne (cmp : Comparator) (s : State) (c : Consumer) :
    TableStep s (tripOne cmp s c) ∧ (tripOne cmp s c).asked = s.asked := by
  unfold tripOne
  extract_lets e added e1 e2 o s1 s2
  have he : e2.boosted = e.boosted := by
    unfold e2
    split
    · rfl
    · exact countTrip_boosted _ _
  have h1 : TableStep s s1 ∧ s1.asked = s.asked := ⟨(TableStep.entry c (fun _ => e2) he).trans (.hand _ _), rfl⟩
  have h2 : TableStep s s2 ∧ s2.asked = s.asked := by
    unfold s2
    split
    · exact ⟨h1.1.trans (.hand _ _), h1.2⟩
    · exact h1
  split
  · exact ⟨h2.1.trans (.hand _ _), h2.2⟩
  · exact h2

theorem foldl_tripOne_asked (cmp : Comparator) (cs : List Consumer) (s : State) : (cs.foldl (tripOne cmp) s).asked = s.asked := by
  induction cs generalizing s with
  | nil => rfl
  | cons c cs ih => exact (ih _).trans (tableStep_tripOne cmp s c).2

/-- The choice of an order is counted before the pass, whose wake compares with the event's start. -/
theorem moves_takeTrip (cmp : Comparator) (w : PassWakes as s) (hc : .choices ∈ as) : Moves as s (takeTrip cmp s) := by
  unfold takeTrip
  extract_lets named s1
  have hs1 : ∃ n, s1 = { s with choices := n } := by
    unfold s1
    split
    · exact ⟨_, rfl⟩
    · exact ⟨s.choices, rfl⟩
  clear_value s1
  obtain ⟨n, rfl⟩ := hs1
  have hfold := TableStep.foldl (fun s c => (tableStep_tripOne cmp s c).1) (anyOrder s named) { s with choices := n }
  have hasked := foldl_tripOne_asked cmp (anyOrder s named) { s with choices := n }
  generalize (anyOrder s named).foldl (tripOne cmp) { s with choices := n } = t at hfold hasked ⊢
  obtain ⟨heq, hlists, hboosted, hon, -⟩ := hfold
  obtain ⟨g, a, hs, rfl⟩ := heq
  dsimp only at hasked
  subst hasked
  have h1 : Moves as s { s with choices := n, handed := s.handed ++ hs } :=
    Moves.trans (.of_move (.choices n s hc)) ((moves_hands hs _).mono (List.nil_subset _))
  exact moves_passFrom w h1 g (listsSound_congr hlists fun c => effectiveClass_congr c (hboosted c) rfl) hon

theorem moves_retryOver (c : Consumer) (w : PassWakes as s) : Moves as s (retryOver c s) := by
  unfold retryOver
  split
  · exact moves_passFromEntry w .refl c _ fun _ => rfl
  · exact .refl

/-- A consumer's entry changed but for what the grants' soundness asks of it. -/
theorem moves_withEntry (c : Consumer) (f : ConsumerEntry → ConsumerEntry) (s : State) (hf : ∀ e, (f e).boosted = e.boosted
    ∧ (f e).request = e.request ∧ (f e).grant = e.grant ∧ (f e).latched = e.latched ∧ (f e).retry = e.retry) :
    Moves [.ga] s (withEntry c f s) := by
  refine .of_move (.grants _ s (by decide) (fun d => ?_) rfl rfl rfl fun _ => rfl)
  rw [tget_tset]
  split_ifs with h
  · subst h
    exact hf _
  · exact ⟨rfl, rfl, rfl, rfl, rfl⟩

theorem moves_windowOver (c : Consumer) (s : State) : Moves [.ga] s (windowOver c s) := by
  unfold windowOver
  split
  · exact moves_withEntry c _ s fun _ => ⟨rfl, rfl, rfl, rfl, rfl⟩
  · exact .refl

theorem tripCleared_withEntry (c d : Consumer) (f : ConsumerEntry → ConsumerEntry) (s : State) :
    tripCleared c (withEntry d f s) = withEntry d f (tripCleared c s) := by
  cases c <;> rfl

theorem moves_tripCleared (c : Consumer) (s : State) : Moves [.lc] s (tripCleared c s) := by
  cases c with
  | bunk => exact moves_lightsTrip _ _ s
  | cab => exact moves_lightsTrip _ _ s
  | _ => exact .refl

theorem moves_clearTripOf (c : Consumer) (w : PassWakes as s) (hl : .lc ∈ as) : Moves as s (clearTripOf c s) := by
  unfold clearTripOf
  rw [tripCleared_withEntry]
  exact moves_passFromEntry w ((moves_tripCleared c s).mono (by simpa using hl)) c _ fun _ => rfl

theorem moves_clearTrip (id : Nat) (w : PassWakes as s) (hl : .lc ∈ as) (ha : .answer ∈ as) : Moves as s (clearTrip id s) := by
  have hans : [Area.answer] ⊆ as := by simpa using ha
  unfold clearTrip
  split
  · exact (moves_clearTripOf _ w hl).step (moves_answer _ _ _) hans
  · exact (moves_answer _ _ s).mono hans

/-! ### CONSUMERS and DEMANDS -/

theorem reclass_eq (old : Vector (Fin 8) 8) (cs : List Consumer) (s : State) :
    ∃ v, cs.foldl (fun s c => if (entryOf s c).boosted then s
      else relist c (tget old (consIx c)) (tget s.cfg.classes (consIx c)) s) s = { s with ga := { s.ga with lists := v } } := by
  induction cs generalizing s with
  | nil => exact ⟨s.ga.lists, rfl⟩
  | cons c cs ih =>
    rw [List.foldl_cons]
    split
    · exact ih s
    · obtain ⟨v, e⟩ := relist_eq c (tget old (consIx c)) (tget s.cfg.classes (consIx c)) s
      obtain ⟨w, e'⟩ := ih (relist c (tget old (consIx c)) (tget s.cfg.classes (consIx c)) s)
      exact ⟨w, e'.trans (by rw [e])⟩

theorem remode_eq (old : Vector OrderMode 8) (ks : List (Fin 8)) (s : State) :
    ∃ v, ks.foldl (fun s k => if tget old k = tget s.cfg.orders k then s
      else withGa (fun g => { g with
        lists := tset g.lists k (allConsumers.filter fun c => (tget g.lists k).contains c) }) s) s
      = { s with ga := { s.ga with lists := v } } := by
  induction ks generalizing s with
  | nil => exact ⟨s.ga.lists, rfl⟩
  | cons k ks ih =>
    rw [List.foldl_cons]
    split
    · exact ih s
    · exact ih _

/-- CONSUMERS' effect moves the lists anyhow, and a pass follows; that the lists are sound again is said apart (R41, R42). -/
theorem moves_consumersEffect (old : Settings) (w : PassWakes as s) (hr : .relisted ∈ as) : Moves as s (consumersEffect old s) := by
  obtain ⟨v1, e1⟩ := reclass_eq old.classes allConsumers s
  obtain ⟨v2, e2⟩ := remode_eq old.orders allClasses (reclass old.classes s)
  have e : remode old.orders (reclass old.classes s) = { s with ga := { s.ga with lists := v2 } } :=
    e2.trans (by rw [show reclass old.classes s = { s with ga := { s.ga with lists := v1 } } from e1])
  unfold consumersEffect
  rw [e]
  exact moves_passFrom w (.of_move (.relists v2 s hr)) _ (fun h => h) fun _ => rfl

/-- A socket's request formed anew: the table changes where a pass is to follow. -/
theorem tableStep_redemandSocket (s : State) (k : Socket) : TableStep s (redemandSocket s k).1
    ∧ ((redemandSocket s k).2 = false → (redemandSocket s k).1.ga = s.ga) := by
  unfold redemandSocket
  extract_lets c new
  have hc : lightsConsumer c = false := by cases k <;> rfl
  split
  · exact ⟨.refl s, fun _ => rfl⟩
  · split
    · exact ⟨.refl s, fun _ => rfl⟩
    · extract_lets held s1
      have h1 : TableStep s s1 ∧ (held = false → s1.ga = s.ga) := by
        unfold s1
        split
        · rename_i hheld
          exact ⟨.entry c _ rfl, fun h => absurd h (by simp [hheld])⟩
        · exact ⟨.refl s, fun _ => rfl⟩
      split
      · exact ⟨h1.1.trans (.askedOne hc _ _), fun h => absurd h (by simp)⟩
      · exact ⟨h1.1.trans (.ask hc _ _), fun h => (ask_ga _ _ _).trans (h1.2 h)⟩

/-- A run over the demand area: what the owners have placed and what is handed change alone. -/
theorem moves_tableStep (h : TableStep s t) (hga : t.ga = s.ga) (hd : .demand ∈ as) : Moves as s t := by
  obtain ⟨heq, -, -, -, hlights⟩ := h
  obtain ⟨g, a, hs, rfl⟩ := heq
  dsimp only at hga
  subst hga
  exact ((moves_hands hs s).mono (List.nil_subset _)).trans (.of_move (.asks a _ hd hlights))

theorem moves_demandsEffect (w : PassWakes as s) (hd : .demand ∈ as) : Moves as s (demandsEffect s) := by
  unfold demandsEffect
  extract_lets d s1 s2 s3 s4 a b
  have h1 : TableStep s s1 ∧ s1.ga = s.ga := by
    unfold s1
    split
    · exact ⟨.ask rfl _ s, ask_ga _ _ s⟩
    · exact ⟨.refl s, rfl⟩
  have h4 : TableStep s s4 ∧ s4.ga = s.ga :=
    ⟨((h1.1.trans (.ask rfl _ _)).trans (.ask rfl _ _)).trans (.ask rfl _ _),
      (ask_ga _ _ _).trans ((ask_ga _ _ _).trans ((ask_ga _ _ _).trans h1.2))⟩
  clear_value s4
  obtain ⟨ha, hga⟩ : TableStep s4 a.1 ∧ (a.2 = false → a.1.ga = s4.ga) := tableStep_redemandSocket s4 .a
  obtain ⟨hb, hgb⟩ : TableStep a.1 b.1 ∧ (b.2 = false → b.1.ga = a.1.ga) := tableStep_redemandSocket a.1 .b
  have hstep : TableStep s b.1 := (h4.1.trans ha).trans hb
  clear_value b
  split
  · exact moves_passFromTable w hstep (.inr hd)
  · rename_i hno
    obtain ⟨hna, hnb⟩ : a.2 = false ∧ b.2 = false := by simpa using hno
    exact moves_tableStep hstep ((hgb hnb).trans ((hga hna).trans h4.2)) hd

/-! ### Sockets -/

/-- What a socket's write asks for is what its switch calls for, so the request is brought to it (R46, R47). -/
theorem moves_socketEffect (k : Socket) (wasOn : Bool) (oldLimit : Nat) (s : State) :
    Moves [.ga, .asked] s (socketEffect k wasOn oldLimit s) := by
  unfold socketEffect
  extract_lets on
  split
  · rename_i h
    have hon : (tget s.ga.sockets (socketIx k)).on = true := by simpa using (by simpa using h : wasOn = false ∧ on = true).2
    have hmove := Move.socket (as := [.ga, .asked]) k { tget s.ga.sockets (socketIx k) with runEnd := socketRunFrom s k } s
      (by decide) (by decide)
    rw [show (SocketEntry.on _) = true from hon, if_pos rfl] at hmove
    exact .of_move hmove
  split
  · rename_i h
    have hon : (tget s.ga.sockets (socketIx k)).on = false := by simpa using (by simpa using h : wasOn = true ∧ on = false).2
    have hmove := Move.socket (as := [.ga, .asked]) k { tget s.ga.sockets (socketIx k) with runEnd := none } s
      (by decide) (by decide)
    rw [show (SocketEntry.on _) = false from hon, if_neg Bool.false_ne_true] at hmove
    exact .of_move hmove
  split
  · refine .of_move (.grants _ s (by decide) (fun _ => ⟨rfl, rfl, rfl, rfl, rfl⟩) rfl rfl rfl fun j => ?_)
    dsimp only
    rw [tget_tset]
    split_ifs with h
    · rw [h]
    · rfl
  · exact .refl

theorem moves_socketRunOut (k : Socket) (s : State) : Moves [.ga, .asked] s (socketRunOut k s) := by
  unfold socketRunOut
  split
  · exact .refl
  · split
    · exact .refl
    · have hmove := Move.socket (as := [.ga, .asked]) k ⟨false, none⟩ s (by decide) (by decide)
      exact (Moves.of_move hmove).step (moves_post _ _ _ _ _)

end Sys2Proof.Machine
end

section
/-! PROOFS. The Measurement Unit's operations as runs of moves, and the flame guard over those that change a channel (R70). -/

namespace Sys2Proof.Machine

-- One proof after another: started together they wait for one another, each on a thread of its own.
set_option Elab.async false

variable {s t u : State} {as : List Area}

theorem moves_withMu (f : MeasureUnit → MeasureUnit) (s : State) (h : (f s.mu).chan = s.mu.chan) (hcomp : (f s.mu).comp = s.mu.comp) :
    Moves [.mu] s (withMu f s) := .of_move (.measure (f s.mu) s (by decide) h hcomp)

theorem moves_setChannel (ch : Channel) (e : ChanEntry) (s : State) : Moves [.rawChan] s (setChannel ch e s) :=
  .of_move (.rawChannels _ s (by decide))

theorem moves_sensorNotice (ch : Channel) (old : SampleStatus) (s : State) : Moves [] s (sensorNotice ch old s) := by
  unfold sensorNotice
  dsimp only
  split
  · exact moves_post _ _ _ _ s
  split
  · exact moves_post _ _ _ _ s
  · exact .refl

/-- What the users of a channel move when its status changes. -/
def statusAreas : List Area := [.cc, .hc, .asked, .mc, .rm]

theorem moves_statusChange (ch : Channel) (old : SampleStatus) (s : State) : Moves statusAreas s (statusChange ch old s) := by
  unfold statusChange
  extract_lets new s1
  split
  · have h1 : Moves statusAreas s s1 := (moves_chargeLeft ch s).mono.step (moves_heaterLeft ch _)
    split
    · exact h1.step (moves_restVsLeft _)
    · exact h1
  split
  · exact (moves_chargeRegained ch s).mono
  · exact .refl

theorem moves_statusReport (ch : Channel) (old : SampleStatus) (s : State) :
    Moves (.fc :: statusAreas) s (statusReport ch old s) := by
  unfold statusReport
  split
  · exact .refl
  · refine moves_ownerEvent [3, 12, 14, 24] (by decide) ?_
    dsimp only
    split
    · exact (moves_statusChange ch old s).mono.step (moves_fridgeTf _ _)
    · exact (moves_statusChange ch old s).mono

/-- What a conversion's report moves behind the change of status. -/
def sampleAreas : List Area := [.cc, .hc, .asked, .mc, .rm, .fc, .leave]

/-- What the users of a channel do at a conversion behind its change of status. -/
def sampleTaken (ch : Channel) (s : State) : State :=
  let s1 := heaterConversion ch (chargeConversion ch s)
  match ch with
  | .tf => fridgeTf true s1
  | .vs => restVs s1
  | _ => s1

theorem sampleReport_eq (ch : Channel) (old : SampleStatus) (s : State) :
    sampleReport ch old s = sampleTaken ch (statusChange ch old s) := rfl

theorem moves_sampleTaken (ch : Channel) (s : State) : Moves sampleAreas s (sampleTaken ch s) := by
  have h1 : Moves sampleAreas s (heaterConversion ch (chargeConversion ch s)) :=
    (moves_chargeConversion ch s).mono.step (moves_heaterConversion ch _)
  unfold sampleTaken
  dsimp only
  split
  · exact h1.step (moves_fridgeTf _ _)
  · exact h1.step (moves_restVs _)
  · exact h1

theorem moves_leaveScan (chs : List Channel) (s : State) : Moves [.mu] s (leaveScan chs s) := by
  unfold leaveScan
  extract_lets left s1
  have h1 : Moves [.mu] s s1 := moves_withMu _ s rfl rfl
  split
  · exact h1.step (moves_raise _ _)
  · exact h1

/-- What a channel moves whose status is judged outside a conversion. -/
def judgeAreas : List Area := [.rawChan, .mu, .cc, .hc, .fc, .rm, .asked, .mc]

/-- What a conversion moves. -/
def convertAreas : List Area := .leave :: judgeAreas

theorem moves_convert (ch : Channel) (code : Nat) (s : State) : Moves convertAreas s (convert ch code s) := by
  unfold convert
  split
  · extract_lets old s1
    have h1 : Moves convertAreas s s1 := (moves_setChannel ch _ s).mono
    rw [sampleReport_eq]
    exact (((h1.step (moves_sensorNotice ch old _)).step (moves_statusChange ch old _)).step (moves_sampleTaken ch _)).step
      (moves_leaveScan _ _)
  · exact .refl

theorem moves_startScan (s : State) : Moves [.mu] s (startScan s) := by
  unfold startScan
  split
  · exact moves_withMu _ s rfl rfl
  · exact .refl

theorem moves_setHostMark (n : Nat) (mark : Bool) (s : State) : Moves (.answer :: judgeAreas) s (setHostMark n mark s) := by
  unfold setHostMark
  split
  · exact (moves_answer _ _ s).mono
  · rename_i ch _
    extract_lets old e s1
    have h1 : Moves (.answer :: judgeAreas) s s1 := (moves_setChannel ch _ s).mono
    exact ((h1.step (moves_sensorNotice ch old _)).step (moves_statusReport ch old _)).step (moves_answer _ _ _)

theorem moves_discardChannels (chs : List Channel) (s : State) : Moves [.rawChan] s (discardChannels chs s) :=
  moves_foldl (fun s ch => moves_setChannel ch _ s) chs s

theorem moves_stopChannels (chs : List Channel) (s : State) : Moves judgeAreas s (stopChannels chs s) := by
  unfold stopChannels
  exact (moves_discardChannels chs s).mono.step (moves_foldl (as := .fc :: statusAreas)
    (f := fun s' ch => statusReport ch (statusOf s ch) s') (fun s' ch => moves_statusReport ch _ s') chs _)

theorem moves_channelsEffect (old : Vector ChanSet 7) (s : State) : Moves judgeAreas s (channelsEffect old s) := by
  unfold channelsEffect
  extract_lets on stopped started
  exact ((moves_discardChannels started s).mono.trans (moves_stopChannels stopped _)).step (moves_leaveScan _ _)

/-! ### Comparators, readings and the tach -/

theorem moves_withComp (c : Comparator) (f : CompEntry → CompEntry) (s : State) : Moves [.comp] s (withComp c f s) :=
  .of_move (.comps _ s (by decide))

theorem moves_setCurrent (c : Comparator) (ma : Nat) (s : State) : Moves [.comp] s (setCurrent c ma s) := by
  unfold setCurrent
  split
  · exact moves_withComp c _ s
  · exact .refl

theorem moves_currentRises (c : Comparator) (ma : Nat) (s : State) : Moves [.comp] s (currentRises c ma s) := by
  unfold currentRises
  extract_lets s1
  split
  · exact (moves_setCurrent c ma s).trans (moves_withComp c _ _)
  · exact moves_setCurrent c ma s

theorem moves_currentFalls (c : Comparator) (ma : Nat) (s : State) : Moves [.comp] s (currentFalls c ma s) := by
  unfold currentFalls
  extract_lets s1
  split
  · exact (moves_setCurrent c ma s).trans (moves_withComp c _ _)
  · exact moves_setCurrent c ma s

theorem moves_blankingOver (c : Comparator) (s : State) : Moves [.comp] s (blankingOver c s) := by
  unfold blankingOver
  split
  · exact moves_withComp c _ s
  · exact .refl

theorem moves_qualifyOver (c : Comparator) (s : State) : Moves [.comp] s (qualifyOver c s) := by
  unfold qualifyOver
  split
  · exact (moves_withComp c _ s).step (moves_hand _ _)
  · exact .refl

theorem moves_tripsEffect (old : Vector Nat 6) (s : State) : Moves [.comp] s (tripsEffect old s) :=
  moves_foldl (fun s c => by
    dsimp only
    split
    · exact .refl
    · exact moves_withComp c _ s) _ s

theorem moves_loadReading (r : LoadMeans) (s : State) : Moves [.comp, .su, .hc, .asked, .mc] s (loadReading r s) := by
  unfold loadReading
  extract_lets s1
  have h1 : Moves [.comp] s s1 := moves_foldl
    (f := fun s' c => withComp c (fun e => { e with reading := readingOf s c (meanOf r c) }) s') (fun s' c => moves_withComp c _ s') _ s
  exact (h1.mono.step (moves_withSu _ _ rfl rfl rfl)).step (moves_heaterHolds _)

/-! ### The flame guard over a change of a channel -/

/-- A channel that is not converted is STALE (R3, R7), the part of `flameGuarded` that speaks of the channels alone. -/
def staleSound (s : State) : Prop := ∀ ch, isConverted s ch = false → statusOf s ch = .stale

theorem staleSound_congr (hcfg : t.cfg.chan = s.cfg.chan) (hmode : t.mc.mode = s.mc.mode) (hmu : t.mu.chan = s.mu.chan) :
    staleSound s → staleSound t := by
  simp only [staleSound, isConverted_congr hcfg hmode, statusOf_congr hmu]
  exact id

/-- What a run that leaves the channels keeps: their states, that those not converted are STALE, and that a guarded state is
entered only from one or with both sensors VALID (R70). -/
structure FlameKept (s t : State) : Prop where
  chan : t.mu.chan = s.mu.chan
  stale : staleSound s → staleSound t
  before : flaming t.hc.state → flaming s.hc.state ∨ (statusOf s .tx = .valid ∧ statusOf s .th = .valid)

theorem FlameKept.refl (s : State) : FlameKept s s := ⟨rfl, id, .inl⟩

theorem FlameKept.trans (h : FlameKept s t) (k : FlameKept t u) : FlameKept s u := by
  refine ⟨k.chan.trans h.chan, k.stale ∘ h.stale, fun hu => ?_⟩
  obtain ht | ht := k.before hu
  · exact h.before ht
  · simp only [statusOf_congr h.chan] at ht
    exact .inr ht

theorem FlameKept.of_same (hcfg : t.cfg.chan = s.cfg.chan) (hmode : t.mc.mode = s.mc.mode) (hmu : t.mu.chan = s.mu.chan)
    (hst : t.hc.state = s.hc.state) : FlameKept s t :=
  ⟨hmu, staleSound_congr hcfg hmode hmu, fun h => .inl (hst ▸ h)⟩

theorem FlameKept.of_mode {m : Mode} (hm : m ≠ .standby) (s : State) : FlameKept s { s with mc := { s.mc with mode := m } } :=
  ⟨rfl, fun h ch hch => h ch (isConverted_of_sampled hm hch), .inl⟩

theorem Move.flameKept (h : Move as s t) (h1 : .chan ∉ as) (h2 : .rawChan ∉ as) (h3 : .sleep ∉ as) (h4 : .poked 8 ∉ as) :
    FlameKept s t := by
  cases h with
  | awake => exact .of_mode (by decide) s
  | doze _ ha h => exact .of_mode (by decide) s
  | sleep _ ha => exact absurd ha h3
  | channels v _ ha => exact absurd ha h1
  | rawChannels v _ ha => exact absurd ha h2
  | mc m _ ha h1 h2 h3 h4 => exact .of_same rfl h1 rfl rfl
  | measure m _ ha h => exact .of_same rfl rfl h rfl
  | heater h _ ha h1 h2 h3 => exact .of_same rfl rfl rfl h1
  | heaterEnter h _ ha hb hs hm =>
    exact ⟨by simp, staleSound_congr (by simp) (by simp) (by simp), fun ht => hm.1 (by simpa using ht)⟩
  | poke r ws _ ha =>
    have hne : r ≠ 8 := fun e => h4 (e ▸ ha)
    have hchan : (pokeAll r ws s).cfg.chan = s.cfg.chan := pokeAll_setting (·.chan) (fun w c => pokeSettings_chan hne w c) ws s
    exact .of_same hchan (by simp) (by simp) (by simp)
  | _ => exact .of_same (by simp) (by simp) (by simp) (by simp)

theorem Moves.flameKept (h : Moves as s t) (h1 : .chan ∉ as := by decide) (h2 : .rawChan ∉ as := by decide)
    (h3 : .sleep ∉ as := by decide) (h4 : .poked 8 ∉ as := by decide) : FlameKept s t :=
  h.lift FlameKept.refl (fun _ _ _ => FlameKept.trans) fun _ _ m => m.flameKept h1 h2 h3 h4

theorem FlameKept.sound (k : FlameKept s t) (h : flameGuarded s) : flameGuarded t := by
  obtain ⟨hstale, hvalid⟩ := flameGuarded_iff.1 h
  refine flameGuarded_iff.2 ⟨k.stale hstale, fun hf => ?_⟩
  simp only [statusOf_congr k.chan]
  exact (k.before hf).elim hvalid id

theorem statusOf_setChannel (ch d : Channel) (e : ChanEntry) (s : State) : statusOf (setChannel ch e s) d =
    if ch = d then statusFrom (isConverted s ch) e else statusOf s d := by
  unfold statusOf chanOf setChannel withMu
  dsimp only
  rw [tget_tset]
  by_cases h : ch = d
  · simp [h]
  · rw [if_neg h, if_neg fun e => h (by cases ch <;> cases d <;> first | rfl | exact absurd e (by decide))]

/-- A channel that is not converted is STALE, whatever its working state (R3, R7). -/
theorem staleSound_setChannel (ch : Channel) (e : ChanEntry) (h : staleSound s) : staleSound (setChannel ch e s) := by
  intro d hd
  rw [statusOf_setChannel]
  split_ifs with hch
  · subst hch
    rw [show isConverted s ch = false from hd]
    rfl
  · exact h d hd

theorem offWith_state (f : HeaterFault) (s : State) : (offWith f s).hc.state = .off := by
  unfold offWith
  exact enterHeater_state _ _ _ fun _ => rfl

theorem toPurge_state (exit : PurgeExit) (fault : Option HeaterFault) (s : State) : (toPurge exit fault s).hc.state = .purge := by
  unfold toPurge
  exact enterHeater_state _ _ _ fun _ => rfl

theorem keepHeater_hc (s t : State) : (keepHeater s t).hc = t.hc := by
  unfold keepHeater writeHeater
  split
  · rfl
  · split <;> rfl

theorem toOverheat_state (s : State) : (toOverheat s).hc.state = .purge := by
  unfold toOverheat
  rw [keepHeater_hc]
  exact toPurge_state _ _ _

/-- TX and TH, which a flame needs VALID (R70). -/
def flameChannel (ch : Channel) : Prop := ch = .tx ∨ ch = .th

/-- Where TX or TH leaves VALID no guarded state stays (R70). -/
theorem heaterLeft_not_flaming {ch : Channel} (h : flameChannel ch) (s : State) : ¬flaming (heaterLeft ch s).hc.state := by
  obtain rfl | rfl := h <;> simp only [heaterLeft]
  · split
    case h_7 h1 h2 h3 h4 h5 h6 => cases hst : s.hc.state <;> simp_all [burning]
    all_goals simp [offWith_state, toPurge_state, burning]
  · split
    case h_7 h1 h2 h3 h4 h5 h6 => cases hst : s.hc.state <;> simp_all [burning]
    all_goals simp [offWith_state, toOverheat_state, burning]

theorem statusChange_not_flaming {ch : Channel} {old : SampleStatus} (hch : flameChannel ch) (hold : old = .valid)
    (hnew : statusOf s ch ≠ .valid) : ¬flaming (statusChange ch old s).hc.state := by
  unfold statusChange
  dsimp only
  rw [if_pos ⟨hold, hnew⟩, if_neg (by obtain rfl | rfl := hch <;> decide)]
  exact heaterLeft_not_flaming hch _

/-- A change of one channel's working state, and what follows where its status leaves VALID, keep the flame guarded (R68, R70). -/
theorem flameGuarded_statusChange {ch : Channel} {s0 : State} (e : ChanEntry) (hs : flameGuarded s0)
    (h : Moves [] (setChannel ch e s0) s) : flameGuarded (statusChange ch (statusOf s0 ch) s) := by
  obtain ⟨hstale, hvalid⟩ := flameGuarded_iff.1 hs
  have hnotice := h.flameKept
  have hchange := (moves_statusChange ch (statusOf s0 ch) s).flameKept
  have hrun := hnotice.trans hchange
  refine flameGuarded_iff.2 ⟨hrun.stale (staleSound_setChannel ch e hstale), fun hf => ?_⟩
  simp only [statusOf_congr hrun.chan]
  obtain hbefore | hboth := hrun.before hf
  · obtain ⟨htx, hth⟩ := hvalid hbefore
    have hkept : flameChannel ch → statusOf s ch = .valid := fun hch => by
      by_contra hnew
      exact statusChange_not_flaming hch (by obtain rfl | rfl := hch <;> assumption) hnew hf
    simp only [statusOf_congr hnotice.chan] at hkept
    have hof : ∀ d, flameChannel d → statusOf s0 d = .valid → statusOf (setChannel ch e s0) d = .valid := fun d hd hv => by
      by_cases hch : ch = d
      · subst hch
        exact hkept hd
      · rw [statusOf_setChannel, if_neg hch]
        exact hv
    exact ⟨hof .tx (.inl rfl) htx, hof .th (.inr rfl) hth⟩
  · exact hboth

theorem flameGuarded_convert (ch : Channel) (code : Nat) (hs : flameGuarded s) : flameGuarded (convert ch code s) := by
  unfold convert
  split
  · extract_lets old s1
    rw [sampleReport_eq]
    have h := flameGuarded_statusChange (convertEntry ch (tget s.cfg.chan (chanIx ch)).k code (chanOf s ch)) hs
      (moves_sensorNotice ch old s1)
    exact ((moves_sampleTaken ch _).flameKept.trans (moves_leaveScan [ch] _).flameKept).sound h
  · exact hs

theorem moves_statusReport_rest (ch : Channel) (old : SampleStatus) (s : State) :
    Moves (.fc :: statusAreas) (statusChange ch old s) (statusReport ch old s) ∨ statusReport ch old s = s ∧ statusOf s ch = old := by
  unfold statusReport
  split
  · rename_i h
    exact .inr ⟨rfl, h⟩
  · refine .inl ?_
    unfold ownerEvent
    dsimp only
    split
    · exact (moves_fridgeTf _ _).mono.step (moves_advance _ _ _ (.inl (by decide)))
    · exact (moves_advance _ _ _ (.inl (by decide))).mono

/-- A status that stays makes no change. -/
theorem statusChange_same (ch : Channel) (s : State) : statusChange ch (statusOf s ch) s = s := by
  unfold statusChange
  dsimp only
  rw [if_neg (fun h => h.2 h.1), if_neg (fun h => h.1 h.2)]

theorem moves_report_behind (ch : Channel) (old : SampleStatus) (s : State) :
    Moves (.fc :: statusAreas) (statusChange ch old s) (statusReport ch old s) := by
  obtain h | ⟨h, hst⟩ := moves_statusReport_rest ch old s
  · exact h
  · rw [h, ← hst, statusChange_same]
    exact .refl

theorem flameGuarded_setHostMark (n : Nat) (mark : Bool) (hs : flameGuarded s) : flameGuarded (setHostMark n mark s) := by
  unfold setHostMark
  split
  · exact (moves_answer _ _ s).flameKept.sound hs
  · rename_i ch _
    extract_lets old e s1
    have h := flameGuarded_statusChange (ch := ch) { chanOf s ch with hostMark := mark } hs (moves_sensorNotice ch old s1)
    exact ((moves_report_behind ch old _).flameKept.trans (moves_answer _ _ _).flameKept).sound h

/-! ### Several channels at once -/

/-- A statement of every step of a fold. -/
theorem foldl_flameKept {α : Type} {f : State → α → State} (h : ∀ s a, FlameKept s (f s a)) (xs : List α) (s : State) :
    FlameKept s (xs.foldl f s) := by
  induction xs generalizing s with
  | nil => exact .refl s
  | cons x xs ih => exact (h s x).trans (ih _)

/-- Where the status of TX or TH has gone, its report leaves no guarded state, whatever reports come with it (R70). -/
theorem statusReports_not_flaming {ch : Channel} {s0 : State} (hch : flameChannel ch) (hold : statusOf s0 ch = .valid) (chs : List Channel)
    (hmem : ch ∈ chs) (s : State) (hnew : statusOf s ch ≠ .valid)
    (hboth : ¬(statusOf s .tx = .valid ∧ statusOf s .th = .valid)) :
    ¬flaming (chs.foldl (fun s' d => statusReport d (statusOf s0 d) s') s).hc.state := by
  have hreport : ∀ s d, FlameKept s (statusReport d (statusOf s0 d) s) := fun s d => (moves_statusReport d _ s).flameKept
  induction chs generalizing s with
  | nil => exact absurd hmem (by simp)
  | cons d chs ih =>
    rw [List.foldl_cons]
    have hchan := (hreport s d).chan
    by_cases hd : d = ch
    · subst hd
      have hoff : ¬flaming (statusReport d (statusOf s0 d) s).hc.state := by
        intro hf
        have hbehind := moves_report_behind d (statusOf s0 d) s
        have hch1 : (statusChange d (statusOf s0 d) s).mu.chan = s.mu.chan := (moves_statusChange d _ s).flameKept.chan
        obtain h | h := hbehind.flameKept.before hf
        · exact statusChange_not_flaming hch hold hnew h
        · exact hboth (by simpa only [statusOf_congr hch1] using h)
      intro hf
      obtain h | h := (foldl_flameKept hreport chs _).before hf
      · exact hoff h
      · exact hboth (by simpa only [statusOf_congr hchan] using h)
    · exact ih (List.mem_of_ne_of_mem (Ne.symm hd) hmem) _ (by rwa [statusOf_congr hchan])
        (by simpa only [statusOf_congr hchan] using hboth)

/-- A channel started again has no sample yet, so it is STALE (R3, R7). -/
theorem statusFrom_chanStart (b m : Bool) : statusFrom b (chanStart m) = .stale := by cases b <;> rfl

theorem statusOf_discardChannels (chs : List Channel) (s : State) (d : Channel) :
    statusOf (discardChannels chs s) d = if d ∈ chs then .stale else statusOf s d := by
  unfold discardChannels
  induction chs generalizing s with
  | nil => simp
  | cons ch chs ih =>
    rw [List.foldl_cons, ih, statusOf_setChannel, statusFrom_chanStart]
    by_cases h1 : d ∈ chs
    · simp [h1]
    · by_cases h2 : ch = d
      · simp [h2]
      · simp [h1, h2, Ne.symm h2]

theorem discardChannels_hc (chs : List Channel) (s : State) : (discardChannels chs s).hc = s.hc := by
  unfold discardChannels
  induction chs generalizing s with
  | nil => rfl
  | cons ch chs ih => exact ih _

/-- Channels that cease to be converted leave no flame where TX or TH is among them (R3, R70). -/
theorem flameGuarded_stopChannels (chs : List Channel) (hstale : staleSound (discardChannels chs s))
    (hvalid : flaming s.hc.state → statusOf s .tx = .valid ∧ statusOf s .th = .valid) : flameGuarded (stopChannels chs s) := by
  have hkept : FlameKept (discardChannels chs s) (stopChannels chs s) :=
    foldl_flameKept (fun s' d => (moves_statusReport d (statusOf s d) s').flameKept) chs _
  refine flameGuarded_iff.2 ⟨hkept.stale hstale, fun hf => ?_⟩
  simp only [statusOf_congr hkept.chan]
  by_contra hboth
  have hflame : flaming s.hc.state := by
    obtain h | h := hkept.before hf
    · rwa [discardChannels_hc] at h
    · exact absurd h hboth
  obtain ⟨htx, hth⟩ := hvalid hflame
  have hgone : ∃ ch, flameChannel ch ∧ ch ∈ chs := by
    by_contra hno
    simp only [flameChannel, not_exists, not_and] at hno
    refine hboth ?_
    rw [statusOf_discardChannels, statusOf_discardChannels, if_neg (hno .tx (.inl rfl)), if_neg (hno .th (.inr rfl))]
    exact ⟨htx, hth⟩
  obtain ⟨ch, hch, hmem⟩ := hgone
  refine statusReports_not_flaming hch (by obtain rfl | rfl := hch <;> assumption) chs hmem _ ?_ hboth hf
  rw [statusOf_discardChannels, if_pos hmem]
  decide

theorem isConverted_discardChannels (chs : List Channel) (s : State) (d : Channel) :
    isConverted (discardChannels chs s) d = isConverted s d := by
  unfold discardChannels
  induction chs generalizing s with
  | nil => rfl
  | cons ch chs ih => exact ih _

/-- Whether a table of channels enables a channel. -/
def enabledIn (v : Vector ChanSet 7) (ch : Channel) : Bool := (tget v (chanIx ch)).enabled

/-- A change of CHANNELS keeps the flame guarded: each channel it stops is discarded with its consequences, and one it starts was
STALE before (R3, R12, R70). -/
theorem flameGuarded_channelsEffect {s0 : State} (hs : flameGuarded s0) (hmode : s.mc.mode = s0.mc.mode)
    (hmu : s.mu.chan = s0.mu.chan) (hst : s.hc.state = s0.hc.state) : flameGuarded (channelsEffect s0.cfg.chan s) := by
  obtain ⟨hstale, hvalid⟩ := flameGuarded_iff.1 hs
  unfold channelsEffect
  extract_lets on stopped started
  have hmem : ∀ ch, ch ∈ allChannels := fun ch => by cases ch <;> decide
  have hconv : ∀ ch, isConverted s0 ch = (enabledIn s0.cfg.chan ch && sampledIn s0.mc.mode ch)
      ∧ isConverted s ch = (enabledIn s.cfg.chan ch && sampledIn s0.mc.mode ch) := fun ch => by
    unfold isConverted enabledIn
    rw [hmode]
    exact ⟨rfl, rfl⟩
  have hin : ∀ ch, (ch ∈ stopped ↔ enabledIn s0.cfg.chan ch = true ∧ enabledIn s.cfg.chan ch = false)
      ∧ (ch ∈ started ↔ enabledIn s0.cfg.chan ch = false ∧ enabledIn s.cfg.chan ch = true) := fun ch => by
    simp [stopped, started, on, hmem, enabledIn]
  refine (moves_leaveScan stopped _).flameKept.sound (flameGuarded_stopChannels stopped (fun d hd => ?_) fun hf => ?_)
  · rw [isConverted_discardChannels, isConverted_discardChannels, (hconv d).2] at hd
    rw [statusOf_discardChannels, statusOf_discardChannels]
    split_ifs with h1 h2
    · rfl
    · rfl
    · rw [statusOf_congr hmu]
      refine hstale d ?_
      rw [(hconv d).1]
      rw [(hin d).1] at h1
      revert hd h1
      cases enabledIn s0.cfg.chan d <;> cases enabledIn s.cfg.chan d <;> simp
  · rw [discardChannels_hc, hst] at hf
    have hno : ∀ ch, statusOf s0 ch = .valid → ch ∉ started := fun ch hv hstart => by
      have hoff : isConverted s0 ch = false := by rw [(hconv ch).1, ((hin ch).2.1 hstart).1]; rfl
      exact absurd (hv.symm.trans (hstale ch hoff)) (by decide)
    obtain ⟨htx, hth⟩ := hvalid hf
    rw [statusOf_discardChannels, statusOf_discardChannels, if_neg (hno .tx htx), if_neg (hno .th hth), statusOf_congr hmu,
      statusOf_congr hmu]
    exact ⟨htx, hth⟩

end Sys2Proof.Machine
end

section
/-! PROOFS. The panel's keys and contacts as runs of moves. -/

namespace Sys2Proof.Machine

-- One proof after another: started together they wait for one another, each on a thread of its own.
set_option Elab.async false

variable {s t u : State} {as : List Area}

/-! ### Key queue and actions -/

theorem moves_offerKey (k : Fin 16) (ev : KeyEvent) (s : State) : Moves [.pn] s (offerKey k ev s) := by
  unfold offerKey
  split
  · exact moves_withPn _ s rfl rfl
  · rename_i hfull
    have h : Moves [.pn] s (withPn (fun u => { u with queue := u.queue ++ [⟨k, ev, stampNow s⟩] }) s) :=
      .of_move (.panel _ s (by decide) (fun _ => by simp only [List.length_append, List.length_singleton]; omega) rfl)
    exact h.step (moves_post _ _ _ _ _)

theorem moves_readKeys (s : State) : Moves [.pn, .answer] s (readKeys s) := by
  unfold readKeys
  split
  · exact (moves_answer _ _ s).mono
  · have h : Moves [.pn] s (withPn (fun u => { u with queue := u.queue.drop 8, overrun := false }) s) :=
      .of_move (.panel _ s (by decide) (fun h => by simp only [List.length_drop]; omega) rfl)
    exact h.mono.step (moves_answer _ _ _)

theorem moves_panelHeat (delta : Int) (s : State) : Moves [.setpoint] s (panelHeat delta s).1 :=
  moves_ownerEvent [12] (by decide) (moves_operate 10 (by decide) (.of_move (.setpoint _ s (by decide))))

theorem moves_panelDim (k : Fin 16) (a : KeyAction) (delta : Int) (g : Group) (s : State) : Moves [.pn] s (panelDim k a delta g s) :=
  (moves_withPn _ s rfl rfl).trans
    (moves_foldl (f := fun s i => hand (dimOperation k delta i) s) (fun s i => (moves_hand _ s).mono) _ _)

/-- The areas hold what a key's action may move: the entries' targets and the RM, and in STANDBY what a wake moves. -/
theorem moves_runKeyAction (k : Fin 16) (e : KeyEntry) (w : RestWakes as s) : Moves as s (runKeyAction k e s).1 := by
  unfold runKeyAction
  extract_lets ends
  split
  · exact .refl
  · exact (moves_panelToggle _ s).mono w.sub
  · exact (moves_panelDim _ _ _ _ s).mono w.sub
  · exact (moves_panelDim _ _ _ _ s).mono w.sub
  · exact (moves_ownerAct [17] (by decide) (moves_sceneRequest _ s)).mono w.sub
  · exact (moves_ownerAct [10, 12] (by decide) (moves_heaterToggle s)).mono w.sub
  · exact (moves_panelHeat _ s).mono w.sub
  · exact (moves_panelHeat _ s).mono w.sub
  · exact (moves_ownerAct [14] (by decide) (moves_boostStart s)).mono w.sub
  · exact (moves_writeVentSpeed _ s).mono w.sub
  · exact moves_ownerAct [24] (by decide) (moves_restToggle w)
  · exact (moves_stopChimes s).mono w.sub

theorem moves_endAction (k : Fin 16) (a : KeyAction) (st : Status) (s : State) : Moves [.pn] s (endAction k a st s) := by
  unfold endAction
  extract_lets s1
  have h1 : Moves [.pn] s s1 := moves_withPn _ s rfl rfl
  split
  · exact h1
  · exact h1.step (moves_post _ _ _ _ _)

theorem moves_keyAction (k : Fin 16) (e : KeyEntry) (w : RestWakes as s) : Moves as s (keyAction k e s).1 := by
  unfold keyAction
  dsimp only
  split
  · exact (moves_runKeyAction k e w).step (moves_endAction _ _ _ _) w.sub
  · exact moves_runKeyAction k e w

theorem moves_dimEnded (k : Fin 16) (st : Status) (s : State) : Moves [.pn] s (dimEnded k st s) := by
  unfold dimEnded
  dsimp only
  split
  · exact (moves_withPn _ s rfl rfl).trans (moves_endAction _ _ _ _)
  · exact moves_withPn _ s rfl rfl

/-! ### Key events -/

/-- A key event handled: its report, its action where one runs on it, and its feedback. -/
theorem moves_issue (ev : KeyEvent) (k : Fin 16) (hp : .pn ∈ as) (h : runsOn (tget s.cfg.keymap k).action = some ev → RestWakes as s) :
    Moves as s (issue ev s k) := by
  have hpn : [Area.pn] ⊆ as := by simpa using hp
  unfold issue
  extract_lets e s1 runs r
  have h1 : Moves as s s1 := by
    unfold s1
    split
    · exact (moves_offerKey k ev s).mono hpn
    · exact .refl
  have hr : Moves as s r.1 := by
    unfold r
    split
    · rename_i hruns
      exact h1.trans (moves_keyAction k e ((h (by simpa [runs, e] using hruns)).after h1))
    · exact h1
  split
  · split
    · exact hr.step (moves_chime _ _) (List.nil_subset _)
    · exact hr
  · split
    · exact hr.step (moves_chime _ _) (List.nil_subset _)
    · exact hr
  · exact hr

theorem moves_withKey (k : Fin 16) (f : KeyCell → KeyCell) (s : State) : Moves [.pn] s (withKey k f s) := moves_withPn _ s rfl rfl

theorem moves_pressKey (k : Fin 16) (w : RestWakes as s) : Moves as s (pressKey s k) := by
  have h := (moves_withKey k (fun c => { c with state := .pressed, hold := true }) s).mono w.sub
  exact h.trans (moves_issue .press k (w.sub (bs := [.pn]) (by decide) (List.mem_singleton_self _)) fun _ => w.after h)

/-- No action runs on a RELEASE (R126). -/
theorem runsOn_release (a : KeyAction) : runsOn a ≠ some .release := by cases a <;> decide

theorem moves_openKey (s : State) (k : Fin 16) : Moves [.pn] s (openKey s k) := by
  unfold openKey
  extract_lets s1
  have h1 : Moves [.pn] s s1 := moves_withKey k _ s
  split
  · exact h1.trans (moves_issue .release k (by decide) fun h => absurd h (runsOn_release _))
  · exact h1

/-! ### Scanning -/

theorem moves_ambiguity (reads : BitVec 16) (s : State) : Moves [.pn] s (ambiguity reads s) := by
  unfold ambiguity
  split
  · exact .refl
  · split
    · exact moves_withPn _ s rfl rfl
    · exact moves_withPn _ s rfl rfl

theorem moves_scanKeys (reads held : BitVec 16) (s : State) : Moves [.pn] s (scanKeys reads held s) := moves_withPn _ s rfl rfl

theorem moves_clearRuns (ks : List (Fin 16)) (s : State) : Moves [.pn] s (clearRuns ks s) :=
  moves_foldl (f := fun s k => withKey k (fun c => { c with run := 0 }) s) (fun s k => moves_withKey k _ s) ks s

theorem moves_allKeys (st : KeyState) (ks : List (Fin 16)) (s : State) :
    Moves [.pn] s (ks.foldl (fun s k => withKey k (fun c => { c with state := st }) s) s) :=
  moves_foldl (f := fun s k => withKey k (fun c => { c with state := st }) s) (fun s k => moves_withKey k _ s) ks s

theorem moves_singleClosures (ks : List (Fin 16)) (w : RestWakes as s) : Moves as s (singleClosures ks s) := by
  unfold singleClosures
  dsimp only
  split
  · exact (moves_allKeys _ ks s).mono w.sub
  · split
    · exact .refl
    · exact moves_pressKey _ w
    · exact (moves_allKeys _ _ s).mono w.sub

theorem moves_singleEnd (w : RestWakes as s) : Moves as s (singleEnd s) := by
  unfold singleEnd
  split
  · exact .refl
  · split
    · exact moves_pressKey _ w
    · exact .refl

theorem moves_openKeys (ks : List (Fin 16)) (s : State) : Moves [.pn] s (ks.foldl openKey s) := moves_foldl moves_openKey ks s

/-- A run that ends one of the scan's parts goes on with the scan's end. -/
theorem moves_thenSingleEnd (w : RestWakes as s) (h : Moves as s t) : Moves as s (singleEnd t) := h.trans (moves_singleEnd (w.after h))

theorem moves_singleScan (closures openings : List (Fin 16)) (w : RestWakes as s) (hc : .choices ∈ as) :
    Moves as s (singleScan closures openings s) := by
  have hchoices : [Area.choices] ⊆ as := by simpa using hc
  unfold singleScan
  dsimp only
  split
  · exact moves_thenSingleEnd w ((moves_openKeys _ s).mono w.sub)
  · exact moves_thenSingleEnd w (moves_singleClosures _ w)
  · have h1 : Moves as s (countChoices 2 s) := (moves_countChoices 2 s).mono hchoices
    split
    · have h2 := h1.trans (moves_singleClosures closures (w.after h1))
      exact moves_thenSingleEnd w (h2.step (moves_openKeys _ _) w.sub)
    · have h2 := h1.step (moves_openKeys openings _) w.sub
      exact moves_thenSingleEnd w (h2.trans (moves_singleClosures _ (w.after h2)))

/-- A fold whose every step moves within the areas, whatever wakes came before. -/
theorem moves_foldl_wakes {α : Type} {f : State → α → State} (h : ∀ s a, RestWakes as s → Moves as s (f s a)) (xs : List α) {s : State}
    (w : RestWakes as s) : Moves as s (xs.foldl f s) := by
  induction xs generalizing s with
  | nil => exact .refl
  | cons x xs ih => exact (h s x w).trans (ih (w.after (h s x w)))

theorem moves_multiScan (closures ks : List (Fin 16)) (w : RestWakes as s) (hc : .choices ∈ as) :
    Moves as s (multiScan closures ks s) := by
  have hchoices : [Area.choices] ⊆ as := by simpa using hc
  unfold multiScan
  extract_lets s1
  have h1 : Moves as s s1 := by
    unfold s1
    split
    · exact (moves_countChoices _ s).mono hchoices
    · exact .refl
  refine h1.trans (moves_foldl_wakes (fun s k w => ?_) _ (w.after h1))
  split
  · exact moves_pressKey k w
  · exact (moves_openKey s k).mono w.sub

theorem moves_keyScan (reads : BitVec 16) (w : RestWakes as s) (hc : .choices ∈ as) : Moves as s (keyScan reads s) := by
  unfold keyScan
  split
  · exact .refl
  · extract_lets s1 s2 ks closures openings s3 s4
    have h3 : Moves as s s3 :=
      (((moves_ambiguity reads s).trans (moves_scanKeys _ _ _)).trans (moves_clearRuns _ _)).mono w.sub
    have h4 : Moves as s s4 := by
      unfold s4
      split
      · exact h3
      · exact h3.step (moves_wakeFromDoze _) w.sub
    split
    · exact h4.trans (moves_singleScan _ _ (w.after h4) hc)
    · exact h4.trans (moves_multiScan _ _ (w.after h4) hc)

theorem moves_countPanel (s t : State) : Moves [] t (countPanel s t) := by
  unfold countPanel
  split
  · exact .refl
  · refine .of_move (.rev _ t ⟨fun j hj => ?_, ?_⟩)
    · rw [tget_tset]
      split_ifs
      · omega
      · exact hj
    · rw [tget_tset, if_neg (by decide)]

theorem moves_holdOver (k : Fin 16) (w : RestWakes as s) : Moves as s (holdOver k s) := by
  unfold holdOver
  split
  · have h := (moves_withKey k (fun c => { c with hold := false }) s).mono w.sub
    have hissue := h.trans (moves_issue .hold k (w.sub (bs := [.pn]) (by decide) (List.mem_singleton_self _)) fun _ => w.after h)
    exact hissue.step (moves_countPanel _ _) (List.nil_subset _)
  · exact .refl

theorem moves_releaseAll (s : State) : Moves [.pn, .choices] s (releaseAll s) := by
  unfold releaseAll
  extract_lets ks s1
  have h1 : Moves [.pn, .choices] s s1 := by
    unfold s1
    split
    · exact (moves_countChoices _ s).mono
    · exact .refl
  exact h1.step (moves_openKeys _ _)

theorem moves_resetKeys (f : KeyCell → KeyCell) (s : State) : Moves [.pn] s (resetKeys f s) := moves_withPn _ s rfl rfl

theorem moves_panelModeEffect (s : State) : Moves [.pn, .choices] s (panelModeEffect s) :=
  (moves_releaseAll s).step (moves_resetKeys _ _)

theorem moves_askRaw {c : Consumer} (hc : lightsConsumer c = false) (r : Option Request) (s : State) : Moves [.demand] s (ask c r s) :=
  moves_tableStep (TableStep.ask hc r s) (ask_ga c r s) (by decide)

theorem moves_panelStandby (s : State) : Moves [.pn, .choices, .sleep, .demand] s (panelStandby s) := by
  have h1 : Moves [.pn, .choices, .sleep, .demand] s (withPn (fun u => { u with standby := true }) s) :=
    .of_move (.panelSleep s (by decide))
  exact (((h1.step (moves_releaseAll _)).step (moves_resetKeys _ _)).step (moves_stopChimes _)).step (moves_askRaw rfl _ _)

/-! ### Contacts -/

theorem moves_withContact (c : Contact) (f : ContactCell → ContactCell) (s : State) : Moves [.pn] s (withContact c f s) :=
  moves_withPn _ s rfl rfl

theorem moves_handContact (c : Contact) (initial : Bool) (ha : .mc ∈ as) (hw : s.mc.mode = .standby → wakeAreas ⊆ as)
    (hsleep : .sleep ∉ as) : Moves as s (handContact c initial s) := by
  unfold handContact
  extract_lets st set s1 s2
  have h1 : Moves as s s1 := by
    unfold s1
    split
    · exact (moves_hand _ s).mono (List.nil_subset _)
    · exact .refl
  have h2 : Moves as s s2 := by
    unfold s2
    split
    · exact h1.step (moves_post _ _ _ _ _) (List.nil_subset _)
    · exact h1
  split
  · exact h2.trans (moves_wakePart ha fun hm => hw (h2.mode_standby hsleep hm))
  · exact h2

theorem moves_contactInput (c : Contact) (l : LineLevel) (s : State) : Moves [.pn] s (contactInput c l s) := by
  unfold contactInput
  extract_lets cell t
  split
  · exact .refl
  · exact moves_withContact c _ s

theorem moves_debounceOver (c : Contact) (hp : .pn ∈ as) (ha : .mc ∈ as) (hw : s.mc.mode = .standby → wakeAreas ⊆ as)
    (hsleep : .sleep ∉ as) : Moves as s (debounceOver c s) := by
  unfold debounceOver
  extract_lets cell st s1
  split
  · exact .refl
  · have h1 : Moves as s s1 := (moves_withContact c _ s).mono (by simpa using hp)
    have hw1 : s1.mc.mode = .standby → wakeAreas ⊆ as := fun hm => hw (h1.mode_standby hsleep hm)
    split
    · exact h1.trans (moves_handContact c true ha hw1 hsleep)
    split
    · exact h1
    · exact h1.trans (moves_handContact c false ha hw1 hsleep)

theorem moves_rejudgeContact (old : Vector ContactSet 6) (c : Contact) (hp : .pn ∈ as) (ha : .mc ∈ as)
    (hw : s.mc.mode = .standby → wakeAreas ⊆ as) (hsleep : .sleep ∉ as) : Moves as s (rejudgeContact old s c) := by
  unfold rejudgeContact
  extract_lets set cell
  split
  · exact .refl
  · split
    · exact .refl
    · extract_lets st
      split
      · exact .refl
      · have h1 : Moves as s (withContact c (fun x => { x with state := st }) s) := (moves_withContact c _ s).mono (by simpa using hp)
        exact h1.trans (moves_handContact c false ha (fun hm => hw (h1.mode_standby hsleep hm)) hsleep)

theorem moves_contactsEffect (old : Vector ContactSet 6) (hp : .pn ∈ as) (ha : .mc ∈ as)
    (hw : s.mc.mode = .standby → wakeAreas ⊆ as) (hsleep : .sleep ∉ as) : Moves as s (contactsEffect old s) := by
  unfold contactsEffect
  generalize allContacts = cs
  induction cs generalizing s with
  | nil => exact .refl
  | cons c cs ih =>
    have h := moves_rejudgeContact old c hp ha hw hsleep
    exact h.trans (ih fun hm => hw (h.mode_standby hsleep hm))

end Sys2Proof.Machine
end

section
/-! PROOFS. The Mode Controller's operations and the close of an event as runs of moves. -/

namespace Sys2Proof.Machine

-- One proof after another: started together they wait for one another, each on a thread of its own.
set_option Elab.async false

variable {s t u : State} {as : List Area}

/-- A change of the MC that leaves the mode, the supply and the heater parts. -/
theorem moves_withMc (f : ModeUnit → ModeUnit) (s : State) (hmode : (f s.mc).mode = s.mc.mode) (hsup : (f s.mc).supply = s.mc.supply)
    (hsil : silenceMove as s.mc.silence (f s.mc).silence) (hpart : (f s.mc).heaterPart = s.mc.heaterPart)
    (hwrite : (f s.mc).heaterWrite = s.mc.heaterWrite) (ha : .mc ∈ as := by decide)
    (hdue : (f s.mc).restart = .store → s.mc.restart = .store ∨ .restart ∈ as := by exact fun h => .inl h) :
    Moves as s (withMc f s) :=
  .of_move (.mc (f s.mc) s ha hmode hsup hsil (fun _ ⟨h1, h2⟩ => ⟨hpart ▸ h1, hwrite ▸ h2⟩) hdue)

/-! ### DOZE and the tick -/

theorem moves_dozeCheck (s : State) : Moves [.mc, .doze] s (dozeCheck s) := by
  unfold dozeCheck
  split
  · rename_i hready
    split
    · exact (moves_silence s).mono
    · have hdoze : Moves [.mc, .doze] s { s with mc := { s.mc with mode := .doze } } := .of_move (.doze s (by decide) hready)
      obtain ⟨b, hb, e | e⟩ := setMode_marks .doze s <;> rw [e]
      · exact hdoze.trans (.of_move (.rescan b _ hb))
      · exact (hdoze.trans (.of_move (.rescan b _ hb))).step (moves_hand _ _)
  · exact .refl

theorem moves_tickClocks (s : State) : Moves [.su, .mc, .doze] s (tickClocks s) := by
  unfold tickClocks
  extract_lets next
  exact (moves_withSu (fun u => { u with elapsed := next, tenth := 0 }) s rfl rfl rfl).mono.step
    (moves_withMc (as := [.mc, .doze]) _ _ rfl rfl (.inr (.inr ⟨by decide, fun _ => Nat.min_le_left _ _⟩)) rfl rfl)

theorem moves_raiseAt (o : Option Nat) (i : Instr) (s : State) : Moves [] s (raiseAt o i s) := by
  unfold raiseAt
  split
  · exact moves_raise i s
  · exact .refl

theorem moves_raiseExpiries (s : State) : Moves [] s (raiseExpiries s) := by
  unfold raiseExpiries
  extract_lets s1 s2 s3 s4 s5
  have h1 : Moves [] s s1 := by
    unfold s1
    split
    · exact moves_raise _ s
    · exact .refl
  exact ((((h1.trans (moves_raiseAt _ _ _)).trans (moves_raiseAt _ _ _)).trans (moves_raiseAt _ _ _)).trans
    (moves_raiseAt _ _ _)).trans (moves_raiseAt _ _ _)

/-- What the blocks move at a tick, before the schedule's search. -/
def tickAreas : List Area := [.su, .mc, .doze, .rm, .hc, .asked]

theorem moves_tickBlocks (s : State) : Moves tickAreas s (tickBlocks s) :=
  ((((moves_tickClocks s).mono.step (moves_dozeCheck _)).step (moves_restTick _)).step (moves_raiseExpiries _)).step (moves_heaterHolds _)

theorem moves_tick (w : Wakes as s) (hsub : tickAreas ⊆ as) : Moves as s (tick s) := by
  have hblocks := moves_tickBlocks s
  have hevent : Moves tickAreas s (ownerEvent allRecords tickBlocks s) :=
    hblocks.step (moves_advance allRecords s _ (.inr (hblocks.clockView (by decide)))) (List.nil_subset _)
  exact moves_thenFireDue w (hevent.mono hsub)

/-! ### Wake sources and STANDBY -/

theorem moves_startBit (s : State) : Moves [.mc] s (startBit s) := by
  unfold startBit
  split
  · exact .refl
  · exact (moves_withMc (as := [.mc]) _ s rfl rfl (.inr (.inl rfl)) rfl rfl).trans (moves_wakeFromDoze _)

theorem moves_wakeEdge (hw : s.mc.mode = .standby → wakeAreas ⊆ as) : Moves as s (wakeEdge s) := by
  unfold wakeEdge
  split
  · rename_i hmode
    exact (moves_wakeStandby hmode).mono (hw hmode)
  · exact .refl

theorem moves_setMode_standby (s : State) : Moves [.sleep] s (setMode .standby s) := by
  have hsleep : Moves [.sleep] s { s with mc := { s.mc with mode := .standby } } := .of_move (.sleep s (by decide))
  obtain ⟨b, hb, e | e⟩ := setMode_marks .standby s <;> rw [e]
  · exact hsleep.trans (.of_move (.rescan b _ hb))
  · exact (hsleep.trans (.of_move (.rescan b _ hb))).step (moves_hand _ _)

/-- What the entry into STANDBY moves (R188). -/
def standbyAreas : List Area := [.rawChan, .mu, .cc, .hc, .fc, .rm, .asked, .mc, .pn, .choices, .sleep, .demand]

theorem moves_enterStandby (s : State) : Moves standbyAreas s (enterStandby s) := by
  unfold enterStandby
  extract_lets stopped
  exact ((moves_setMode_standby s).mono.step (moves_stopChannels stopped _)).step (moves_panelStandby _)

theorem moves_standby (s : State) : Moves (.answer :: standbyAreas) s (standby s) := by
  unfold standby
  split
  · exact (moves_answer _ _ s).mono
  · split
    · exact (moves_answer _ _ s).mono
    · exact (moves_enterStandby s).mono.step (moves_answer _ _ _)

theorem flameGuarded_panelStandby (h : flameGuarded s) : flameGuarded (panelStandby s) := by
  have h1 : flameGuarded (withPn (fun u => { u with standby := true }) s) := h
  exact (((((moves_releaseAll _).flameKept.trans (moves_resetKeys _ _).flameKept).trans (moves_stopChimes _).flameKept).trans
    (moves_askRaw rfl _ _).flameKept)).sound h1

/-- In STANDBY no flame burns: it is entered from OFF or LOCKOUT alone, and the channels it stops are discarded (R3, R188). -/
theorem flameGuarded_standby (hs : flameGuarded s) : flameGuarded (standby s) := by
  unfold standby
  split
  · exact (moves_answer _ _ s).flameKept.sound hs
  split
  · exact (moves_answer _ _ s).flameKept.sound hs
  · rename_i hno
    have hcool : ¬flaming s.hc.state := by
      simp only [standbyRefused, Bool.or_eq_true, not_or, Bool.not_eq_true, Bool.not_eq_false', beq_iff_eq, Bool.or_eq_true] at hno
      obtain ⟨⟨⟨hoff | hlock, -⟩, -⟩, -⟩ := hno
      · rw [hoff]; decide
      · rw [hlock]; decide
    have hsame : (setMode .standby s).cfg = s.cfg ∧ (setMode .standby s).mu.chan = s.mu.chan ∧ (setMode .standby s).hc = s.hc
        ∧ (setMode .standby s).mc.mode = .standby := by
      obtain ⟨b, e | e⟩ := setMode_cases .standby s <;> rw [e] <;> exact ⟨rfl, rfl, rfl, rfl⟩
    obtain ⟨hcfg, hchan, hhc, hmode⟩ := hsame
    refine (moves_answer _ _ _).flameKept.sound ?_
    unfold enterStandby
    extract_lets stopped
    refine flameGuarded_panelStandby (flameGuarded_stopChannels stopped (fun d hd => ?_) fun hf => absurd (hhc ▸ hf) hcool)
    rw [isConverted_discardChannels] at hd
    rw [statusOf_discardChannels, statusOf_congr hchan]
    split_ifs with hin
    · rfl
    · refine hs.1 d ?_
      unfold isConverted at hd ⊢
      rw [hcfg, hmode] at hd
      have hno : ¬((tget s.cfg.chan (chanIx d)).enabled = true ∧ sampledIn .standby d = false) := fun ⟨hen, hst⟩ => by
        refine hin (List.mem_filter.2 ⟨?_, by simpa [hcfg] using hen⟩)
        cases d <;> first | decide | exact absurd hst (by decide)
      revert hd hno
      cases (tget s.cfg.chan (chanIx d)).enabled <;> cases sampledIn .standby d <;> simp

/-! ### The store and the resets -/

theorem moves_saveSettings (s : State) : Moves [.mc] s (saveSettings s) := moves_withMc (as := [.mc]) _ s rfl rfl (.inl rfl) rfl rfl

theorem moves_settingsWritten (s : State) : Moves [.mc, .answer] s (settingsWritten s) := by
  unfold settingsWritten
  split
  · exact .refl
  · exact (moves_withMc (as := [.mc]) _ s rfl rfl (.inl rfl) rfl rfl).mono.step (moves_answer _ _ _)

theorem heaterPartOf_small {h : HeaterUnit} (hs : heaterUnitSound h) : heaterPartSmall (heaterPartOf h) := by
  obtain ⟨-, -, -, -, -, -, -, hfailed, hover⟩ := hs
  exact ⟨hfailed, hover⟩

theorem moves_heaterWritten (s : State) : Moves [.mc] s (heaterWritten s) := by
  unfold heaterWritten
  split
  · exact .refl
  · rename_i p hp
    refine .of_move (.mc _ s (by decide) rfl rfl (.inl rfl) fun hu ⟨_, hw⟩ => ⟨fun q hq => ?_, fun q hq => ?_⟩)
    · exact Option.some.inj hq ▸ hw p hp
    · change (if s.mc.heaterAgain then some (heaterPartOf s.hc) else none) = some q at hq
      split at hq
      · exact Option.some.inj hq ▸ heaterPartOf_small hu
      · exact absurd hq (by simp)

theorem moves_restart_answered (s : State) : Moves [.mc, .answer] s (restart false s) := by
  unfold restart
  split
  · exact (moves_answer _ _ s).mono
  · have h : Moves [.mc] s (withMc (fun m => { m with restart := .reply }) s) :=
      moves_withMc _ s rfl rfl (.inl rfl) rfl rfl (by decide) fun h => nomatch h
    exact h.mono.step (moves_answer _ _ _)

theorem moves_restart (quiet : Bool) (s : State) : Moves [.mc, .restart, .answer] s (restart quiet s) := by
  unfold restart
  split
  · exact (moves_answer _ _ s).mono
  · have h : Moves [.mc, .restart] s (withMc (fun m => { m with restart := if quiet then .store else .reply }) s) :=
      moves_withMc _ s rfl rfl (.inl rfl) rfl rfl (by decide) fun _ => .inr (by decide)
    exact h.mono.step (moves_answer _ _ _)

/-! ### The close of an event -/

theorem moves_settle (s t : State) : Moves [.comp, .fc, .hc] t (settle s t) := by
  have h1 : Moves [.comp, .fc, .hc] t { t with mu := { t.mu with comp := compsAfter s t } } := .of_move (.comps _ t (by decide))
  have h2 : Moves [.comp, .fc, .hc] t { t with mu := { t.mu with comp := compsAfter s t }, fc := fridgeAfter s t } := by
    refine h1.trans (.of_move (.fridge (fridgeAfter s t) _ (by decide) ?_ ?_ ?_ ?_))
    all_goals unfold fridgeAfter; dsimp only
    · split_ifs <;> rfl
    · split_ifs <;> rfl
    · split_ifs <;> rfl
    · split
      · exact id
      split
      · exact fun ⟨_, h2, h3, h4, h5⟩ => ⟨fun h => absurd h (by simp), h2, h3, h4, h5⟩
      · exact id
  refine h2.trans (.of_move (.heater (blowerAfter s t) _ (by decide) ?_ ?_ ?_))
  all_goals unfold blowerAfter; dsimp only
  · split_ifs <;> rfl
  · split_ifs <;> rfl
  · split_ifs <;> exact id

/-- What the close of an event moves (R79, R94, R187). -/
def closeAreas' : List Area := [.comp, .fc, .hc, .mc, .doze, .clock]

theorem moves_close (s t : State) : Moves closeAreas' t (close s t) := by
  have h1 : Moves closeAreas' t (ownerEvent [0] dozeCheck (settle s t)) :=
    (moves_settle s t).mono.step (moves_ownerEvent [0] (by decide) (moves_dozeCheck _))
  exact h1.step (moves_advance_clock allRecords s _)

end Sys2Proof.Machine
end

section
/-! PROOFS. The record operations as runs of moves: each answers, or writes a record whose owner takes the change, or restores the
rest log. -/

namespace Sys2Proof.Machine

-- One proof after another: started together they wait for one another, each on a thread of its own.
set_option Elab.async false

variable {s t u : State} {as : List Area}

/-! ### What an owner does with a change -/

theorem moves_targetEvent (old : Vector Nat 6) (n : Nat) (own : Bool) (s : State) : Moves [.lc, .asked] s (targetEvent old n own s) := by
  rw [targetEvent_eq]
  refine ((mapLights_raw _ s fun i h => ?_).trans (entrySettles_raw _)).follow
  split_ifs
  · exact h
  · exact startFade_sound n _
  · exact startFade_sound n _

theorem moves_lightsWritten (old : Vector Nat 6) (s : State) : Moves [.lc, .asked] s (lightsWritten old s) := moves_targetEvent _ _ _ s

theorem moves_ventEffect (old : Nat) (s : State) : Moves [.fc, .asked] s (ventEffect old s) := by
  rw [ventEffect_eq]
  split
  · exact .refl
  · exact .of_move (.vent (ventTaken old s) s (by decide) (by decide) rfl rfl fun h => h)

/-- What a record's owner moves with a change, the wake that it may cause apart. -/
def ownerAreas : Nat → List Area
  | 3 => [.cc, .rm]
  | 5 => [.ga, .relisted]
  | 7 => [.ga, .demand]
  | 8 => judgeAreas
  | 10 => [.comp]
  | 11 => [.hc]
  | 14 => [.fc, .asked]
  | 16 => [.fc, .asked]
  | 17 => [.ga, .asked]
  | 18 => [.lc, .asked]
  | 21 => [.pn, .choices]
  | 22 => [.pn, .mc]
  | 24 => .rm :: fireAreas
  | 26 => fireAreas
  | _ => []

/-- The records whose write, or restore, may wake the part. -/
def wakingRecord (r : Nat) : Bool := r == 5 || r == 7 || r == 22 || r == 24 || r == 25 || r == 26

/-- The areas hold what the owner of record `r` moves with a change of it, and in STANDBY what a wake moves where that may wake the
part. -/
structure OwnerWakes (as : List Area) (s : State) (r : Nat) : Prop where
  owner : ownerAreas r ⊆ as
  capacity : r = 3 → .poked 3 ∈ as
  wake : wakingRecord r = true → s.mc.mode = .standby → wakeAreas ⊆ as
  awake : .sleep ∉ as
  clock : .clock ∉ as

/-- The areas hold those of a write of record `r`. -/
structure WriteWakes (as : List Area) (s : State) (r : Nat) : Prop extends OwnerWakes as s r where
  poked : .poked r ∈ as
  answer : .answer ∈ as

namespace OwnerWakes

variable {r : Nat}

theorem after (w : OwnerWakes as s r) (h : Moves as s t) : OwnerWakes as t r :=
  ⟨w.owner, w.capacity, fun hr hm => w.wake hr (h.mode_standby w.awake hm), w.awake, w.clock⟩

theorem sub (w : OwnerWakes as s r) {bs : List Area} (h : bs ⊆ ownerAreas r) : bs ⊆ as := fun _ m => w.owner (h m)

theorem passWakes (w : OwnerWakes as s r) (h : .ga ∈ ownerAreas r) (hr : wakingRecord r = true) : PassWakes as s :=
  ⟨w.owner h, w.wake hr, w.awake, w.clock⟩

end OwnerWakes

theorem moves_ownerEffect {r : Nat} (old : State) (ws : List FieldWrite) (w : OwnerWakes as s r) :
    Moves as s (ownerEffect r old ws s) := by
  unfold ownerEffect
  split
  · refine (moves_batteryEffect _ s).mono fun a ha => ?_
    obtain h | h : a ∈ [Area.cc, .rm] ∨ a = .poked 3 := by simpa [or_assoc] using ha
    · exact w.owner h
    · exact h ▸ w.capacity rfl
  · exact moves_consumersEffect _ (w.passWakes (by decide) rfl) (w.owner (by decide))
  · exact moves_demandsEffect (w.passWakes (by decide) rfl) (w.owner (by decide))
  · exact (moves_channelsEffect _ s).mono w.owner
  · exact (moves_tripsEffect _ s).mono w.owner
  · split
    · exact (moves_withHc _ s rfl rfl fun h => h).mono w.owner
    · exact .refl
  · exact (moves_fridgeSetEffect _ _ s).mono w.owner
  · dsimp only
    split
    · exact ((moves_ventEffect _ s).step (moves_ventLimitEffect _)).mono w.owner
    · exact (moves_ventEffect _ s).mono w.owner
  · exact ((moves_socketEffect .a _ _ s).trans (moves_socketEffect .b _ _ _)).mono w.owner
  · exact (moves_lightsWritten _ s).mono w.owner
  · split
    · exact .refl
    · exact (moves_panelModeEffect s).mono w.owner
  · exact moves_contactsEffect _ (w.owner (by decide)) (w.owner (by decide)) (w.wake rfl) w.awake
  · exact moves_profileEffect _ ⟨⟨w.sub (by decide), w.wake rfl, w.awake⟩, w.owner (by decide)⟩
  · exact moves_fireDue ⟨w.owner, w.wake rfl, w.awake⟩
  · exact .refl

/-! ### An accepted write -/

theorem moves_operateRecord {r : Nat} {f : State → State} (hr : r ≠ 2) (h : Moves as s (f s)) : Moves as s (operateRecord r f s) := by
  unfold operateRecord
  split
  · exact moves_operate _ (fun e => hr (by have := congrArg Fin.val e; simp at this; omega)) h
  · exact h

theorem moves_ownerTakes {r : Nat} {f : State → State} (hr : r ≠ 2) (h : Moves as s (f s)) : Moves as s (ownerTakes r f s) := by
  unfold ownerTakes
  split
  · refine moves_ownerEvent _ (fun e => hr ?_) h
    have := congrArg Fin.val (List.mem_singleton.1 e)
    simp at this
    omega
  · exact h

theorem moves_accept {r : Nat} (ws : List FieldWrite) (st : Status) (data : List Byte) (hr : r ≠ 2) (w : WriteWakes as s r) :
    Moves as s (accept r ws st data s) := by
  unfold accept
  extract_lets s1 s2
  have h1 : Moves as s s1 := moves_operateRecord hr (.of_move (.poke r ws s w.poked))
  have h2 : Moves as s s2 := h1.trans (.of_move (.answer _ s1 w.answer))
  split
  · exact h2
  · exact h2.trans (moves_ownerTakes hr (moves_ownerEffect s ws (w.toOwnerWakes.after h2)))

/-! ### The outcomes of the record operations -/

/-- The records that a writing operation on fields may change. -/
def writable (r : Nat) : Prop := (recordView .reset r).isSome = true ∧ readOnlyRecords.contains r = false ∧ r ≠ 25

/-- An accepted restore (R151). -/
def restored (drive acc : Nat) (log : List RestSpan) (s : State) : State :=
  let s1 := operate 24 (restoreContent drive acc log) s
  operate 24 restoreEffect (answer .ok [revByte s1 25] s1)

/-- What an operation on record `r` comes to: an answer alone, an accepted write, or, of REST_STATE, an accepted restore. -/
inductive RecordOutcome (r : Nat) (s : State) : State → Prop
  | answers (st : Status) (data : List Byte) : RecordOutcome r s (answer st data s)
  | writes (ws : List FieldWrite) (st : Status) (data : List Byte) (hr : writable r) : RecordOutcome r s (accept r ws st data s)
  | restores (drive acc : Nat) (log : List RestSpan) (hr : r = 25) (hok : restoreRefusal s drive acc log = none) :
      RecordOutcome r s (restored drive acc log s)

theorem recordView_isNone (s t : State) (r : Nat) : (recordView s r).isNone = (recordView t r).isNone := by
  unfold recordView
  split <;> rfl

/-- A write that its place does not refuse is of a writable record. -/
theorem writable_of_placed {r : Nat} {ws : List FieldWrite} (h : placeRefusal s r ws = none) : writable r := by
  unfold placeRefusal at h
  dsimp only at h
  split at h
  · exact absurd h (by simp)
  · rename_i hknown
    split at h
    · exact absurd h (by simp)
    split at h
    · exact absurd h (by simp)
    split at h
    · exact absurd h (by simp)
    · rename_i hopen
      simp only [Bool.or_eq_true, not_or, Bool.not_eq_true, beq_eq_false_iff_ne] at hopen
      refine ⟨?_, hopen.1.1, hopen.1.2⟩
      have hview := recordView_isNone s .reset r
      rw [Bool.not_eq_true _ |>.mp hknown] at hview
      rw [← Option.not_isNone, ← hview]
      rfl

theorem fieldWriteOp_outcome (r : Nat) (ws : List FieldWrite) (s : State) : RecordOutcome r s (fieldWriteOp r ws s) := by
  unfold fieldWriteOp
  split
  · exact .answers _ _
  · rename_i hplace
    split
    · exact .answers _ _
    · exact .writes _ _ _ (writable_of_placed hplace)

theorem adjustOp_outcome (r field : Nat) (elem : Option Nat) (delta : Int) (s : State) :
    RecordOutcome r s (adjustOp r field elem delta s) := by
  unfold adjustOp
  split
  · exact .answers _ _
  · split
    · exact .answers _ _
    · dsimp only
      split
      · exact .answers _ _
      · rename_i hplace
        split
        · exact .answers _ _
        · exact .writes _ _ _ (writable_of_placed hplace)

theorem exchangeOp_outcome (r field : Nat) (elem : Option Nat) (value : Option Int) (s : State) :
    RecordOutcome r s (exchangeOp r field elem value s) := by
  unfold exchangeOp
  dsimp only
  split
  · exact .answers _ _
  · exact .answers _ _
  · rename_i hplace _
    split
    · exact .answers _ _
    · exact .writes _ _ _ (writable_of_placed hplace)

theorem compareOp_outcome (r field : Nat) (elem : Option Nat) (expected value : Option Int) (s : State) :
    RecordOutcome r s (compareOp r field elem expected value s) := by
  unfold compareOp
  dsimp only
  split
  · exact .answers _ _
  · exact .answers _ _
  · rename_i hplace _
    split
    · split
      · exact .answers _ _
      · exact .writes _ _ _ (writable_of_placed hplace)
    · exact .answers _ _

theorem restPut_outcome (expected : Option Nat) (drive acc : Nat) (log : List RestSpan) (s : State) :
    RecordOutcome 25 s (restPut expected drive acc log s) := by
  unfold restPut
  dsimp only
  split
  · exact .answers _ _
  · exact .answers _ _
  · rename_i hok
    split
    · exact .answers _ _
    · exact .restores drive acc log rfl hok

theorem restPutValues_outcome (expected : Option Nat) (values : List (Option Int)) (s : State) :
    RecordOutcome 25 s (restPutValues expected values s) := by
  unfold restPutValues
  split
  · split
    · split
      · exact restPut_outcome _ _ _ _ s
      · exact restPut_outcome _ _ _ _ s
    · exact .answers _ _
  · exact .answers _ _

theorem putOp_outcome (r : Nat) (elem expected : Option Nat) (values : List (Option Int)) (s : State) :
    RecordOutcome r s (putOp r elem expected values s) := by
  unfold putOp
  split
  · exact .answers _ _
  split
  · exact .answers _ _
  split
  · exact .answers _ _
  split
  · rename_i hr
    subst hr
    exact restPutValues_outcome _ _ s
  · dsimp only
    split
    · exact .answers _ _
    · split
      · exact .answers _ _
      · rename_i hplace
        split
        · exact .answers _ _
        · split
          · exact .answers _ _
          · exact .writes _ _ _ (writable_of_placed hplace)

theorem getOp_answers (r list start count : Nat) (s : State) : ∃ st data, getOp r list start count s = answer st data s := by
  unfold getOp
  split
  · exact ⟨_, _, rfl⟩
  · split
    · exact ⟨_, _, rfl⟩
    · split
      · exact ⟨_, _, rfl⟩
      · split
        · exact ⟨_, _, rfl⟩
        · exact ⟨_, _, rfl⟩

/-! ### The outcomes as moves -/

theorem writable_ne_clock {r : Nat} (h : writable r) : r ≠ 2 := by
  rintro rfl
  exact absurd h.2.1 (by decide)

/-- The areas hold those of a restore and, in STANDBY, of a wake. -/
structure RestoreWakes (as : List Area) (s : State) : Prop extends RestWakes as s where
  answer : .answer ∈ as

theorem moves_restored (drive acc : Nat) (log : List RestSpan) (hok : restoreRefusal s drive acc log = none) (w : RestoreWakes as s) :
    Moves as s (restored drive acc log s) := by
  have hlog : log.length ≤ 8 := by
    unfold restoreRefusal at hok
    split at hok
    · split at hok
      · rename_i h
        exact restoreOk_length h
      · exact absurd hok (by simp)
    · split at hok
      · rename_i h
        exact restoreOk_length h
      · exact absurd hok (by simp)
    · exact absurd hok (by simp)
  unfold restored
  extract_lets s1
  have h1 : Moves as s s1 := (moves_operate 24 (by decide) (moves_restoreContent drive acc log s hlog)).mono w.sub
  have h2 : Moves as s (answer .ok [revByte s1 25] s1) := h1.trans (.of_move (.answer _ s1 w.answer))
  exact h2.trans (moves_operate 24 (by decide) (moves_restoreEffect (w.toRestWakes.after h2)))

theorem moves_outcome {r : Nat} (h : RecordOutcome r s t) (ha : .answer ∈ as) (hw : writable r → WriteWakes as s r)
    (hr : r = 25 → RestoreWakes as s) : Moves as s t := by
  cases h with
  | answers st data => exact .of_move (.answer _ s ha)
  | writes ws st data h => exact moves_accept ws st data (writable_ne_clock h) (hw h)
  | restores drive acc log h hok => exact moves_restored drive acc log hok (hr h)

end Sys2Proof.Machine
end

section
/-! PROOFS. The link's operations as runs of moves. -/

namespace Sys2Proof.Machine

-- One proof after another: started together they wait for one another, each on a thread of its own.
set_option Elab.async false

variable {s t u : State} {as : List Area}

/-- A change of the LK that keeps its queues within their depths. -/
theorem moves_withLk (f : LinkUnit → LinkUnit) (s : State) (hq : s.lk.queue.length ≤ 4 → (f s.lk).queue.length ≤ 4)
    (hn : s.lk.notices.length ≤ 16 → (f s.lk).notices.length ≤ 16) : Moves [.lk] s (withLk f s) :=
  .of_move (.link (f s.lk) s (by decide) hq hn)

/-! ### Notices -/

/-- The severity that a full queue gives up stands in the queue, so an entry goes (R181). -/
theorem evictNotice_length {q : List Notice} (h : q ≠ []) : (evictNotice q).length = q.length - 1 := by
  unfold evictNotice
  have hmem : ∃ n ∈ q, n.severity = evictedSeverity q := by
    unfold evictedSeverity
    split
    · rename_i hany
      simpa using hany
    split
    · rename_i hany
      simpa using hany
    · rename_i hinfo hatt
      obtain ⟨n, hn⟩ := List.exists_mem_of_ne_nil q h
      refine ⟨n, hn, ?_⟩
      simp only [List.any_eq_true, beq_iff_eq, not_exists, not_and] at hinfo hatt
      have h1 := hinfo n hn
      have h2 := hatt n hn
      cases hs : n.severity <;> simp_all
  obtain ⟨n, hn, hsev⟩ := hmem
  exact List.length_eraseP_of_mem hn (by simp [hsev])

theorem moves_queueNotice (p : Posting) (s : State) : Moves [.lk] s (queueNotice p s) := by
  unfold queueNotice
  dsimp only
  split
  · exact moves_withLk _ s (fun h => h) fun h => by simpa using h
  split
  · rename_i hroom
    exact moves_withLk _ s (fun h => h) fun _ => by simp only [List.length_append, List.length_singleton]; omega
  · rename_i hfull
    refine moves_withLk _ s (fun h => h) fun h => ?_
    have hne : s.lk.notices ≠ [] := fun e => hfull (by rw [e]; decide)
    simp only [List.length_append, List.length_singleton, evictNotice_length hne]
    omega

theorem moves_fetch (s : State) : Moves [.lk, .answer] s (fetch s) := by
  unfold fetch
  extract_lets taken left
  have h : Moves [.lk] s (withLk (fun l => { l with notices := left, overflow := false }) s) :=
    moves_withLk _ s (fun h => h) fun h => by simp only [left, List.length_drop]; omega
  exact h.mono.step (moves_answer _ _ _)

/-! ### The receiver -/

theorem moves_nextRequest (s : State) : Moves [] s (nextRequest s) := by
  unfold nextRequest
  split
  · exact moves_raise _ s
  · exact .refl

theorem moves_frameComplete (body : List Byte) (s : State) : Moves [.lk] s (frameComplete body s) := by
  unfold frameComplete
  split
  · exact .refl
  split
  · have h : Moves [.lk] s (withLk (fun l => { l with queue := l.queue ++ [body] }) s) :=
      moves_withLk _ s (fun _ => by simp only [List.length_append, List.length_singleton]; omega) fun h => h
    exact h.step (moves_nextRequest _)
  · exact (moves_post _ _ _ _ s).mono

theorem moves_receive (b : Byte) (s : State) : Moves [.lk] s (receive b s) := by
  unfold receive
  split
  · exact .refl
  · split
    · split
      · exact moves_withLk _ s (fun h => h) fun h => h
      · exact .refl
    · exact moves_withLk _ s (fun h => h) fun h => h
    · exact moves_withLk _ s (fun h => h) fun h => h
    · dsimp only
      split
      · exact (moves_withLk _ s (fun h => h) fun h => h).trans (moves_frameComplete _ _)
      · exact moves_withLk _ s (fun h => h) fun h => h
    · exact .refl

theorem moves_rxGap (s : State) : Moves [.lk] s (rxGap s) := moves_withLk _ s (fun h => h) fun h => h

theorem moves_linkBroken (s : State) : Moves [.lk] s (linkBroken s) := moves_withLk _ s (fun _ => Nat.zero_le _) fun h => h

theorem moves_pulseOver (s : State) : Moves [.lk] s (pulseOver s) := moves_withLk _ s (fun h => h) fun h => h

/-! ### Requests and replies -/

theorem moves_heatStartRequest (sp : Nat) (du : Option Nat) (s : State) :
    Moves [.setpoint, .hc, .asked, .mc, .answer] s (heatStartRequest sp du s) :=
  (moves_heaterStart _ _ s).mono.step (moves_answer _ _ _)

theorem moves_boostRequest (on : Bool) (s : State) : Moves [.fc, .answer] s (boostRequest on s) := by
  unfold boostRequest
  split
  · exact (moves_boostStart s).mono.step (moves_answer _ _ _)
  · exact (moves_boostStop s).mono.step (moves_answer _ _ _)

theorem moves_answerWith {r : State × Status} (ha : .answer ∈ as) (h : Moves as s r.1) : Moves as s (answerWith r) :=
  h.trans (.of_move (.answer _ r.1 ha))

theorem moves_clearKeys (s : State) : Moves [.pn, .answer] s (clearKeys s) := by
  have h : Moves [.pn] s (withPn (fun u => { u with queue := [], overrun := false }) s) :=
    .of_move (.panel _ s (by decide) (fun _ => Nat.zero_le _) rfl)
  exact h.mono.step (moves_answer _ _ _)

theorem moves_endRequest (s : State) : Moves [.lk] s (endRequest s) :=
  (moves_withLk (fun l => { l with inHand := none }) s (fun h => h) fun h => h).step (moves_nextRequest _)

theorem moves_deliver (s : State) : Moves [.lk] s (deliver s) := by
  unfold deliver
  split
  · split
    · exact .refl
    split
    · dsimp only
      split
      · exact moves_endRequest s
      · exact (moves_post _ _ _ _ s).mono.step (moves_endRequest _)
    · exact moves_withLk _ s (fun h => h) fun h => h
  · exact .refl

theorem moves_replyEnded (s : State) : Moves [.lk] s (replyEnded s) := by
  unfold replyEnded
  split
  · split
    · split
      · exact (moves_withLk _ s (fun h => h) fun h => h).trans (moves_endRequest _)
      · exact moves_endRequest s
    · exact .refl
  · exact .refl

theorem moves_replySent (s : State) : Moves [.mc, .restart, .lk] s (replySent s) := by
  have h : Moves [.mc, .restart] s (withMc (fun m => { m with
      silence := 0
      restart := if m.restart = .reply then .store else m.restart }) s) :=
    moves_withMc _ s rfl rfl (.inr (.inl rfl)) rfl rfl (by decide) fun _ => .inr (by decide)
  exact h.mono.step (moves_replyEnded _)

theorem moves_storeWritten (part : StorePart) (s : State) : Moves [.mc, .lk, .answer] s (storeWritten part s) := by
  unfold storeWritten
  split
  · split
    · exact .refl
    · dsimp only
      have h1 : Moves [.mc, .lk, .answer] s (settingsWritten s) := (moves_settingsWritten s).mono
      split
      · split
        · exact h1.step (moves_deliver _)
        · exact h1
      · exact h1
  · exact (moves_heaterWritten s).mono

/-! ### What every command's effect comes to -/

/-- The areas that the events move, the entry into DOZE apart. -/
def safeAreas : List Area :=
  [.setpoint, .mu, .comp, .chan, .cc, .ga, .asked, .hc, .leave, .fc, .lc, .pn, .rm, .su, .clock, .lk, .skip, .mc, .restart, .answer, .choices, .panelTakes]

theorem wakes_safe : Wakes safeAreas s := ⟨by decide, fun _ => by decide, by decide⟩

theorem restWakes_safe : RestWakes safeAreas s := ⟨wakes_safe, by decide⟩

/-- The areas of a pass and of the wake that it may cause, all but the clock's. -/
def passAreas : List Area := .ga :: wakeAreas

theorem passWakes_pass : PassWakes (.lc :: .answer :: passAreas) s := ⟨by decide, fun _ => by decide, by decide, by decide⟩

/-- What an event's effect is to an invariant: a run of safe moves, an operation on a record, a change of a channel, or the entry into
STANDBY. -/
inductive Effect (s : State) : State → Prop
  | moves {t : State} (h : Moves safeAreas s t) : Effect s t
  | record {t : State} (r : Nat) (h : RecordOutcome r s t) : Effect s t
  | marks (n : Nat) (mark : Bool) : Effect s (setHostMark n mark s)
  | converts (ch : Channel) (code : Nat) : Effect s (convert ch code s)
  | sleeps : Effect s (standby s)

namespace Effect

/-- Moves within the safe areas. -/
theorem of (h : Moves as s t) (hab : as ⊆ safeAreas := by decide) : Effect s t := .moves (h.mono hab)

theorem answers (st : Status) (d : List Byte) (s : State) : Effect s (answer st d s) := of (moves_answer st d s)

/-- A record operation from its payload. -/
theorem request (h : ∃ r, RecordOutcome r s t) : Effect s t := h.elim fun r h => .record r h

end Effect

/-- A part that takes a request from a payload: the payload is judged first, and a wrong one answered. -/
theorem effect_bare {f : State → State} (p : List Byte) (h : Effect s (f s)) : Effect s (bare p f s) := by
  unfold bare
  split
  · exact h
  · exact .answers _ _ s

theorem effect_oneByte {f : Nat → State → State} (p : List Byte) (h : ∀ n, Effect s (f n s)) : Effect s (oneByte p f s) := by
  unfold oneByte
  split
  · exact h _
  · exact .answers _ _ s

theorem effect_onOff {f : Bool → State → State} (n : Nat) (h : ∀ b, Effect s (f b s)) : Effect s (onOff f n s) := by
  unfold onOff
  split
  · exact h _
  split
  · exact h _
  · exact .answers _ _ s

theorem effect_addEntry (time rep state : Nat) (a : Option Action) (s : State) : Effect s (addEntry time rep state a s) :=
  .moves (moves_addEntry time rep state a wakes_safe (by decide))

theorem serveFieldWrite_outcome (p : List Byte) (s : State) : ∃ r, RecordOutcome r s (serveFieldWrite p s) := by
  unfold serveFieldWrite
  split
  · split
    · exact ⟨_, fieldWriteOp_outcome _ _ s⟩
    · split
      · exact ⟨_, fieldWriteOp_outcome _ _ s⟩
      · exact ⟨_, fieldWriteOp_outcome _ _ s⟩
      · exact ⟨0, .answers _ _⟩
  · exact ⟨0, .answers _ _⟩

theorem servePut_outcome (p : List Byte) (s : State) : ∃ r, RecordOutcome r s (servePut p s) := by
  unfold servePut
  split
  · exact ⟨0, .answers _ _⟩
  · dsimp only
    split
    · exact ⟨_, putOp_outcome _ _ _ _ s⟩
    · split
      · split
        · exact ⟨_, putOp_outcome _ _ _ _ s⟩
        split
        · split
          · split
            · exact ⟨0, .answers _ _⟩
            split
            · exact ⟨_, putOp_outcome _ _ _ _ s⟩
            · exact ⟨_, restPut_outcome _ _ _ _ s⟩
          · exact ⟨0, .answers _ _⟩
        · split
          · exact ⟨_, putOp_outcome _ _ _ _ s⟩
          · exact ⟨0, .answers _ _⟩
      · exact ⟨0, .answers _ _⟩

theorem serveOneField_outcome (both : Bool) (p : List Byte) (s : State) : ∃ r, RecordOutcome r s (serveOneField both p s) := by
  unfold serveOneField
  split
  · exact ⟨0, .answers _ _⟩
  · dsimp only
    split
    · exact ⟨_, exchangeOp_outcome _ _ _ _ s⟩
    · split
      · exact ⟨0, .answers _ _⟩
      · split
        · exact ⟨_, exchangeOp_outcome _ _ _ _ s⟩
        · split
          · unfold serveValue
            dsimp only
            split
            · split
              · exact ⟨_, compareOp_outcome _ _ _ _ _ s⟩
              · exact ⟨0, .answers _ _⟩
            · split
              · exact ⟨_, exchangeOp_outcome _ _ _ _ s⟩
              · exact ⟨0, .answers _ _⟩
          · exact ⟨0, .answers _ _⟩

theorem serveAdjust_outcome (p : List Byte) (s : State) : ∃ r, RecordOutcome r s (serveAdjust p s) := by
  unfold serveAdjust
  split
  · exact ⟨_, adjustOp_outcome _ _ _ _ s⟩
  · exact ⟨0, .answers _ _⟩

/-- ADD ENTRY's payload is a command's operands, or its length does not fit. -/
theorem serveAddEntry_cases {P : State → Prop} (p : List Byte) (s : State) (hadd : ∀ time rep state a, P (addEntry time rep state a s))
    (hbad : P (badLength s)) : P (serveAddEntry p s) := by
  unfold serveAddEntry
  match p with
  | [] | [_] | [_, _] | [_, _, _] | [_, _, _, _] | [_, _, _, _, _] | [_, _, _, _, _, _] => exact hbad
  | t0 :: t1 :: t2 :: t3 :: rep :: state :: code :: params =>
    dsimp only
    have hother : ∀ c : Nat, P (if 1 ≤ c ∧ c ≤ 6 then badLength s
        else addEntry (ofLe [t0, t1, t2, t3]) rep.toNat state.toNat none s) := fun c => by
      split
      · exact hbad
      · exact hadd _ _ _ _
    generalize BitVec.toNat code = c
    rcases c with _ | _ | _ | _ | _ | _ | _ | c <;>
      rcases params with _ | ⟨a, _ | ⟨b, _ | ⟨c', _ | ⟨d, _ | ⟨e, r⟩⟩⟩⟩⟩ <;> first | exact hother _ | exact hadd _ _ _ _
theorem effect_serveAddEntry (p : List Byte) (s : State) : Effect s (serveAddEntry p s) :=
  serveAddEntry_cases p s (fun _ _ _ _ => effect_addEntry _ _ _ _ s) (.answers _ _ s)

theorem effect_getOp (r list start count : Nat) (s : State) : Effect s (getOp r list start count s) := by
  obtain ⟨st, data, e⟩ := getOp_answers r list start count s
  rw [e]
  exact .answers _ _ s

theorem effect_clearTrip (id : Nat) (s : State) : Effect s (clearTrip id s) :=
  .of (moves_clearTrip id passWakes_pass (by decide) (by decide))

theorem effect_setClock (time : Nat) (s : State) : Effect s (setClock time s) :=
  .moves (moves_setClock time restWakes_safe (by decide) (by decide))

theorem effect_declareRest (s : State) : Effect s (answerWith (declareRest s)) :=
  .moves (moves_answerWith (by decide) (moves_declareRest restWakes_safe))

theorem effect_endRest (s : State) : Effect s (answerWith (endRest s)) :=
  .of (moves_answerWith (as := .answer :: closeAreas) (by decide) (moves_endRest s).mono)

theorem effect_scene (n : Nat) (s : State) : Effect s (answerWith (sceneRequest n s)) :=
  .of (moves_answerWith (as := [.lc, .asked, .answer]) (by decide) (moves_sceneRequest n s).mono)

theorem effect_playChime (n : Nat) (s : State) : Effect s (answerWith (chimeStatus n s)) :=
  .of (moves_answerWith (as := [.pn, .answer]) (by decide) (moves_chimeStatus n s).mono)

theorem effect_heatStop (s : State) : Effect s (answer .ok [] (heaterStop s)) :=
  .of ((moves_heaterStop s).mono.step (moves_answer _ _ _) : Moves [.hc, .asked, .answer] s _)

theorem effect_clearFault (s : State) : Effect s (answer .ok [] (fridgeClearFault s)) :=
  .of ((moves_fridgeClearFault s).mono.step (moves_answer _ _ _) : Moves [.fc, .asked, .answer] s _)

theorem effect_silence (s : State) : Effect s (answer .ok [] (stopChimes s)) :=
  .of ((moves_stopChimes s).mono.step (moves_answer _ _ _) : Moves [.pn, .answer] s _)

/-- A request of the host is one of the commands' effects, or answered alone (R179). -/
theorem effect_serve (quiet : Bool) (kind : Nat) (p : List Byte) (s : State) : Effect s (serve quiet kind p s) := by
  unfold serve
  split
  · split
    · exact effect_getOp _ _ _ _ s
    · exact .answers _ _ s
  · exact .request (servePut_outcome p s)
  · exact .request (serveFieldWrite_outcome p s)
  · exact .request (serveAdjust_outcome p s)
  · exact .request (serveOneField_outcome _ p s)
  · exact .request (serveOneField_outcome _ p s)
  · exact effect_bare p (.of (moves_fetch s))
  · exact effect_bare p (.of (moves_readKeys s))
  · exact effect_bare p (.of (moves_clearKeys s))
  · exact effect_oneByte p fun n => .marks n true
  · exact effect_oneByte p fun n => .marks n false
  · exact effect_oneByte p fun n => effect_clearTrip n s
  · split
    · exact .of (moves_heatStartRequest _ _ s)
    · exact .answers _ _ s
  · exact effect_bare p (effect_heatStop s)
  · exact effect_oneByte p fun n => effect_onOff n fun b => .of (moves_heatVent b s)
  · exact effect_bare p (.of (moves_clearLockout s))
  · exact effect_oneByte p fun n => effect_onOff n fun b => .of (moves_boostRequest b s)
  · exact effect_bare p (effect_clearFault s)
  · exact effect_oneByte p fun n => effect_scene n s
  · exact effect_oneByte p fun n => effect_playChime n s
  · exact effect_bare p (effect_silence s)
  · exact effect_bare p (effect_declareRest s)
  · exact effect_bare p (effect_endRest s)
  · split
    · exact effect_setClock _ s
    · exact .answers _ _ s
  · exact effect_serveAddEntry p s
  · exact effect_oneByte p fun n => .of (moves_removeEntry n s)
  · exact effect_bare p .sleeps
  · exact effect_bare p (.of (moves_restart quiet s))
  · exact effect_bare p (.of (moves_saveSettings s))
  · exact .answers _ _ s

end Sys2Proof.Machine
end

section
/-! PROOFS. Every command's effect as a run of moves over the command's areas. -/

namespace Sys2Proof.Machine

-- One proof after another: started together they wait for one another, each on a thread of its own.
set_option Elab.async false

variable {s t u : State} {as : List Area}

/-! ### The areas of a command -/

/-- What an operation on record `r` moves, the wake that it may cause apart: its answer, the fields, and what the record's owner moves
or, of REST_STATE, the restore. -/
def operationAreas (r : Nat) : List Area := .answer :: .poked r :: (ownerAreas r ++ if r = 25 then .rm :: fireAreas else [])

/-- What a command's effect moves, the wake that it may cause apart. A power-on reset and a fall of the supply make no moves. -/
def areasOf : Instr → List Area
  | .elapsedTick => tickAreas ++ fireAreas
  | .scanStart => [.mu]
  | .conversion _ _ => convertAreas
  | .suspectChannel _ | .clearSuspect _ => .answer :: judgeAreas
  | .currentRise _ _ | .currentFall _ _ | .blankingExpiry _ | .qualifyExpiry _ => [.comp]
  | .tachEdge _ | .tachTimeout => [.mu]
  | .loadCurrentReading _ => [.comp, .su, .hc, .asked, .mc]
  | .minuteEnd | .horizonChange _ => [.cc]
  | .budgetReport _ | .placeRequest _ _ | .changeRequest _ _ | .withdrawRequest _ | .classOverride _ | .retryTimerExpiry _
  | .tripWindowExpiry _ => [.ga]
  | .tripReport _ => [.ga, .choices]
  | .clearTrip _ => [.ga, .lc, .answer]
  | .socketRunLimitExpiry _ => [.ga, .asked]
  | .heaterGrantReport _ _ | .waitPowerTimeout | .checkPhaseEnd | .preheatPowerTimeout | .preheatPhaseEnd | .primePhaseEnd
  | .igniteLimitExpiry | .durationExpiry => [.hc, .asked]
  | .heaterTripReport _ _ | .glowTest | .stabilizePhaseEnd | .blowerStep => [.hc, .asked, .mc]
  | .purgeEnd | .purgeHotTimeout => [.hc, .asked, .mc, .leave]
  | .dryCoolTimeout => [.hc, .asked, .leave]
  | .heaterLevelChange _ | .strokeStart | .strokePulseEnd => [.hc]
  | .heatStart _ _ => [.setpoint, .hc, .asked, .mc, .answer]
  | .heatStop | .heatVent _ => [.hc, .asked, .answer]
  | .clearLockout => [.hc, .asked, .mc, .answer]
  | .fridgeGrantReport _ _ | .stall _ | .tfStaleExpiry | .waitOffEnd | .softStartEnd | .minOnTimeEnd | .stallWaitEnd | .fallbackOnEnd
  | .fallbackOffEnd | .ventRunEnd => [.fc, .asked]
  | .clearFault => [.fc, .asked, .answer]
  | .fridgeBoost _ => [.fc, .answer]
  | .fridgeLevelChange _ | .boostEnd | .stallLogExpiry | .fdoorHanding _ | .doorTimerExpiry | .ventGrantReport _ _ => [.fc]
  | .lightGrantReport _ _ _ | .lightTripReport _ _ | .lightLevelChange _ => [.lc]
  | .fadeStep _ | .cdoorHanding _ | .entryTimerExpiry => [.lc, .asked]
  | .lightScene _ => [.lc, .asked, .answer]
  | .keyScan _ => .choices :: .rm :: fireAreas
  | .holdTimerExpiry _ => .rm :: fireAreas
  | .columnWakeEdge | .rxdWakeEdge => []
  | .readKeys | .clearKeys | .playChime _ | .silenceChime => [.pn, .answer]
  | .contactInputChange _ _ | .chimeRequest _ | .chimePhaseEnd | .panelGrantReport _ _ => [.pn]
  | .debounceExpiry _ => [.pn, .mc]
  | .moveHanding _ => closeAreas
  | .ignHanding _ | .stopConfirmExpiry | .limitRepeatExpiry | .endSoonReached => [.rm]
  | .declareRest => .answer :: .rm :: fireAreas
  | .endRest => .answer :: closeAreas
  | .plannedEndReached => endAreas
  | .setClock _ => .answer :: .clock :: .rm :: fireAreas
  | .addEntry _ _ _ _ => .answer :: fireAreas
  | .removeEntry _ => [.su, .answer]
  | .prewarmEntryPlace _ _ _ | .prewarmEntryMove _ _ _ => fireAreas
  | .prewarmEntryRemove => [.su]
  | .rxByte _ | .rxGapTimeout | .linkBreak | .noticePost _ | .attnPulseEnd => [.lk]
  | .fetchNotices => [.lk, .answer]
  | .get _ _ _ _ => [.answer]
  | .put r _ _ _ | .fieldWrite r _ | .exchange r _ _ _ | .compareWrite r _ _ _ _ => operationAreas r
  | .adjust (.host r) _ _ _ => operationAreas r
  | .adjust (.panel _ r) _ _ _ => .pn :: operationAreas r
  | .batteryWrite _ => operationAreas 3
  | .channelsWrite _ => operationAreas 8
  | .tripsWrite _ => operationAreas 10
  | .consumersWrite _ => operationAreas 5
  | .demandsWrite _ => operationAreas 7
  | .socketsWrite _ => operationAreas 17
  | .heaterSetWrite _ => operationAreas 11
  | .fridgeSetWrite _ => operationAreas 14
  | .ventWrite _ => operationAreas 16
  | .lightsWrite _ => operationAreas 18
  | .panelWrite _ => operationAreas 21
  | .contactsWrite _ => operationAreas 22
  | .restProfileWrite _ => operationAreas 24
  | .scheduleWrite _ => operationAreas 26
  | .restStatePut _ _ _ => operationAreas 25
  | .recordWrite p _ => operationAreas (plainId p)
  | .standby => .answer :: standbyAreas
  | .saveSettings | .rxStartBit => [.mc]
  | .supplyChange _ | .powerOnReset | .requestTake | .replySent | .restart _ | .storeWriteDone _ => []

/-- Whether a command may wake the part out of STANDBY. -/
def mayWake : Instr → Bool
  | .elapsedTick | .budgetReport _ | .placeRequest _ _ | .changeRequest _ _ | .withdrawRequest _ | .classOverride _
  | .retryTimerExpiry _ | .tripReport _ | .clearTrip _ | .keyScan _ | .holdTimerExpiry _ | .columnWakeEdge | .rxdWakeEdge
  | .debounceExpiry _ | .declareRest | .setClock _ | .addEntry _ _ _ _ | .prewarmEntryPlace _ _ _ | .prewarmEntryMove _ _ _
  | .put _ _ _ _ | .fieldWrite _ _ | .exchange _ _ _ _ | .compareWrite _ _ _ _ _ | .adjust _ _ _ _ | .consumersWrite _
  | .demandsWrite _ | .contactsWrite _ | .restProfileWrite _ | .scheduleWrite _ | .restStatePut _ _ _ => true
  | _ => false

/-- What a command moves in a state. -/
def cmdAreas (s : State) (i : Instr) : List Area :=
  areasOf i ++ if mayWake i = true ∧ s.mc.mode = .standby then wakeAreas else []

theorem areasOf_subset (s : State) (i : Instr) : areasOf i ⊆ cmdAreas s i := List.subset_append_left _ _

theorem wakeAreas_subset {i : Instr} (hw : mayWake i = true) (hm : s.mc.mode = .standby) : wakeAreas ⊆ cmdAreas s i := by
  unfold cmdAreas
  rw [if_pos ⟨hw, hm⟩]
  exact List.subset_append_right _ _

theorem mem_cmdAreas {a : Area} {i : Instr} (h : a ∈ cmdAreas s i) : a ∈ areasOf i ∨ a ∈ wakeAreas := by
  unfold cmdAreas at h
  obtain h | h := List.mem_append.1 h
  · exact .inl h
  · split at h
    · exact .inr h
    · exact absurd h (by simp)

theorem not_mem_cmdAreas {a : Area} {i : Instr} (h : a ∉ areasOf i) (hw : a ∉ wakeAreas) : a ∉ cmdAreas s i :=
  fun hm => (mem_cmdAreas hm).elim h hw

/-! ### The effects -/

/-- The moves of a command over its own areas. -/
theorem moves_own {i : Instr} (h : Moves (areasOf i) s t) : Moves (cmdAreas s i) s t := h.mono (areasOf_subset s i)

theorem wakes_of {i : Instr} (hw : mayWake i = true) (hf : fireAreas ⊆ areasOf i := by simp only [areasOf]; decide) (hs : .sleep ∉ areasOf i := by simp only [areasOf]; decide) :
    Wakes (cmdAreas s i) s :=
  ⟨fun _ m => areasOf_subset s i (hf m), fun hm => wakeAreas_subset hw hm, not_mem_cmdAreas hs (by decide)⟩

theorem restWakes_of {i : Instr} (hw : mayWake i = true) (hf : fireAreas ⊆ areasOf i := by simp only [areasOf]; decide)
    (hs : .sleep ∉ areasOf i := by simp only [areasOf]; decide) (hr : .rm ∈ areasOf i := by simp only [areasOf]; decide) : RestWakes (cmdAreas s i) s :=
  ⟨wakes_of hw hf hs, areasOf_subset s i hr⟩

theorem passWakes_of {i : Instr} (hw : mayWake i = true) (hg : .ga ∈ areasOf i := by simp only [areasOf]; decide) (hs : .sleep ∉ areasOf i := by simp only [areasOf]; decide)
    (hc : .clock ∉ areasOf i := by simp only [areasOf]; decide) : PassWakes (cmdAreas s i) s :=
  ⟨areasOf_subset s i hg, fun hm => wakeAreas_subset hw hm, not_mem_cmdAreas hs (by decide), not_mem_cmdAreas hc (by decide)⟩

theorem moves_inHeater {st : HeaterState} {f : State → State} (h : s.hc.state = st → Moves as s (f s)) : Moves as s (inHeater st f s) := by
  unfold inHeater
  split
  · exact h ‹_›
  · exact .refl

theorem moves_inFridge {st : FridgeState} {f : State → State} (h : s.fc.state = st → Moves as s (f s)) : Moves as s (inFridge st f s) := by
  unfold inFridge
  split
  · exact h ‹_›
  · exact .refl

/-- An area of the command's own. -/
theorem mem_own {a : Area} {i : Instr} (h : a ∈ areasOf i := by simp only [areasOf]; decide) : a ∈ cmdAreas s i := areasOf_subset s i h

/-- A conditional change of a state. -/
theorem moves_ite {c : Prop} [Decidable c] (h : c → Moves as s t) : Moves as s (if c then t else s) := by
  split
  · exact h ‹_›
  · exact .refl

theorem sleep_clock_not_mem_operationAreas (r : Nat) : .sleep ∉ operationAreas r ∧ .clock ∉ operationAreas r := by
  have howner : .sleep ∉ ownerAreas r ∧ .clock ∉ ownerAreas r := by
    unfold ownerAreas
    split <;> decide
  unfold operationAreas
  split
  · simp [howner]; decide
  · simp [howner]

/-- An operation on a record moves the record's areas. -/
theorem moves_operation {i : Instr} {r : Nat} (h : RecordOutcome r s t) (hsub : operationAreas r ⊆ areasOf i)
    (hsleep : .sleep ∉ areasOf i) (hclock : .clock ∉ areasOf i) (hw : wakingRecord r = true → mayWake i = true) :
    Moves (cmdAreas s i) s t := by
  have hall : operationAreas r ⊆ cmdAreas s i := fun _ m => areasOf_subset s i (hsub m)
  have hanswer : .answer ∈ cmdAreas s i := hall (List.mem_cons_self ..)
  refine moves_outcome h hanswer (fun _ => ?_) fun hr => ?_
  · exact {
      owner := fun _ m => hall (List.mem_cons_of_mem _ (List.mem_cons_of_mem _ (List.mem_append_left _ m)))
      poked := hall (List.mem_cons_of_mem _ (List.mem_cons_self ..))
      capacity := by
        rintro rfl
        exact hall (List.mem_cons_of_mem _ (List.mem_cons_self ..))
      answer := hanswer
      wake := fun hr hm => wakeAreas_subset (hw hr) hm
      awake := not_mem_cmdAreas hsleep (by decide)
      clock := not_mem_cmdAreas hclock (by decide) }
  · subst hr
    have hrest : .rm :: fireAreas ⊆ cmdAreas s i := fun _ m =>
      hall (List.mem_cons_of_mem _ (List.mem_cons_of_mem _ (List.mem_append_right _ m)))
    exact ⟨⟨⟨fun _ m => hrest (List.mem_cons_of_mem _ m), fun hm => wakeAreas_subset (hw rfl) hm,
      not_mem_cmdAreas hsleep (by decide)⟩, hrest (List.mem_cons_self ..)⟩, hanswer⟩

/-- The same for a command that is an operation on one record. -/
theorem moves_recordOp {i : Instr} {r : Nat} (h : RecordOutcome r s t) (hareas : areasOf i = operationAreas r)
    (hw : wakingRecord r = true → mayWake i = true) : Moves (cmdAreas s i) s t :=
  moves_operation h (hareas ▸ fun _ m => m) (hareas ▸ (sleep_clock_not_mem_operationAreas r).1) (hareas ▸ (sleep_clock_not_mem_operationAreas r).2) hw

theorem moves_panelOperation {i : Instr} {r : Nat} (k : Fin 16) {op : State → State} (h : RecordOutcome r s (op s))
    (hareas : areasOf i = .pn :: operationAreas r) (hw : wakingRecord r = true → mayWake i = true) :
    Moves (cmdAreas s i) s (panelOperation k op s) := by
  have hno : .sleep ∉ areasOf i ∧ .clock ∉ areasOf i := by
    rw [hareas]
    simpa using sleep_clock_not_mem_operationAreas r
  have hop := moves_operation h (hareas ▸ List.subset_cons_self _ _) hno.1 hno.2 hw
  have hanswer : .answer ∈ cmdAreas s i := areasOf_subset s i (by rw [hareas]; simp [operationAreas])
  have hpanel : [Area.pn] ⊆ cmdAreas s i := by
    simpa using areasOf_subset s i (by rw [hareas]; exact List.mem_cons_self .. : Area.pn ∈ areasOf i)
  unfold panelOperation
  exact (hop.trans (.of_move (.answer _ _ hanswer))).step (moves_dimEnded k _ _) hpanel

/-! ### The plain commands at their owners -/

theorem pulseOff_sound {h : HeaterUnit} : heaterUnitSound h → heaterUnitSound { h with pulse := false } :=
  fun ⟨h1, h2, _, h4, h5, h6, h7, h8, h9⟩ => ⟨h1, h2, fun h => Bool.noConfusion h, h4, h5, h6, h7, h8, h9⟩

/-- A stroke starts where the generator runs, which it does in the burning states alone (R82). -/
theorem moves_strokeStart (s : State) : Moves [.hc] s (if s.hc.stroke.isSome then strokeAt s else s) := by
  split
  · rename_i hrun
    unfold strokeAt
    dsimp only
    split
    · refine moves_withHc (fun h => { h with
        stroke := some (strokePeriod (pumpRate s.cfg.heaterTune h))
        pulse := true
        strokesRun := min max32 (h.strokesRun + 1)
        strokesTotal := min max32 (h.strokesTotal + 1) }) s rfl rfl fun hs => ?_
      obtain ⟨h1, h2, h3, hrest⟩ := hs
      exact ⟨h1, hrun.symm.trans h2, fun _ => h2.symm.trans hrun, hrest⟩
    · refine moves_withHc (fun h => { h with stroke := some (strokePeriod (pumpRate s.cfg.heaterTune h)) }) s rfl rfl fun hs => ?_
      obtain ⟨h1, h2, h3, hrest⟩ := hs
      exact ⟨h1, hrun.symm.trans h2, h3, hrest⟩
  · exact .refl

theorem moves_boostOver (s : State) : Moves [.fc] s (boostOver s) := by
  unfold boostOver
  split
  · exact moves_ite fun _ => moves_boostStop s
  · exact .refl

/-- In WAIT_OFF and STALL_WAIT the drive is off. -/
theorem fridgeQuiet_waiting (h : s.fc.state = .waitOff ∨ s.fc.state = .stallWait) : fridgeQuiet s.fc := by
  obtain h | h := h <;> exact fridgeQuiet_of_state (by simp [h]) (by simp [h]) (by simp [h]) (by simp [h])

theorem moves_stallLogExpiry (s : State) :
    Moves [.fc] s (if s.fc.state = .fault then s else withFc (fun f => { f with stallLog := f.stallLog.tail }) s) := by
  split
  · exact .refl
  · rename_i hno
    refine moves_withFc _ s rfl rfl rfl ?_
    rintro ⟨h1, h2, h3, h4, h5⟩
    have hlen : s.fc.stallLog.tail.length ≤ s.fc.stallLog.length := by rw [List.length_tail]; omega
    exact ⟨h1, h2, fun h => hlen.trans_lt (h3 h), hlen.trans h4, h5⟩

theorem moves_ventRunReached (s : State) : Moves [.fc, .asked] s (ventRunReached s) := by
  unfold ventRunReached
  split
  · exact moves_ite fun _ => moves_ventRunOut s
  · exact .refl

theorem moves_limitRepeats (s : State) : Moves [.rm] s (limitRepeats s) := by
  unfold limitRepeats
  split
  · exact (moves_withRm_same _ s rfl).step (moves_chime _ _)
  · exact .refl

theorem moves_plannedEndNow (s : State) : Moves endAreas s (plannedEndNow s) := by
  unfold plannedEndNow
  split
  · exact moves_ite fun _ => moves_plannedReached s
  · exact .refl

theorem moves_endSoonNow (s : State) : Moves [.rm] s (endSoonNow s) := by
  unfold endSoonNow
  split
  · exact moves_ite fun _ => moves_raiseEndSoon s
  · exact .refl

/-- A command's effect moves its areas, and in STANDBY those of the wake it may cause. -/
theorem moves_effect (i : Instr) (h : mayReset i = false) (s : State) : Moves (cmdAreas s i) s (effect i s) := by
  cases i
  case supplyChange | powerOnReset | requestTake | replySent | restart | storeWriteDone => cases h
  case elapsedTick => exact moves_tick (wakes_of rfl) fun _ m => areasOf_subset s _ (List.mem_append_left _ m)
  case scanStart => exact moves_own (moves_startScan s)
  case conversion ch code => exact moves_own (moves_convert ch code s)
  case suspectChannel n => exact moves_own (moves_setHostMark n true s)
  case clearSuspect n => exact moves_own (moves_setHostMark n false s)
  case currentRise c ma => exact moves_own (moves_currentRises c ma s)
  case currentFall c ma => exact moves_own (moves_currentFalls c ma s)
  case blankingExpiry c => exact moves_own (moves_blankingOver c s)
  case qualifyExpiry c => exact moves_own (moves_qualifyOver c s)
  case loadCurrentReading r => exact moves_own (moves_loadReading r s)
  case tachEdge us => exact moves_own (moves_withMu (fun m => { m with tach := tachEdge us m.tach }) s (by rfl) (by rfl))
  case tachTimeout => exact moves_own (moves_withMu (fun m => { m with tach := ⟨none, none, 0⟩ }) s (by rfl) (by rfl))
  case minuteEnd => exact moves_own (moves_minuteEnd s)
  case horizonChange n => exact moves_own (moves_takeHorizon n s)
  case budgetReport r => exact moves_budgetReport r (passWakes_of rfl)
  case placeRequest c r => exact moves_setRequest c r (passWakes_of rfl)
  case changeRequest c r => exact moves_setRequest c r (passWakes_of rfl)
  case withdrawRequest c => exact moves_withdraw c (passWakes_of rfl)
  case classOverride on => exact moves_setOverride on (passWakes_of rfl)
  case tripReport r => exact moves_takeTrip r.comparator (passWakes_of rfl) mem_own
  case retryTimerExpiry c => exact moves_retryOver c (passWakes_of rfl)
  case tripWindowExpiry c => exact moves_own (moves_windowOver c s)
  case clearTrip id => exact moves_clearTrip id (passWakes_of rfl) mem_own mem_own
  case socketRunLimitExpiry k => exact moves_own (moves_socketRunOut k s)
  case heaterGrantReport n st => exact moves_own (moves_heaterGrant n s)
  case heaterTripReport c o => exact moves_own (moves_heaterTrip c s)
  case heaterLevelChange l => exact moves_own (moves_withHc (fun h => { h with level := l }) s (by rfl) (by rfl) fun h => h)
  case heatStart sp du => exact moves_own (moves_heatStartRequest sp du s)
  case heatStop => exact moves_own ((moves_heaterStop s).mono.step (moves_answer _ _ _))
  case heatVent on => exact moves_own (moves_heatVent on s)
  case clearLockout => exact moves_own (moves_clearLockout s)
  case waitPowerTimeout =>
    exact moves_own (moves_inHeater fun hst => (moves_offWith_cool _ (by rw [hst]; decide) (by rw [hst]; decide)))
  case glowTest => exact moves_own (moves_glowTest s)
  case checkPhaseEnd => exact moves_own (moves_inHeater fun hst => moves_toPreheat hst)
  case preheatPowerTimeout =>
    exact moves_own (moves_inHeater fun hst =>
      moves_ite fun _ => moves_offWith_cool _ (by rw [hst]; decide) (by rw [hst]; decide))
  case preheatPhaseEnd => exact moves_own (moves_inHeater fun hst => moves_ite fun _ => moves_toPrime hst)
  case primePhaseEnd => exact moves_own (moves_inHeater fun hst => moves_toIgnite hst)
  case igniteLimitExpiry => exact moves_own (moves_inHeater fun hst => moves_attemptFailed (by rw [hst]; decide))
  case stabilizePhaseEnd => exact moves_own (moves_inHeater fun hst => moves_toRun hst)
  case durationExpiry => exact moves_own (moves_durationStop s)
  case purgeEnd => exact moves_own (moves_inHeater fun hst => moves_ite fun _ => moves_purgeEnd hst)
  case purgeHotTimeout => exact moves_own (moves_purgeHot s)
  case dryCoolTimeout =>
    exact moves_own (moves_inHeater fun hst =>
      moves_toLockout (by decide) (by decide) (mayEnter_of_purged (.inr hst) (by decide) (by decide)))
  case blowerStep => exact moves_own (moves_blowerStep s)
  case strokeStart => exact moves_own (moves_strokeStart s)
  case strokePulseEnd => exact moves_own (moves_withHc (fun h => { h with pulse := false }) s (by rfl) (by rfl) pulseOff_sound)
  case fridgeGrantReport n st => exact moves_own (moves_fridgeGrant n s)
  case stall o => exact moves_own (moves_fridgeStall s)
  case fridgeLevelChange l => exact moves_own (moves_withFc (fun f => { f with level := l }) s (by rfl) (by rfl) (by rfl) fun h => h)
  case tfStaleExpiry => exact moves_own (moves_ite fun _ => moves_tfLost s)
  case fridgeBoost on => exact moves_own (moves_boostRequest on s)
  case boostEnd => exact moves_own (moves_boostOver s)
  case clearFault => exact moves_own ((moves_fridgeClearFault s).mono.step (moves_answer _ _ _))
  case waitOffEnd => exact moves_own (moves_inFridge fun hst => moves_waitOffEnd (fridgeQuiet_waiting (.inl hst)))
  case softStartEnd => exact moves_own (moves_inFridge fun hst => moves_ite fun _ => moves_softStartEnd hst)
  case minOnTimeEnd =>
    refine moves_own (moves_inFridge fun hst => moves_ite fun _ => ?_)
    exact moves_thermostatStop (s := s) (by rw [hst]; decide)
  case stallWaitEnd => exact moves_own (moves_inFridge fun hst => moves_stallWaitEnd (fridgeQuiet_waiting (.inr hst)))
  case stallLogExpiry => exact moves_own (moves_stallLogExpiry s)
  case fallbackOnEnd =>
    refine moves_own ?_
    change Moves _ s (inFridge .fallbackOn (fun s => toFallbackOff (commandOff s)) s)
    refine moves_inFridge fun hst => ?_
    exact moves_fallbackStop (s := s) (by rw [hst]; decide)
  case fallbackOffEnd =>
    refine moves_own (moves_inFridge fun hst => ?_)
    exact moves_toFallbackOn (s := s) true fun ⟨_, _, hlog, _⟩ => hlog (by rw [hst]; decide)
  case fdoorHanding st => exact moves_own (moves_fridgeDoor st s)
  case doorTimerExpiry => exact moves_own (moves_doorAlert s)
  case ventRunEnd => exact moves_own (moves_ventRunReached s)
  case ventGrantReport n st => exact moves_own (moves_ventGrantIn n s)
  case lightGrantReport g n st => exact moves_own (moves_lightsGrant g n s)
  case lightTripReport g o => exact moves_own (moves_lightsTrip g _ s)
  case lightLevelChange l => exact moves_own (moves_lightsLevel l s)
  case fadeStep i => exact moves_own (moves_fadeStep i s)
  case lightScene n =>
    exact moves_own (moves_answerWith (as := [.lc, .asked, .answer]) (by decide) (moves_sceneRequest n s).mono)
  case cdoorHanding st => exact moves_own (moves_lightsDoor st s)
  case entryTimerExpiry => exact moves_own (moves_entryTimeout s)
  case keyScan reads => exact moves_keyScan reads (restWakes_of rfl) mem_own
  case holdTimerExpiry k => exact moves_holdOver k (restWakes_of rfl)
  case columnWakeEdge => exact moves_wakeEdge fun hm => wakeAreas_subset rfl hm
  case readKeys => exact moves_own (moves_readKeys s)
  case clearKeys => exact moves_own (moves_clearKeys s)
  case contactInputChange c l => exact moves_own (moves_contactInput c l s)
  case debounceExpiry c =>
    exact moves_debounceOver c mem_own mem_own (fun hm => wakeAreas_subset rfl hm)
      (not_mem_cmdAreas (by simp only [areasOf]; decide) (by decide))
  case chimeRequest p => exact moves_own (moves_judgeChime p s)
  case playChime n => exact moves_own (moves_answerWith (as := [.pn, .answer]) (by decide) (moves_chimeStatus n s).mono)
  case silenceChime => exact moves_own ((moves_stopChimes s).mono.step (moves_answer _ _ _))
  case chimePhaseEnd => exact moves_own (moves_chimePhase s)
  case panelGrantReport n st => exact moves_own (moves_panelGrant n s)
  case moveHanding st => exact moves_own (moves_restMove st s)
  case ignHanding st => exact moves_own (moves_restIgn st s)
  case stopConfirmExpiry => exact moves_own (moves_stopConfirmed s)
  case declareRest => exact moves_answerWith mem_own (moves_declareRest (restWakes_of rfl))
  case endRest => exact moves_own (moves_answerWith (by decide) (moves_endRest s).mono)
  case limitRepeatExpiry => exact moves_own (moves_limitRepeats s)
  case plannedEndReached => exact moves_own (moves_plannedEndNow s)
  case endSoonReached => exact moves_own (moves_endSoonNow s)
  case setClock n => exact moves_setClock n (restWakes_of rfl) mem_own mem_own
  case addEntry time rep state a => exact moves_addEntry time rep state a (wakes_of rfl) mem_own
  case removeEntry n => exact moves_own (moves_removeEntry n s)
  case prewarmEntryPlace time sp du => exact moves_prewarmPlace time sp du (wakes_of rfl)
  case prewarmEntryMove time sp du => exact moves_prewarmMove time sp du (wakes_of rfl)
  case prewarmEntryRemove => exact moves_own (moves_prewarmRemove s)
  case rxByte b => exact moves_own (moves_receive b s)
  case rxGapTimeout => exact moves_own (moves_rxGap s)
  case linkBreak => exact moves_own (moves_linkBroken s)
  case rxdWakeEdge => exact moves_wakeEdge fun hm => wakeAreas_subset rfl hm
  case noticePost p => exact moves_own (moves_queueNotice p s)
  case fetchNotices => exact moves_own (moves_fetch s)
  case attnPulseEnd => exact moves_own (moves_pulseOver s)
  case get r l st n =>
    obtain ⟨st, data, e⟩ := getOp_answers r l st n s
    exact moves_own (by change Moves _ s (getOp _ _ _ _ s); rw [e]; exact moves_answer st data s)
  case put r e x vs => exact moves_recordOp (putOp_outcome r e x vs s) rfl fun _ => rfl
  case fieldWrite r ws => exact moves_recordOp (fieldWriteOp_outcome r ws s) rfl fun _ => rfl
  case adjust record f e d =>
    cases record with
    | host r => exact moves_recordOp (adjustOp_outcome r f e d s) rfl fun _ => rfl
    | panel k r => exact moves_panelOperation k (adjustOp_outcome r f e d s) rfl fun _ => rfl
  case exchange r f e v => exact moves_recordOp (exchangeOp_outcome r f e v s) rfl fun _ => rfl
  case compareWrite r f e x v => exact moves_recordOp (compareOp_outcome r f e x v s) rfl fun _ => rfl
  case restStatePut d a l => exact moves_recordOp (restPut_outcome none d a l s) rfl fun _ => rfl
  case recordWrite p ws =>
    exact moves_recordOp (fieldWriteOp_outcome (plainId p) ws s) rfl fun h => by cases p <;> exact absurd h (by decide)
  case batteryWrite ws => exact moves_recordOp (fieldWriteOp_outcome 3 ws s) rfl fun h => absurd h (by decide)
  case channelsWrite ws => exact moves_recordOp (fieldWriteOp_outcome 8 ws s) rfl fun h => absurd h (by decide)
  case tripsWrite ws => exact moves_recordOp (fieldWriteOp_outcome 10 ws s) rfl fun h => absurd h (by decide)
  case consumersWrite ws => exact moves_recordOp (fieldWriteOp_outcome 5 ws s) rfl fun _ => rfl
  case demandsWrite ws => exact moves_recordOp (fieldWriteOp_outcome 7 ws s) rfl fun _ => rfl
  case socketsWrite ws => exact moves_recordOp (fieldWriteOp_outcome 17 ws s) rfl fun h => absurd h (by decide)
  case heaterSetWrite ws => exact moves_recordOp (fieldWriteOp_outcome 11 ws s) rfl fun h => absurd h (by decide)
  case fridgeSetWrite ws => exact moves_recordOp (fieldWriteOp_outcome 14 ws s) rfl fun h => absurd h (by decide)
  case ventWrite ws => exact moves_recordOp (fieldWriteOp_outcome 16 ws s) rfl fun h => absurd h (by decide)
  case lightsWrite ws => exact moves_recordOp (fieldWriteOp_outcome 18 ws s) rfl fun h => absurd h (by decide)
  case panelWrite ws => exact moves_recordOp (fieldWriteOp_outcome 21 ws s) rfl fun h => absurd h (by decide)
  case contactsWrite ws => exact moves_recordOp (fieldWriteOp_outcome 22 ws s) rfl fun _ => rfl
  case restProfileWrite ws => exact moves_recordOp (fieldWriteOp_outcome 24 ws s) rfl fun _ => rfl
  case scheduleWrite ws => exact moves_recordOp (fieldWriteOp_outcome 26 ws s) rfl fun _ => rfl
  case standby => exact moves_own (moves_standby s)
  case saveSettings => exact moves_own (moves_saveSettings s)
  case rxStartBit => exact moves_own (moves_startBit s)

end Sys2Proof.Machine
end

section
/-! PROOFS. What keeps an invariant through every step: the safe moves, the writes of records, the changes of a channel, the entry into
STANDBY, and the resets. -/

namespace Sys2Proof.Machine

-- One proof after another: started together they wait for one another, each on a thread of its own.
set_option Elab.async false

variable {s t u : State} {as : List Area}

/-- A predicate that every event keeps up to its close, the tick apart, by the parts it is made of. -/
structure EventInvariant (I : State → Prop) : Prop where
  move : ∀ s t, Move safeAreas s t → I s → I t
  accept : ∀ s r ws st data, writable r → I s → I (accept r ws st data s)
  mark : ∀ s n b, I s → I (setHostMark n b s)
  convert : ∀ s ch code, I s → I (convert ch code s)
  standby : ∀ s, I s → I (standby s)
  handings : ∀ s (hs : List Instr), I s → I { s with handed := hs }
  supply : ∀ s mv, I s → I (supplyAt mv s)
  powerOn : ∀ s, I s → I (powerOn s)

namespace EventInvariant

variable {I : State → Prop}

theorem moves (hI : EventInvariant I) (h : Moves safeAreas s t) : I s → I t := h.keeps hI.move

theorem of_moves (hI : EventInvariant I) (h : Moves as s t) (hab : as ⊆ safeAreas := by decide) : I s → I t := hI.moves (h.mono hab)

theorem record (hI : EventInvariant I) {r : Nat} (h : RecordOutcome r s t) (hs : I s) : I t := by
  cases h with
  | answers st data => exact hI.of_moves (moves_answer st data s) (by decide) hs
  | writes ws st data hr => exact hI.accept s r ws st data hr hs
  | restores drive acc log hr hok => exact hI.moves (moves_restored drive acc log hok ⟨restWakes_safe, by decide⟩) hs

theorem effect (hI : EventInvariant I) (h : Effect s t) (hs : I s) : I t := by
  cases h with
  | moves h => exact hI.moves h hs
  | record r h => exact hI.record h hs
  | marks n mark => exact hI.mark s n mark hs
  | converts ch code => exact hI.convert s ch code hs
  | sleeps => exact hI.standby s hs

theorem panelOperation (hI : EventInvariant I) {r : Nat} (k : Fin 16) {op : State → State} (h : RecordOutcome r s (op s)) (hs : I s) :
    I (panelOperation k op s) := by
  unfold Machine.panelOperation
  have hmoves : Moves safeAreas (op s) { op s with answer := s.answer } := .of_move (.answer s.answer (op s) (by decide))
  exact hI.moves (hmoves.step (moves_dimEnded k _ _)) (hI.record h hs)

theorem start (hI : EventInvariant I) (i : Instr) (hs : I s) : I (startEvent i s) := by
  have hwoken : Moves safeAreas s { s with mc := { s.mc with woken := false } } :=
    .of_move (.mc _ s (by decide) rfl rfl (.inl rfl) fun _ h => h)
  exact hI.handings _ _ (hI.moves hwoken hs)

theorem takeRequest (hI : EventInvariant I) (hs : I s) : I (takeRequest s) := by
  unfold Machine.takeRequest
  split
  · rename_i ctrl tag kind payload rest _ hqueue
    dsimp only
    have htaken : Moves [.lk] s (withLk (fun l => { l with queue := rest, inHand := some ⟨tag, kind, ctrl.getLsbD 0, none⟩ }) s) :=
      moves_withLk _ s (fun h => by rw [hqueue] at h; exact (Nat.le_succ _).trans h) fun h => h
    have hclear : Moves safeAreas s { withLk (fun l => { l with queue := rest, inHand := some ⟨tag, kind, ctrl.getLsbD 0, none⟩ }) s with
        answer := none } := htaken.mono.trans (.of_move (.answer none _ (by decide)))
    exact hI.of_moves (moves_deliver _) (by decide) (hI.effect (effect_serve _ _ _ _) (hI.moves hclear hs))
  · rename_i rest _ _ hqueue
    have htaken : Moves [.lk] s (withLk (fun l => { l with queue := rest }) s) :=
      moves_withLk _ s (fun h => by rw [hqueue] at h; exact (Nat.le_succ _).trans h) fun h => h
    exact hI.of_moves (htaken.step (moves_nextRequest _)) (by decide) hs
  · exact hs

/-- A command whose areas are safe. -/
theorem safe (hI : EventInvariant I) {i : Instr} (h : mayReset i = false) (hsafe : areasOf i ⊆ safeAreas) (hs : I s) : I (Machine.effect i s) := by
  refine hI.moves ((moves_effect i h s).mono fun a ha => ?_) hs
  obtain h | h := mem_cmdAreas ha
  · exact hsafe h
  · exact (by decide : wakeAreas ⊆ safeAreas) h

/-- Every command's effect but a tick's keeps the predicate. -/
theorem effects (hI : EventInvariant I) {i : Instr} (hi : i ≠ .elapsedTick) (hs : I s) : I (Machine.effect i s) := by
  cases i
  case supplyChange mv => exact hI.supply s mv hs
  case powerOnReset => exact hI.powerOn s hs
  case requestTake => exact hI.takeRequest hs
  case replySent => exact hI.of_moves (moves_replySent s) (by decide) hs
  case restart quiet => exact hI.of_moves (moves_restart quiet s) (by decide) hs
  case storeWriteDone part => exact hI.of_moves (moves_storeWritten part s) (by decide) hs
  case conversion ch code => exact hI.convert s ch code hs
  case suspectChannel n => exact hI.mark s n true hs
  case clearSuspect n => exact hI.mark s n false hs
  case standby => exact hI.standby s hs
  case put r e x vs => exact hI.record (putOp_outcome r e x vs s) hs
  case fieldWrite r ws => exact hI.record (fieldWriteOp_outcome r ws s) hs
  case adjust record f e d =>
    cases record with
    | host r => exact hI.record (adjustOp_outcome r f e d s) hs
    | panel k r => exact hI.panelOperation k (adjustOp_outcome r f e d s) hs
  case exchange r f e v => exact hI.record (exchangeOp_outcome r f e v s) hs
  case compareWrite r f e x v => exact hI.record (compareOp_outcome r f e x v s) hs
  case restStatePut d a l => exact hI.record (restPut_outcome none d a l s) hs
  case recordWrite p ws => exact hI.record (fieldWriteOp_outcome (plainId p) ws s) hs
  case batteryWrite ws => exact hI.record (fieldWriteOp_outcome 3 ws s) hs
  case channelsWrite ws => exact hI.record (fieldWriteOp_outcome 8 ws s) hs
  case tripsWrite ws => exact hI.record (fieldWriteOp_outcome 10 ws s) hs
  case consumersWrite ws => exact hI.record (fieldWriteOp_outcome 5 ws s) hs
  case demandsWrite ws => exact hI.record (fieldWriteOp_outcome 7 ws s) hs
  case socketsWrite ws => exact hI.record (fieldWriteOp_outcome 17 ws s) hs
  case heaterSetWrite ws => exact hI.record (fieldWriteOp_outcome 11 ws s) hs
  case fridgeSetWrite ws => exact hI.record (fieldWriteOp_outcome 14 ws s) hs
  case ventWrite ws => exact hI.record (fieldWriteOp_outcome 16 ws s) hs
  case lightsWrite ws => exact hI.record (fieldWriteOp_outcome 18 ws s) hs
  case panelWrite ws => exact hI.record (fieldWriteOp_outcome 21 ws s) hs
  case contactsWrite ws => exact hI.record (fieldWriteOp_outcome 22 ws s) hs
  case restProfileWrite ws => exact hI.record (fieldWriteOp_outcome 24 ws s) hs
  case scheduleWrite ws => exact hI.record (fieldWriteOp_outcome 26 ws s) hs
  case elapsedTick => exact absurd rfl hi
  all_goals exact hI.safe rfl (by simp only [areasOf]; decide) hs

end EventInvariant

/-- A predicate that every step keeps, by the parts a step is made of. -/
structure Invariant (I : State → Prop) : Prop extends EventInvariant I where
  doze : ∀ s t, Move (.doze :: safeAreas) s t → I s → I t
  pending : ∀ s (cs : List Instr), I s → I { s with pending := cs }
  restart : ∀ s, I s → I (restartReset s)

namespace Invariant

variable {I : State → Prop}

theorem dozeMoves (hI : Invariant I) (h : Moves as s t) (hab : as ⊆ .doze :: safeAreas := by decide) : I s → I t :=
  (h.mono hab).keeps hI.doze

theorem close (hI : Invariant I) (s : State) (ht : I t) : I (close s t) := hI.dozeMoves (moves_close s t) (by decide) ht

theorem restartDue (hI : Invariant I) (hs : I s) : I (restartDue s) := by
  unfold Machine.restartDue
  split
  · exact hI.restart s hs
  · exact hs

/-- Every command's effect keeps the invariant. -/
theorem effects (hI : Invariant I) (i : Instr) (hs : I s) : I (Machine.effect i s) := by
  by_cases hi : i = .elapsedTick
  · subst hi
    refine hI.dozeMoves ((moves_effect _ rfl s).mono fun a ha => ?_) (List.Subset.refl _) hs
    obtain h | h := mem_cmdAreas ha
    · exact (by decide : tickAreas ++ fireAreas ⊆ .doze :: safeAreas) h
    · exact (by decide : wakeAreas ⊆ .doze :: safeAreas) h
  · exact hI.toEventInvariant.effects hi hs

/-- Every command keeps the invariant. -/
theorem exec (hI : Invariant I) {i : Instr} (h : exec i s = .next t) (hs : I s) : I t := by
  have hevent : ∀ i, I (Machine.close s (Machine.effect i (startEvent i s))) := fun i =>
    hI.close s (hI.effects i (hI.start i hs))
  cases hsup : s.mc.supply with
  | held b =>
    by_cases htaken : takenInReset i = true
    · cases i
      case supplyChange mv => exact Host.Outcome.next.inj h ▸ hI.supply s mv hs
      case powerOnReset => exact Host.Outcome.next.inj h ▸ hI.powerOn s hs
      case contactInputChange c l =>
        rw [exec_contactInputChange_held c l hsup] at h
        exact Host.Outcome.next.inj h ▸ hI.of_moves (moves_withContact c _ s) (by decide) hs
      all_goals cases htaken
    · rw [exec_held hsup (by simpa using htaken)] at h
      exact Host.Outcome.next.inj h ▸ hs
  | running =>
    by_cases hreset : mayReset i = true
    · cases i
      case supplyChange mv => exact Host.Outcome.next.inj h ▸ hI.supply s mv hs
      case powerOnReset => exact Host.Outcome.next.inj h ▸ hI.powerOn s hs
      case requestTake | replySent | restart | storeWriteDone =>
        rw [exec_restarting hsup rfl] at h
        exact Host.Outcome.next.inj h ▸ hI.restartDue (hevent _)
      all_goals cases hreset
    · rw [exec_running hsup (by simpa using hreset)] at h
      exact Host.Outcome.next.inj h ▸ hevent i

theorem step (hI : Invariant I) (h : step s = .next t) (hs : I s) : I t := by
  unfold Machine.step at h
  split at h
  · exact hI.exec h (hI.pending s _ hs)
  · split at h
    · exact hI.exec h hs
    · exact Host.Outcome.next.inj h ▸ hs

end Invariant

end Sys2Proof.Machine
end

section
/-! PROOFS. The resets keep every invariant, and an invariant that all moves keep but those over a few areas is kept by every step where
the records and the entry into STANDBY that need those areas are shown to keep it. -/

namespace Sys2Proof.Machine

-- One proof after another: started together they wait for one another, each on a thread of its own.
set_option Elab.async false

variable {s t u : State} {as bad : List Area} {I : State → Prop}

/-! ### The state after a reset of the part -/

section Reset

variable (kind : ResetKind) (m : ModeUnit) (cc : Settings → ChargeUnit) (offset : Int) (unset : Bool) (s : State)

theorem heaterUnitSound_heaterReset {p : HeaterPart} (h : heaterPartSmall p) : heaterUnitSound (heaterReset p) := by
  unfold heaterUnitSound heaterReset
  obtain ⟨hf, ho⟩ := h
  cases p.lockout <;> simpa [burning] using ⟨hf, ho⟩

theorem storeSmall_cutStore {m : ModeUnit} (h : storeSmall m) : storeSmall (cutStore m) := by
  refine ⟨fun p hp => ?_, fun p hp => by cases hp⟩
  unfold cutStore at hp
  dsimp only at hp
  split_ifs at hp
  exact h.1 p hp

theorem heaterSound_resetPart (h : storeSmall m) : heaterSound (resetPart kind m cc offset unset s) := by
  refine heaterSound_iff.2 ⟨heaterUnitSound_heaterReset ?_, fun p hp => h.1 p hp, fun p hp => by cases hp⟩
  cases hp : m.heaterPart with
  | none => exact ⟨Nat.zero_le _, Nat.zero_le _⟩
  | some p => exact h.1 p hp

theorem fridgeSound_resetPart : fridgeSound (resetPart kind m cc offset unset s) := by
  refine fridgeSound_iff.2 ⟨fun h => (by cases h), ?_, fun _ => Nat.zero_lt_succ _, Nat.zero_le _, Nat.zero_le _⟩
  unfold resetPart fridgeReset
  dsimp only
  split <;> split <;> rfl

theorem queuesSound_resetPart : queuesSound (resetPart kind m cc offset unset s) := by
  refine ⟨Nat.zero_le _, ?_, Nat.zero_le _, Nat.zero_le _, Nat.zero_le _, fun i => ?_⟩
  · unfold resetPart linkReset resetNotices
    dsimp only
    split <;> exact Nat.le_of_ble_eq_true rfl
  · change tget revReset i < 256
    revert i
    decide

theorem statusOf_resetPart (ch : Channel) : statusOf (resetPart kind m cc offset unset s) ch = .stale := by cases ch <;> rfl

theorem flameGuarded_resetPart : flameGuarded (resetPart kind m cc offset unset s) := by
  refine ⟨fun ch _ => statusOf_resetPart _ _ _ _ _ _ ch, fun h => ?_⟩
  change (heaterReset _).state = _ ∨ (heaterReset _).state = _ ∨ burning (heaterReset _).state = _ at h
  unfold heaterReset at h
  dsimp only at h
  split at h <;> simp [burning] at h

theorem entryOf_resetPart_grant (c : Consumer) : (entryOf (resetPart kind m cc offset unset s) c).grant = 0 := by cases c <;> rfl

theorem grantSound_resetPart : grantSound (resetPart kind m cc offset unset s) := by
  refine ⟨?_, fun c hc => absurd hc (by rw [entryOf_resetPart_grant]; decide)⟩
  unfold grantSum
  simp [entryOf_resetPart_grant]

theorem effectiveClass_resetPart (c : Consumer) :
    effectiveClass (resetPart kind m cc offset unset s) c = tget (resetPart kind m cc offset unset s).cfg.classes (consIx c) := by
  cases c <;> rfl

theorem mem_classMembers (cfg : Settings) (k : Fin 8) (c : Consumer) :
    c ∈ classMembers cfg k ↔ tget cfg.classes (consIx c) = k := by
  simp [classMembers, mem_allConsumers]

theorem tget_lists_resetPart (k : Fin 8) :
    tget (resetPart kind m cc offset unset s).ga.lists k = classMembers (resetPart kind m cc offset unset s).cfg k := by
  fin_cases k <;> rfl

theorem listsSound_resetPart : listsSound (resetPart kind m cc offset unset s) := by
  intro k
  rw [tget_lists_resetPart]
  refine ⟨List.Nodup.filter _ (by decide), fun c => ?_⟩
  rw [mem_classMembers, effectiveClass_resetPart]

theorem lightOf_resetPart (i : Fin 6) : lightOf (resetPart kind m cc offset unset s) i = lightReset := by fin_cases i <;> rfl

theorem groupRequest_resetPart (g : Group) : groupRequest (resetPart kind m cc offset unset s) g = none := by
  have hdemand : groupDemand (resetPart kind m cc offset unset s) g = 0 := by
    simp only [groupDemand, lightOf_resetPart]
    cases g <;> rfl
  simp [groupRequest, hdemand]

theorem lightsSound_resetPart : lightsSound (resetPart kind m cc offset unset s) := by
  refine lightsSound_iff.2 fun i => ?_
  rw [lightOf_resetPart]
  refine ⟨⟨fun _ => rfl, fun f hf => by cases hf⟩, ?_⟩
  have hasked : tget (resetPart kind m cc offset unset s).asked (consIx (groupConsumer (groupOf i))) = none := by
    cases groupOf i <;> rfl
  unfold appliedLevel
  dsimp only
  rw [hasked]
  rfl

theorem heaterRequest_heaterReset (d : Demands) (p : HeaterPart) : heaterRequest d (heaterReset p) = none := by
  unfold heaterRequest heaterReset
  cases p.lockout <;> rfl

theorem fridgeRequest_fridgeReset (d : Demands) (cfg : Settings) : fridgeRequest d (fridgeReset cfg) = none := by
  unfold fridgeRequest fridgeReset
  cases cfg.fridgeSet.enable <;> rfl

theorem requestsSound_resetPart : requestsSound (resetPart kind m cc offset unset s) :=
  ⟨rfl, (heaterRequest_heaterReset _ _).symm, (fridgeRequest_fridgeReset _ _).symm, (groupRequest_resetPart ..).symm,
    (groupRequest_resetPart ..).symm, rfl, fun k => by cases k <;> rfl⟩

end Reset

/-- A part that loses its supply keeps all of its blocks as they stood. -/
theorem supplyAt_cases (mv : Nat) (s : State) : supplyAt mv s = s
    ∨ supplyAt mv s = { s with mc := { cutStore s.mc with supply := .held false }, handed := [] }
    ∨ ∃ b, supplyAt mv s = { s with mc := { s.mc with supply := .held b } } := by
  unfold supplyAt
  split
  · split
    · exact .inr (.inl rfl)
    · exact .inl rfl
  · exact .inr (.inr ⟨_, rfl⟩)

/-! ### An invariant with exceptions -/

/-- No area of the first list stands in the second. -/
abbrev Avoids (bad as : List Area) : Prop := ∀ a ∈ bad, a ∉ as

/-- The areas of an accepted write of a record and of the wake that it may cause. -/
def writeAreas (r : Nat) : List Area := .answer :: .poked r :: (ownerAreas r ++ wakeAreas)

/-- The records that take a writing operation on fields. -/
def writableRecords : List Nat := [3, 5, 7, 8, 10, 11, 12, 14, 16, 17, 18, 19, 20, 21, 22, 23, 24, 26]

theorem writable_mem {r : Nat} (h : writable r) : r ∈ writableRecords := by
  obtain ⟨hknown, hopen, h25⟩ := h
  unfold recordView at hknown
  split at hknown
  all_goals first | decide | exact absurd hopen (by decide) | exact absurd rfl h25 | cases hknown

theorem writeWakes {r : Nat} (h : writable r) : WriteWakes (writeAreas r) s r where
  owner := fun a ha => by simp [writeAreas, ha]
  poked := by simp [writeAreas]
  capacity := by
    rintro rfl
    simp [writeAreas]
  answer := by simp [writeAreas]
  wake := fun _ _ a ha => by simp [writeAreas, ha]
  awake := (by decide : ∀ r ∈ writableRecords, Area.sleep ∉ writeAreas r) r (writable_mem h)
  clock := (by decide : ∀ r ∈ writableRecords, Area.clock ∉ writeAreas r) r (writable_mem h)

/-- The reset of an accepted RESTART, the clock's part apart. -/
abbrev restarted (s : State) : State :=
  resetPart .restart (cutStore s.mc) (ccRestart s.cc) (cabTime s) s.su.unset s

theorem moves_restartReset (s : State) : Moves [.su] (restarted s) (restartReset s) := by
  unfold restartReset
  dsimp only
  split
  · exact .refl
  · exact moves_passOverAll _

/-- What keeps an invariant through every step, where all moves keep it but those over the areas `bad`. -/
structure KeptBut (bad : List Area) (I : State → Prop) : Prop where
  move : ∀ {as s t}, Avoids bad as → Move as s t → I s → I t
  safe : Avoids bad (.doze :: safeAreas)
  accept : ∀ s r ws st data, writable r → ¬Avoids bad (writeAreas r) → I s → I (accept r ws st data s)
  mark : ∀ s n b, I s → I (setHostMark n b s)
  convert : ∀ s ch code, I s → I (convert ch code s)
  standby : ∀ s, I s → I (standby s)
  queues : ∀ s hs cs, I s → I { s with handed := hs, pending := cs }
  cut : ∀ s, I s → I { s with mc := { cutStore s.mc with supply := .held false }, handed := [] }
  held : ∀ s b, I s → I { s with mc := { s.mc with supply := .held b } }
  powerOn : ∀ s, I s → I (resetPart .powerOn (cutStore s.mc) ccReset 0 true s)
  restart : ∀ s, I s → I (restarted s)

namespace KeptBut

theorem moves (g : KeptBut bad I) (h : Moves as s t) (hav : Avoids bad as) : I s → I t := h.keeps fun _ _ => g.move hav

theorem invariant (g : KeptBut bad I) : Invariant I where
  move := fun _ _ h => g.move g.safe (h.mono (List.subset_cons_self _ _))
  doze := fun _ _ => g.move g.safe
  accept := fun s r ws st data hr => by
    by_cases hav : Avoids bad (writeAreas r)
    · exact g.moves (moves_accept ws st data (writable_ne_clock hr) (writeWakes hr)) hav
    · exact g.accept s r ws st data hr hav
  mark := g.mark
  convert := g.convert
  standby := g.standby
  handings := fun s hs => g.queues s hs s.pending
  pending := fun s cs => g.queues s s.handed cs
  supply := fun s mv hs => by
    obtain e | e | ⟨b, e⟩ := supplyAt_cases mv s <;> rw [e]
    · exact hs
    · exact g.cut s hs
    · exact g.held s b hs
  powerOn := fun s hs => by
    unfold Machine.powerOn
    split
    · exact hs
    · exact g.powerOn s hs
  restart := fun s hs => g.moves ((moves_restartReset s).mono (by decide : [Area.su] ⊆ .doze :: safeAreas)) g.safe (g.restart s hs)

end KeptBut

end Sys2Proof.Machine
end

section
/-! PROOFS. The step invariants of the heater, the fridge, the queues and the flame. -/

namespace Sys2Proof.Machine

-- One proof after another: started together they wait for one another, each on a thread of its own.
set_option Elab.async false

variable {s t u : State} {as bad : List Area} {I : State → Prop}

/-- An invariant that every move keeps: every operation keeps it. -/
theorem KeptBut.of_every (hmove : ∀ {as s t}, Move as s t → I s → I t)
    (queues : ∀ s hs cs, I s → I { s with handed := hs, pending := cs })
    (cut : ∀ s, I s → I { s with mc := { cutStore s.mc with supply := .held false }, handed := [] })
    (held : ∀ s b, I s → I { s with mc := { s.mc with supply := .held b } })
    (powerOn : ∀ s, I s → I (resetPart .powerOn (cutStore s.mc) ccReset 0 true s))
    (restart : ∀ s, I s → I (restarted s)) : KeptBut [] I where
  move := fun _ => hmove
  safe := by decide
  accept := fun _ _ _ _ _ _ hav => absurd (fun _ ha => (List.not_mem_nil ha).elim) hav
  mark := fun s n b => (moves_setHostMark n b s).keeps fun _ _ => hmove
  convert := fun s ch code => (moves_convert ch code s).keeps fun _ _ => hmove
  standby := fun s => (moves_standby s).keeps fun _ _ => hmove
  queues := queues
  cut := cut
  held := held
  powerOn := powerOn
  restart := restart

theorem keptBut_heaterSound : KeptBut [] heaterSound :=
  .of_every Move.heaterSound (fun _ _ _ h => h)
    (fun s h => heaterSound_congr (s := s) rfl (fun hm => (storeSmall_cutStore hm : storeSmall (cutStore s.mc))) h) (fun _ _ h => h)
    (fun _ h => heaterSound_resetPart _ _ _ _ _ _ (storeSmall_cutStore (heaterSound_iff.1 h).2))
    (fun _ h => heaterSound_resetPart _ _ _ _ _ _ (storeSmall_cutStore (heaterSound_iff.1 h).2))

theorem keptBut_fridgeSound : KeptBut [] fridgeSound :=
  .of_every Move.fridgeSound (fun _ _ _ h => h) (fun _ h => h) (fun _ _ h => h) (fun _ _ => fridgeSound_resetPart _ _ _ _ _ _)
    (fun _ _ => fridgeSound_resetPart _ _ _ _ _ _)

theorem keptBut_queuesSound : KeptBut [] queuesSound :=
  .of_every Move.queuesSound (fun _ _ _ h => h) (fun _ h => h) (fun _ _ h => h) (fun _ _ => queuesSound_resetPart _ _ _ _ _ _)
    (fun _ _ => queuesSound_resetPart _ _ _ _ _ _)

end Sys2Proof.Machine

namespace Sys2Proof.Proofs

open Sys2Proof Sys2Proof.Machine

/-- Settles O3: every move of a step keeps the heater sound, the store's parts included, and so do the resets. -/
theorem stepKeepsHeaterSound : Obligations.StepKeepsHeaterSound :=
  fun _ _ hs h => keptBut_heaterSound.invariant.step h hs

end Sys2Proof.Proofs
end

section
/-! PROOFS. The step invariants of the charge, the flame's sensors and the lights: each has one record whose write needs its owner's
taking of it. -/

namespace Sys2Proof.Machine

-- One proof after another: started together they wait for one another, each on a thread of its own.
set_option Elab.async false

variable {s t u : State} {as bad : List Area} {I : State → Prop}

/-! ### An accepted write by its two endings -/

/-- The part with the fields written, the revision advanced and the operation answered. -/
abbrev written (r : Nat) (ws : List FieldWrite) (v : Vector Nat 26) (a : Option Answer) (s : State) : State :=
  { pokeAll r ws s with rev := v, answer := a }

theorem operateRecord_cases (r : Nat) (f : State → State) (s : State) : ∃ v, operateRecord r f s = { f s with rev := v } := by
  unfold operateRecord operate
  dsimp only
  split_ifs
  · exact ⟨(f s).rev, rfl⟩
  · exact ⟨_, rfl⟩
  · exact ⟨(f s).rev, rfl⟩

theorem ownerTakes_cases (r : Nat) (f : State → State) (s : State) : ∃ v, ownerTakes r f s = { f s with rev := v } := by
  unfold ownerTakes ownerEvent advance
  split_ifs
  · exact ⟨_, rfl⟩
  · exact ⟨(f s).rev, rfl⟩

/-- What an accepted write keeps: it is kept where the content stays, and by the owner's taking of a change. -/
theorem accept_keeps {r : Nat} {ws : List FieldWrite} {st : Status} {data : List Byte} (hrev : ∀ s v, I s → I { s with rev := v })
    (hsame : ∀ v a, recordView s r = recordView { pokeAll r ws s with rev := v } r → I (written r ws v a s))
    (htaken : ∀ v a, I (ownerEffect r s ws (written r ws v a s))) : I (accept r ws st data s) := by
  obtain ⟨v, hv⟩ := operateRecord_cases r (pokeAll r ws) s
  unfold accept
  rw [hv]
  dsimp only
  split
  · rename_i hview
    exact hsame v _ hview
  · obtain ⟨v', hv'⟩ := ownerTakes_cases r (ownerEffect r s ws)
      (answer st (revByte { pokeAll r ws s with rev := v } r :: data) { pokeAll r ws s with rev := v })
    rw [hv']
    exact hrev _ v' (htaken v _)

/-! ### The charge -/

theorem viewBattery_cap {b c : Battery} (h : viewBattery b = viewBattery c) : b.cap = c.cap := by
  simp only [viewBattery, List.cons.injEq, Item.one.injEq, strictF, rw, Field.mk.injEq, Option.some.injEq] at h
  exact Int.ofNat.inj h.1.2.2

theorem keptBut_chargeSound : KeptBut [.poked 3] chargeSound where
  move := fun hav h => h.chargeSound (hav _ (List.mem_singleton.2 rfl))
  safe := by decide
  accept := fun s r ws st data hr hav hs => by
    obtain rfl : r = 3 := (by decide : ∀ r ∈ writableRecords, ¬Avoids [.poked 3] (writeAreas r) → r = 3) r (writable_mem hr) hav
    refine accept_keeps (fun _ _ h => h) (fun v a hview => ?_) fun v a => ?_
    · have hcap : s.cfg.battery.cap = (pokeAll 3 ws s).cfg.battery.cap := viewBattery_cap (Option.some.inj hview)
      rw [chargeSound_iff] at hs ⊢
      rw [hcap] at hs
      exact (pokeAll_cc 3 ws s).symm ▸ hs
    · exact batteryEffect_chargeSound s.cfg.battery (by rw [pokeAll_cc]; exact hs)
  mark := fun s n b => (moves_setHostMark n b s).keeps fun _ _ h => h.chargeSound (by decide)
  convert := fun s ch code => (moves_convert ch code s).keeps fun _ _ h => h.chargeSound (by decide)
  standby := fun s => (moves_standby s).keeps fun _ _ h => h.chargeSound (by decide)
  queues := fun _ _ _ h => h
  cut := fun _ h => h
  held := fun _ _ h => h
  powerOn := fun s _ => ⟨fun c hc => (by cases hc), (by decide : (-360000 : Int) < 0), (by decide : (0 : Int) < 360000), Nat.zero_le _, Nat.zero_lt_succ _⟩
  restart := fun s hs => by
    obtain ⟨-, hlow, hhigh, hwin, -⟩ := chargeSound_iff.1 hs
    refine ⟨fun c hc => ?_, hlow, hhigh, hwin, Nat.zero_lt_succ _⟩
    obtain ⟨d, -, rfl⟩ := Option.map_eq_some_iff.1 (show s.cc.c.map _ = some c from hc)
    exact Nat.min_le_left _ _

/-! ### The flame -/

/-- Two tables shown alike are alike entry by entry. -/
theorem shown_tget {α β : Type} {n : Nat} {f : α → β} {v w : Vector α n} (h : v.toList.map f = w.toList.map f) (i : Fin n) :
    f (tget v i) = f (tget w i) := by
  have hrow := congrArg (fun l => l[i.1]?) h
  simpa [tget, i.2] using hrow

theorem flagVal_inj {a b : Bool} (h : flagVal a = flagVal b) : a = b := by
  revert h
  cases a <;> cases b <;> decide

theorem viewChannels_enabled {c d : Settings} (h : viewChannels c = viewChannels d) (i : Fin 7) :
    (tget c.chan i).enabled = (tget d.chan i).enabled := by
  simp only [viewChannels, List.cons.injEq, Item.group.injEq, and_true] at h
  have hrow := shown_tget h i
  simp only [rw, List.cons.injEq, Field.mk.injEq, Option.some.injEq] at hrow
  exact flagVal_inj hrow.1.2.2

theorem isConverted_eq (ch : Channel) (h : (tget t.cfg.chan (chanIx ch)).enabled = (tget s.cfg.chan (chanIx ch)).enabled)
    (hmode : t.mc.mode = s.mc.mode) : isConverted t ch = isConverted s ch := by
  unfold isConverted
  rw [h, hmode]

theorem keptBut_flameGuarded : KeptBut [.rawChan, .sleep, .poked 8] flameGuarded where
  move := fun hav h => h.flameGuarded (hav _ (by decide)) (hav _ (by decide)) (hav _ (by decide))
  safe := by decide
  accept := fun s r ws st data hr hav hs => by
    obtain rfl : r = 8 := (by decide : ∀ r ∈ writableRecords, ¬Avoids [.rawChan, .sleep, .poked 8] (writeAreas r) → r = 8) r
      (writable_mem hr) hav
    refine accept_keeps (fun _ _ h => h) (fun v a hview => ?_) fun v a => ?_
    · obtain ⟨hstale, hvalid⟩ := flameGuarded_iff.1 hs
      have hmu : (written 8 ws v a s).mu.chan = s.mu.chan := congrArg MeasureUnit.chan (pokeAll_mu 8 ws s)
      refine flameGuarded_iff.2 ⟨fun ch hch => ?_, fun hf => ?_⟩
      · rw [statusOf_congr hmu]
        refine hstale ch (hch ▸ (isConverted_eq ch ?_ ?_).symm)
        · exact (viewChannels_enabled (Option.some.inj hview) _).symm
        · exact congrArg ModeUnit.mode (pokeAll_mc 8 ws s)
      · rw [statusOf_congr hmu, statusOf_congr hmu]
        exact hvalid (pokeAll_hc 8 ws s ▸ hf)
    · exact flameGuarded_channelsEffect hs (congrArg ModeUnit.mode (pokeAll_mc 8 ws s)) (congrArg MeasureUnit.chan (pokeAll_mu 8 ws s))
        (congrArg HeaterUnit.state (pokeAll_hc 8 ws s))
  mark := fun s n b => flameGuarded_setHostMark n b
  convert := fun s ch code => flameGuarded_convert ch code
  standby := fun s => flameGuarded_standby
  queues := fun _ _ _ h => h
  cut := fun _ h => h
  held := fun _ _ h => h
  powerOn := fun _ _ => flameGuarded_resetPart _ _ _ _ _ _
  restart := fun _ _ => flameGuarded_resetPart _ _ _ _ _ _

/-! ### The lights -/

/-- A written target is all that changes of a light channel. -/
theorem lightOf_pokeAll (r : Nat) (ws : List FieldWrite) (s : State) (i : Fin 6) :
    ∃ n, lightOf (pokeAll r ws s) i = { lightOf s i with target := n } := by
  have hfold : ∀ s : State, ∃ n, lightOf (ws.foldl (poke r) s) i = { lightOf s i with target := n } := by
    induction ws with
    | nil => exact fun s => ⟨_, rfl⟩
    | cons w ws ih =>
      intro s
      have hone : ∃ n, lightOf (poke r s w) i = { lightOf s i with target := n } := by
        unfold poke
        split_ifs
        · exact ⟨_, rfl⟩
        · exact ⟨_, rfl⟩
        · change ∃ n, tget (setElem s.lc.chan w.elem fun c => { c with target := natOf w.value }) i = _
          unfold setElem
          split
          · split
            · rw [tget_tset]
              split_ifs with hi
              · exact ⟨_, by rw [hi]; rfl⟩
              · exact ⟨_, rfl⟩
            · exact ⟨_, rfl⟩
          · exact ⟨_, rfl⟩
        · exact ⟨_, rfl⟩
        · exact ⟨_, rfl⟩
      obtain ⟨n, hn⟩ := hone
      obtain ⟨m, hm⟩ := ih (poke r s w)
      exact ⟨m, by rw [List.foldl_cons, hm, hn]⟩
  unfold pokeAll
  dsimp only
  split_ifs
  · exact hfold s
  · exact hfold s

theorem lightsWritten_sound {old : Vector Nat 6}
    (h : ∀ i, tget old i = (lightOf s i).target → fadeSound (lightOf s i)) : lightsSound (lightsWritten old s) := by
  unfold lightsWritten
  rw [targetEvent_eq]
  exact lightsFollow_sound fun i => by
    rw [lightOf_entrySettles]
    exact fadesStarted_sound (h i)

theorem natVal_inj {a b : Option Nat} (h : natVal a = natVal b) : a = b := by
  revert h
  cases a <;> cases b <;> simp [natVal]

theorem vector_eq_of_tget {α : Type} {n : Nat} {v w : Vector α n} (h : ∀ i, tget v i = tget w i) : v = w :=
  Vector.ext fun i hi => h ⟨i, hi⟩

theorem mem_allLights (i : Fin 6) : i ∈ allLights := by
  fin_cases i <;> decide

/-- Equal content of LIGHTS is equal settings and equal targets. -/
theorem viewLights_same (h : viewLights s = viewLights t) :
    (∀ i, (lightOf s i).target = (lightOf t i).target) ∧ s.cfg.lights = t.cfg.lights := by
  simp only [viewLights, List.cons_append, List.cons.injEq, Item.group.injEq, Item.one.injEq, List.nil_append, clampF, rw, rwOpt,
    Field.mk.injEq, Option.some.injEq, Int.natCast_inj, true_and, List.map_inj_left, and_true] at h
  obtain ⟨hrows, hfade, hbunk, hcab, hrest, hscene, -⟩ := h
  refine ⟨fun i => (hrows i (mem_allLights i)).1, ?_⟩
  have hon : s.cfg.lights.onLevel = t.cfg.lights.onLevel := vector_eq_of_tget fun i => (hrows i (mem_allLights i)).2
  generalize s.cfg.lights = a at *
  generalize t.cfg.lights = b at *
  cases a
  cases b
  simp only [LightSet.mk.injEq]
  exact ⟨hon, hfade, hbunk, hcab, hrest, natVal_inj hscene⟩

/-- The lights stand as they did where the written fields hold the values that stood. -/
theorem lightsSound_pokeAll {r : Nat} {ws : List FieldWrite} (v : Vector Nat 26) (a : Option Answer)
    (hview : viewLights s = viewLights (pokeAll r ws s)) (hs : lightsSound s) : lightsSound (written r ws v a s) := by
  obtain ⟨htarget, hcfg⟩ := viewLights_same hview
  have hlight : ∀ i, lightOf (pokeAll r ws s) i = lightOf s i := fun i => by
    obtain ⟨n, hn⟩ := lightOf_pokeAll r ws s i
    have hi : (lightOf s i).target = n := (htarget i).trans (by rw [hn])
    rw [hn, ← hi]
  rw [lightsSound_iff] at hs ⊢
  intro i
  obtain ⟨w, hw⟩ := (pokeAll_poked r ws s).lc
  have hlevel : (pokeAll r ws s).lc.level = s.lc.level := by rw [hw]
  have hrest : (pokeAll r ws s).lc.resting = s.lc.resting := by rw [hw]
  have hentry : (pokeAll r ws s).lc.entry = s.lc.entry := by rw [hw]
  have hgroup : (pokeAll r ws s).lc.group = s.lc.group := by rw [hw]
  have happ : appliedLevel (written r ws v a s) i = appliedLevel s i :=
    appliedLevel_congr hcfg.symm (fun g => congrArg (fun v => tget v _) (pokeAll_asked r ws s)) hlevel hrest hentry
      (fun g => congrArg (fun l => (tget l g).grant) hgroup) (congrArg LightChan.faded (hlight i))
  have hsame : lightOf (written r ws v a s) i = lightOf s i := hlight i
  rw [happ, hsame]
  exact hs i

theorem keptBut_lightsSound : KeptBut [.poked 18] lightsSound where
  move := fun hav h => h.lightsSound (hav _ (List.mem_singleton.2 rfl))
  safe := by decide
  accept := fun s r ws st data hr hav hs => by
    obtain rfl : r = 18 := (by decide : ∀ r ∈ writableRecords, ¬Avoids [.poked 18] (writeAreas r) → r = 18) r (writable_mem hr) hav
    refine accept_keeps (fun _ _ h => h) (fun v a hview => lightsSound_pokeAll v a (Option.some.inj hview) hs) fun v a => ?_
    refine lightsWritten_sound fun i hi => ?_
    have hsound := (lightsSound_iff.1 hs i).1
    obtain ⟨n, hn⟩ := lightOf_pokeAll 18 ws s i
    have hwritten : lightOf (written 18 ws v a s) i = { lightOf s i with target := n } := hn
    have hold : tget (targetsOf s) i = (lightOf s i).target := by simp [targetsOf, lightOf, tget]
    rw [hwritten, hold] at hi
    rw [hwritten, ← show (lightOf s i).target = n from hi]
    exact hsound
  mark := fun s n b => (moves_setHostMark n b s).keeps fun _ _ h => h.lightsSound (by decide)
  convert := fun s ch code => (moves_convert ch code s).keeps fun _ _ h => h.lightsSound (by decide)
  standby := fun s => (moves_standby s).keeps fun _ _ h => h.lightsSound (by decide)
  queues := fun _ _ _ h => h
  cut := fun _ h => h
  held := fun _ _ h => h
  powerOn := fun _ _ => lightsSound_resetPart _ _ _ _ _ _
  restart := fun _ _ => lightsSound_resetPart _ _ _ _ _ _

end Sys2Proof.Machine

namespace Sys2Proof.Proofs

open Sys2Proof Sys2Proof.Machine

/-- Settles O4: every move but the channels', the entry into STANDBY and a write of CHANNELS keeps the flame guarded, and these do so
with their consequences at the heater. -/
theorem stepKeepsFlameGuarded : Obligations.StepKeepsFlameGuarded :=
  fun _ _ hs h => keptBut_flameGuarded.invariant.step h hs

/-- Settles O5: the fridge and the queues are kept by every move, and the charge by all but a write of BATTERY, which rescales it. -/
theorem stepKeepsBoundsSound : Obligations.StepKeepsBoundsSound :=
  ⟨fun _ _ hs h => keptBut_fridgeSound.invariant.step h hs, fun _ _ hs h => keptBut_chargeSound.invariant.step h hs,
    fun _ _ hs h => keptBut_queuesSound.invariant.step h hs⟩

end Sys2Proof.Proofs
end

section
/-! PROOFS. The step invariants of the Grant Arbiter and of the owners' requests. -/

namespace Sys2Proof.Machine

-- One proof after another: started together they wait for one another, each on a thread of its own.
set_option Elab.async false

variable {s t u : State} {as bad : List Area} {I : State → Prop}

/-- A pass keeps what the table's part of it leaves and what a wake's moves keep. -/
theorem pass_keeps {s0 : State} (hrev : ∀ s v, I s → I { s with rev := v }) (hmove : ∀ s t, Move wakeAreas s t → I s → I t)
    (h : I (passTable s)) : I (pass s0 s) := by
  unfold pass
  generalize passTable s = s1 at h
  dsimp only
  split
  · rename_i hwake
    exact (moves_wakeStandby (s := advance allRecords s0 s1) hwake.1).keeps hmove (hrev s1 _ h)
  · exact h

/-! ### Grants -/

theorem viewConsumers_same {c d : Settings} (h : viewConsumers c = viewConsumers d) : c.classes = d.classes ∧ c.masks = d.masks := by
  simp only [viewConsumers, List.cons.injEq, Item.group.injEq, List.map_inj_left, strictF, rw, Field.mk.injEq, Option.some.injEq,
    and_true, true_and] at h
  have hrow : ∀ i : Fin 8, ∃ c, consIx c = i := by
    intro i
    fin_cases i
    exacts [⟨.panel, rfl⟩, ⟨.heat, rfl⟩, ⟨.fridge, rfl⟩, ⟨.bunk, rfl⟩, ⟨.cab, rfl⟩, ⟨.vent, rfl⟩, ⟨.socketA, rfl⟩, ⟨.socketB, rfl⟩]
  refine ⟨vector_eq_of_tget fun i => ?_, vector_eq_of_tget fun i => ?_⟩ <;> obtain ⟨x, rfl⟩ := hrow i
  · exact Fin.ext (Int.ofNat.inj (h.1 x (mem_allConsumers x)).1)
  · exact flagVal_inj (h.1 x (mem_allConsumers x)).2

theorem pokeAll_ga_of_ne {r : Nat} (h : r ≠ 17) (ws : List FieldWrite) (s : State) : (pokeAll r ws s).ga = s.ga :=
  (pokeAll_poked r ws s).ga_of_ne h

theorem grantSound_pass (s0 s : State) : grantSound (pass s0 s) :=
  pass_keeps (fun _ _ h => h) (fun _ _ h => h.grantSound (by decide)) (passTable_grantSound s)

theorem grantSound_consumersEffect (old : Settings) (s : State) : grantSound (consumersEffect old s) := by
  unfold consumersEffect
  exact grantSound_pass _ _

theorem keptBut_grantSound : KeptBut [.poked 5] grantSound where
  move := fun hav h => h.grantSound (hav _ (List.mem_singleton.2 rfl))
  safe := by decide
  accept := fun s r ws st data hr hav hs => by
    obtain rfl : r = 5 := (by decide : ∀ r ∈ writableRecords, ¬Avoids [.poked 5] (writeAreas r) → r = 5) r (writable_mem hr) hav
    refine accept_keeps (fun _ _ h => h) (fun v a hview => ?_) fun v a => ?_
    · obtain ⟨hclasses, hmasks⟩ := viewConsumers_same (Option.some.inj hview)
      exact grantSound_of_ga (t := written 5 ws v a s) (pokeAll_ga_of_ne (by decide) ws s) hmasks.symm hclasses.symm hs
    · exact grantSound_consumersEffect _ _
  mark := fun s n b => (moves_setHostMark n b s).keeps fun _ _ h => h.grantSound (by decide)
  convert := fun s ch code => (moves_convert ch code s).keeps fun _ _ h => h.grantSound (by decide)
  standby := fun s => (moves_standby s).keeps fun _ _ h => h.grantSound (by decide)
  queues := fun _ _ _ h => h
  cut := fun _ h => h
  held := fun _ _ h => h
  powerOn := fun _ _ => grantSound_resetPart _ _ _ _ _ _
  restart := fun _ _ => grantSound_resetPart _ _ _ _ _ _

/-! ### Order lists -/

/-- The part with the classes of an earlier CONSUMERS record. -/
abbrev classed (v : Vector (Fin 8) 8) (s : State) : State := { s with cfg := { s.cfg with classes := v } }

theorem effectiveClass_congr_at (c : Consumer) (hb : (entryOf t c).boosted = (entryOf s c).boosted)
    (hc : tget t.cfg.classes (consIx c) = tget s.cfg.classes (consIx c)) : effectiveClass t c = effectiveClass s c := by
  unfold effectiveClass
  rw [hb, hc]

theorem relist_classed (c : Consumer) (old new : Fin 8) (v : Vector (Fin 8) 8) (s : State) :
    relist c old new (classed v s) = classed v (relist c old new s) := by
  unfold relist
  split <;> rfl

/-- One consumer after another takes its new class, each leaving the old class's list for the new one's (R42). -/
theorem listsSound_reclassed (old : Vector (Fin 8) 8) (cs : List Consumer) (v : Vector (Fin 8) 8) (s : State) (hnodup : cs.Nodup)
    (hold : ∀ c ∈ cs, tget v (consIx c) = tget old (consIx c)) (hnew : ∀ c ∉ cs, tget v (consIx c) = tget s.cfg.classes (consIx c))
    (h : listsSound (classed v s)) :
    listsSound (cs.foldl (fun s c => if (entryOf s c).boosted then s
      else relist c (tget old (consIx c)) (tget s.cfg.classes (consIx c)) s) s) := by
  induction cs generalizing v s with
  | nil => exact listsSound_congr (s := classed v s) rfl (fun c => effectiveClass_congr_at c rfl (hnew c List.not_mem_nil).symm) h
  | cons c cs ih =>
    obtain ⟨hc, hcs⟩ := List.nodup_cons.1 hnodup
    have hv : ∀ d, tget (tset v (consIx c) (tget s.cfg.classes (consIx c))) (consIx d) =
        if c = d then tget s.cfg.classes (consIx d) else tget v (consIx d) := fun d => by
      rw [tget_tset]
      split_ifs with h1 h2 h2
      · rw [h1]
      · exact absurd (consIx_inj h1) h2
      · exact absurd (congrArg consIx h2) h1
      · rfl
    have hold' : ∀ d ∈ cs, tget (tset v (consIx c) (tget s.cfg.classes (consIx c))) (consIx d) = tget old (consIx d) := fun d hd => by
      have hne : c ≠ d := fun e => hc (e ▸ hd)
      rw [hv, if_neg hne]
      exact hold d (List.mem_cons_of_mem _ hd)
    have hnew' : ∀ d ∉ cs, tget (tset v (consIx c) (tget s.cfg.classes (consIx c))) (consIx d) = tget s.cfg.classes (consIx d) :=
      fun d hd => by
        rw [hv]
        split_ifs with e
        · rfl
        · exact hnew d (by simp [hd, Ne.symm e])
    rw [List.foldl_cons]
    split
    · rename_i hboost
      refine ih _ s hcs hold' hnew' (listsSound_congr (s := classed v s) rfl (fun d => ?_) h)
      by_cases hd : c = d
      · subst hd
        unfold effectiveClass
        exact (if_pos hboost).trans (if_pos hboost).symm
      · exact effectiveClass_congr_at d rfl (by dsimp only; rw [hv, if_neg hd])
    · rename_i hboost
      have hclass : effectiveClass (classed v s) c = tget old (consIx c) := by
        unfold effectiveClass
        refine (if_neg hboost).trans ?_
        exact hold c List.mem_cons_self
      have hclass' : effectiveClass (classed (tset v (consIx c) (tget s.cfg.classes (consIx c))) s) c = tget s.cfg.classes (consIx c) := by
        unfold effectiveClass
        refine (if_neg hboost).trans ?_
        dsimp only
        rw [hv, if_pos rfl]
      have hlists := listsSound_relist (t := classed (tset v (consIx c) (tget s.cfg.classes (consIx c))) s) hclass rfl
        (fun d hd => effectiveClass_congr_at d rfl (by dsimp only; rw [hv, if_neg (Ne.symm hd)])) h
      rw [hclass', relist_classed] at hlists
      obtain ⟨w, hw⟩ := relist_eq c (tget old (consIx c)) (tget s.cfg.classes (consIx c)) s
      rw [hw] at hlists ⊢
      exact ih _ _ hcs hold' hnew' hlists

/-- A list put into ascending id holds the same consumers, each once. -/
theorem listsSound_remode (old : Vector OrderMode 8) (ks : List (Fin 8)) (s : State) (h : listsSound s) :
    listsSound (ks.foldl (fun s k => if tget old k = tget s.cfg.orders k then s
      else withGa (fun g => { g with lists := tset g.lists k (allConsumers.filter fun c => (tget g.lists k).contains c) }) s) s) := by
  induction ks generalizing s with
  | nil => exact h
  | cons k ks ih =>
    rw [List.foldl_cons]
    refine ih _ ?_
    split_ifs
    · exact h
    · intro j
      change (tget (tset s.ga.lists k _) j).Nodup ∧ ∀ c, c ∈ tget (tset s.ga.lists k _) j ↔ effectiveClass s c = j
      rw [tget_tset]
      split_ifs with hk
      · subst hk
        refine ⟨List.Nodup.filter _ (by decide), fun c => ?_⟩
        rw [← (h k).2 c]
        simp [mem_allConsumers]
      · exact h j

theorem listsSound_passTable (h : listsSound s) : listsSound (passTable s) :=
  listsSound_congr (passTable_lists s) (passTable_effectiveClass s) h

theorem listsSound_consumersEffect (old : Settings) (h : listsSound (classed old.classes s)) : listsSound (consumersEffect old s) := by
  unfold consumersEffect
  refine pass_keeps (fun _ _ h => h) (fun _ _ h => h.listsSound (by decide) (by decide)) (listsSound_passTable ?_)
  exact listsSound_remode _ _ _ (listsSound_reclassed _ _ old.classes s (by decide) (fun _ _ => rfl)
    (fun c hc => absurd (mem_allConsumers c) hc) h)

theorem keptBut_listsSound : KeptBut [.relisted, .poked 5] listsSound where
  move := fun hav h => h.listsSound (hav _ (by decide)) (hav _ (by decide))
  safe := by decide
  accept := fun s r ws st data hr hav hs => by
    obtain rfl : r = 5 := (by decide : ∀ r ∈ writableRecords, ¬Avoids [.relisted, .poked 5] (writeAreas r) → r = 5) r
      (writable_mem hr) hav
    have hga : (pokeAll 5 ws s).ga = s.ga := pokeAll_ga_of_ne (by decide) ws s
    refine accept_keeps (fun _ _ h => h) (fun v a hview => ?_) fun v a => ?_
    · obtain ⟨hclasses, -⟩ := viewConsumers_same (Option.some.inj hview)
      exact listsSound_of_ga (t := written 5 ws v a s) hga hclasses.symm hs
    · exact listsSound_consumersEffect s.cfg (listsSound_of_ga (s := s) (t := classed s.cfg.classes (written 5 ws v a s)) hga rfl hs)
  mark := fun s n b => (moves_setHostMark n b s).keeps fun _ _ h => h.listsSound (by decide) (by decide)
  convert := fun s ch code => (moves_convert ch code s).keeps fun _ _ h => h.listsSound (by decide) (by decide)
  standby := fun s => (moves_standby s).keeps fun _ _ h => h.listsSound (by decide) (by decide)
  queues := fun _ _ _ h => h
  cut := fun _ h => h
  held := fun _ _ h => h
  powerOn := fun _ _ => listsSound_resetPart _ _ _ _ _ _
  restart := fun _ _ => listsSound_resetPart _ _ _ _ _ _

end Sys2Proof.Machine

namespace Sys2Proof.Proofs

open Sys2Proof Sys2Proof.Machine

/-- Settles O6: a pass shares the budget anew whatever stood before it, and every move of the order lists takes a consumer from the
list of its old class to that of its new one. -/
theorem stepKeepsGrantSound : Obligations.StepKeepsGrantSound :=
  ⟨fun _ _ hs h => keptBut_grantSound.invariant.step h hs, fun _ _ hs h => keptBut_listsSound.invariant.step h hs⟩

end Sys2Proof.Proofs
end

section
/-! PROOFS. The step invariant of the owners' requests. -/

namespace Sys2Proof.Machine

-- One proof after another: started together they wait for one another, each on a thread of its own.
set_option Elab.async false

variable {s t u : State} {as bad : List Area} {I : State → Prop}

/-! ### The requests that agree with their owners -/

/-- The request that stands for a consumer is the one its owner's state calls for. -/
def asksRightly (s : State) (c : Consumer) : Prop := tget s.asked (consIx c) = ownerRequest s c

theorem asksRightly_congr {c : Consumer} (hd : t.cfg.demands = s.cfg.demands) (hasked : tget t.asked (consIx c) = tget s.asked (consIx c))
    (h : ownerAgrees s t c) (hs : asksRightly s c) : asksRightly t c := by
  unfold asksRightly
  rw [hasked, ownerRequest_congr hd h]
  exact hs

theorem ownerAgrees_ask (c d : Consumer) (r : Option Request) (s : State) : ownerAgrees s (ask d r s) c := by
  cases c <;> simp [ownerAgrees, lightOf]

/-- An owner that asks brings its own request right and leaves every other's. -/
theorem asksRightly_ask {c d : Consumer} {r : Option Request} (hr : r = ownerRequest s d) (h : c ≠ d → asksRightly s c) :
    asksRightly (ask d r s) c := by
  by_cases e : c = d
  · subst e
    unfold asksRightly
    rw [ask_asked_same, hr]
    exact (ownerRequest_congr (by simp) (ownerAgrees_ask c c _ s)).symm
  · exact asksRightly_congr (by simp) (ask_asked_other _ _ _ _ fun k => e (consIx_inj k).symm) (ownerAgrees_ask c d r s) (h e)

/-! ### STANDBY -/

/-- Whether the panel is in STANDBY changes with the entry into it and with PANEL's request alone. -/
theorem Move.panelStandby_eq (h : Move as s t) (hsleep : .sleep ∉ as) (hask : .asked ∉ as) : t.pn.standby = s.pn.standby := by
  cases h with
  | panel p _ ha hq hstand => exact hstand
  | panelBack _ ha hb => exact absurd hb hask
  | panelSleep _ ha => exact absurd ha hsleep
  | _ => simp

theorem Moves.panelStandby_eq (h : Moves as s t) (hsleep : .sleep ∉ as) (hask : .asked ∉ as) : t.pn.standby = s.pn.standby :=
  h.lift (R := fun s t => t.pn.standby = s.pn.standby) (fun _ => rfl) (fun _ _ _ h k => k.trans h)
    fun _ _ m => m.panelStandby_eq hsleep hask

/-- In STANDBY the panel withdraws its own request and leaves every other owner's (R120, R188). -/
theorem requestsSound_panelStandby (hs : requestsSound s) : requestsSound (panelStandby s) := by
  have hmoves : Moves [.pn, .choices] (withPn (fun u => { u with standby := true }) s)
      (stopChimes (resetKeys (fun _ => keyReset) (releaseAll (withPn (fun u => { u with standby := true }) s)))) :=
    ((moves_releaseAll _).step (moves_resetKeys _ _)).step (moves_stopChimes _)
  unfold panelStandby
  dsimp only
  generalize stopChimes _ = u at hmoves ⊢
  rw [requestsSound_iff] at hs ⊢
  have hstand := hmoves.panelStandby_eq (by decide) (by decide)
  have hframe := hmoves.frame
  intro c
  refine asksRightly_ask ?_ fun hc => ?_
  · exact (if_pos hstand).symm
  · refine asksRightly_congr (s := s) (congrArg Settings.demands (hframe .cfg (by decide)))
      (congrArg (fun v => tget v _) (hframe .asked (by decide))) ?_ (hs c)
    have hheat : heaterCore _ = heaterCore s.hc := hframe .hc (by decide)
    have hlc : _ = s.lc := hframe .lc (by decide)
    have hga : _ = s.ga := hframe .ga (by decide)
    have hfc : _ = s.fc := hframe .fc (by decide)
    cases c
    case panel => exact absurd rfl hc
    case heat => exact ⟨(congrArg HeaterUnit.state hheat :), (congrArg HeaterUnit.desired hheat :)⟩
    case fridge => exact ⟨congrArg FridgeUnit.state hfc, congrArg FridgeUnit.wanted hfc⟩
    case vent => exact congrArg FridgeUnit.ventSpeed hfc
    case socketA => exact congrArg (fun g : GrantUnit => (tget g.sockets 0).on) hga
    case socketB => exact congrArg (fun g : GrantUnit => (tget g.sockets 1).on) hga
    all_goals exact fun i => congrArg (fun l : LightUnit => demandLevel (tget l.chan i)) hlc

/-- The areas whose moves keep every request right. -/
theorem Moves.requestsSound (h : Moves as s t)
    (hav : Avoids [.demand, .sleep, .poked 7, .poked 16, .poked 17, .poked 18] as := by decide) :
    Machine.requestsSound s → Machine.requestsSound t :=
  h.keeps fun _ _ m => m.requestsSound (hav _ (by decide)) (hav _ (by decide)) (hav _ (by decide)) (hav _ (by decide))
    (hav _ (by decide)) (hav _ (by decide))

theorem requestsSound_standby (hs : requestsSound s) : requestsSound (standby s) := by
  unfold standby
  split
  · exact (moves_answer _ _ s).requestsSound (by decide) hs
  split
  · exact (moves_answer _ _ s).requestsSound (by decide) hs
  · refine (moves_answer _ _ _).requestsSound (by decide) ?_
    unfold enterStandby
    extract_lets stopped
    have hmode : requestsSound (setMode .standby s) := by
      obtain ⟨b, e | e⟩ := setMode_cases .standby s <;> rw [e] <;>
        exact requestsSound_congr rfl rfl (fun c => by cases c <;> simp [ownerAgrees, lightOf]) hs
    exact requestsSound_panelStandby ((moves_stopChannels stopped _).requestsSound (by decide) hmode)

/-! ### Writes of what the requests are formed from -/

/-- After a record's fields are written every other owner's request stands as its state calls for. -/
theorem asksRightly_written {r : Nat} {ws : List FieldWrite} (v : Vector Nat 26) (a : Option Answer) {c : Consumer}
    (hd : (pokeAll r ws s).cfg.demands = s.cfg.demands) (hc : ownerAgrees s (pokeAll r ws s) c) (hs : requestsSound s) :
    asksRightly (written r ws v a s) c := by
  refine asksRightly_congr (s := s) hd (congrArg (fun v => tget v _) (pokeAll_asked r ws s)) ?_ (requestsSound_iff.1 hs c)
  cases c <;> exact hc

theorem pokeAll_demands {r : Nat} (h : r ≠ 7) (ws : List FieldWrite) (s : State) : (pokeAll r ws s).cfg.demands = s.cfg.demands :=
  pokeAll_setting (·.demands) (fun w c => pokeSettings_demands h w c) ws s

/-- The written fields of a record other than VENT, SOCKETS and LIGHTS leave what the owners agree on. -/
theorem ownerAgrees_pokeAll {r : Nat} {c : Consumer} (ws : List FieldWrite) (s : State) (hvent : c = .vent → r ≠ 16)
    (hsocket : c = .socketA ∨ c = .socketB → r ≠ 17) (hlight : c = .bunk ∨ c = .cab → r ≠ 18) : ownerAgrees s (pokeAll r ws s) c := by
  have hpoked := pokeAll_poked r ws s
  obtain ⟨n, hn⟩ := hpoked.fc
  cases c
  case vent => exact congrArg FridgeUnit.ventSpeed (hpoked.fc_of_ne (hvent rfl))
  case socketA => exact congrArg (fun g : GrantUnit => (tget g.sockets 0).on) (hpoked.ga_of_ne (hsocket (.inl rfl)))
  case socketB => exact congrArg (fun g : GrantUnit => (tget g.sockets 1).on) (hpoked.ga_of_ne (hsocket (.inr rfl)))
  case bunk => exact fun i => congrArg (fun l : LightUnit => demandLevel (tget l.chan i)) (hpoked.lc_of_ne (hlight (.inl rfl)))
  case cab => exact fun i => congrArg (fun l : LightUnit => demandLevel (tget l.chan i)) (hpoked.lc_of_ne (hlight (.inr rfl)))
  all_goals simp [ownerAgrees, hn]

/-! ### VENT -/

theorem requestsSound_ventWritten {old : Nat} (hold : old = s.fc.ventSpeed → asksRightly s .vent)
    (h : ∀ c, c ≠ .vent → asksRightly s c) : requestsSound (ventEffect old s) := by
  rw [ventEffect_eq, requestsSound_iff]
  intro c
  split_ifs with he
  · by_cases hc : c = .vent
    · exact hc ▸ hold he
    · exact h c hc
  · refine asksRightly_ask (s := { s with fc := ventTaken old s }) rfl fun hc => ?_
    exact asksRightly_congr (s := s) (t := { s with fc := ventTaken old s }) rfl rfl
      (by cases c <;> simp [ownerAgrees, lightOf, ventTaken]) (h c hc)

theorem requestsSound_ventWrite {ws : List FieldWrite} (v : Vector Nat 26) (a : Option Answer) (hs : requestsSound s) :
    requestsSound (ownerEffect 16 s ws (written 16 ws v a s)) := by
  have hvent : requestsSound (ventEffect s.fc.ventSpeed (written 16 ws v a s)) :=
    requestsSound_ventWritten
      (fun e => asksRightly_written v a (pokeAll_demands (by decide) ws s) e.symm hs)
      fun c hc => asksRightly_written v a (pokeAll_demands (by decide) ws s)
        (ownerAgrees_pokeAll ws s (fun e => absurd e hc) (fun _ => by decide) fun _ => by decide) hs
  change requestsSound (if names 2 ws then ventLimitEffect (ventEffect s.fc.ventSpeed (written 16 ws v a s))
    else ventEffect s.fc.ventSpeed (written 16 ws v a s))
  split_ifs
  · exact (moves_ventLimitEffect _).requestsSound (by decide) hvent
  · exact hvent

/-! ### LIGHTS -/

theorem requestsSound_lightsWrite {ws : List FieldWrite} (v : Vector Nat 26) (a : Option Answer) (hs : requestsSound s) :
    requestsSound (ownerEffect 18 s ws (written 18 ws v a s)) := by
  change requestsSound (lightsWritten (targetsOf s) (written 18 ws v a s))
  unfold lightsWritten
  rw [targetEvent_eq]
  obtain ⟨e, he⟩ := entrySettles_eq (fadesStarted (targetsOf s) (written 18 ws v a s).cfg.lights.fade false (written 18 ws v a s))
  rw [he]
  refine requestsSound_lightsFollow (s := s) (pokeAll_demands (by decide) ws s) (pokeAll_asked 18 ws s) (fun c hb hc => ?_) hs
  have h := ownerAgrees_pokeAll (r := 18) (c := c) ws s (fun _ => by decide) (fun _ => by decide)
    fun e => absurd e (by simp [hb, hc])
  cases c
  case bunk => exact absurd rfl hb
  case cab => exact absurd rfl hc
  all_goals exact h

/-! ### SOCKETS -/

theorem ownerRequest_socketConsumer (k : Socket) (s : State) : ownerRequest s (socketConsumer k) =
    if (tget s.ga.sockets (socketIx k)).on then some (socketRequest s.cfg.demands k) else none := by
  cases k <;> rfl

/-- A change of a socket's entry that keeps its switch leaves what the owners agree on. -/
theorem ownerAgrees_withSocket (k : Socket) (f : SocketEntry → SocketEntry) (s : State)
    (hf : (f (tget s.ga.sockets (socketIx k))).on = (tget s.ga.sockets (socketIx k)).on) (c : Consumer) :
    ownerAgrees s (withSocket k f s) c := by
  have hon : ∀ j, (tget (withSocket k f s).ga.sockets j).on = (tget s.ga.sockets j).on := fun j => by
    unfold withSocket withGa
    dsimp only
    rw [tget_tset]
    split_ifs with h
    · subst h
      exact hf
    · rfl
  cases c
  case socketA => exact hon 0
  case socketB => exact hon 1
  all_goals simp [ownerAgrees, lightOf]

theorem asksRightly_withSocket {k : Socket} {f : SocketEntry → SocketEntry}
    (hf : (f (tget s.ga.sockets (socketIx k))).on = (tget s.ga.sockets (socketIx k)).on) {c : Consumer} (h : asksRightly s c) :
    asksRightly (withSocket k f s) c :=
  asksRightly_congr (s := s) (by simp) (by simp) (ownerAgrees_withSocket k f s hf c) h

/-- The write of a socket's switch brings its request to it, where the switch has changed. -/
theorem asksRightly_socketEffect {k : Socket} {wasOn : Bool} {oldLimit : Nat} {c : Consumer} (hother : c ≠ socketConsumer k → asksRightly s c)
    (hsame : (tget s.ga.sockets (socketIx k)).on = wasOn → asksRightly s (socketConsumer k)) :
    asksRightly (socketEffect k wasOn oldLimit s) c := by
  have hfrom : ∀ {t : State}, (tget s.ga.sockets (socketIx k)).on = wasOn → (∀ {c}, asksRightly s c → asksRightly t c) → asksRightly t c :=
    fun hon ht => ht (by
      by_cases hc : c = socketConsumer k
      · exact hc ▸ hsame hon
      · exact hother hc)
  unfold socketEffect
  extract_lets on
  split
  · rename_i h
    obtain ⟨-, hon⟩ : wasOn = false ∧ on = true := by simpa using h
    refine asksRightly_ask ?_ fun hc => asksRightly_withSocket rfl (hother hc)
    rw [ownerRequest_socketConsumer, if_pos]
    · simp
    · simpa [withSocket, withGa] using hon
  split
  · rename_i h
    obtain ⟨-, hon⟩ : wasOn = true ∧ on = false := by simpa using h
    refine asksRightly_ask ?_ fun hc => asksRightly_withSocket rfl (hother hc)
    rw [ownerRequest_socketConsumer, if_neg]
    simpa [withSocket, withGa] using hon
  · rename_i hrise hfall
    have hon : on = wasOn := by
      revert hrise hfall
      cases wasOn <;> cases on <;> decide
    split
    · exact hfrom hon (asksRightly_withSocket rfl)
    · exact hfrom hon id

/-- A socket's write sets its run end alone; the switch stands as written. -/
theorem socketEffect_on (k : Socket) (wasOn : Bool) (oldLimit : Nat) (s : State) (j : Fin 2) :
    (tget (socketEffect k wasOn oldLimit s).ga.sockets j).on = (tget s.ga.sockets j).on := by
  have hentry : ∀ r, (tget (withSocket k (fun e => { e with runEnd := r }) s).ga.sockets j).on = (tget s.ga.sockets j).on := fun r => by
    unfold withSocket withGa
    dsimp only
    rw [tget_tset]
    split_ifs with h
    · rw [h]
    · rfl
  unfold socketEffect
  extract_lets on
  split
  · rw [ask_ga]
    exact hentry _
  split
  · rw [ask_ga]
    exact hentry _
  split
  · exact hentry _
  · rfl

theorem requestsSound_socketsWrite {ws : List FieldWrite} (v : Vector Nat 26) (a : Option Answer) (hs : requestsSound s) :
    requestsSound (ownerEffect 17 s ws (written 17 ws v a s)) := by
  have hdemands := pokeAll_demands (r := 17) (by decide) ws s
  have hother : ∀ c, c ≠ .socketA → c ≠ .socketB → asksRightly (written 17 ws v a s) c := fun c ha hb =>
    asksRightly_written v a hdemands
      (ownerAgrees_pokeAll ws s (fun _ => by decide) (fun e => absurd e (by simp [ha, hb])) fun _ => by decide) hs
  rw [requestsSound_iff]
  intro c
  change asksRightly (socketEffect .b _ _ (socketEffect .a _ _ (written 17 ws v a s))) c
  have ha : ∀ c, c ≠ .socketB → asksRightly (socketEffect .a (tget s.ga.sockets 0).on (tget s.cfg.socketLimit 0) (written 17 ws v a s)) c :=
    fun c hb => asksRightly_socketEffect (fun ha => hother c ha hb) fun hon => asksRightly_written v a hdemands hon hs
  refine asksRightly_socketEffect (fun hb => ha c hb) fun hon => ?_
  change (tget (socketEffect .a _ _ (written 17 ws v a s)).ga.sockets 1).on = _ at hon
  rw [socketEffect_on] at hon
  exact asksRightly_socketEffect (c := .socketB) (fun _ => asksRightly_written v a hdemands hon hs)
    fun hon => asksRightly_written v a hdemands hon hs

/-! ### DEMANDS -/

theorem redemandSocket_asked (s : State) (k : Socket) (c : Consumer) : tget (redemandSocket s k).1.asked (consIx c) =
    if c = socketConsumer k then (tget s.asked (consIx c)).map fun _ => socketRequest s.cfg.demands k else tget s.asked (consIx c) := by
  unfold redemandSocket
  extract_lets d new
  split
  · rename_i hnone
    split_ifs with h
    · subst h
      exact hnone.trans (by rw [show tget s.asked (consIx (socketConsumer k)) = none from hnone]; rfl)
    · rfl
  rename_i old hold
  have hset : ∀ h : c = socketConsumer k, (tget s.asked (consIx c)).map (fun _ => socketRequest s.cfg.demands k) = some new := fun h => by
    subst h
    rw [show tget s.asked (consIx (socketConsumer k)) = some old from hold]
    rfl
  split
  · rename_i heq
    split_ifs with h
    · rw [hset h, ← heq, h]
      exact hold
    · rfl
  extract_lets held s1
  have hasked : s1.asked = s.asked := by
    unfold s1
    split <;> rfl
  split
  · dsimp only
    rw [tget_tset, hasked]
    split_ifs with h1 h2 h2
    · exact (hset h2).symm
    · exact absurd (consIx_inj h1).symm h2
    · exact absurd (congrArg consIx h2).symm h1
    · rfl
  · dsimp only
    split_ifs with h
    · rw [hset h, h]
      exact ask_asked_same _ _ _
    · rw [ask_asked_other _ _ _ _ fun e => h (consIx_inj e).symm, hasked]

theorem TableStep.ownerAgrees (h : TableStep s t) (c : Consumer) : Machine.ownerAgrees s t c := by
  have hon := h.on
  obtain ⟨g, a, hs, rfl⟩ := h.eq
  cases c
  case socketA => exact hon 0
  case socketB => exact hon 1
  all_goals simp [Machine.ownerAgrees, lightOf]

theorem asksRightly_redemandSocket {k : Socket} {c : Consumer} (hother : c ≠ socketConsumer k → asksRightly s c)
    (hasks : (tget s.asked (consIx (socketConsumer k))).isSome = (tget s.ga.sockets (socketIx k)).on) :
    asksRightly (redemandSocket s k).1 c := by
  have hstep := (tableStep_redemandSocket s k).1
  have hcfg : (redemandSocket s k).1.cfg = s.cfg := by
    obtain ⟨g, a, hs, h⟩ := hstep.eq
    rw [h]
  by_cases hc : c = socketConsumer k
  · subst hc
    unfold asksRightly
    rw [redemandSocket_asked, if_pos rfl, ownerRequest_socketConsumer, hcfg, hstep.on, ← hasks]
    cases tget s.asked (consIx (socketConsumer k)) <;> rfl
  · refine asksRightly_congr (s := s) (congrArg Settings.demands hcfg) ?_ (hstep.ownerAgrees c) (hother hc)
    rw [redemandSocket_asked, if_neg hc]

/-- Whether a socket's request stands is what its switch says. -/
theorem asked_isSome_of_right {k : Socket} (h : asksRightly s (socketConsumer k)) :
    (tget s.asked (consIx (socketConsumer k))).isSome = (tget s.ga.sockets (socketIx k)).on := by
  rw [show tget s.asked (consIx (socketConsumer k)) = ownerRequest s (socketConsumer k) from h, ownerRequest_socketConsumer]
  cases (tget s.ga.sockets (socketIx k)).on <;> rfl

theorem requestsSound_passTable (h : requestsSound s) : requestsSound (passTable s) :=
  requestsSound_congr (by simp) (by simp) (fun c => by cases c <;> simp [ownerAgrees, lightOf]) h

theorem requestsSound_pass (s0 : State) (h : requestsSound s) : requestsSound (pass s0 s) :=
  pass_keeps (fun _ _ h => h) (fun _ _ h => h.requestsSound (by decide) (by decide) (by decide) (by decide) (by decide) (by decide))
    (requestsSound_passTable h)

/-- Each owner forms its request anew from the demand table; the light groups' are not formed from it. -/
theorem requestsSound_demandsEffect (hpanel : (tget s.asked 0).isSome = !s.pn.standby)
    (hsocket : ∀ k, (tget s.asked (consIx (socketConsumer k))).isSome = (tget s.ga.sockets (socketIx k)).on)
    (hlight : ∀ g, asksRightly s (groupConsumer g)) : requestsSound (demandsEffect s) := by
  unfold demandsEffect
  extract_lets d s1 s2 s3 s4 a b
  have hframe1 : s1.cfg = s.cfg ∧ s1.ga = s.ga ∧ s1.pn = s.pn := by
    unfold s1
    split
    · simp
    · exact ⟨rfl, rfl, rfl⟩
  have hother1 : ∀ c, c ≠ .panel → tget s1.asked (consIx c) = tget s.asked (consIx c) := fun c hc => by
    unfold s1
    split
    · exact ask_asked_other _ _ _ _ fun e => hc (consIx_inj e).symm
    · rfl
  have hlight1 : ∀ g, asksRightly s1 (groupConsumer g) := fun g => by
    unfold s1
    split
    · exact asksRightly_congr (by simp) (ask_asked_other _ _ _ _ (by cases g <;> decide)) (ownerAgrees_ask _ _ _ _) (hlight g)
    · exact hlight g
  have hpanel1 : asksRightly s1 .panel := by
    unfold s1
    split
    · rename_i hasks
      refine asksRightly_ask ?_ fun h => absurd rfl h
      exact (if_neg (by rw [hpanel] at hasks; simpa using hasks)).symm
    · rename_i hnone
      rw [Bool.not_eq_true, Option.isSome_eq_false_iff, Option.isNone_iff_eq_none] at hnone
      unfold asksRightly
      refine hnone.trans (if_pos ?_).symm
      simpa [hnone] using hpanel.symm
  have h4 : ∀ c, c ≠ .socketA → c ≠ .socketB → asksRightly s4 c := fun c ha hb => by
    have hd3 : s3.cfg.demands = d := by simp [s3, s2, hframe1.1, d]
    have hd2 : s2.cfg.demands = d := by simp [s2, hframe1.1, d]
    have hd1 : s1.cfg.demands = d := by simp [hframe1.1, d]
    unfold s4
    refine asksRightly_ask (by rw [ownerRequest, hd3]) fun hvent => ?_
    unfold s3
    refine asksRightly_ask (by rw [ownerRequest, hd2]) fun hfridge => ?_
    unfold s2
    refine asksRightly_ask (by rw [ownerRequest, hd1]) fun hheat => ?_
    cases c
    case panel => exact hpanel1
    case bunk => exact hlight1 .bunk
    case cab => exact hlight1 .cab
    all_goals contradiction
  have hsocket4 : ∀ k, (tget s4.asked (consIx (socketConsumer k))).isSome = (tget s4.ga.sockets (socketIx k)).on := fun k => by
    have hga : s4.ga = s.ga := by simp [s4, s3, s2, hframe1.2.1]
    have hasked : tget s4.asked (consIx (socketConsumer k)) = tget s.asked (consIx (socketConsumer k)) := by
      unfold s4 s3 s2
      rw [ask_asked_other _ _ _ _ (by cases k <;> decide), ask_asked_other _ _ _ _ (by cases k <;> decide),
        ask_asked_other _ _ _ _ (by cases k <;> decide), hother1 _ (by cases k <;> decide)]
    rw [hga, hasked]
    exact hsocket k
  clear_value s4
  have ha : ∀ c, c ≠ .socketB → asksRightly a.1 c := fun c hb =>
    asksRightly_redemandSocket (fun ha => h4 c ha hb) (hsocket4 .a)
  have hsocketB : (tget a.1.asked (consIx (socketConsumer .b))).isSome = (tget a.1.ga.sockets (socketIx .b)).on := by
    have hstep : TableStep s4 a.1 := (tableStep_redemandSocket s4 .a).1
    have hasked := redemandSocket_asked s4 .a .socketB
    rw [if_neg (by decide)] at hasked
    rw [hstep.on]
    exact (congrArg Option.isSome hasked).trans (hsocket4 .b)
  clear_value a
  have hb : requestsSound b.1 := requestsSound_iff.2 fun c => asksRightly_redemandSocket (fun hb => ha c hb) hsocketB
  split
  · exact requestsSound_pass s hb
  · exact hb

theorem requestsSound_demandsWrite {ws : List FieldWrite} (v : Vector Nat 26) (a : Option Answer) (hs : requestsSound s) :
    requestsSound (ownerEffect 7 s ws (written 7 ws v a s)) := by
  have hpoked := pokeAll_poked 7 ws s
  have hga : (pokeAll 7 ws s).ga = s.ga := hpoked.ga_of_ne (by decide)
  have hlc : (pokeAll 7 ws s).lc = s.lc := hpoked.lc_of_ne (by decide)
  have hasked := pokeAll_asked 7 ws s
  have hright := requestsSound_iff.1 hs
  change requestsSound (demandsEffect (written 7 ws v a s))
  refine requestsSound_demandsEffect ?_ (fun k => ?_) fun g => ?_
  · have hpanel : tget s.asked 0 = if s.pn.standby then none else some (panelRequest s.cfg.demands) := hright .panel
    dsimp only
    rw [hasked, hpanel, pokeAll_pn]
    cases s.pn.standby <;> rfl
  · dsimp only
    rw [hasked, hga]
    exact asked_isSome_of_right (hright _)
  · have hown : ownerRequest (written 7 ws v a s) (groupConsumer g) = ownerRequest s (groupConsumer g) := by
      have hreq : groupRequest (written 7 ws v a s) g = groupRequest s g :=
        groupRequest_congr (fun i => congrArg (fun l : LightUnit => demandLevel (tget l.chan i)) hlc) g
      cases g <;> exact hreq
    unfold asksRightly
    rw [hown, ← show _ = ownerRequest s (groupConsumer g) from hright _]
    exact congrArg (fun v => tget v _) hasked

/-! ### The step -/

theorem viewDemands_inj {c d : Demands} (h : viewDemands c = viewDemands d) : c = d := by
  have hinj : Function.Injective fun v : Nat => Item.one (strictF 1 400 v) := fun a b e => by
    simpa [strictF, rw] using e
  have hlist := List.map_injective_iff.2 hinj h
  obtain ⟨h1, hs⟩ := List.append_inj' hlist (by simp)
  obtain ⟨h2, hv⟩ := List.append_inj' h1 (by simp)
  obtain ⟨h3, hf⟩ := List.append_inj' h2 (by simp)
  cases c
  cases d
  simp only [Vector.toList_inj, List.cons.injEq] at hs hv hf h3
  simp [hs, hv, hf, h3]

theorem viewVent_speed (h : viewVent s = viewVent t) : s.fc.ventSpeed = t.fc.ventSpeed := by
  simp only [viewVent, List.cons.injEq, Item.one.injEq, rw, Field.mk.injEq, Option.some.injEq] at h
  exact Int.ofNat.inj h.1.2.2

theorem viewSockets_on (h : viewSockets s = viewSockets t) (j : Fin 2) :
    (tget s.ga.sockets j).on = (tget t.ga.sockets j).on := by
  simp only [viewSockets, viewSocket, List.cons.injEq, Item.group.injEq, rw, Field.mk.injEq, Option.some.injEq] at h
  fin_cases j
  · exact flagVal_inj h.1.1.1.2.2
  · exact flagVal_inj h.1.2.1.1.2.2

/-- Fields written to the values they hold leave the demand table and what the owners agree on. -/
theorem ownerAgrees_of_view {r : Nat} {ws : List FieldWrite} {v : Vector Nat 26} (hr : r = 7 ∨ r = 16 ∨ r = 17 ∨ r = 18)
    (hview : recordView s r = recordView { pokeAll r ws s with rev := v } r) :
    (pokeAll r ws s).cfg.demands = s.cfg.demands ∧ ∀ c, ownerAgrees s (pokeAll r ws s) c := by
  have hagrees := fun c h h' h'' => ownerAgrees_pokeAll (r := r) (c := c) ws s h h' h''
  obtain rfl | rfl | rfl | rfl := hr
  · exact ⟨(viewDemands_inj (Option.some.inj hview)).symm,
      fun c => hagrees c (fun _ => by decide) (fun _ => by decide) fun _ => by decide⟩
  · refine ⟨pokeAll_demands (by decide) ws s, fun c => ?_⟩
    by_cases hc : c = .vent
    · exact hc ▸ (viewVent_speed (Option.some.inj hview)).symm
    · exact hagrees c (fun e => absurd e hc) (fun _ => by decide) fun _ => by decide
  · have hon := viewSockets_on (t := { pokeAll 17 ws s with rev := v }) (Option.some.inj hview)
    refine ⟨pokeAll_demands (by decide) ws s, fun c => ?_⟩
    cases c
    case socketA => exact (hon 0).symm
    case socketB => exact (hon 1).symm
    all_goals exact hagrees _ (fun _ => by decide) (fun e => absurd e (by decide)) fun _ => by decide
  · refine ⟨pokeAll_demands (by decide) ws s, fun c => ?_⟩
    have hlevel : ∀ i, demandLevel (lightOf (pokeAll 18 ws s) i) = demandLevel (lightOf s i) := fun i => by
      obtain ⟨n, hn⟩ := lightOf_pokeAll 18 ws s i
      have hi : (lightOf s i).target = (lightOf (pokeAll 18 ws s) i).target := (viewLights_same (Option.some.inj hview)).1 i
      rw [hn] at hi ⊢
      rw [← show (lightOf s i).target = n from hi]
    cases c
    case bunk => exact hlevel
    case cab => exact hlevel
    all_goals exact hagrees _ (fun _ => by decide) (fun _ => by decide) fun e => absurd e (by decide)

theorem keptBut_requestsSound : KeptBut [.demand, .sleep, .poked 7, .poked 16, .poked 17, .poked 18] requestsSound where
  move := fun hav h => Moves.requestsSound (.of_move h) hav
  safe := by decide
  accept := fun s r ws st data hr hav hs => by
    have hcase : r = 7 ∨ r = 16 ∨ r = 17 ∨ r = 18 := (by decide : ∀ r ∈ writableRecords,
      ¬Avoids [.demand, .sleep, .poked 7, .poked 16, .poked 17, .poked 18] (writeAreas r) → r = 7 ∨ r = 16 ∨ r = 17 ∨ r = 18) r
      (writable_mem hr) hav
    refine accept_keeps (fun _ _ h => h) (fun v a hview => ?_) fun v a => ?_
    · obtain ⟨hd, hown⟩ := ownerAgrees_of_view hcase hview
      exact requestsSound_iff.2 fun c => asksRightly_written v a hd (hown c) hs
    · obtain rfl | rfl | rfl | rfl := hcase
      · exact requestsSound_demandsWrite v a hs
      · exact requestsSound_ventWrite v a hs
      · exact requestsSound_socketsWrite v a hs
      · exact requestsSound_lightsWrite v a hs
  mark := fun s n b => (moves_setHostMark n b s).requestsSound
  convert := fun s ch code => (moves_convert ch code s).requestsSound
  standby := fun _ => requestsSound_standby
  queues := fun _ _ _ h => h
  cut := fun _ h => h
  held := fun _ _ h => h
  powerOn := fun _ _ => requestsSound_resetPart _ _ _ _ _ _
  restart := fun _ _ => requestsSound_resetPart _ _ _ _ _ _

end Sys2Proof.Machine

namespace Sys2Proof.Proofs

open Sys2Proof Sys2Proof.Machine

/-- Settles O7: whatever changes a channel forms its applied level again, and whatever changes an owner's state asks again. -/
theorem stepKeepsLightsAndRequestsSound : Obligations.StepKeepsLightsAndRequestsSound :=
  ⟨fun _ _ hs h => keptBut_lightsSound.invariant.step h hs, fun _ _ hs h => keptBut_requestsSound.invariant.step h hs⟩

end Sys2Proof.Proofs
end

section
/-! PROOFS. Which commands leave the watched outputs as they are, and the footprint of every command. -/

namespace Sys2Proof.Machine

-- One proof after another: started together they wait for one another, each on a thread of its own.
set_option Elab.async false

variable {s t u : State} {as bad : List Area} {I : State → Prop}

/-! ### The watched outputs -/

/-- The states energize the same watched outputs: their gates and what their owners command are the same. -/
structure SameOutputs (s t : State) : Prop where
  supply : t.mc.supply = s.mc.supply
  gate : ∀ o, gateOpen t o = gateOpen s o
  glow : t.hc.glow = s.hc.glow
  blower : blowerTarget t = blowerTarget s
  drive : t.fc.drive = s.fc.drive
  light : ∀ i, (lightOf t i).applied = (lightOf s i).applied
  socket : ∀ k, (tget t.ga.sockets k).on = (tget s.ga.sockets k).on

namespace SameOutputs

theorem refl (s : State) : SameOutputs s s := ⟨rfl, fun _ => rfl, rfl, rfl, rfl, fun _ => rfl, fun _ => rfl⟩

theorem trans (h : SameOutputs s t) (k : SameOutputs t u) : SameOutputs s u :=
  ⟨k.supply.trans h.supply, fun o => (k.gate o).trans (h.gate o), k.glow.trans h.glow, k.blower.trans h.blower, k.drive.trans h.drive,
    fun i => (k.light i).trans (h.light i), fun j => (k.socket j).trans (h.socket j)⟩

theorem gate_of_ga (h : t.ga = s.ga) (o : Output) : gateOpen t o = gateOpen s o := by
  unfold gateOpen entryOf
  rw [h]

/-- The blower's target follows the HC's core, the heater's tune and the demand table. -/
theorem blowerTarget_congr (hhc : heaterCore t.hc = heaterCore s.hc) (htune : t.cfg.heaterTune = s.cfg.heaterTune)
    (hdem : t.cfg.demands = s.cfg.demands) : blowerTarget t = blowerTarget s := by
  have hstate : t.hc.state = s.hc.state := (congrArg HeaterUnit.state hhc :)
  have heff : t.hc.effective = s.hc.effective := (congrArg HeaterUnit.effective hhc :)
  have hgrant : t.hc.grant = s.hc.grant := (congrArg HeaterUnit.grant hhc :)
  unfold blowerTarget
  dsimp only
  rw [hstate, heff, hgrant, htune, hdem]

/-- Where the arbiter, the heater, the lights and what the blower's target follows stand, and the compressor's drive, the watched
outputs do. -/
theorem of_blocks (hsup : t.mc.supply = s.mc.supply) (hga : t.ga = s.ga) (hhc : heaterCore t.hc = heaterCore s.hc)
    (htune : t.cfg.heaterTune = s.cfg.heaterTune) (hdem : t.cfg.demands = s.cfg.demands) (hdrive : t.fc.drive = s.fc.drive)
    (hlc : t.lc = s.lc) : SameOutputs s t :=
  ⟨hsup, gate_of_ga hga, (congrArg HeaterUnit.glow hhc :), blowerTarget_congr hhc htune hdem, hdrive,
    fun i => congrArg (fun l : LightUnit => (tget l.chan i).applied) hlc,
    fun k => congrArg (fun g : GrantUnit => (tget g.sockets k).on) hga⟩

theorem energized_eq (h : SameOutputs s t) {c : Comparator} {o : Output} (ho : o ∈ watchedBy c) : energized t o = energized s o := by
  have hcommand : commanded t o = commanded s o := by
    cases o
    case glow => exact h.glow
    case blower => exact congrArg (fun n => decide (0 < n)) h.blower
    case compressor => exact h.drive
    case light i => exact congrArg (fun n => decide (0 < n)) (h.light i)
    case socket k => exact h.socket _
    case panel => rfl
    all_goals cases c <;> exact absurd ho (by decide)
  unfold energized
  rw [h.supply, h.gate, hcommand]

theorem watchedOn_eq (h : SameOutputs s t) (c : Comparator) : watchedOn t c = watchedOn s c := by
  unfold watchedOn
  rw [Bool.eq_iff_iff]
  simp only [List.any_eq_true]
  exact exists_congr fun o => and_congr_right fun ho => by rw [h.energized_eq ho]

/-- With no watched output switched every comparator stays as it is. -/
theorem compsAfter_eq (h : SameOutputs s t) : compsAfter s t = t.mu.comp := by
  have hnone : ∀ c, (watchedBy c).any (fun o => energized t o && !energized s o) = false := fun c => by
    rw [List.any_eq_false]
    intro o ho
    rw [h.energized_eq ho]
    cases energized s o <;> decide
  have hcomp : ∀ c, compAfter s t c (tget t.mu.comp (compIx c)) = tget t.mu.comp (compIx c) := fun c => by
    unfold compAfter
    rw [h.watchedOn_eq, hnone, if_neg Bool.false_ne_true]
    split_ifs <;> rfl
  refine vector_eq_of_tget fun i => ?_
  unfold compsAfter
  simp only [hcomp]
  fin_cases i <;> rfl

end SameOutputs

/-- A record's write changes the heater's tune alone where it is HEATER_TUNE's. -/
theorem pokeSettings_heaterTune {r : Nat} (h : r ≠ 12) (w : FieldWrite) (c : Settings) :
    (pokeSettings r w c).heaterTune = c.heaterTune := by
  unfold pokeSettings pokeConsumers pokeUser
  dsimp only
  repeat' split
  all_goals first | rfl | exact absurd rfl h

theorem pokeAll_heaterTune {r : Nat} (h : r ≠ 12) (ws : List FieldWrite) (s : State) :
    (pokeAll r ws s).cfg.heaterTune = s.cfg.heaterTune :=
  pokeAll_setting (·.heaterTune) (fun w c => pokeSettings_heaterTune h w c) ws s

/-- The areas from which a watched output may be switched. -/
def Area.switches : Area → Bool
  | .ga | .hc | .fc | .lc | .poked 7 | .poked 12 | .poked 16 | .poked 17 | .poked 18 => true
  | _ => false

/-- None of the areas may switch a watched output. -/
def switchNone (as : List Area) : Bool := as.all fun a => !a.switches

theorem switches_of_mem {a : Area} (h : switchNone as = true) (ha : a ∈ as) : a.switches = false := by
  simpa using List.all_eq_true.1 h a ha

theorem Move.sameOutputs (h : Move as s t) (hav : switchNone as = true) : SameOutputs s t := by
  have hno : ∀ {a : Area}, a.switches = true → a ∉ as := fun hs ha => by
    rw [switches_of_mem hav ha] at hs
    exact Bool.false_ne_true hs
  cases h with
  | mc m _ ha hmode hsup => exact .of_blocks hsup rfl rfl rfl rfl rfl rfl
  | grants _ _ ha | passesOn _ _ ha | socket _ _ _ ha | heater _ _ ha | heaterEnter _ _ ha | fridge _ _ ha | fridgeEnter _ _ ha
  | vent _ _ ha | lights _ _ ha | lightsApply _ _ ha | lightsFollow _ _ ha => exact absurd ha (hno rfl)
  | poke r ws _ ha =>
    have hpoked := pokeAll_poked r ws s
    have hne : ∀ {n : Nat}, (Area.poked n).switches = true → r ≠ n := fun hs e => hno hs (e ▸ ha)
    exact .of_blocks (by simp) (hpoked.ga_of_ne (hne rfl)) (by simp) (pokeAll_heaterTune (hne rfl) ws s) (pokeAll_demands (hne rfl) ws s)
      (congrArg FridgeUnit.drive (hpoked.fc_of_ne (hne rfl))) (hpoked.lc_of_ne (hne rfl))
  | relists v _ ha => exact ⟨rfl, fun _ => rfl, rfl, rfl, rfl, fun _ => rfl, fun _ => rfl⟩
  | _ => exact .of_blocks (by simp) (by simp) (by simp) (by simp) (by simp) (by simp) (by simp)

theorem Moves.sameOutputs (h : Moves as s t) (hav : switchNone as = true) : SameOutputs s t :=
  h.lift SameOutputs.refl (fun _ _ _ => SameOutputs.trans) fun _ _ m => m.sameOutputs hav

/-- The supply changes with the supply monitor and the resets alone. -/
theorem Move.supply_eq (h : Move as s t) : t.mc.supply = s.mc.supply := by
  cases h with
  | mc m _ ha hmode hsup => exact hsup
  | _ => simp

theorem Moves.supply_eq (h : Moves as s t) : t.mc.supply = s.mc.supply :=
  h.lift (R := fun s t => t.mc.supply = s.mc.supply) (fun _ => rfl) (fun _ _ _ h k => k.trans h) fun _ _ m => m.supply_eq

/-- The mark of a wake source is set and cleared within the MC's own area alone. -/
theorem Move.woken_eq (h : Move as s t) (hav : .mc ∉ as) : t.mc.woken = s.mc.woken := by
  cases h with
  | mc m _ ha => exact absurd ha hav
  | _ => simp

theorem Moves.woken_eq (h : Moves as s t) (hav : .mc ∉ as) : t.mc.woken = s.mc.woken :=
  h.lift (R := fun s t => t.mc.woken = s.mc.woken) (fun _ => rfl) (fun _ _ _ h k => k.trans h) fun _ _ m => m.woken_eq hav

end Sys2Proof.Machine
end

section
/-! PROOFS. The watched outputs at the commands whose footprint leaves the comparators or the compressor out, and the footprints. -/

namespace Sys2Proof.Machine

-- One proof after another: started together they wait for one another, each on a thread of its own.
set_option Elab.async false

variable {s t u : State} {as bad : List Area} {I : State → Prop}

namespace SameOutputs

theorem withFc (f : FridgeUnit → FridgeUnit) (s : State) (h : (f s.fc).drive = s.fc.drive) : SameOutputs s (withFc f s) :=
  .of_blocks rfl rfl rfl rfl rfl h rfl

theorem ask (c : Consumer) (r : Option Request) (s : State) : SameOutputs s (ask c r s) :=
  .of_blocks (by simp) (by simp) (by simp) (by simp) (by simp) (by simp) (by simp)

theorem answer (st : Status) (d : List Byte) (s : State) : SameOutputs s (answer st d s) := .of_blocks rfl rfl rfl rfl rfl rfl rfl

theorem post (k : NoticeKind) (src : Source) (sev : Severity) (d : List Byte) (s : State) : SameOutputs s (post k src sev d s) :=
  .of_blocks rfl rfl rfl rfl rfl rfl rfl

theorem chime (p : Fin 10) (s : State) : SameOutputs s (chime p s) := .of_blocks rfl rfl rfl rfl rfl rfl rfl

/-! ### The fridge's door, boost and vent -/

theorem fridgeDoor (st : ContactState) (s : State) : SameOutputs s (fridgeDoor st s) := by
  unfold Machine.fridgeDoor
  split
  · exact withFc _ s rfl
  · dsimp only
    split
    · split
      · exact (withFc _ s rfl).trans (post ..)
      · exact withFc _ s rfl
    · exact withFc _ s rfl
  · exact refl s

theorem doorAlert (s : State) : SameOutputs s (doorAlert s) := by
  unfold Machine.doorAlert
  split
  · exact ((withFc _ s rfl).trans (post ..)).trans (chime _ _)
  · exact refl s

theorem boostRequest (on : Bool) (s : State) : SameOutputs s (boostRequest on s) := by
  unfold Machine.boostRequest boostStart
  split
  · split
    · exact (withFc _ s rfl).trans (answer ..)
    · exact answer ..
  · exact (withFc _ s rfl).trans (answer ..)

theorem boostOver (s : State) : SameOutputs s (boostOver s) := by
  unfold Machine.boostOver
  split
  · split
    · exact withFc _ s rfl
    · exact refl s
  · exact refl s

theorem ventEffect (old : Nat) (s : State) : SameOutputs s (ventEffect old s) := by
  rw [ventEffect_eq]
  split
  · exact refl s
  · have htaken : SameOutputs s { s with fc := ventTaken old s } := of_blocks rfl rfl rfl rfl rfl rfl rfl
    exact htaken.trans (ask ..)

theorem ventRunReached (s : State) : SameOutputs s (ventRunReached s) := by
  unfold Machine.ventRunReached
  split
  · split
    · exact ((withFc _ s rfl).trans (ventEffect _ _)).trans (post ..)
    · exact refl s
  · exact refl s

theorem ventLimitEffect (s : State) : SameOutputs s (ventLimitEffect s) := by
  unfold Machine.ventLimitEffect
  split
  · exact refl s
  · exact withFc _ s rfl

/-! ### Records whose owner switches no watched output -/

theorem written {r : Nat} (ws : List FieldWrite) (v : Vector Nat 26) (a : Option Answer) (s : State)
    (hr : r ≠ 7 ∧ r ≠ 12 ∧ r ≠ 17 ∧ r ≠ 18) : SameOutputs s (written r ws v a s) := by
  obtain ⟨h7, h12, h17, h18⟩ := hr
  have hpoked := pokeAll_poked r ws s
  obtain ⟨n, hn⟩ := hpoked.fc
  have hdrive : (pokeAll r ws s).fc.drive = s.fc.drive := by rw [hn]
  exact of_blocks (congrArg ModeUnit.supply (pokeAll_mc r ws s)) (hpoked.ga_of_ne h17) (congrArg heaterCore (pokeAll_hc r ws s))
    (pokeAll_heaterTune h12 ws s) (pokeAll_demands h7 ws s) hdrive (hpoked.lc_of_ne h18)

/-- An operation on a record, where neither its fields nor its owner switch a watched output. -/
theorem outcome {r : Nat} (h : RecordOutcome r s t) (hr : r ≠ 7 ∧ r ≠ 12 ∧ r ≠ 17 ∧ r ≠ 18 ∧ r ≠ 25)
    (howner : ∀ ws u, SameOutputs u (ownerEffect r s ws u)) : SameOutputs s t := by
  obtain ⟨h7, h12, h17, h18, h25⟩ := hr
  cases h with
  | answers st d => exact answer st d s
  | restores _ _ _ h => exact absurd h h25
  | writes ws st d hw =>
    refine accept_keeps (I := SameOutputs s) (fun t v h => h.trans (.of_blocks rfl rfl rfl rfl rfl rfl rfl))
      (fun v a _ => written ws v a s ⟨h7, h12, h17, h18⟩) fun v a => ?_
    exact (written ws v a s ⟨h7, h12, h17, h18⟩).trans (howner ws _)

theorem ventOwner (old : State) (ws : List FieldWrite) (s : State) : SameOutputs s (ownerEffect 16 old ws s) := by
  change SameOutputs s (if names 2 ws then Machine.ventLimitEffect (Machine.ventEffect old.fc.ventSpeed s)
    else Machine.ventEffect old.fc.ventSpeed s)
  split
  · exact (ventEffect _ s).trans (ventLimitEffect _)
  · exact ventEffect _ s

theorem heaterSetOwner (old : State) (ws : List FieldWrite) (s : State) : SameOutputs s (ownerEffect 11 old ws s) := by
  change SameOutputs s (if names 3 ws then withHc (fun h => { h with frostHold := none }) s else s)
  split
  · exact ⟨rfl, fun _ => rfl, rfl, rfl, rfl, fun _ => rfl, fun _ => rfl⟩
  · exact refl s

theorem withEntry {c : Consumer} {f : ConsumerEntry → ConsumerEntry} (s : State) (hg : (f (entryOf s c)).grant = (entryOf s c).grant)
    (hh : (f (entryOf s c)).holds = (entryOf s c).holds) : SameOutputs s (withEntry c f s) := by
  refine ⟨rfl, fun o => ?_, rfl, rfl, rfl, fun _ => rfl, fun _ => rfl⟩
  unfold gateOpen
  rw [entryOf_withEntry]
  split_ifs with h
  · dsimp only
    rw [hg, hh, h]
  · rfl

end SameOutputs

/-- Outside STANDBY, or where it wakes nothing, a command moves its own areas alone. -/
theorem cmdAreas_eq {i : Instr} (h : mayWake i = true → s.mc.mode ≠ .standby) : cmdAreas s i = areasOf i := by
  unfold cmdAreas
  rw [if_neg fun hw => h hw.1 hw.2, List.append_nil]

/-- The commands that move an owner's block and switch no watched output. -/
def ownersOwn : Instr → Bool
  | .tripWindowExpiry _ | .heaterLevelChange _ | .strokeStart | .strokePulseEnd | .fridgeLevelChange _ | .fridgeBoost _ | .boostEnd
  | .stallLogExpiry | .fdoorHanding _ | .doorTimerExpiry | .ventRunEnd | .ventGrantReport _ _ | .lightTripReport _ _
  | .heaterSetWrite _ | .ventWrite _ => true
  | _ => false

theorem effect_sameOutputs_own {i : Instr} (s : State) (h : ownersOwn i = true) : SameOutputs s (effect i s) := by
  cases i
  case tripWindowExpiry c =>
    change SameOutputs s (windowOver c s)
    unfold windowOver
    split
    · exact .withEntry s rfl rfl
    · exact .refl s
  case strokeStart =>
    change SameOutputs s (if s.hc.stroke.isSome then strokeAt s else s)
    unfold strokeAt
    dsimp only
    split
    · split
      · exact ⟨rfl, fun _ => rfl, rfl, rfl, rfl, fun _ => rfl, fun _ => rfl⟩
      · exact ⟨rfl, fun _ => rfl, rfl, rfl, rfl, fun _ => rfl, fun _ => rfl⟩
    · exact .refl s
  case heaterLevelChange | strokePulseEnd => exact ⟨rfl, fun _ => rfl, rfl, rfl, rfl, fun _ => rfl, fun _ => rfl⟩
  case fridgeLevelChange level => exact .withFc (fun f => { f with level := level }) s rfl
  case fridgeBoost on => exact .boostRequest on s
  case boostEnd => exact .boostOver s
  case stallLogExpiry =>
    change SameOutputs s (if s.fc.state = .fault then s else withFc (fun f => { f with stallLog := f.stallLog.tail }) s)
    split
    · exact .refl s
    · exact .withFc _ s rfl
  case fdoorHanding st => exact .fridgeDoor st s
  case doorTimerExpiry => exact .doorAlert s
  case ventRunEnd => exact .ventRunReached s
  case ventGrantReport grant _ => exact .of_blocks rfl rfl rfl rfl rfl rfl rfl
  case lightTripReport g o =>
    refine ⟨rfl, fun _ => rfl, rfl, rfl, rfl, fun _ => rfl, fun _ => rfl⟩
  case heaterSetWrite ws => exact .outcome (fieldWriteOp_outcome 11 ws s) (by decide) fun ws u => .heaterSetOwner s ws u
  case ventWrite ws => exact .outcome (fieldWriteOp_outcome 16 ws s) (by decide) fun ws u => .ventOwner s ws u
  all_goals cases h

theorem mem_of_contains {p : Part} {ps : List Part} (h : ps.contains p = true) : p ∈ ps := by simpa using h

/-- Every other command has the comparators in its footprint, or moves nothing that a watched output depends on. -/
theorem mu_mem_footprint_or {i : Instr} (s : State) (h : mayReset i = false) (hown : ownersOwn i = false) :
    .mu ∈ footprint s i ∨ (switchNone (areasOf i) = true ∧ (mayWake i = true → s.mc.mode ≠ .standby)) := by
  have hwake : .mu ∈ wakeParts s ∨ s.mc.mode ≠ .standby := by
    by_cases hm : s.mc.mode = .standby
    · exact .inl (by simp [wakeParts, hm, firingParts])
    · exact .inr hm
  cases i
  case columnWakeEdge | rxdWakeEdge => exact hwake.imp id fun hm => ⟨rfl, fun _ => hm⟩
  case debounceExpiry | contactsWrite =>
    exact hwake.imp (fun hm => List.mem_append_right _ hm) fun hm => ⟨rfl, fun _ => hm⟩
  case minuteEnd | horizonChange | readKeys | clearKeys | contactInputChange | chimeRequest | playChime | silenceChime | chimePhaseEnd
      | panelGrantReport | ignHanding | stopConfirmExpiry | limitRepeatExpiry | endSoonReached | removeEntry | prewarmEntryRemove
      | rxByte | rxGapTimeout | linkBreak | noticePost | fetchNotices | attnPulseEnd | get | batteryWrite | panelWrite | saveSettings
      | rxStartBit =>
    exact .inr ⟨rfl, fun hw => absurd hw Bool.false_ne_true⟩
  case supplyChange | powerOnReset | requestTake | replySent | restart | storeWriteDone => cases h
  case tripWindowExpiry | heaterLevelChange | strokeStart | strokePulseEnd | fridgeLevelChange | fridgeBoost | boostEnd | stallLogExpiry
      | fdoorHanding | doorTimerExpiry | ventRunEnd | ventGrantReport | lightTripReport | heaterSetWrite | ventWrite => cases hown
  all_goals exact .inl (mem_of_contains rfl)

/-- The commands whose footprint leaves the comparators out switch no watched output. -/
theorem effect_sameOutputs {i : Instr} {s0 : State} (s : State) (hmode : s.mc.mode = s0.mc.mode) (h : mayReset i = false)
    (hmu : .mu ∉ footprint s0 i) : SameOutputs s (effect i s) := by
  by_cases hown : ownersOwn i = true
  · exact effect_sameOutputs_own s hown
  · obtain hmem | ⟨hav, hwake⟩ := mu_mem_footprint_or s0 h (by simpa using hown)
    · exact absurd hmem hmu
    · refine (moves_effect i h s).sameOutputs ?_
      rw [cmdAreas_eq fun hw => hmode ▸ hwake hw]
      exact hav

end Sys2Proof.Machine
end

section
/-! PROOFS. The footprint of every command. -/

namespace Sys2Proof.Machine

-- One proof after another: started together they wait for one another, each on a thread of its own.
set_option Elab.async false

variable {s t u : State} {as bad : List Area} {I : State → Prop}

/-! ### The compressor -/

/-- The states agree on all that the compressor's being energized is formed from. -/
structure SameCompressor (s t : State) : Prop where
  supply : t.mc.supply = s.mc.supply
  entry : (entryOf t .fridge).grant = (entryOf s .fridge).grant ∧ (entryOf t .fridge).holds = (entryOf s .fridge).holds
  drive : t.fc.drive = s.fc.drive

namespace SameCompressor

theorem refl (s : State) : SameCompressor s s := ⟨rfl, ⟨rfl, rfl⟩, rfl⟩

theorem trans (h : SameCompressor s t) (k : SameCompressor t u) : SameCompressor s u :=
  ⟨k.supply.trans h.supply, ⟨k.entry.1.trans h.entry.1, k.entry.2.trans h.entry.2⟩, k.drive.trans h.drive⟩

theorem of_entries (hsup : t.mc.supply = s.mc.supply) (hga : t.ga.entries = s.ga.entries) (hdrive : t.fc.drive = s.fc.drive) :
    SameCompressor s t :=
  ⟨hsup, by unfold entryOf; rw [hga]; exact ⟨rfl, rfl⟩, hdrive⟩

theorem energized_eq (h : SameCompressor s t) : energized t .compressor = energized s .compressor := by
  have hgate : gateOpen t .compressor = gateOpen s .compressor := by
    unfold gateOpen
    dsimp only [consumerOf]
    rw [h.entry.1, h.entry.2]
  have hcommand : commanded t .compressor = commanded s .compressor := h.drive
  unfold energized
  rw [h.supply, hgate, hcommand]

theorem ask (c : Consumer) (r : Option Request) (s : State) : SameCompressor s (ask c r s) :=
  of_entries (by simp) (by simp) (by simp)

theorem withSocket (k : Socket) (f : SocketEntry → SocketEntry) (s : State) : SameCompressor s (withSocket k f s) :=
  of_entries rfl rfl rfl

theorem socketEffect (k : Socket) (wasOn : Bool) (oldLimit : Nat) (s : State) : SameCompressor s (socketEffect k wasOn oldLimit s) := by
  unfold Machine.socketEffect
  extract_lets on
  split
  · exact (withSocket k _ s).trans (ask ..)
  split
  · exact (withSocket k _ s).trans (ask ..)
  split
  · exact withSocket k _ s
  · exact refl s

theorem socketRunOut (k : Socket) (s : State) : SameCompressor s (socketRunOut k s) := by
  unfold Machine.socketRunOut
  split
  · exact refl s
  split
  · exact refl s
  · exact ((withSocket k _ s).trans (ask ..)).trans (of_entries rfl rfl rfl)

/-- The written fields of a record leave the entries and the drive. -/
theorem pokeAll (r : Nat) (ws : List FieldWrite) (s : State) : SameCompressor s (pokeAll r ws s) := by
  have hpoked := pokeAll_poked r ws s
  obtain ⟨n, hn⟩ := hpoked.fc
  obtain ⟨v, hv⟩ := hpoked.ga
  exact of_entries (by simp) (by rw [hv]) (by rw [hn])

theorem socketsWrite (ws : List FieldWrite) (s : State) : SameCompressor s (fieldWriteOp 17 ws s) := by
  have hout := fieldWriteOp_outcome 17 ws s
  generalize fieldWriteOp 17 ws s = t at hout
  cases hout with
  | answers st d => exact of_entries rfl rfl rfl
  | restores _ _ _ h => exact absurd h (by decide)
  | writes ws st d hw =>
    have hwritten : ∀ v a, SameCompressor s (written 17 ws v a s) := fun v a => (pokeAll 17 ws s).trans (of_entries rfl rfl rfl)
    refine accept_keeps (I := SameCompressor s) (fun t v h => h.trans (of_entries rfl rfl rfl)) (fun v a _ => hwritten v a) fun v a => ?_
    exact ((hwritten v a).trans (socketEffect .a _ _ _)).trans (socketEffect .b _ _ _)

end SameCompressor

/-- None of the areas is the arbiter's or the fridge's. -/
def compressorNone (as : List Area) : Bool := as.all fun a => match a with | .ga | .fc => false | _ => true

theorem Move.sameCompressor (h : Move as s t) (hav : compressorNone as = true) : SameCompressor s t := by
  have hga : .ga ∉ as := fun ha => Bool.false_ne_true (List.all_eq_true.1 hav _ ha)
  have hfc : .fc ∉ as := fun ha => Bool.false_ne_true (List.all_eq_true.1 hav _ ha)
  cases h with
  | mc m _ ha hmode hsup => exact .of_entries hsup rfl rfl
  | grants _ _ ha | passesOn _ _ ha | socket _ _ _ ha => exact absurd ha hga
  | fridge _ _ ha | fridgeEnter _ _ ha | vent _ _ ha => exact absurd ha hfc
  | poke r ws _ ha => exact .pokeAll r ws s
  | _ => exact .of_entries (by simp) (by simp) (by simp)

theorem Moves.sameCompressor (h : Moves as s t) (hav : compressorNone as = true) : SameCompressor s t :=
  h.lift SameCompressor.refl (fun _ _ _ => SameCompressor.trans) fun _ _ m => m.sameCompressor hav

/-- The commands but the sockets' have the FC in their footprint, or move nothing that the compressor depends on. -/
theorem fc_mem_footprint_or {i : Instr} (s : State) (h : mayReset i = false) :
    .fc ∈ footprint s i ∨ (.mu ∉ footprint s i ∧ ownersOwn i = true) ∨ (∃ k, i = .socketRunLimitExpiry k) ∨ (∃ ws, i = .socketsWrite ws)
      ∨ (compressorNone (areasOf i) = true ∧ (mayWake i = true → s.mc.mode ≠ .standby)) := by
  have hwake : .fc ∈ wakeParts s ∨ s.mc.mode ≠ .standby := by
    by_cases hm : s.mc.mode = .standby
    · exact .inl (by simp [wakeParts, hm, firingParts])
    · exact .inr hm
  cases i
  case socketRunLimitExpiry k => exact .inr (.inr (.inl ⟨k, rfl⟩))
  case socketsWrite ws => exact .inr (.inr (.inr (.inl ⟨ws, rfl⟩)))
  case tripWindowExpiry c => exact .inr (.inl ⟨(by decide : Part.mu ∉ [Part.ga]), rfl⟩)
  case columnWakeEdge | rxdWakeEdge => exact hwake.imp id fun hm => .inr (.inr (.inr ⟨rfl, fun _ => hm⟩))
  case debounceExpiry | contactsWrite =>
    exact hwake.imp (fun hm => List.mem_append_right _ hm) fun hm => .inr (.inr (.inr ⟨rfl, fun _ => hm⟩))
  case supplyChange | powerOnReset | requestTake | replySent | restart | storeWriteDone => cases h
  case elapsedTick | conversion | suspectChannel | clearSuspect | budgetReport | placeRequest | changeRequest | withdrawRequest
      | classOverride | tripReport | retryTimerExpiry | clearTrip | fridgeGrantReport | stall | fridgeLevelChange | tfStaleExpiry
      | fridgeBoost | boostEnd | clearFault | waitOffEnd | softStartEnd | minOnTimeEnd | stallWaitEnd | stallLogExpiry | fallbackOnEnd
      | fallbackOffEnd | fdoorHanding | doorTimerExpiry | ventRunEnd | ventGrantReport | keyScan | holdTimerExpiry | declareRest
      | setClock | addEntry | prewarmEntryPlace | prewarmEntryMove | put | fieldWrite | adjust | exchange | compareWrite | channelsWrite
      | consumersWrite | demandsWrite | fridgeSetWrite | ventWrite | restProfileWrite | restStatePut | scheduleWrite | standby =>
    exact .inl (mem_of_contains rfl)
  case recordWrite p _ => exact .inr (.inr (.inr (.inr ⟨by cases p <;> rfl, fun hw => absurd hw Bool.false_ne_true⟩)))
  all_goals exact .inr (.inr (.inr (.inr ⟨rfl, fun hw => absurd hw Bool.false_ne_true⟩)))

/-- The commands whose footprint leaves the FC out leave the compressor as it is. -/
theorem effect_sameCompressor {i : Instr} {s0 : State} (s : State) (hmode : s.mc.mode = s0.mc.mode) (h : mayReset i = false)
    (hfc : .fc ∉ footprint s0 i) : energized (effect i s) .compressor = energized s .compressor := by
  obtain hmem | ⟨-, hown⟩ | ⟨k, rfl⟩ | ⟨ws, rfl⟩ | ⟨hav, hwake⟩ := fc_mem_footprint_or s0 h
  · exact absurd hmem hfc
  · exact (effect_sameOutputs_own s hown).energized_eq (c := .t2) List.mem_cons_self
  · exact (SameCompressor.socketRunOut k s).energized_eq
  · exact (SameCompressor.socketsWrite ws s).energized_eq
  · refine ((moves_effect i h s).sameCompressor ?_).energized_eq
    rw [cmdAreas_eq fun hw => hmode ▸ hwake hw]
    exact hav

/-! ### The areas within the footprint -/

theorem partsOf_append (as bs : List Area) : partsOf (as ++ bs) = partsOf as ++ partsOf bs := List.flatMap_append

theorem partsOf_cons (a : Area) (as : List Area) : partsOf (a :: as) = a.parts ++ partsOf as := rfl

/-- The parts that a written field of any record may change. -/
theorem parts_poked (r : Nat) : (Area.poked r).parts ⊆ [.cfg, .fc, .ga, .lc, .su] := by
  unfold Area.parts
  split <;> first | decide | contradiction

theorem partsOf_ownerAreas (r : Nat) :
    partsOf (ownerAreas r) ⊆ [.cfg, .mu, .cc, .ga, .asked, .hc, .fc, .lc, .pn, .rm, .su, .mc, .choices] := by
  unfold ownerAreas
  split <;> decide

theorem operationAreas_parts (s : State) (r : Nat) : partsOf (operationAreas r) ⊆ writeParts s := by
  have hrest : partsOf (if r = 25 then .rm :: fireAreas else []) ⊆
      [.cfg, .mu, .cc, .ga, .asked, .hc, .fc, .lc, .pn, .rm, .su, .mc, .choices] := by
    split <;> decide
  have hpoked := parts_poked r
  have howner := partsOf_ownerAreas r
  unfold operationAreas writeParts
  rw [partsOf_cons, partsOf_cons, partsOf_append]
  refine List.subset_append_of_subset_left _ ?_
  refine List.append_subset.2 ⟨by decide, List.append_subset.2 ⟨fun p hp => ?_, List.append_subset.2 ⟨fun p hp => ?_, fun p hp => ?_⟩⟩⟩
  · exact (by decide : [Part.cfg, .fc, .ga, .lc, .su] ⊆ _) (hpoked hp)
  · exact (by decide : [Part.cfg, .mu, .cc, .ga, .asked, .hc, .fc, .lc, .pn, .rm, .su, .mc, .choices] ⊆ _) (howner hp)
  · exact (by decide : [Part.cfg, .mu, .cc, .ga, .asked, .hc, .fc, .lc, .pn, .rm, .su, .mc, .choices] ⊆ _) (hrest hp)

theorem subset_of_contains {ps qs : List Part} (h : ps.all qs.contains = true) : ps ⊆ qs := fun p hp => by
  simpa using List.all_eq_true.1 h p hp

/-- A command's own areas lie in its footprint. -/
theorem partsOf_areasOf (s : State) (i : Instr) : partsOf (areasOf i) ⊆ footprint s i := by
  cases i
  case put | fieldWrite | exchange | compareWrite => exact operationAreas_parts s _
  case adjust record _ _ _ =>
    cases record with
    | host r => exact operationAreas_parts s r
    | panel k r => exact List.cons_subset.2 ⟨(mem_of_contains rfl : Part.pn ∈ writeParts s), operationAreas_parts s r⟩
  case recordWrite p _ => cases p <;> exact subset_of_contains rfl
  all_goals exact subset_of_contains rfl

/-- A wake's parts lie in the footprint of every command that may wake the part. -/
theorem wakeParts_subset {i : Instr} (s : State) (h : mayWake i = true) : wakeParts s ⊆ footprint s i := by
  cases i
  case elapsedTick | budgetReport | placeRequest | changeRequest | withdrawRequest | classOverride | retryTimerExpiry | tripReport
      | clearTrip | keyScan | holdTimerExpiry | debounceExpiry | declareRest | setClock | addEntry | prewarmEntryPlace
      | prewarmEntryMove | put | fieldWrite | exchange | compareWrite | adjust | consumersWrite | demandsWrite | contactsWrite
      | restProfileWrite | scheduleWrite | restStatePut =>
    exact List.subset_append_right _ _
  case columnWakeEdge | rxdWakeEdge => exact List.Subset.refl _
  all_goals exact absurd h Bool.false_ne_true

theorem partsOf_cmdAreas {i : Instr} {s0 : State} (hmode : s.mc.mode = s0.mc.mode) : partsOf (cmdAreas s i) ⊆ footprint s0 i := by
  unfold cmdAreas
  rw [partsOf_append]
  refine List.append_subset.2 ⟨partsOf_areasOf s0 i, ?_⟩
  split
  · rename_i hw
    have hparts : partsOf wakeAreas ⊆ wakeParts s0 := by
      rw [wakeParts, if_pos (hmode ▸ hw.2)]
      decide
    exact List.Subset.trans hparts (wakeParts_subset s0 hw.1)
  · exact List.nil_subset _

/-! ### The footprint of an event -/

theorem startEvent_changesOnly (i : Instr) (s : State) : changesOnly everyEvent s (startEvent i s) := by
  intro p hp
  cases p <;> first | rfl | exact absurd (by decide) hp

theorem mc_parts {i : Instr} {s0 : State} (hmode : s.mc.mode = s0.mc.mode) (hmc : .mc ∉ footprint s0 i) : .mc ∉ cmdAreas s i :=
  fun h => hmc (partsOf_cmdAreas hmode (parts_subset h (by decide)))

/-- The close of an event adds to what its effect changed the outputs it switched alone. -/
theorem close_changesOnly {ps : List Part} (h : changesOnly (ps ++ everyEvent) s t) (hmu : .mu ∉ ps → compsAfter s t = t.mu.comp)
    (hfc : .fc ∉ ps → energized s .compressor = energized t .compressor) (hmc : .mc ∉ ps → t.mc.woken = false) :
    changesOnly (ps ++ everyEvent) s (close s t) := by
  intro p hp
  have hagrees := h p hp
  have hout : p ∉ ps := fun hm => hp (List.mem_append_left _ hm)
  cases p
  case mu =>
    refine Eq.trans ?_ hagrees
    rw [close_measureCore, hmu hout]
  case fc =>
    refine Eq.trans ?_ hagrees
    rw [close_fc]
    exact settle_fc_of_same s t (hfc hout)
  case mc => exact (close_modeCore s (hmc hout)).trans hagrees
  case mode | rev | handed => exact absurd (List.mem_append_right _ (by decide)) hp
  all_goals
    refine Eq.trans ?_ hagrees
    simp

theorem SameOutputs.start {i : Instr} (h : SameOutputs (startEvent i s) t) : SameOutputs s t :=
  ⟨h.supply, h.gate, h.glow, h.blower, h.drive, h.light, h.socket⟩

/-- A command of the running part that resets nothing stays in its footprint. -/
theorem event_changesOnly {i : Instr} (h : mayReset i = false) :
    changesOnly (footprint s i ++ everyEvent) s (close s (effect i (startEvent i s))) := by
  have hmoves := moves_effect i h (startEvent i s)
  refine close_changesOnly ?_ (fun hmu => ?_) (fun hfc => ?_) fun hmc => ?_
  · have hframe := hmoves.frame.mono (List.append_subset.2
      ⟨List.subset_append_of_subset_left everyEvent (partsOf_cmdAreas (s0 := s) rfl), List.subset_append_right _ _⟩)
    exact ((startEvent_changesOnly i s).mono (List.subset_append_right _ _)).trans hframe
  · exact (effect_sameOutputs (s0 := s) (startEvent i s) rfl h hmu).start.compsAfter_eq
  · exact (effect_sameCompressor (s0 := s) (startEvent i s) rfl h hfc).symm
  · exact (hmoves.woken_eq (mc_parts (s0 := s) rfl hmc)).trans rfl

/-! ### Commands after which the part may have been reset -/

theorem RecordOutcome.moves {r : Nat} (h : RecordOutcome r s t) : ∃ as, Moves as s t := by
  cases h with
  | answers st data => exact ⟨_, moves_answer st data s⟩
  | writes ws st data hr => exact ⟨_, moves_accept ws st data (writable_ne_clock hr) (writeWakes hr)⟩
  | restores drive acc log hr hok => exact ⟨safeAreas, moves_restored drive acc log hok ⟨restWakes_safe, by decide⟩⟩

theorem Effect.toMoves (h : Effect s t) : ∃ as, Moves as s t := by
  cases h with
  | moves h => exact ⟨_, h⟩
  | record r h => exact h.moves
  | marks n mark => exact ⟨_, moves_setHostMark n mark s⟩
  | converts ch code => exact ⟨_, moves_convert ch code s⟩
  | sleeps => exact ⟨_, moves_standby s⟩

theorem Move.pending_eq (h : Move as s t) : t.pending = s.pending := by
  cases h <;> simp

theorem Moves.pending_eq (h : Moves as s t) : t.pending = s.pending :=
  h.lift (R := fun s t => t.pending = s.pending) (fun _ => rfl) (fun _ _ _ h k => k.trans h) fun _ _ m => m.pending_eq

theorem takeRequest_pending (s : State) : (takeRequest s).pending = s.pending := by
  unfold takeRequest
  split
  · dsimp only
    obtain ⟨as, h⟩ := (effect_serve _ _ _ _).toMoves
    exact (moves_deliver _).pending_eq.trans h.pending_eq
  · exact (moves_nextRequest _).pending_eq
  · rfl

theorem restartDue_pending (s : State) : (restartDue s).pending = s.pending := by
  unfold restartDue
  split
  · exact (moves_restartReset s).pending_eq
  · rfl

theorem effect_restarting_pending {i : Instr} (h : mayRestart i = true) (s : State) : (effect i s).pending = s.pending := by
  cases i
  case requestTake => exact takeRequest_pending s
  case replySent => exact (moves_replySent s).pending_eq
  case restart quiet => exact (moves_restart quiet s).pending_eq
  case storeWriteDone part => exact (moves_storeWritten part s).pending_eq
  all_goals exact absurd h Bool.false_ne_true

theorem changesOnly_allButPending (h : t.pending = s.pending) : changesOnly (allButPending ++ everyEvent) s t := by
  intro p hp
  cases p
  case pending => exact h
  all_goals exact absurd (by decide) hp

theorem footprint_of_restart {i : Instr} (h : mayRestart i = true) (s : State) : footprint s i = allButPending := by
  cases i
  case requestTake | replySent | restart | storeWriteDone => rfl
  all_goals exact absurd h Bool.false_ne_true

theorem supplyAt_changesOnly (mv : Nat) (s : State) : changesOnly ([.mc] ++ everyEvent) s (supplyAt mv s) := by
  obtain e | e | ⟨b, e⟩ := supplyAt_cases mv s <;> rw [e]
  · exact .refl _ s
  · exact fun p hp => by cases p <;> first | rfl | exact absurd (by decide) hp
  · exact fun p hp => by cases p <;> first | rfl | exact absurd (by decide) hp

theorem powerOn_pending (s : State) : (powerOn s).pending = s.pending := by
  unfold powerOn
  split <;> rfl

theorem mayReset_cases {i : Instr} (h : mayReset i = true) :
    (∃ mv, i = .supplyChange mv) ∨ i = .powerOnReset ∨ mayRestart i = true := by
  cases i
  case supplyChange mv => exact .inl ⟨mv, rfl⟩
  case powerOnReset => exact .inr (.inl rfl)
  case requestTake | replySent | restart | storeWriteDone => exact .inr (.inr rfl)
  all_goals exact absurd h Bool.false_ne_true

/-- A command stays in its footprint, whether the part runs or is held in reset. -/
theorem exec_changesOnly {i : Instr} (h : exec i s = .next t) : changesOnly (footprint s i ++ everyEvent) s t := by
  by_cases hreset : mayReset i = true
  · obtain ⟨mv, rfl⟩ | rfl | hrestart := mayReset_cases hreset
    · exact Host.Outcome.next.inj h ▸ supplyAt_changesOnly mv s
    · exact Host.Outcome.next.inj h ▸ changesOnly_allButPending (powerOn_pending s)
    · rw [footprint_of_restart hrestart]
      refine changesOnly_allButPending ?_
      cases hsup : s.mc.supply with
      | held b =>
        have htaken : takenInReset i = false := by cases i <;> first | rfl | exact absurd hrestart Bool.false_ne_true
        rw [exec_held hsup htaken] at h
        exact Host.Outcome.next.inj h ▸ rfl
      | running =>
        rw [exec_restarting hsup hrestart] at h
        refine Host.Outcome.next.inj h ▸ ?_
        rw [restartDue_pending, close_pending, effect_restarting_pending hrestart]
        rfl
  · have hreset : mayReset i = false := by simpa using hreset
    cases hsup : s.mc.supply with
    | running =>
      rw [exec_running hsup hreset] at h
      exact Host.Outcome.next.inj h ▸ event_changesOnly hreset
    | held b =>
      by_cases htaken : takenInReset i = true
      · cases i
        case contactInputChange =>
          rw [exec_contactInputChange_held _ _ hsup] at h
          exact Host.Outcome.next.inj h ▸ (moves_withContact _ _ s).frame
        case supplyChange | powerOnReset => exact absurd hreset Bool.noConfusion
        all_goals exact absurd htaken Bool.false_ne_true
      · rw [exec_held hsup (by simpa using htaken)] at h
        exact Host.Outcome.next.inj h ▸ .refl _ s

end Sys2Proof.Machine

namespace Sys2Proof.Proofs

open Sys2Proof Sys2Proof.Machine

/-- Settles O9: a command's moves lie in its areas, its areas in its footprint, and the outputs that its close takes account of stand
where the footprint leaves the comparators or the compressor out. -/
theorem commandStaysInItsFootprint : Obligations.CommandStaysInItsFootprint := fun _ _ _ h => exec_changesOnly h

end Sys2Proof.Proofs
end

section
/-! PROOFS. The handings in flight: every move adds behind them, and a wake alone takes PANEL's. -/

namespace Sys2Proof.Machine

-- One proof after another: started together they wait for one another, each on a thread of its own.
set_option Elab.async false

variable {s t u : State} {as bad : List Area} {I : State → Prop}

/-- The second list of handings holds the first in front. -/
def Behind (hs ks : List Instr) : Prop := ∃ new, ks = hs ++ new

theorem Behind.refl (hs : List Instr) : Behind hs hs := ⟨[], by simp⟩

theorem Behind.trans {hs ks ls : List Instr} (h : Behind hs ks) (k : Behind ks ls) : Behind hs ls := by
  obtain ⟨a, rfl⟩ := h
  obtain ⟨b, rfl⟩ := k
  exact ⟨a ++ b, by simp⟩

theorem Behind.filter {hs ks : List Instr} (h : Behind hs ks) (p : Instr → Bool) : Behind (hs.filter p) (ks.filter p) := by
  obtain ⟨a, rfl⟩ := h
  exact ⟨a.filter p, by simp⟩

theorem moveLevel_behind (new : ShedLevel) (cause : LevelCause) (s : State) : Behind s.handed (moveLevel new cause s).handed := by
  obtain ⟨b, p, e⟩ := moveLevel_eq new cause s
  exact ⟨_, by rw [e]⟩

/-- What a move hands stands behind what is in flight; only a wake takes a handing out. -/
theorem Move.handed_cases (h : Move as s t) : Behind s.handed t.handed
    ∨ (.panelTakes ∈ as ∧ ∃ i, notPanels i = false ∧ t.handed = s.handed.erase i) := by
  cases h with
  | hand i _ => exact .inl ⟨[i], rfl⟩
  | takes i _ ha hi => exact .inr ⟨ha, i, hi, rfl⟩
  | budget _ ha =>
    obtain e | e := updateBudget_cases s <;> rw [e]
    · exact .inl (.refl _)
    · exact .inl ⟨_, rfl⟩
  | level new cause _ ha => exact .inl (moveLevel_behind new cause s)
  | passesOn g _ ha h1 h2 => exact .inl (passTable_handed _)
  | socket k e _ ha hb => exact .inl (ask_handed _ _ _)
  | heaterEnter h _ ha hb h1 h2 => exact .inl (ask_handed _ _ _)
  | fridgeEnter f _ ha hb h1 h2 => exact .inl (ask_handed _ _ _)
  | vent f _ ha hb h1 h2 h3 => exact .inl (ask_handed _ _ _)
  | lightsFollow l _ ha hb h1 => exact .inl (lightsFollow_handed _)
  | panelBack _ ha hb => exact .inl (ask_handed _ _ _)
  | _ => exact .inl ⟨[], by simp⟩

theorem filter_erase_of_not {p : Instr → Bool} {i : Instr} (hi : p i = false) (hs : List Instr) :
    (hs.erase i).filter p = hs.filter p := by
  induction hs with
  | nil => rfl
  | cons j hs ih =>
    rw [List.erase_cons]
    split
    · rename_i hij
      rw [List.filter_cons, beq_iff_eq.1 hij, hi]
      rfl
    · rw [List.filter_cons, List.filter_cons, ih]

theorem Moves.handed_behind (h : Moves as s t) (hav : .panelTakes ∉ as) : Behind s.handed t.handed :=
  h.lift (R := fun s t => Behind s.handed t.handed) (fun _ => .refl _) (fun _ _ _ => .trans)
    fun _ _ m => m.handed_cases.elim id fun hp => absurd hp.1 hav

/-- All handings but PANEL's stay in flight, in their order. -/
theorem Moves.handed_notPanels (h : Moves as s t) : Behind (s.handed.filter notPanels) (t.handed.filter notPanels) :=
  h.lift (R := fun s t => Behind (s.handed.filter notPanels) (t.handed.filter notPanels)) (fun _ => .refl _) (fun _ _ _ => .trans)
    fun s t m => m.handed_cases.elim (fun hb => hb.filter _) fun ⟨_, i, hi, e⟩ => by
      rw [e, filter_erase_of_not hi]
      exact .refl _

/-- None of the areas is the wake's taking of PANEL's handings. -/
def takesNone (as : List Area) : Bool := as.all fun a => match a with | .panelTakes => false | _ => true

theorem panelTakes_not_mem (h : takesNone as = true) : .panelTakes ∉ as :=
  fun ha => Bool.false_ne_true (List.all_eq_true.1 h _ ha)

theorem takesNone_append {as bs : List Area} (ha : takesNone as = true) (hb : takesNone bs = true) : takesNone (as ++ bs) = true := by
  rw [takesNone, List.all_append]
  exact Bool.and_eq_true_iff.2 ⟨ha, hb⟩

theorem takesNone_operationAreas (r : Nat) : takesNone (operationAreas r) = true := by
  have howner : takesNone (ownerAreas r) = true := by
    unfold ownerAreas
    split <;> rfl
  have hrest : takesNone (if r = 25 then .rm :: fireAreas else []) = true := by
    split <;> rfl
  exact takesNone_append howner hrest

theorem takesNone_areasOf (i : Instr) : takesNone (areasOf i) = true := by
  cases i
  case put | fieldWrite | exchange | compareWrite => exact takesNone_operationAreas _
  case adjust record _ _ _ => cases record <;> exact takesNone_operationAreas _
  case recordWrite p _ => exact takesNone_operationAreas _
  all_goals rfl

end Sys2Proof.Machine

namespace Sys2Proof.Proofs

open Sys2Proof Sys2Proof.Machine

/-- Settles O2: by the definition of `step`, and since a command's moves add behind the handings in flight, a wake's taking of PANEL's
apart. -/
theorem handingsAreTakenInOrder : Obligations.HandingsAreTakenInOrder := by
  refine ⟨⟨fun i rest s hp hh => ?_, fun s hp hh => ?_⟩, fun i s t hrun hreset h hmode => ?_, fun i s t hrun hreset h => ?_⟩
  · rw [Machine.step, hp, hh]
  · rw [Machine.step, hp, hh]
  · rw [exec_running hrun hreset] at h
    obtain rfl := Host.Outcome.next.inj h
    have hmoves := moves_effect i hreset (startEvent i s)
    rw [cmdAreas_eq (s := startEvent i s) fun _ => hmode] at hmoves
    exact (hmoves.handed_behind (panelTakes_not_mem (takesNone_areasOf i))).trans (close_handed s _)
  · rw [exec_running hrun hreset] at h
    obtain rfl := Host.Outcome.next.inj h
    exact (moves_effect i hreset (startEvent i s)).handed_notPanels.trans (Behind.filter (close_handed s _) _)

end Sys2Proof.Proofs
end

section
/-! PROOFS. The heater's burning: out of it only PURGE and DRY_COOL lead, which no command leaves at the event that enters them. -/

namespace Sys2Proof.Machine

-- One proof after another: started together they wait for one another, each on a thread of its own.
set_option Elab.async false

variable {s t u : State} {as : List Area}

theorem Move.hot (h : Move as s t) (hleave : .leave ∉ as) (hs : hot s.hc.state) : hot t.hc.state := by
  cases h with
  | heater h _ ha hst => exact hst.symm ▸ hs
  | heaterEnter h _ ha hb hu hm =>
    rw [ask_hc]
    exact (hm.2 hs).elim id fun hl => absurd hl.2 hleave
  | _ => simpa using hs

/-- Without the area `leave` the heater stays burning, in PURGE or in DRY_COOL. -/
theorem Moves.hot (h : Moves as s t) (hs : hot s.hc.state) (hleave : .leave ∉ as := by decide) : hot t.hc.state :=
  h.keeps (fun _ _ m => m.hot hleave) hs

/-- None of the areas is the leaving of a purge or of DRY_COOL. -/
def leavesNone (as : List Area) : Bool := as.all fun a => match a with | .leave => false | _ => true

theorem leave_not_mem (h : leavesNone as = true) : .leave ∉ as := fun ha => Bool.false_ne_true (List.all_eq_true.1 h _ ha)

theorem leavesNone_append {as bs : List Area} (ha : leavesNone as = true) (hb : leavesNone bs = true) : leavesNone (as ++ bs) = true := by
  rw [leavesNone, List.all_append]
  exact Bool.and_eq_true_iff.2 ⟨ha, hb⟩

theorem leavesNone_operationAreas (r : Nat) : leavesNone (operationAreas r) = true := by
  have howner : leavesNone (ownerAreas r) = true := by
    unfold ownerAreas
    split <;> rfl
  have hrest : leavesNone (if r = 25 then .rm :: fireAreas else []) = true := by
    split <;> rfl
  exact leavesNone_append howner hrest

/-- The commands that may end a purge or DRY_COOL. -/
def mayLeave : Instr → Bool
  | .conversion _ _ | .purgeEnd | .purgeHotTimeout | .dryCoolTimeout => true
  | _ => false

theorem leavesNone_areasOf {i : Instr} (h : mayLeave i = false) : leavesNone (areasOf i) = true := by
  cases i
  case conversion | purgeEnd | purgeHotTimeout | dryCoolTimeout => cases h
  case put | fieldWrite | exchange | compareWrite => exact leavesNone_operationAreas _
  case adjust record _ _ _ => cases record <;> exact leavesNone_operationAreas _
  case recordWrite p _ => exact leavesNone_operationAreas _
  all_goals rfl

theorem leavesNone_cmdAreas {i : Instr} (h : mayLeave i = false) (s : State) : leavesNone (cmdAreas s i) = true :=
  leavesNone_append (leavesNone_areasOf h) (by split <;> rfl)

/-! ### A conversion while the heater burns -/

theorem moves_heaterTxState_burning (h : burning s.hc.state = true ∨ isValid s .tx = false) :
    Moves [.hc, .asked, .mc] s (heaterTxState s) := by
  unfold heaterTxState
  split
  · exact .refl
  · rename_i tx htx
    have hb : burning s.hc.state = true := h.resolve_right fun hno => by
      rw [validFiltered, hno] at htx
      exact absurd htx (by simp)
    split
    case h_1 hst =>
      split
      · split_ifs
        · exact (moves_toStabilize hst).mono
        · exact .refl
      · exact .refl
    case h_2 hst =>
      split
      · split_ifs
        · exact (moves_attemptFailed (by rw [hst]; decide)).mono
        · exact .refl
      · exact .refl
    case h_3 hst => exact (moves_flameStep _ (by rw [hst]; decide)).mono
    case h_4 hst => rw [hst] at hb; cases hb
    case h_5 hst => rw [hst] at hb; cases hb
    case h_6 => exact .refl

theorem moves_heaterTx_burning (h : burning s.hc.state = true ∨ isValid s .tx = false) : Moves [.hc, .asked, .mc] s (heaterTx s) := by
  unfold heaterTx
  split
  · have h1 : Moves [.hc, .asked, .mc] s (withHc (fun h => { h with firstTx := false }) s) :=
      (moves_withHc _ s rfl rfl fun h => h).mono
    dsimp only
    split
    · rename_i hoff
      exact h1.step (moves_toPurge .off none (by rw [withHc]; rw [hoff.1]; decide))
    · exact h1.trans (moves_heaterTxState_burning h)
  · exact moves_heaterTxState_burning h

theorem Moves.hc_state_eq (h : Moves as s t) (hav : .hc ∉ partsOf as ++ everyEvent := by decide) : t.hc.state = s.hc.state := by
  have hcore : heaterCore t.hc = heaterCore s.hc := h.frame .hc hav
  exact (congrArg HeaterUnit.state hcore :)

theorem Moves.statusOf_eq (h : Moves as s t) (h1 : .chan ∉ as := by decide) (h2 : .rawChan ∉ as := by decide)
    (h3 : .sleep ∉ as := by decide) (h4 : .poked 8 ∉ as := by decide) (ch : Channel) : statusOf t ch = statusOf s ch :=
  statusOf_congr (h.flameKept h1 h2 h3 h4).chan ch

/-- A change of a channel's status leaves a burning heater burning, or the channel is no longer VALID. -/
theorem burning_statusChange (ch : Channel) (old : SampleStatus) (hs : burning s.hc.state = true) :
    burning (statusChange ch old s).hc.state = true ∨ isValid (statusChange ch old s) ch = false := by
  by_cases hv : statusOf s ch = .valid
  · left
    unfold statusChange
    dsimp only
    rw [if_neg (by simp [hv])]
    split
    · rw [(moves_chargeRegained ch s).hc_state_eq]
      exact hs
    · exact hs
  · right
    have e := (moves_statusChange ch old s).statusOf_eq (ch := ch)
    simpa [isValid, e] using hv

theorem hot_sampleTaken (ch : Channel) (hs : hot s.hc.state) (htx : ch = .tx → burning s.hc.state = true ∨ isValid s .tx = false) :
    hot (sampleTaken ch s).hc.state := by
  have h1 : Moves [.cc] s (chargeConversion ch s) := moves_chargeConversion ch s
  have h2 : Moves [.hc, .asked, .mc] (chargeConversion ch s) (heaterConversion ch (chargeConversion ch s)) := by
    unfold heaterConversion
    split
    · exact (moves_heaterVh _).mono
    · exact (moves_heaterTc _).mono
    · exact (moves_heaterTh _).mono
    · refine moves_heaterTx_burning ?_
      rw [h1.hc_state_eq, isValid, h1.statusOf_eq]
      exact htx rfl
    · exact .refl
  have h3 : Machine.hot (heaterConversion ch (chargeConversion ch s)).hc.state := h2.hot (h1.hot hs)
  unfold sampleTaken
  dsimp only
  split
  · exact (moves_fridgeTf _ _).hot h3
  · exact (moves_restVs _).hot h3
  · exact h3

theorem hot_convert (ch : Channel) (code : Nat) (hs : burning s.hc.state = true) : hot (convert ch code s).hc.state := by
  unfold convert
  split
  · extract_lets old s1
    have h1 : Moves [.rawChan] s (sensorNotice ch old s1) := (moves_setChannel ch _ s).step (moves_sensorNotice ch old _)
    have hs1 : burning (sensorNotice ch old s1).hc.state = true := by
      rw [h1.hc_state_eq]
      exact hs
    rw [sampleReport_eq]
    refine (moves_leaveScan _ _).hot (hot_sampleTaken ch ((moves_statusChange ch old _).hot (.inl hs1)) fun e => ?_)
    subst e
    exact burning_statusChange _ old hs1
  · exact .inl hs

/-- A command's effect leaves a burning heater burning, in PURGE or in DRY_COOL. -/
theorem hot_effect {i : Instr} (hreset : mayReset i = false) (hs : burning s.hc.state = true) : hot (effect i s).hc.state := by
  by_cases hleave : mayLeave i = true
  · have hidle : ∀ {st} (f : State → State), burning st = false → hot (inHeater st f s).hc.state := fun f hb => by
      rw [inHeater, if_neg fun e => by rw [e, hb] at hs; cases hs]
      exact .inl hs
    cases i
    case conversion ch code => exact hot_convert ch code hs
    case purgeEnd => exact hidle _ rfl
    case dryCoolTimeout => exact hidle _ rfl
    case purgeHotTimeout =>
      change hot (purgeHot s).hc.state
      unfold purgeHot
      split
      case h_1 hst _ => rw [hst] at hs; cases hs
      case h_2 => exact .inl hs
    all_goals cases hleave
  · exact (moves_effect i hreset s).hot (.inl hs) (leave_not_mem (leavesNone_cmdAreas (by simpa using hleave) s))

end Sys2Proof.Machine

namespace Sys2Proof.Proofs

open Sys2Proof Sys2Proof.Machine

/-- Settles O13: every move of the heater out of a burning state leads into PURGE or DRY_COOL, and only a conversion, which judges
TX once, and three expiries, which act in PURGE and DRY_COOL, leave these. -/
theorem burningEndsInPurgeOrDryCool : Obligations.BurningEndsInPurgeOrDryCool := by
  intro i s t hreset hs h
  cases hsup : s.mc.supply with
  | held b =>
    by_cases htaken : takenInReset i = true
    · cases i
      case contactInputChange c l =>
        rw [exec_contactInputChange_held c l hsup] at h
        obtain rfl := Host.Outcome.next.inj h
        exact .inl hs
      case supplyChange | powerOnReset => cases hreset
      all_goals cases htaken
    · rw [exec_held hsup (by simpa using htaken)] at h
      obtain rfl := Host.Outcome.next.inj h
      exact .inl hs
  | running =>
    rw [exec_running hsup hreset] at h
    obtain rfl := Host.Outcome.next.inj h
    exact (moves_close s _).hot (hot_effect hreset hs)

end Sys2Proof.Proofs
end

section
/-! PROOFS. DOZE: it is entered by the MC's judgement alone, at the close of an event or at a tick, and only out of AWAKE. -/

namespace Sys2Proof.Machine

-- One proof after another: started together they wait for one another, each on a thread of its own.
set_option Elab.async false

variable {s t u : State} {as : List Area} {I : State → Prop}

/-- The part is in STANDBY, or the silence time is 0, as right after a wake (R188, R189). -/
def asleepOrWoken (s : State) : Prop := s.mc.mode ≠ .doze ∧ (s.mc.mode = .standby ∨ s.mc.silence = 0)

theorem Move.notDozing (h : Move as s t) (hav : .doze ∉ as) : s.mc.mode ≠ .doze → t.mc.mode ≠ .doze := by
  cases h with
  | awake _ _ => simp
  | doze _ ha _ => exact absurd ha hav
  | sleep _ _ => simp
  | mc m _ ha hmode => exact fun hs => hmode ▸ hs
  | _ => simp

theorem Move.asleepOrWoken (h : Move as s t) (hav : .doze ∉ as) : asleepOrWoken s → asleepOrWoken t := by
  cases h with
  | awake _ hsil => exact fun _ => ⟨by simp, .inr hsil⟩
  | doze _ ha _ => exact absurd ha hav
  | sleep _ _ => exact fun _ => ⟨by simp, .inl rfl⟩
  | mc m _ ha hmode _ hsil =>
    intro ⟨hs, hw⟩
    refine ⟨hmode ▸ hs, hw.imp (fun e => hmode ▸ e) fun e => ?_⟩
    obtain h0 | h0 | h0 := hsil
    · exact h0.trans e
    · exact h0
    · exact absurd h0.1 hav
  | _ => simp [Machine.asleepOrWoken]

/-- A predicate of the MC's mode and silence time that all moves but the entry into DOZE keep, every event but a tick keeps. -/
theorem eventInvariant_of_awake (hm : ∀ {as s t}, .doze ∉ as → Move as s t → I s → I t)
    (hcongr : ∀ {s t : State}, t.mc.mode = s.mc.mode → t.mc.silence = s.mc.silence → I s → I t)
    (hawake : ∀ {t : State}, t.mc.mode = .awake → t.mc.silence = 0 → I t) : EventInvariant I where
  move := fun _ _ => hm (by decide)
  accept := fun s r ws st data hr => Moves.keeps (fun _ _ => hm (noDoze r hr))
    (moves_accept ws st data (writable_ne_clock hr) (writeWakes hr))
  mark := fun s n b => Moves.keeps (fun _ _ => hm (by decide)) (moves_setHostMark n b s)
  convert := fun s ch code => Moves.keeps (fun _ _ => hm (by decide)) (moves_convert ch code s)
  standby := fun s => Moves.keeps (fun _ _ => hm (by decide)) (moves_standby s)
  handings := fun _ _ => hcongr rfl rfl
  supply := fun s mv hs => by
    obtain e | e | ⟨b, e⟩ := supplyAt_cases mv s <;> rw [e]
    · exact hs
    · exact hcongr (s := s) rfl rfl hs
    · exact hcongr (s := s) rfl rfl hs
  powerOn := fun s hs => by
    unfold Machine.powerOn
    split
    · exact hs
    · exact hawake rfl rfl
where
  noDoze (r : Nat) (hr : writable r) : .doze ∉ writeAreas r :=
    (by decide : ∀ r ∈ writableRecords, Area.doze ∉ writeAreas r) r (writable_mem hr)

theorem notDozing_eventInvariant : EventInvariant fun s => s.mc.mode ≠ .doze :=
  eventInvariant_of_awake (fun hav h => h.notDozing hav) (fun hmode _ hs => hmode ▸ hs) fun hmode _ => by simp [hmode]

theorem asleepOrWoken_eventInvariant : EventInvariant asleepOrWoken :=
  eventInvariant_of_awake (fun hav h => h.asleepOrWoken hav)
    (fun hmode hsil ⟨h1, h2⟩ => ⟨hmode ▸ h1, hmode ▸ hsil ▸ h2⟩) fun hmode hsil => ⟨by simp [hmode], .inr hsil⟩

/-! ### The judgement -/

theorem dozeAllowed_of_ready (h : dozeReady s = true) : s.mc.mode = .awake ∧ dozeAllowed s := by
  simp only [dozeReady, Bool.and_eq_true, Bool.not_eq_true', decide_eq_true_eq, Option.isNone_iff_eq_none, List.isEmpty_iff] at h
  obtain ⟨⟨⟨⟨⟨hmode, hsil⟩, hstart⟩, hfade⟩, hplayer⟩, hchimes⟩ := h
  exact ⟨hmode, hsil, hstart, hfade, hplayer, hchimes⟩

theorem dozeAllowed_congr (hsil : t.mc.silence = s.mc.silence) (hstate : startSequence t.hc.state = startSequence s.hc.state)
    (hlc : t.lc = s.lc) (hpn : t.pn = s.pn) (h : dozeAllowed s) : dozeAllowed t := by
  unfold dozeAllowed anyFade lightOf
  rw [hsil, hstate, hlc, hpn]
  exact h

/-- A judgement after which the part is in DOZE found it there, or found every condition met in AWAKE. -/
theorem dozeCheck_dozing (h : (dozeCheck s).mc.mode = .doze) :
    (s.mc.mode = .doze ∧ dozeCheck s = s) ∨ (dozeReady s = true ∧ dozeCheck s = setMode .doze s) := by
  obtain ⟨-, e⟩ | ⟨⟨hready, -⟩, e⟩ | ⟨⟨hready, -⟩, e⟩ := dozeCheck_cases s
  · exact .inl ⟨e ▸ h, e⟩
  · rw [e] at h
    exact absurd ((dozeAllowed_of_ready hready).1.symm.trans h) (by simp)
  · exact .inr ⟨hready, e⟩

theorem dozeAllowed_setMode (h : dozeAllowed s) : dozeAllowed (setMode .doze s) :=
  dozeAllowed_congr (by simp) (by simp) (by simp) (by simp) h

theorem settle_hc_state (s t : State) : (settle s t).hc.state = t.hc.state := by
  have e : heaterCore (settle s t).hc = heaterCore t.hc := by rw [← close_hc, close_heaterCore]
  exact (congrArg HeaterUnit.state e :)

/-- An event whose close leaves the part in DOZE entered it at its effect, or left the part in AWAKE, silent for 120 s. -/
theorem close_dozing (h : (close s u).mc.mode = .doze) :
    (u.mc.mode = .doze ∧ (dozeAllowed u → dozeAllowed (close s u)))
      ∨ (u.mc.mode = .awake ∧ u.mc.silence ≠ 0 ∧ dozeAllowed (close s u)) := by
  have hallowed : dozeAllowed (dozeCheck (settle s u)) → dozeAllowed (close s u) :=
    dozeAllowed_congr rfl (by rw [close_hc, dozeCheck_hc]) (by rw [close_lc, dozeCheck_lc]; rfl) (by rw [close_pn, dozeCheck_pn]; rfl)
  obtain ⟨hmode, e⟩ | ⟨hready, e⟩ := dozeCheck_dozing (s := settle s u) h
  · refine .inl ⟨hmode, fun hu => hallowed ?_⟩
    rw [e]
    exact dozeAllowed_congr (s := u) rfl (by rw [settle_hc_state]) rfl rfl hu
  · obtain ⟨hmode, hwas⟩ := dozeAllowed_of_ready hready
    have hsil : 120 ≤ u.mc.silence := hwas.1
    exact .inr ⟨hmode, by omega, hallowed (e ▸ dozeAllowed_setMode hwas)⟩

/-! ### The tick -/

theorem wakeFromDoze_notDozing (s : State) : (wakeFromDoze s).mc.mode ≠ .doze := by
  obtain ⟨h, e⟩ | ⟨h, e⟩ | ⟨h, e⟩ := wakeFromDoze_cases s <;> rw [e]
  · simp [h]
  · simp [h]
  · simp [enterAwake_mc]

theorem enterHeater_signs (new : HeaterState) (upd : HeaterUnit → HeaterUnit) (hs : ∀ h, (upd h).state = h.state) (s : State) :
    ∃ t, t.hc.state = new ∧ enterHeater new upd s = entrySigns t :=
  ⟨_, by rw [← entrySigns_hc]; exact enterHeater_state s new upd hs, rfl⟩

/-- A new run wakes the part from DOZE (R67, R187). -/
theorem newRun_notDozing (s : State) : (newRun s).mc.mode ≠ .doze := by
  obtain ⟨t, hst, e⟩ := enterHeater_signs .waitPower
    (fun h => { h with phase := some (now s + 600), lastFault := none, attempt := 1, flameOut := 0, strokesRun := 0 }) (fun _ => rfl) s
  have hrun : newRun s = wakeFromDoze t := by
    rw [newRun, toWaitPower, e, entrySigns, hst]
  rw [hrun]
  exact wakeFromDoze_notDozing t

theorem flameGone_state (s : State) : (flameGone s).hc.state = .purge := by
  unfold flameGone
  split_ifs
  · exact toPurge_state _ _ _
  · exact toPurge_state _ _ _

theorem Moves.dozeAllowed (h : Moves as s t) (hstate : startSequence t.hc.state = false)
    (h1 : .mc ∉ partsOf as ++ everyEvent := by decide) (h2 : .lc ∉ partsOf as ++ everyEvent := by decide)
    (h3 : .pn ∉ partsOf as ++ everyEvent := by decide) (hs : dozeAllowed s) : dozeAllowed t := by
  have hmc : modeCore t.mc = modeCore s.mc := h.frame .mc h1
  exact dozeAllowed_congr (congrArg ModeUnit.silence hmc :) (hstate.trans hs.2.1.symm) (h.frame .lc h2) (h.frame .pn h3) hs

/-- The heater's holds leave a part that stays in DOZE allowed there: what starts a run wakes it. -/
theorem heaterHolds_dozing (h : (heaterHolds s).mc.mode = .doze) (hs : dozeAllowed s) : dozeAllowed (heaterHolds s) := by
  obtain ⟨-, e⟩ | ⟨⟨hst, -⟩, e⟩ | ⟨⟨hst, -⟩, e⟩ | ⟨⟨hst, -⟩, e⟩ := heaterHolds_cases s <;> rw [e] at h ⊢
  · exact hs
  · exact (moves_toPurge .pause none (by rw [hst]; decide)).dozeAllowed (by rw [toPurge_state]; rfl) (hs := hs)
  · exact (moves_flameGone (by rw [hst]; decide)).dozeAllowed (by rw [flameGone_state]; rfl) (hs := hs)
  · unfold frostStart at h ⊢
    split
    · exact hs
    · rename_i hpower
      rw [if_neg hpower] at h
      exact absurd h (newRun_notDozing _)

theorem Moves.notDozing (h : Moves as s t) (hs : s.mc.mode ≠ .doze) (hav : .doze ∉ as := by decide) : t.mc.mode ≠ .doze :=
  h.keeps (fun _ _ m => m.notDozing hav) hs

theorem Moves.asleepOrWoken (h : Moves as s t) (hs : asleepOrWoken s) (hav : .doze ∉ as := by decide) : asleepOrWoken t :=
  h.keeps (fun _ _ m => m.asleepOrWoken hav) hs

/-- What follows the judgement at a tick's blocks. -/
def afterDozeCheck (s : State) : State := heaterHolds (raiseExpiries (restTick s))

theorem moves_afterDozeCheck (s : State) : Moves [.rm, .hc, .asked, .mc] s (afterDozeCheck s) :=
  ((moves_restTick s).mono.step (moves_raiseExpiries _)).step (moves_heaterHolds _)

/-- A tick's blocks that leave the part in DOZE entered it with every condition met, or found it there. -/
theorem tickBlocks_dozing (h : (tickBlocks s).mc.mode = .doze) (hs : s.mc.mode ≠ .doze) :
    s.mc.mode = .awake ∧ dozeAllowed (tickBlocks s) := by
  have hdoze : (dozeCheck (tickClocks s)).mc.mode = .doze := by
    by_contra hno
    exact (moves_afterDozeCheck _).notDozing hno (by decide) h
  obtain ⟨hmode, -⟩ | ⟨hready, e⟩ := dozeCheck_dozing hdoze
  · exact absurd hmode hs
  · obtain ⟨hawake, hwas⟩ := dozeAllowed_of_ready hready
    have hrest : Moves [.rm] (dozeCheck (tickClocks s)) (raiseExpiries (restTick (dozeCheck (tickClocks s)))) :=
      (moves_restTick _).step (moves_raiseExpiries _)
    have hcheck : dozeAllowed (dozeCheck (tickClocks s)) := e ▸ dozeAllowed_setMode hwas
    refine ⟨hawake, heaterHolds_dozing h (hrest.dozeAllowed ?_ (hs := hcheck))⟩
    rw [hrest.hc_state_eq]
    exact hcheck.2.1

theorem fireDue_cases (s : State) :
    fireDue s = s ∨ fireDue s = fireAll (wakeFromDoze s) ∨ (s.mc.mode = .standby ∧ fireDue s = wakeStandby s) := by
  unfold fireDue
  split
  · exact .inl rfl
  · split
    · exact .inr (.inl rfl)
    · exact .inr (.inl rfl)
    · rename_i hmode
      exact .inr (.inr ⟨hmode, rfl⟩)

/-- What fires wakes the part from DOZE. -/
theorem fireDue_dozing (h : (fireDue s).mc.mode = .doze) : fireDue s = s := by
  obtain e | e | ⟨hmode, e⟩ := fireDue_cases s
  · exact e
  · rw [e] at h
    exact absurd h ((moves_fireAll _).notDozing (wakeFromDoze_notDozing s) (by decide))
  · rw [e] at h
    exact absurd h ((moves_wakeStandby hmode).notDozing (by simp [hmode]) (by decide))

theorem dozeAllowed_ownerEvent {w : List (Fin 26)} {f : State → State} (h : dozeAllowed (f s)) : dozeAllowed (ownerEvent w f s) :=
  dozeAllowed_congr (by rw [ownerEvent_mc]) (by rw [ownerEvent_hc]) (by rw [ownerEvent_lc]) (by rw [ownerEvent_pn]) h

theorem asleepOrWoken_ownerEvent {w : List (Fin 26)} {f : State → State} (h : asleepOrWoken (f s)) :
    asleepOrWoken (ownerEvent w f s) := by
  unfold asleepOrWoken
  rw [ownerEvent_mc]
  exact h

theorem tick_dozing (h : (tick s).mc.mode = .doze) (hs : s.mc.mode ≠ .doze) : s.mc.mode = .awake ∧ dozeAllowed (tick s) := by
  unfold tick at h ⊢
  have e := fireDue_dozing h
  rw [e] at h ⊢
  rw [ownerEvent_mc] at h
  obtain ⟨hawake, hallowed⟩ := tickBlocks_dozing h hs
  exact ⟨hawake, dozeAllowed_ownerEvent hallowed⟩

theorem dozeCheck_standby (hs : s.mc.mode = .standby) : dozeCheck s = s := by
  have hno : dozeReady s ≠ true := fun hready => absurd (hs.symm.trans (dozeAllowed_of_ready hready).1) (by simp)
  obtain ⟨-, e⟩ | ⟨⟨hready, -⟩, -⟩ | ⟨⟨hready, -⟩, -⟩ := dozeCheck_cases s
  · exact e
  · exact absurd hready hno
  · exact absurd hready hno

theorem tickBlocks_standby (hs : s.mc.mode = .standby) : asleepOrWoken (tickBlocks s) := by
  have hmode : (tickClocks s).mc.mode = .standby := hs
  have hclocks : asleepOrWoken (tickClocks s) := ⟨by simp [hmode], .inl hmode⟩
  have e : tickBlocks s = afterDozeCheck (tickClocks s) := by
    rw [tickBlocks, dozeCheck_standby hmode, afterDozeCheck]
  rw [e]
  exact (moves_afterDozeCheck _).asleepOrWoken hclocks (by decide)

theorem tick_standby (hs : s.mc.mode = .standby) : asleepOrWoken (tick s) := by
  unfold tick
  have hblocks := asleepOrWoken_ownerEvent (w := allRecords) (tickBlocks_standby hs)
  generalize ownerEvent allRecords tickBlocks s = v at hblocks ⊢
  have hfire : Moves (fireAreas ++ wakeAreas) v (fireDue v) :=
    moves_fireDue ⟨List.subset_append_left _ _, fun _ => List.subset_append_right _ _, by decide⟩
  exact hfire.asleepOrWoken hblocks (by decide)

/-! ### Every event -/

theorem effect_tick (s : State) : effect .elapsedTick s = tick s := rfl

/-- An event's effect that leaves the part in DOZE found it there, or is a tick that entered it with every condition met. -/
theorem effect_dozing {i : Instr} (h : (effect i s).mc.mode = .doze) (hs : s.mc.mode ≠ .doze) :
    s.mc.mode = .awake ∧ dozeAllowed (effect i s) := by
  by_cases hi : i = .elapsedTick
  · subst hi
    rw [effect_tick] at h ⊢
    exact tick_dozing h hs
  · exact absurd h (notDozing_eventInvariant.effects hi hs)

theorem effect_standby (i : Instr) (hs : s.mc.mode = .standby) : asleepOrWoken (effect i s) := by
  by_cases hi : i = .elapsedTick
  · subst hi
    rw [effect_tick]
    exact tick_standby hs
  · exact asleepOrWoken_eventInvariant.effects hi ⟨by simp [hs], .inl hs⟩

theorem event_dozing {i : Instr} (h : (close s (effect i (startEvent i s))).mc.mode = .doze) (hs : s.mc.mode ≠ .doze) :
    s.mc.mode = .awake ∧ dozeAllowed (close s (effect i (startEvent i s))) := by
  have hstart : (startEvent i s).mc.mode = s.mc.mode := rfl
  obtain ⟨hmode, hclose⟩ | ⟨hmode, hsil, hallowed⟩ := close_dozing h
  · obtain ⟨hawake, hu⟩ := effect_dozing hmode (hstart ▸ hs)
    exact ⟨hawake, hclose hu⟩
  · refine ⟨?_, hallowed⟩
    cases hm : s.mc.mode with
    | awake => rfl
    | doze => exact absurd hm hs
    | standby =>
      obtain ⟨-, hstandby | hzero⟩ := effect_standby i (hstart.trans hm)
      · exact absurd (hmode.symm.trans hstandby) (by simp)
      · exact absurd hzero hsil

theorem restartReset_notDozing (s : State) : (restartReset s).mc.mode ≠ .doze :=
  (moves_restartReset s).notDozing (by simp [restarted, resetPart, modeReset]) (by decide)

end Sys2Proof.Machine

namespace Sys2Proof.Proofs

open Sys2Proof Sys2Proof.Machine

/-- Settles O10: DOZE is entered by the MC's judgement alone, which asks for every condition of R187 in AWAKE, and a wake out of
STANDBY leaves the silence time 0. -/
theorem dozeEnteredOnlyWhenAllowed : Obligations.DozeEnteredOnlyWhenAllowed := by
  intro i s t h hdoze hs
  have hsame : ∀ u : State, u.mc.mode = s.mc.mode → .next u = (.next t : Host.Outcome State Fault Refusal) → False := fun u hm e =>
    hs (hm.symm.trans (Host.Outcome.next.inj e ▸ hdoze))
  have hsupply : ∀ mv, (supplyAt mv s).mc.mode = s.mc.mode := fun mv => by
    obtain e | e | ⟨b, e⟩ := supplyAt_cases mv s
    · rw [e]
    · rw [e]; rfl
    · rw [e]
  have hpower : exec .powerOnReset s = .next t → False := fun h => by
    have e : powerOn s = t := Host.Outcome.next.inj h
    unfold powerOn at e
    split at e
    · exact hsame s rfl (congrArg _ e)
    · rw [← e] at hdoze
      exact absurd hdoze (by simp [resetPart, modeReset])
  cases hsup : s.mc.supply with
  | held b =>
    by_cases htaken : takenInReset i = true
    · cases i
      case contactInputChange c l =>
        rw [exec_contactInputChange_held c l hsup] at h
        exact (hsame (pinInReset c l s) rfl h).elim
      case supplyChange mv => exact (hsame _ (hsupply mv) h).elim
      case powerOnReset => exact (hpower h).elim
      all_goals cases htaken
    · rw [exec_held hsup (by simpa using htaken)] at h
      exact (hsame _ rfl h).elim
  | running =>
    by_cases hreset : mayReset i = true
    · obtain ⟨mv, rfl⟩ | rfl | hrestart := mayReset_cases hreset
      · exact (hsame _ (hsupply mv) h).elim
      · exact (hpower h).elim
      · rw [exec_restarting hsup hrestart] at h
        obtain rfl := Host.Outcome.next.inj h
        unfold restartDue at hdoze ⊢
        split at hdoze
        · exact absurd hdoze (restartReset_notDozing _)
        · rename_i hno
          rw [if_neg hno]
          exact event_dozing hdoze hs
    · rw [exec_running hsup (by simpa using hreset)] at h
      obtain rfl := Host.Outcome.next.inj h
      exact event_dozing hdoze hs

end Sys2Proof.Proofs
end

section
/-! PROOFS. The shed level: a change of it is handed to its four users, it is held by those that take it, and it falls by a relief or by
the sensor hold alone. -/

namespace Sys2Proof.Machine

-- One proof after another: started together they wait for one another, each on a thread of its own.
set_option Elab.async false

variable {s t u : State} {as : List Area}

/-! ### A change is handed -/

/-- The four handings of a change of the level (R36). -/
def levelHandings (c : ChargeUnit) : List Instr :=
  [.lightLevelChange c.level, .fridgeLevelChange c.level, .heaterLevelChange c.level,
    .budgetReport ⟨c.level, c.budget, classesAdmitted c.level⟩]

/-- The present level, with its budget, is on its way to all four users. -/
def levelTold (s : State) : Prop := levelHandings s.cc ⊆ s.handed

theorem levelHandings_notPanels (c : ChargeUnit) : (levelHandings c).filter notPanels = levelHandings c := rfl

theorem mem_of_behind {hs ks : List Instr} (h : Behind (hs.filter notPanels) (ks.filter notPanels)) {c : ChargeUnit}
    (hc : levelHandings c ⊆ hs) : levelHandings c ⊆ ks := fun i hi => by
  obtain ⟨new, e⟩ := h
  have hkeeps : notPanels i = true := by
    rw [← levelHandings_notPanels] at hi
    exact (List.mem_filter.1 hi).2
  have hmem : i ∈ ks.filter notPanels := e ▸ List.mem_append_left _ (List.mem_filter.2 ⟨hc hi, hkeeps⟩)
  exact (List.mem_filter.1 hmem).1

/-- The level stays, and what was told stays told, or the level is told. -/
def LevelTold (s t : State) : Prop := (t.cc.level = s.cc.level ∧ (levelTold s → levelTold t)) ∨ levelTold t

theorem LevelTold.trans (h : LevelTold s t) (k : LevelTold t u) : LevelTold s u := by
  obtain ⟨e, hk⟩ | hk := k
  · exact h.imp (fun ⟨e', hh⟩ => ⟨e.trans e', hk ∘ hh⟩) hk
  · exact .inr hk

theorem LevelTold.of_same (hcc : t.cc.level = s.cc.level ∧ t.cc.budget = s.cc.budget)
    (hh : Behind (s.handed.filter notPanels) (t.handed.filter notPanels)) : LevelTold s t := by
  refine .inl ⟨hcc.1, fun hs => mem_of_behind hh ?_⟩
  have e : levelHandings t.cc = levelHandings s.cc := by rw [levelHandings, levelHandings, hcc.1, hcc.2]
  exact e ▸ hs

theorem updateBudget_told (s : State) : LevelTold s (updateBudget s) := by
  unfold updateBudget
  dsimp only
  split
  · exact .of_same ⟨rfl, rfl⟩ (.refl _)
  · refine .inl ⟨rfl, fun hs => ?_⟩
    intro i hi
    simp only [levelHandings, List.mem_cons, List.not_mem_nil, or_false] at hi
    obtain rfl | rfl | rfl | rfl := hi
    · exact List.mem_append_left _ (hs (by simp [levelHandings, withCc]))
    · exact List.mem_append_left _ (hs (by simp [levelHandings, withCc]))
    · exact List.mem_append_left _ (hs (by simp [levelHandings, withCc]))
    · exact List.mem_append_right _ (by simp [reportNow])

theorem moveLevel_told (new : ShedLevel) (cause : LevelCause) (s : State) : levelTold (moveLevel new cause s) := by
  obtain ⟨b, p, e⟩ := moveLevel_eq new cause s
  rw [e]
  intro i hi
  simp only [levelHandings, List.mem_cons, List.not_mem_nil, or_false] at hi
  obtain rfl | rfl | rfl | rfl := hi <;> simp

theorem Move.levelTold (h : Move as s t) : LevelTold s t := by
  have hhanded := (Moves.of_move h).handed_notPanels
  cases h with
  | charge u _ ha hlevel hbudget => exact .of_same ⟨hlevel, hbudget⟩ hhanded
  | budget _ ha => exact updateBudget_told s
  | level new cause _ ha => exact .inr (moveLevel_told new cause s)
  | _ => exact .of_same (by simp) hhanded

theorem Moves.levelTold (h : Moves as s t) : LevelTold s t :=
  h.lift (R := LevelTold) (fun _ => .inl ⟨rfl, id⟩) (fun _ _ _ => .trans) fun _ _ m => m.levelTold

/-! ### The level falls by the sensor hold or a relief -/

/-- The sensor hold has taken the level from CUTOFF to RESERVE (R38). -/
def HoldLowers (u v : ChargeUnit) : Prop := u.level = .cutoff ∧ v.level = .reserve ∧ v.sensorHold = true ∧ v.relief = 0

/-- The level does not fall, but by the sensor hold, which stays in force. -/
def LevelKept (u v : ChargeUnit) : Prop :=
  (levelCode u.level ≤ levelCode v.level ∧ (u.sensorHold = true → u.relief = 0 → v.sensorHold = true ∧ v.relief = 0)) ∨ HoldLowers u v

theorem LevelKept.of_same {u v : ChargeUnit} (hl : v.level = u.level) (hh : v.sensorHold = u.sensorHold) (hr : v.relief = u.relief) :
    LevelKept u v := .inl ⟨by rw [hl], by rw [hh, hr]; exact fun a b => ⟨a, b⟩⟩

theorem LevelKept.refl (u : ChargeUnit) : LevelKept u u := .of_same rfl rfl rfl

theorem eq_cutoff_of_le {l m : ShedLevel} (h : levelCode l ≤ levelCode m) (hl : l = .cutoff) : m = .cutoff := by
  subst hl
  cases m <;> simp [levelCode] at h ⊢

theorem le_reserve {l : ShedLevel} (h : l ≠ .cutoff) : levelCode l ≤ levelCode .reserve := by
  cases l <;> first | exact absurd rfl h | decide

theorem LevelKept.trans {u v w : ChargeUnit} (h : LevelKept u v) (k : LevelKept v w) : LevelKept u w := by
  obtain ⟨hle, hhold⟩ | ⟨hu, hv, hhold, hrelief⟩ := h
  · obtain ⟨kle, khold⟩ | ⟨kv, kw, khold, krelief⟩ := k
    · exact .inl ⟨hle.trans kle, fun a b => (hhold a b).elim khold⟩
    · by_cases hu : u.level = .cutoff
      · exact .inr ⟨hu, kw, khold, krelief⟩
      · refine .inl ⟨?_, fun _ _ => ⟨khold, krelief⟩⟩
        rw [kw]
        exact le_reserve hu
  · obtain ⟨kle, khold⟩ | ⟨kv, -, -, -⟩ := k
    · obtain ⟨khold, krelief⟩ := khold hhold hrelief
      by_cases hw : w.level = .cutoff
      · exact .inl ⟨by rw [hu, hw], fun _ _ => ⟨khold, krelief⟩⟩
      · refine .inr ⟨hu, ?_, khold, krelief⟩
        rw [hv] at kle
        cases e : w.level <;> simp [levelCode, e] at kle hw ⊢
    · exact absurd (hv.symm.trans kv) (by simp)

theorem moveLevel_cc (new : ShedLevel) (cause : LevelCause) (s : State) :
    ∃ b, (moveLevel new cause s).cc = { s.cc with level := new, budget := b } := by
  obtain ⟨b, p, e⟩ := moveLevel_eq new cause s
  exact ⟨b, by rw [e]⟩

theorem updateBudget_cc (s : State) : ∃ b, (updateBudget s).cc = { s.cc with budget := b } := by
  obtain e | e := updateBudget_cases s <;> rw [e]
  · exact ⟨_, rfl⟩
  · exact ⟨_, rfl⟩

theorem levelKept_updateBudget (s : State) : LevelKept s.cc (updateBudget s).cc := by
  obtain ⟨b, e⟩ := updateBudget_cc s
  rw [e]
  exact .of_same rfl rfl rfl

theorem levelKept_raiseNow (h : callsRaise s = true) : LevelKept s.cc (raiseNow s).cc := by
  simp only [callsRaise, Bool.and_eq_true, Bool.not_eq_true', decide_eq_true_eq] at h
  obtain ⟨b, e⟩ := moveLevel_cc (combinedTarget s.cc) (raiseCause s.cc (combinedTarget s.cc))
    (withCc (fun c => { c with relief := 0, ceiling := none }) s)
  unfold raiseNow
  dsimp only
  rw [e]
  exact .inl ⟨h.2.le, fun hhold => absurd (hhold.symm.trans h.1) (by simp)⟩

theorem levelKept_raiseCheck (s : State) : LevelKept s.cc (raiseCheck s).cc := by
  unfold raiseCheck
  split
  · exact levelKept_raiseNow ‹_›
  · exact .refl _

/-- A raise behind a change of the CC that leaves the level, the hold and the relief count. -/
theorem levelKept_raised {f : ChargeUnit → ChargeUnit} (hl : (f s.cc).level = s.cc.level) (hh : (f s.cc).sensorHold = s.cc.sensorHold)
    (hr : (f s.cc).relief = s.cc.relief) : LevelKept s.cc (raiseCheck (withCc f s)).cc :=
  (LevelKept.of_same hl hh hr).trans (levelKept_raiseCheck (withCc f s))

theorem levelKept_reckon (s : State) : LevelKept s.cc (reckon s).cc := .of_same rfl rfl rfl

theorem levelKept_evaluateRaise (s : State) : LevelKept s.cc (evaluateRaise s).cc := by
  unfold evaluateRaise
  dsimp only
  split
  · exact (levelKept_reckon s).trans (levelKept_raiseNow ‹_›)
  · exact (levelKept_reckon s).trans (levelKept_updateBudget _)

theorem levelKept_countCharge (i : Int) (s : State) : LevelKept s.cc (countCharge i s).cc := by
  unfold countCharge
  split
  · exact .refl _
  · extract_lets b m s1
    have h1 : LevelKept s.cc s1.cc := .of_same rfl rfl rfl
    split
    · exact h1.trans (levelKept_raiseCheck _)
    · exact h1

/-- An evaluation behind a change of the CC that leaves the level, the hold and the relief count. -/
theorem levelKept_evaluated {f : ChargeUnit → ChargeUnit} (hl : (f s.cc).level = s.cc.level) (hh : (f s.cc).sensorHold = s.cc.sensorHold)
    (hr : (f s.cc).relief = s.cc.relief) : LevelKept s.cc (evaluateRaise (withCc f s)).cc :=
  (LevelKept.of_same hl hh hr).trans (levelKept_evaluateRaise (withCc f s))

theorem levelKept_startEstimate (vh : Int) (s : State) : LevelKept s.cc (startEstimate vh s).cc := by
  unfold startEstimate
  split
  · exact (LevelKept.of_same rfl rfl rfl).trans
      (levelKept_evaluateRaise (withCc (fun c => { c with estimated := true, starting := false }) (setFromOcv vh s)))
  · exact .refl _

theorem levelKept_fullSync (i : Option Int) (s : State) : LevelKept s.cc (fullSync i s).cc := by
  unfold fullSync
  split
  · split
    · exact .of_same rfl rfl rfl
    · split
      · exact levelKept_evaluated rfl rfl rfl
      · exact .refl _
  · exact .of_same rfl rfl rfl

theorem levelKept_restHoldStep (i : Int) (s : State) : LevelKept s.cc (restHoldStep i s).cc := by
  unfold restHoldStep
  split
  · split
    · exact .of_same rfl rfl rfl
    · exact .refl _
  · exact .of_same rfl rfl rfl

theorem levelKept_chargeIh (s : State) : LevelKept s.cc (chargeIh s).cc := by
  unfold chargeIh
  dsimp only
  split
  · rename_i v _ _
    have h1 : LevelKept s.cc (withCc (fun c => { c with accSum := c.accSum + v, accCount := c.accCount + 1 }) (countCharge v s)).cc :=
      (levelKept_countCharge v s).trans (.of_same rfl rfl rfl)
    exact (h1.trans (levelKept_fullSync _ _)).trans (levelKept_restHoldStep _ _)
  · exact levelKept_fullSync _ s

theorem levelKept_chargeVh (s : State) : LevelKept s.cc (chargeVh s).cc := by
  unfold chargeVh
  split
  · rename_i vh _
    have hguard : LevelKept s.cc (guardStep vh s).cc := levelKept_raised rfl rfl rfl
    exact hguard.trans (levelKept_startEstimate _ _)
  · exact .refl _

theorem levelKept_chargeConversion (ch : Channel) (s : State) : LevelKept s.cc (chargeConversion ch s).cc := by
  unfold chargeConversion
  split
  · exact levelKept_chargeVh s
  · exact levelKept_chargeIh s
  · exact .refl _

theorem levelKept_sensorHoldOn (s : State) : LevelKept s.cc (sensorHoldOn s).cc := by
  unfold sensorHoldOn
  extract_lets s1
  split
  · rename_i hl
    obtain ⟨b, e⟩ := updateBudget_cc s1
    rw [e]
    exact .inl ⟨le_rfl, fun _ _ => ⟨rfl, rfl⟩⟩
  · rename_i hl
    obtain ⟨b, e⟩ := moveLevel_cc .reserve .sensors s1
    rw [e]
    by_cases hcut : s.cc.level = .cutoff
    · exact .inr ⟨hcut, rfl, rfl, rfl⟩
    · exact .inl ⟨le_reserve hcut, fun _ _ => ⟨rfl, rfl⟩⟩

theorem levelKept_chargeLeft (ch : Channel) (s : State) : LevelKept s.cc (chargeLeft ch s).cc := by
  unfold chargeLeft
  split
  · extract_lets s1
    have h1 : LevelKept s.cc s1.cc := .of_same rfl rfl rfl
    split
    · exact h1
    · exact h1.trans (levelKept_sensorHoldOn _)
  · extract_lets s1
    have h1 : LevelKept s.cc s1.cc := .of_same rfl rfl rfl
    split
    · exact h1
    · exact h1.trans (levelKept_sensorHoldOn _)
  · exact .refl _

theorem levelKept_batteryEffect (old : Battery) (s : State) : LevelKept s.cc (batteryEffect old s).cc := by
  have hrescaled : LevelKept s.cc (rescaleCharge old s).cc := by
    unfold rescaleCharge
    split
    · split
      · exact .refl _
      · exact .of_same rfl rfl rfl
    · exact .refl _
  rw [batteryEffect_eq]
  refine hrescaled.trans ?_
  generalize rescaleCharge old s = s1
  unfold batteryFollows
  extract_lets s2 s3
  have h2 : LevelKept s1.cc s2.cc := by
    unfold s2
    split
    · exact .refl _
    · exact .of_same rfl rfl rfl
  have h3 : LevelKept s1.cc s3.cc := by
    unfold s3
    split
    · exact h2
    · exact h2.trans (.of_same rfl rfl rfl)
  refine LevelKept.trans ?_ (levelKept_evaluateRaise _)
  split
  · exact h3
  · refine h3.trans ?_
    obtain ⟨-, e⟩ | ⟨-, e⟩ := takeDefault_cases (s := s3) <;> rw [e]
    · exact .refl _
    · exact .of_same rfl rfl rfl

/-! ### The channels' changes -/

/-- The level does not fall but by the sensor hold, at an event. -/
def LevelMayFall (u v : ChargeUnit) : Prop := levelCode u.level ≤ levelCode v.level ∨ HoldLowers u v

theorem LevelKept.mayFall {u v : ChargeUnit} (h : LevelKept u v) : LevelMayFall u v := h.imp_left And.left

theorem Moves.cc_eq (h : Moves as s t) (hav : .cc ∉ partsOf as ++ everyEvent := by decide) : t.cc = s.cc := h.frame .cc hav

/-- A status that has not become VALID. -/
theorem levelKept_statusChange {ch : Channel} {old : SampleStatus} (h : old = .valid ∨ statusOf s ch ≠ .valid) :
    LevelKept s.cc (statusChange ch old s).cc := by
  unfold statusChange
  extract_lets new s1
  split
  · have h1 : LevelKept s.cc s1.cc := by
      unfold s1
      rw [(moves_heaterLeft ch (chargeLeft ch s)).cc_eq]
      exact levelKept_chargeLeft ch s
    split
    · rw [(moves_restVsLeft s1).cc_eq]
      exact h1
    · exact h1
  split
  · rename_i hno
    exact absurd hno.2 (h.resolve_left hno.1)
  · exact .refl _

theorem statusChange_regained {ch : Channel} {old : SampleStatus} (h : ¬(old = .valid ∨ statusOf s ch ≠ .valid)) :
    (statusChange ch old s).cc.level = s.cc.level := by
  obtain ⟨hold, hnew⟩ := not_or.1 h
  unfold statusChange
  dsimp only
  rw [if_neg fun hl => hold hl.1, if_pos ⟨hold, not_not.1 hnew⟩]
  unfold chargeRegained
  split <;> rfl

theorem levelMayFall_statusChange (ch : Channel) (old : SampleStatus) {u : ChargeUnit} (h : LevelKept (statusChange ch old s).cc u) :
    LevelMayFall s.cc u := by
  by_cases hst : old = .valid ∨ statusOf s ch ≠ .valid
  · exact ((levelKept_statusChange hst).trans h).mayFall
  · have hl := statusChange_regained hst
    exact h.imp (fun hle => hl ▸ hle.1) fun ⟨hcut, hrest⟩ => ⟨hl ▸ hcut, hrest⟩

theorem statusReport_cc (ch : Channel) (old : SampleStatus) (s : State) :
    (statusReport ch old s).cc = s.cc ∨ (statusReport ch old s).cc = (statusChange ch old s).cc := by
  unfold statusReport
  split
  · exact .inl rfl
  · right
    rw [ownerEvent_cc]
    dsimp only
    split
    · exact (moves_fridgeTf _ _).cc_eq
    · rfl

theorem levelMayFall_setHostMark (n : Nat) (mark : Bool) (s : State) : LevelMayFall s.cc (setHostMark n mark s).cc := by
  unfold setHostMark
  split
  · exact .inl le_rfl
  · rename_i ch _
    extract_lets old e s1
    have h1 : (sensorNotice ch old s1).cc = s.cc := ((moves_setChannel ch _ s).step (moves_sensorNotice ch old _)).cc_eq
    rw [answer_cc]
    obtain e | e := statusReport_cc ch old (sensorNotice ch old s1) <;> rw [e, ← h1]
    · exact .inl le_rfl
    · exact levelMayFall_statusChange ch old (.refl _)

theorem levelMayFall_convert (ch : Channel) (code : Nat) (s : State) : LevelMayFall s.cc (convert ch code s).cc := by
  unfold convert
  split
  · extract_lets old s1
    have h1 : (sensorNotice ch old s1).cc = s.cc := ((moves_setChannel ch _ s).step (moves_sensorNotice ch old _)).cc_eq
    rw [(moves_leaveScan _ _).cc_eq, sampleReport_eq, ← h1]
    refine levelMayFall_statusChange ch old ?_
    generalize statusChange ch old (sensorNotice ch old s1) = s2
    have h2 : LevelKept s2.cc (heaterConversion ch (chargeConversion ch s2)).cc := by
      rw [(moves_heaterConversion ch _).cc_eq]
      exact levelKept_chargeConversion ch s2
    unfold sampleTaken
    dsimp only
    split
    · rw [(moves_fridgeTf _ _).cc_eq]
      exact h2
    · rw [(moves_restVs _).cc_eq]
      exact h2
    · exact h2
  · exact .inl le_rfl

/-- The reports of stopped channels, none of which is VALID any more. -/
theorem levelKept_statusReports (old : Channel → SampleStatus) (chs : List Channel) (s : State) (h : ∀ ch ∈ chs, statusOf s ch ≠ .valid) :
    LevelKept s.cc (chs.foldl (fun s' ch => statusReport ch (old ch) s') s).cc := by
  induction chs generalizing s with
  | nil => exact .refl _
  | cons ch chs ih =>
    have hfirst : LevelKept s.cc (statusReport ch (old ch) s).cc := by
      obtain e | e := statusReport_cc ch (old ch) s <;> rw [e]
      · exact .refl _
      · exact levelKept_statusChange (.inr (h ch (by simp)))
    refine hfirst.trans (ih _ fun d hd => ?_)
    rw [(moves_statusReport ch (old ch) s).statusOf_eq]
    exact h d (by simp [hd])

theorem levelKept_stopChannels (chs : List Channel) (s : State) : LevelKept s.cc (stopChannels chs s).cc := by
  unfold stopChannels
  rw [← (moves_discardChannels chs s).cc_eq]
  refine levelKept_statusReports (statusOf s) chs _ fun ch hch => ?_
  rw [statusOf_discardChannels, if_pos hch]
  simp

theorem levelKept_channelsEffect (old : Vector ChanSet 7) (s : State) : LevelKept s.cc (channelsEffect old s).cc := by
  unfold channelsEffect
  extract_lets on stopped started
  rw [(moves_leaveScan _ _).cc_eq, ← (moves_discardChannels started s).cc_eq]
  exact levelKept_stopChannels stopped _

theorem levelKept_standby (s : State) : LevelKept s.cc (standby s).cc := by
  unfold standby
  split
  · exact .refl _
  split
  · exact .refl _
  · rw [answer_cc]
    unfold enterStandby
    extract_lets stopped
    rw [(moves_panelStandby _).cc_eq]
    have h1 : (setMode .standby s).cc = s.cc := by simp
    rw [← h1]
    exact levelKept_stopChannels _ _

/-! ### The writes -/

theorem levelMayFall_accept {r : Nat} (hr : writable r) (ws : List FieldWrite) (st : Status) (data : List Byte) (s : State) :
    LevelMayFall s.cc (accept r ws st data s).cc := by
  have hpoked : ∀ v a, LevelKept s.cc (written r ws v a s).cc := fun v a =>
    .of_same (congrArg ChargeUnit.level (pokeAll_cc r ws s)) (congrArg ChargeUnit.sensorHold (pokeAll_cc r ws s))
      (congrArg ChargeUnit.relief (pokeAll_cc r ws s))
  by_cases h3 : r = 3
  · subst h3
    exact accept_keeps (I := fun t => LevelMayFall s.cc t.cc) (fun _ _ h => h) (fun v a _ => (hpoked v a).mayFall)
      fun v a => ((hpoked v a).trans (levelKept_batteryEffect _ _)).mayFall
  by_cases h8 : r = 8
  · subst h8
    exact accept_keeps (I := fun t => LevelMayFall s.cc t.cc) (fun _ _ h => h) (fun v a _ => (hpoked v a).mayFall)
      fun v a => ((hpoked v a).trans (levelKept_channelsEffect _ _)).mayFall
  · have hav : ∀ r ∈ writableRecords, r ≠ 3 → r ≠ 8 → Part.cc ∉ partsOf (writeAreas r) ++ everyEvent := by decide
    rw [(moves_accept ws st data (writable_ne_clock hr) (writeWakes hr)).cc_eq (hav r (writable_mem hr) h3 h8)]
    exact .inl le_rfl

theorem levelMayFall_record {r : Nat} (h : RecordOutcome r s t) : LevelMayFall s.cc t.cc := by
  cases h with
  | answers st data => exact .inl le_rfl
  | writes ws st data hr => exact levelMayFall_accept hr ws st data s
  | restores drive acc log hr hok =>
    have hmoves : Moves (.answer :: .rm :: fireAreas ++ wakeAreas) s (restored drive acc log s) :=
      moves_restored drive acc log hok ⟨⟨⟨by decide, fun _ => by decide, by decide⟩, by decide⟩, by decide⟩
    rw [hmoves.cc_eq]
    exact .inl le_rfl

theorem levelMayFall_panel {r : Nat} (k : Fin 16) {op : State → State} (h : RecordOutcome r s (op s)) :
    LevelMayFall s.cc (panelOperation k op s).cc := by
  unfold panelOperation
  dsimp only
  rw [(moves_dimEnded k _ _).cc_eq]
  have hop : LevelMayFall s.cc (op s).cc := levelMayFall_record h
  exact hop

/-! ### A relief -/

/-- The level, the sensor hold and the relief count stay. -/
def LevelSame (s t : State) : Prop := t.cc.level = s.cc.level ∧ t.cc.sensorHold = s.cc.sensorHold ∧ t.cc.relief = s.cc.relief

theorem LevelSame.trans (h : LevelSame s t) (k : LevelSame t u) : LevelSame s u :=
  ⟨k.1.trans h.1, k.2.1.trans h.2.1, k.2.2.trans h.2.2⟩

/-- A full evaluation lowers the level by the fifth relief alone (R34). -/
theorem evaluateFull_lowers (h : levelCode (evaluateFull s).cc.level < levelCode s.cc.level) : 4 ≤ s.cc.relief ∧ s.cc.sensorHold = false := by
  have hsame : ∀ t : State, t.cc.level = s.cc.level → ¬levelCode (updateBudget t).cc.level < levelCode s.cc.level := fun t e h => by
    obtain ⟨b, eb⟩ := updateBudget_cc t
    rw [eb, ← e] at h
    exact absurd h (lt_irrefl _)
  unfold evaluateFull at h
  dsimp only at h
  split at h
  · exact absurd h (hsame _ (by rfl))
  · rename_i hhold
    refine ⟨?_, by simpa [reckon, withCc] using hhold⟩
    split at h
    · rename_i hraise
      obtain ⟨hle, -⟩ | ⟨-, -, hh, -⟩ := levelKept_raiseNow hraise
      · exact absurd (lt_of_lt_of_le h hle) (lt_irrefl _)
      · obtain ⟨b, e⟩ := moveLevel_cc (combinedTarget (reckon s).cc) (raiseCause (reckon s).cc (combinedTarget (reckon s).cc))
          (withCc (fun c => { c with relief := 0, ceiling := none }) (reckon s))
        unfold raiseNow at hh
        dsimp only at hh
        rw [e] at hh
        exact absurd hh hhold
    · unfold relieve at h
      dsimp only at h
      split at h
      · exact absurd h (hsame _ (by rfl))
      split at h
      · assumption
      · exact absurd h (hsame _ (by rfl))

theorem minuteEnd_lowers (h : levelCode (minuteEnd s).cc.level < levelCode s.cc.level) : 4 ≤ s.cc.relief ∧ s.cc.sensorHold = false := by
  have h1 : LevelSame s (closeMinute s) := ⟨rfl, rfl, rfl⟩
  have h2 : LevelSame (closeMinute s) (fallbackLookup (closeMinute s)) := by
    unfold fallbackLookup
    split
    · split
      · exact ⟨rfl, rfl, rfl⟩
      · exact ⟨rfl, rfl, rfl⟩
    · exact ⟨rfl, rfl, rfl⟩
  have h3 : LevelSame (fallbackLookup (closeMinute s)) (ocvResync (fallbackLookup (closeMinute s))) := by
    unfold ocvResync
    split
    · dsimp only
      split
      · exact ⟨rfl, rfl, rfl⟩
      · exact ⟨rfl, rfl, rfl⟩
    · exact ⟨rfl, rfl, rfl⟩
  obtain ⟨hl, hh, hr⟩ := (h1.trans h2).trans h3
  rw [← hr, ← hh]
  exact evaluateFull_lowers (hl ▸ h)

/-! ### Every command -/

/-- The commands that may move the level. -/
def mayMoveLevel : Instr → Bool
  | .conversion _ _ | .suspectChannel _ | .clearSuspect _ | .minuteEnd | .horizonChange _ | .standby | .put _ _ _ _ | .fieldWrite _ _
  | .exchange _ _ _ _ | .compareWrite _ _ _ _ _ | .adjust _ _ _ _ | .recordWrite _ _ | .batteryWrite _ | .channelsWrite _ => true
  | _ => false

/-- None of the areas is the CC's, nor a record's write. -/
def chargesNone (as : List Area) : Bool := as.all fun a => match a with | .cc => false | _ => true

theorem chargesNone_append {as bs : List Area} (ha : chargesNone as = true) (hb : chargesNone bs = true) : chargesNone (as ++ bs) = true := by
  rw [chargesNone, List.all_append]
  exact Bool.and_eq_true_iff.2 ⟨ha, hb⟩

theorem cc_not_mem (h : chargesNone as = true) : .cc ∉ partsOf as ++ everyEvent := by
  have hparts : .cc ∉ partsOf as := fun hm => by
    obtain ⟨a, ha, hp⟩ := List.mem_flatMap.1 hm
    have hne := List.all_eq_true.1 h a ha
    cases a with
    | cc => cases hne
    | poked r =>
      unfold Area.parts at hp
      split at hp <;> simp_all
    | _ => exact absurd hp (by decide)
  simpa [everyEvent] using hparts

theorem chargesNone_areasOf {i : Instr} (h : mayMoveLevel i = false) : chargesNone (areasOf i) = true := by
  cases i
  case conversion | suspectChannel | clearSuspect | minuteEnd | horizonChange | standby | put | fieldWrite | exchange | compareWrite
    | adjust | recordWrite | batteryWrite | channelsWrite => cases h
  all_goals rfl

theorem effect_cc {i : Instr} (hreset : mayReset i = false) (h : mayMoveLevel i = false) (s : State) : (effect i s).cc = s.cc :=
  (moves_effect i hreset s).cc_eq (cc_not_mem (chargesNone_append (chargesNone_areasOf h) (by split <;> rfl)))

/-- A command's effect lowers the level by the fifth relief or by the sensor hold alone. -/
theorem effect_lowers (i : Instr) (hreset : mayReset i = false)
    (h : levelCode (effect i s).cc.level < levelCode s.cc.level) :
    ((i = .minuteEnd ∨ ∃ m, i = .horizonChange m) ∧ 4 ≤ s.cc.relief ∧ s.cc.sensorHold = false) ∨ HoldLowers s.cc (effect i s).cc := by
  by_cases hmay : mayMoveLevel i = true
  · have of_mayFall : LevelMayFall s.cc (effect i s).cc → HoldLowers s.cc (effect i s).cc := fun hm =>
      hm.resolve_left fun hle => absurd (lt_of_lt_of_le h hle) (lt_irrefl _)
    cases i
    case minuteEnd => exact .inl ⟨.inl rfl, minuteEnd_lowers h⟩
    case horizonChange m => exact .inl ⟨.inr ⟨m, rfl⟩, evaluateFull_lowers (s := withCc (fun c => { c with horizon := m }) s) h⟩
    case conversion ch code => exact .inr (of_mayFall (levelMayFall_convert ch code s))
    case suspectChannel n => exact .inr (of_mayFall (levelMayFall_setHostMark n true s))
    case clearSuspect n => exact .inr (of_mayFall (levelMayFall_setHostMark n false s))
    case standby => exact .inr (of_mayFall (levelKept_standby s).mayFall)
    case put r e x vs => exact .inr (of_mayFall (levelMayFall_record (putOp_outcome r e x vs s)))
    case fieldWrite r ws => exact .inr (of_mayFall (levelMayFall_record (fieldWriteOp_outcome r ws s)))
    case adjust record f e d =>
      cases record with
      | host r => exact .inr (of_mayFall (levelMayFall_record (adjustOp_outcome r f e d s)))
      | panel k r => exact .inr (of_mayFall (levelMayFall_panel k (adjustOp_outcome r f e d s)))
    case exchange r f e v => exact .inr (of_mayFall (levelMayFall_record (exchangeOp_outcome r f e v s)))
    case compareWrite r f e x v => exact .inr (of_mayFall (levelMayFall_record (compareOp_outcome r f e x v s)))
    case recordWrite p ws => exact .inr (of_mayFall (levelMayFall_record (fieldWriteOp_outcome (plainId p) ws s)))
    case batteryWrite ws => exact .inr (of_mayFall (levelMayFall_record (fieldWriteOp_outcome 3 ws s)))
    case channelsWrite ws => exact .inr (of_mayFall (levelMayFall_record (fieldWriteOp_outcome 8 ws s)))
    all_goals cases hmay
  · rw [effect_cc hreset (by simpa using hmay)] at h
    exact absurd h (lt_irrefl _)

/-! ### The handings are held -/

theorem exec_lightLevelChange (l : ShedLevel) (h : s.mc.supply = .running) :
    exec (.lightLevelChange l) s = .next (close s (lightsLevel l (startEvent (.lightLevelChange l) s))) := exec_running h rfl

theorem lightOf_close (s t : State) (i : Fin 6) : lightOf (close s t) i = lightOf t i := by
  unfold lightOf
  rw [close_lc]

theorem appliedLevel_close (s t : State) (i : Fin 6) : appliedLevel (close s t) i = appliedLevel t i :=
  appliedLevel_congr (by rw [close_cfg]) (fun g => by rw [close_asked]) (by rw [close_lc]) (by rw [close_lc]) (by rw [close_lc])
    (fun g => by rw [close_lc]) (by rw [lightOf_close])

theorem appliedLevel_applyLevels (s : State) (i : Fin 6) : appliedLevel (applyLevels s) i = appliedLevel s i :=
  appliedLevel_congr rfl (fun _ => rfl) rfl rfl rfl (fun _ => rfl) (by rw [lightOf_applyLevels])

/-- The lights take a level, every applied level formed again. -/
theorem lightsLevel_held (l : ShedLevel) (s : State) : (lightsLevel l s).lc.level = l ∧ (lightsLevel l s).asked = s.asked
    ∧ ∀ i, (lightOf (lightsLevel l s) i).applied = appliedLevel (lightsLevel l s) i
        ∧ (lightOf (lightsLevel l s) i).faded = (lightOf s i).faded ∧ (lightOf (lightsLevel l s) i).target = (lightOf s i).target := by
  refine ⟨rfl, rfl, fun i => ?_⟩
  unfold lightsLevel
  rw [appliedLevel_applyLevels, lightOf_applyLevels]
  exact ⟨rfl, rfl, rfl⟩

end Sys2Proof.Machine

namespace Sys2Proof.Proofs

open Sys2Proof Sys2Proof.Machine

/-- Settles O12: every move of the level hands it with its budget, later moves keep the handings, and only a relief and the sensor hold
lower it. -/
theorem levelChangeIsHandedAndHeld : Obligations.LevelChangeIsHandedAndHeld := by
  have hfits : ∀ {i : Instr} {s t : State} {p : Part}, footprint s i = [p] → exec i s = .next t → changesOnly (p :: everyEvent) s t :=
    fun {i s t p} hp h => by
      have hc := exec_changesOnly h
      rw [hp] at hc
      exact hc
  refine ⟨fun i s t hrun hreset h hlevel => ?_, ⟨fun l s hrun => ?_, fun l s hrun => ?_, fun l s hrun => ?_⟩,
    fun i s t hrun hreset h hlevel => ?_⟩
  · rw [exec_running hrun hreset] at h
    obtain rfl := Host.Outcome.next.inj h
    have htold : LevelTold (startEvent i s) (close s (effect i (startEvent i s))) :=
      (moves_effect i hreset _).levelTold.trans (moves_close s _).levelTold
    obtain ⟨hsame, -⟩ | htold := htold
    · exact absurd hsame hlevel
    · exact ⟨htold (by simp [levelHandings]), htold (by simp [levelHandings]), htold (by simp [levelHandings]),
        htold (by simp [levelHandings])⟩
  · refine ⟨_, exec_running hrun rfl, ?_, hfits rfl (exec_running hrun rfl)⟩
    rw [close_heaterCore]
    rfl
  · refine ⟨_, exec_running hrun rfl, ?_, hfits rfl (exec_running hrun rfl)⟩
    rw [close_fc, settle_fc_of_same]
    · rfl
    · rfl
  · obtain ⟨hl, hasked, happlied⟩ := lightsLevel_held l (startEvent (.lightLevelChange l) s)
    refine ⟨_, exec_lightLevelChange l hrun, by rw [close_lc]; exact hl, by rw [close_asked]; exact hasked, fun i => ?_⟩
    rw [lightOf_close, appliedLevel_close]
    exact happlied i
  · rw [exec_running hrun hreset] at h
    obtain rfl := Host.Outcome.next.inj h
    rw [close_cc] at hlevel ⊢
    exact effect_lowers i hreset hlevel

end Sys2Proof.Proofs
end

section
/-! PROOFS. What a run of moves leaves by its areas, what an event without an effect leaves, and the Measurement Unit's scan. -/

namespace Sys2Proof.Machine

-- One proof after another: started together they wait for one another, each on a thread of its own.
set_option Elab.async false

variable {s t u : State} {as : List Area}

/-! ### Frames of a run -/

theorem Moves.cfg_eq (h : Moves as s t) (hav : .cfg ∉ partsOf as ++ everyEvent := by decide) : t.cfg = s.cfg := h.frame .cfg hav
theorem Moves.mu_core (h : Moves as s t) (hav : .mu ∉ partsOf as ++ everyEvent := by decide) : measureCore t.mu = measureCore s.mu :=
  h.frame .mu hav
theorem Moves.ga_eq (h : Moves as s t) (hav : .ga ∉ partsOf as ++ everyEvent := by decide) : t.ga = s.ga := h.frame .ga hav
theorem Moves.asked_eq (h : Moves as s t) (hav : .asked ∉ partsOf as ++ everyEvent := by decide) : t.asked = s.asked :=
  h.frame .asked hav
theorem Moves.hc_core (h : Moves as s t) (hav : .hc ∉ partsOf as ++ everyEvent := by decide) : heaterCore t.hc = heaterCore s.hc :=
  h.frame .hc hav
theorem Moves.fc_eq (h : Moves as s t) (hav : .fc ∉ partsOf as ++ everyEvent := by decide) : t.fc = s.fc := h.frame .fc hav
theorem Moves.lc_eq (h : Moves as s t) (hav : .lc ∉ partsOf as ++ everyEvent := by decide) : t.lc = s.lc := h.frame .lc hav
theorem Moves.pn_eq (h : Moves as s t) (hav : .pn ∉ partsOf as ++ everyEvent := by decide) : t.pn = s.pn := h.frame .pn hav
theorem Moves.rm_eq (h : Moves as s t) (hav : .rm ∉ partsOf as ++ everyEvent := by decide) : t.rm = s.rm := h.frame .rm hav
theorem Moves.su_eq (h : Moves as s t) (hav : .su ∉ partsOf as ++ everyEvent := by decide) : t.su = s.su := h.frame .su hav
theorem Moves.lk_eq (h : Moves as s t) (hav : .lk ∉ partsOf as ++ everyEvent := by decide) : t.lk = s.lk := h.frame .lk hav
theorem Moves.answer_eq (h : Moves as s t) (hav : .answer ∉ partsOf as ++ everyEvent := by decide) : t.answer = s.answer :=
  h.frame .answer hav

theorem Moves.chan_eq (h : Moves as s t) (hav : .mu ∉ partsOf as ++ everyEvent := by decide) : t.mu.chan = s.mu.chan :=
  chan_eq_of_measureCore (h.mu_core hav)

theorem Moves.scanLeft_eq (h : Moves as s t) (hav : .mu ∉ partsOf as ++ everyEvent := by decide) : t.mu.scanLeft = s.mu.scanLeft :=
  (congrArg MeasureUnit.scanLeft (h.mu_core hav) :)

/-- A mark for the next scan stands until a scan begins (R186). -/
theorem Moves.rescan (h : Moves as s t) (hs : s.mu.rescan = true) (hav : .mu ∉ as := by decide) : t.mu.rescan = true := by
  refine h.keeps (P := fun s => s.mu.rescan = true) (fun s t m hs => ?_) hs
  cases m with
  | rescan b _ hb => exact hb hs
  | measure m _ ha => exact absurd ha hav
  | _ => simpa using hs

/-! ### An event whose effect changes no output -/

/-- An event that switches no output leaves what its effect leaves (but for the mode, the revisions and the handings). -/
theorem close_changesOnly_of_outputs {ps : List Part} (h : changesOnly (ps ++ everyEvent) s t) (hout : SameOutputs s t)
    (hwoken : t.mc.woken = false) : changesOnly (ps ++ everyEvent) s (close s t) :=
  close_changesOnly h (fun _ => hout.compsAfter_eq) (fun _ => (hout.energized_eq (c := .t2) List.mem_cons_self).symm) fun _ => hwoken

/-- A command without an effect leaves everything (but for the mode, the revisions and the handings). -/
theorem exec_idle {i : Instr} (hrun : s.mc.supply = .running) (hreset : mayReset i = false)
    (he : effect i (startEvent i s) = startEvent i s) :
    exec i s = .next (close s (startEvent i s)) ∧ changesOnly everyEvent s (close s (startEvent i s)) := by
  refine ⟨he ▸ exec_running hrun hreset, ?_⟩
  exact close_changesOnly_of_outputs (ps := []) (startEvent_changesOnly i s) (SameOutputs.refl _).start rfl

/-- A command that only answers leaves everything else (but for the mode, the revisions and the handings). -/
theorem exec_answers {i : Instr} (hrun : s.mc.supply = .running) (hreset : mayReset i = false) {st : Status} {d : List Byte}
    (he : effect i (startEvent i s) = answer st d (startEvent i s)) :
    ∃ t, exec i s = .next t ∧ t.answer = some ⟨st, d⟩ ∧ changesOnly (.answer :: everyEvent) s t := by
  refine ⟨_, he ▸ exec_running hrun hreset, by rw [close_answer]; rfl, ?_⟩
  have hstart := (startEvent_changesOnly i s).mono (List.subset_append_right [.answer] everyEvent)
  have hanswer : changesOnly ([.answer] ++ everyEvent) (startEvent i s) (answer st d (startEvent i s)) :=
    (moves_answer st d (startEvent i s)).frame
  have hout : SameOutputs (startEvent i s) (answer st d (startEvent i s)) := .of_blocks rfl rfl rfl rfl rfl rfl rfl
  exact close_changesOnly_of_outputs (hstart.trans hanswer) hout.start rfl

/-! ### The scan -/

theorem close_scanLeft (s t : State) : (close s t).mu.scanLeft = t.mu.scanLeft := by
  obtain ⟨b, e⟩ := close_mu s t
  rw [e]

theorem chanIx_inj {c d : Channel} (h : chanIx c = chanIx d) : c = d := by
  cases c <;> cases d <;> first | rfl | exact absurd h (by decide)

theorem close_scanMode (s t : State) : (close s t).mu.scanMode = t.mu.scanMode := by
  obtain ⟨b, e⟩ := close_mu s t
  rw [e]

theorem chanOf_close (s t : State) (ch : Channel) : chanOf (close s t) ch = chanOf t ch := by
  unfold chanOf
  rw [close_mu_chan]

theorem leaveScan_scanLeft (chs : List Channel) (s : State) :
    (leaveScan chs s).mu.scanLeft = s.mu.scanLeft.filter fun ch => !(chs.contains ch) := by
  obtain e | ⟨-, -, -, e | e⟩ := leaveScan_cases chs s <;> rw [e] <;> rfl

/-- What a conversion leaves before its channel leaves the scan: the channels' entries with its own changed, and the scan. -/
theorem moves_reported (ch : Channel) (code : Nat) (s : State) :
    let old := statusOf s ch
    let s1 := setChannel ch (convertEntry ch (tget s.cfg.chan (chanIx ch)).k code (chanOf s ch)) s
    Moves (.fc :: .leave :: statusAreas) s1 (sampleReport ch old (sensorNotice ch old s1)) := by
  intro old s1
  rw [sampleReport_eq]
  exact ((moves_sensorNotice ch old s1).mono.step (moves_statusChange ch old _)).step (moves_sampleTaken ch _)

theorem convert_eq {ch : Channel} (code : Nat) (h : s.mu.scanLeft.head? = some ch) :
    convert ch code s = leaveScan [ch] (sampleReport ch (statusOf s ch) (sensorNotice ch (statusOf s ch)
      (setChannel ch (convertEntry ch (tget s.cfg.chan (chanIx ch)).k code (chanOf s ch)) s))) := by
  rw [convert, if_pos h]

theorem convert_scanLeft {ch : Channel} (code : Nat) (h : s.mu.scanLeft.head? = some ch) :
    (convert ch code s).mu.scanLeft = s.mu.scanLeft.filter (· != ch) := by
  rw [convert_eq code h, leaveScan_scanLeft, (moves_reported ch code s).scanLeft_eq]
  refine List.filter_congr fun c _ => ?_
  by_cases hc : c = ch <;> simp [hc]

/-- The last conversion of a scan during which the mode has changed hands the next scan (R186). -/
theorem convert_rescans {ch : Channel} (code : Nat) (h : s.mu.scanLeft = [ch]) (hrescan : s.mu.rescan = true) :
    .scanStart ∈ (convert ch code s).handed := by
  rw [convert_eq code (by rw [h]; rfl)]
  have hm := moves_reported ch code s
  have hleft := hm.scanLeft_eq
  have hmark := hm.rescan hrescan
  revert hleft hmark
  generalize sampleReport ch _ _ = v
  intro hleft hmark
  have hscan : v.mu.scanLeft = [ch] := hleft.trans h
  unfold leaveScan
  dsimp only
  rw [hscan, if_pos ⟨by simp, by simp, hmark⟩]
  exact mem_raise _ _

/-! ### The entry of a converted channel -/

theorem statusFrom_eq (converted : Bool) (e : ChanEntry) : statusFrom converted e =
    if converted = false ∨ (e.sample = none ∧ e.rangeMark = false) then .stale
    else if e.rangeMark = true ∨ e.hostMark = true then .suspect else .valid := by
  unfold statusFrom
  simp only [Bool.or_eq_true, Bool.and_eq_true, Bool.not_eq_true', Option.isNone_iff_eq_none]

theorem convertedEntry_status (ch : Channel) (code : Nat) (s : State) : (convertedEntry ch code s).status =
    if isConverted s ch = false ∨ ((convertedEntry ch code s).sample = none ∧ (convertedEntry ch code s).rangeMark = false) then .stale
    else if (convertedEntry ch code s).rangeMark = true ∨ (convertedEntry ch code s).hostMark = true then .suspect else .valid :=
  statusFrom_eq (isConverted s ch) (convertEntry ch (tget s.cfg.chan (chanIx ch)).k code (chanOf s ch))

/-- A conversion of the scan's next channel, as the running part takes it: the entries and the scan it leaves. -/
theorem exec_conversion_mu {ch : Channel} (code : Nat) (hrun : s.mc.supply = .running) (hnext : s.mu.scanLeft.head? = some ch) :
    ∃ t, exec (.conversion ch code) s = .next t ∧ chanOf t ch = convertedEntry ch code s
      ∧ t.mu.scanLeft = s.mu.scanLeft.filter (· != ch) ∧ ∀ c, c ≠ ch → chanOf t c = chanOf s c := by
  have hchan := convert_chan ch code (startEvent (.conversion ch code) s) hnext
  refine ⟨_, exec_running hrun rfl, ?_, ?_, fun c hc => ?_⟩
  · rw [chanOf_close, chanOf]
    change tget (convert ch code _).mu.chan _ = _
    rw [hchan, tget_tset_same]
    rfl
  · rw [close_scanLeft]
    exact convert_scanLeft code hnext
  · rw [chanOf_close, chanOf]
    change tget (convert ch code _).mu.chan _ = _
    rw [hchan, tget_tset_of_ne _ _ fun e => hc (chanIx_inj e).symm]
    rfl

/-! ### Scans begin, and host marks -/

theorem sampledIn_eq (m : Mode) (ch : Channel) : sampledIn m ch = (m != .standby || ch == .vh || ch == .ih || ch == .vs) := by
  cases m <;> cases ch <;> rfl

theorem scanOf_eq (cfg : Settings) (m : Mode) : scanOf cfg m = allChannels.filter (fun ch => (tget cfg.chan (chanIx ch)).enabled
    && (m != .standby || ch == .vh || ch == .ih || ch == .vs)) := by
  simp only [scanOf, sampledIn_eq]

/-- The status of a channel whose host mark is set or cleared (R7, R9). -/
def markedEntry (ch : Channel) (mark : Bool) (s : State) : ChanEntry :=
  let e := { chanOf s ch with hostMark := mark }
  { e with status := statusFrom (isConverted s ch) e }

theorem setHostMark_eq {n : Nat} {ch : Channel} (hn : channelById n = some ch) (mark : Bool) (s : State) :
    setHostMark n mark s = answer .ok [] (statusReport ch (statusOf s ch) (sensorNotice ch (statusOf s ch)
      (setChannel ch { chanOf s ch with hostMark := mark } s))) := by
  rw [setHostMark, hn]

theorem setHostMark_chan {n : Nat} {ch : Channel} (hn : channelById n = some ch) (mark : Bool) (s : State) :
    (setHostMark n mark s).mu.chan = tset s.mu.chan (chanIx ch) (markedEntry ch mark s) := by
  rw [setHostMark_eq hn, answer_mu, (moves_statusReport ch _ _).chan_eq, (moves_sensorNotice ch _ _).chan_eq]
  rfl

theorem channelById_chanIx (ch : Channel) : channelById (chanIx ch).1 = some ch := by
  cases ch <;> rfl

theorem channelById_none {n : Nat} (h : 6 < n) : channelById n = none :=
  List.getElem?_eq_none h

theorem effect_mark (n : Nat) (mark : Bool) (s : State) :
    effect (if mark then .suspectChannel n else .clearSuspect n) s = setHostMark n mark s := by
  cases mark <;> rfl

theorem markReset (n : Nat) (mark : Bool) : mayReset (if mark then .suspectChannel n else .clearSuspect n) = false := by
  cases mark <;> rfl

theorem markedEntry_status (ch : Channel) (mark : Bool) (s : State) : (markedEntry ch mark s).status =
    if isConverted s ch = false ∨ ((chanOf s ch).sample = none ∧ (chanOf s ch).rangeMark = false) then .stale
    else if (chanOf s ch).rangeMark = true ∨ mark = true then .suspect else .valid :=
  statusFrom_eq (isConverted s ch) { chanOf s ch with hostMark := mark }

/-- A host mark of a channel, as the running part takes it. -/
theorem exec_mark {n : Nat} {ch : Channel} (hn : channelById n = some ch) (mark : Bool) (hrun : s.mc.supply = .running) :
    ∃ t, exec (if mark then .suspectChannel n else .clearSuspect n) s = .next t ∧ t.answer = some ⟨.ok, []⟩
      ∧ chanOf t ch = markedEntry ch mark s ∧ ∀ c, c ≠ ch → chanOf t c = chanOf s c := by
  have hchan := setHostMark_chan hn mark (startEvent (if mark then .suspectChannel n else .clearSuspect n) s)
  refine ⟨_, exec_running hrun (markReset n mark), ?_, ?_, fun c hc => ?_⟩ <;> rw [effect_mark]
  · rw [close_answer, setHostMark_eq hn]
    rfl
  · rw [chanOf_close, chanOf, hchan, tget_tset_same]
    rfl
  · rw [chanOf_close, chanOf, hchan, tget_tset_of_ne _ _ fun e => hc (chanIx_inj e).symm]
    rfl

/-- A start bit in DOZE during a scan marks the next one (R187, R189). -/
theorem startBit_doze (hmode : s.mc.mode = .doze) (hscan : s.mu.scanLeft ≠ []) :
    (startBit s).mc.mode = .awake ∧ (startBit s).mc.silence = 0 ∧ (startBit s).mu.rescan = true := by
  have e : startBit s = enterAwake (withMc (fun m => { m with silence := 0 }) s) := by
    unfold startBit wakeFromDoze
    rw [hmode]
    change (match s.mc.mode with | .doze => _ | .awake => _ | .standby => _) = _
    rw [hmode]
  rw [e]
  refine ⟨by rw [enterAwake_mc], by rw [enterAwake_mc], ?_⟩
  change (setMode .awake { s with mc := { s.mc with silence := 0 } }).mu.rescan = true
  unfold setMode
  dsimp only
  split
  · exact absurd ‹_› hscan
  · rfl

/-- The close of an event in which no condition of DOZE is met leaves the mode and the scan's mark. -/
theorem close_awake (h : u.mc.silence = 0) : (close s u).mc = u.mc ∧ (close s u).mu.rescan = u.mu.rescan := by
  have hno : dozeCheck (settle s u) = settle s u := by
    unfold dozeCheck
    rw [if_neg]
    intro hready
    have hsil := (dozeAllowed_of_ready hready).2.1
    rw [settle_mc, h] at hsil
    exact absurd hsil (by decide)
  unfold close
  rw [advance_mc, ownerEvent_mc, advance_mu, ownerEvent_mu, hno]
  exact ⟨rfl, rfl⟩

end Sys2Proof.Machine

namespace Sys2Proof.Proofs

open Sys2Proof Sys2Proof.Machine

/-- Settles O22: a conversion that is not the scan's next has no effect, and of the next one the users leave the entry that R4 to R8
give. -/
theorem conversionFiltersAndJudgesStatus : Obligations.ConversionFiltersAndJudgesStatus := by
  refine ⟨fun ch code s hrun hnext => ?_, fun ch code s hrun hnext hcode => ?_⟩
  · exact ⟨_, exec_idle hrun rfl (if_neg hnext)⟩
  · obtain ⟨t, hexec, hentry, hscan, hothers⟩ := exec_conversion_mu code hrun hnext
    have hstatus := convertedEntry_status ch code s
    have hin : 16 ≤ code → code ≤ 4079 → rangeKindOf code = .inRange := rangeKindOf_inRange
    refine ⟨t, hexec, fun hlo hhi v hv => ?_, fun hlo hhi hmark => ?_, fun hlo hhi hmark => ?_, fun hout => ?_, ?_, ?_, hscan, hothers⟩
    · rw [hentry, convertedEntry, convertEntry_inRange _ _ _ (hin hlo hhi)] at hv ⊢
      obtain rfl := Option.some.inj hv
      unfold filterStep
      cases (chanOf s ch).filtered <;> rfl
    · rw [hentry, convertedEntry, convertEntry_inRange _ _ _ (hin hlo hhi)]
      by_cases hc : (chanOf s ch).inCount + 1 < 10
      · have hno : ¬10 ≤ (chanOf s ch).inCount + 1 := by omega
        simp [hmark, hc, hno]
      · have hyes : 10 ≤ (chanOf s ch).inCount + 1 := by omega
        simp [hmark, hc, hyes]
    · rw [hentry, convertedEntry, convertEntry_inRange _ _ _ (hin hlo hhi)]
      simp [hmark]
    · have hne : rangeKindOf code ≠ .inRange := by
        rw [rangeKindOf_outOfRange hout]
        split <;> decide
      rw [hentry, convertedEntry, convertEntry_outOfRange _ _ _ hne]
    · rw [hentry]
      unfold convertedEntry convertEntry
      dsimp only
      split <;> rfl
    · rw [hentry]
      exact hstatus

/-- Settles O23: a scan begins where none is in progress, a mode changed during one is taken up at its end, and a host mark changes its
channel's entry alone. -/
theorem scansAndHostMarks : Obligations.ScansAndHostMarks := by
  refine ⟨⟨fun s hrun hscan => ?_, fun s hrun hscan => ?_⟩, fun ch code s hrun hscan hrescan => ?_, fun s hrun hmode hscan => ?_,
    fun n ch mark s hrun hn => ?_, fun n mark s hrun hn => ?_⟩
  · have e : effect .scanStart (startEvent .scanStart s) = withMu (fun m =>
        { m with scanMode := s.mc.mode, scanLeft := scanOf s.cfg s.mc.mode, rescan := false }) (startEvent .scanStart s) := by
      change startScan _ = _
      unfold startScan
      split
      · rfl
      · rename_i hcons
        exact absurd (hscan.symm.trans hcons) (by simp)
    refine ⟨_, e ▸ exec_running hrun rfl, ?_, ?_, ?_⟩
    · rw [close_scanMode]
      rfl
    · rw [close_scanLeft, ← scanOf_eq]
      rfl
    · rw [close_mu_chan]
      rfl
  · have e : effect .scanStart (startEvent .scanStart s) = startEvent .scanStart s := by
      change startScan _ = _
      unfold startScan
      split
      · exact absurd ‹_› hscan
      · rfl
    obtain ⟨hexec, hchanges⟩ := exec_idle hrun rfl e
    exact ⟨_, hexec, hchanges .mu (by decide)⟩
  · refine ⟨_, exec_running hrun rfl, ?_, mem_close_of_mem (convert_rescans code hscan hrescan)⟩
    rw [close_scanLeft]
    refine (convert_scanLeft code (by rw [startEvent_mu, hscan]; rfl)).trans ?_
    rw [startEvent_mu, hscan]
    simp
  · obtain ⟨hawake, hsil, hrescan⟩ := startBit_doze (s := startEvent .rxStartBit s) hmode hscan
    obtain ⟨hmc, hmu⟩ := close_awake (s := s) hsil
    exact ⟨_, exec_running hrun rfl, (congrArg ModeUnit.mode hmc).trans hawake, hmu.trans hrescan⟩
  · obtain ⟨t, hexec, hanswer, hentry, hothers⟩ := exec_mark (hn ▸ channelById_chanIx ch) mark hrun
    refine ⟨t, hexec, hanswer, ?_, ?_, ?_, ?_, ?_, hothers⟩ <;> rw [hentry]
    case refine_5 => exact markedEntry_status ch mark s
    all_goals rfl
  · obtain ⟨t, hexec, hanswer, hchanges⟩ := exec_answers (st := .range) (d := []) hrun (markReset n mark)
      (by rw [effect_mark, setHostMark, channelById_none hn])
    exact ⟨t, hexec, hanswer, chan_eq_of_measureCore (hchanges .mu (by decide)), hchanges⟩

end Sys2Proof.Proofs
end

section
/-! PROOFS. The power-on reset and the settings store. -/

namespace Sys2Proof.Machine

-- One proof after another: started together they wait for one another, each on a thread of its own.
set_option Elab.async false

variable {s t u : State} {as : List Area}

/-! ### What a reset of the part leaves -/

section Reset

variable (kind : ResetKind) (m : ModeUnit) (cc : Settings → ChargeUnit) (offset : Int) (unset : Bool) (s : State)

theorem tget_rev_resetPart (r : Fin 26) : tget (resetPart kind m cc offset unset s).rev r = 0 := by
  change tget revReset r = 0
  revert r
  decide

theorem grantSum_resetPart : grantSum (resetPart kind m cc offset unset s) = 0 := by
  unfold grantSum
  simp [entryOf_resetPart_grant]

theorem compOf_resetPart_state (c : Comparator) : (compOf (resetPart kind m cc offset unset s) c).state =
    if tget (resetPart kind m cc offset unset s).cfg.thresholds (compIx c) = 0 then .disabled else .off := by
  cases c <;> rfl

theorem notices_resetPart : (resetPart kind m cc offset unset s).lk.notices.map (·.kind) =
    if (resetPart kind m cc offset unset s).mc.settingsValid && (resetPart kind m cc offset unset s).mc.heaterValid
      then [.resetDone] else [.resetDone, .settingsDefaulted] := by
  change (resetNotices _ _ (m.settingsPart.isNone || m.heaterPart.isNone)).map (·.kind) =
    if m.settingsPart.isSome && m.heaterPart.isSome then _ else _
  unfold resetNotices
  cases m.settingsPart <;> cases m.heaterPart <;> rfl

theorem cfg_resetPart_some {img : Image} (h : m.settingsPart = some img) :
    (resetPart kind m cc offset unset s).cfg = img.settings ∧ (resetPart kind m cc offset unset s).mc.settingsValid = true := by
  refine ⟨?_, ?_⟩
  · change (match m.settingsPart with | some img => img.settings | none => settingsDefault) = _
    rw [h]
  · change m.settingsPart.isSome = true
    rw [h]
    rfl

theorem cfg_resetPart_none (h : m.settingsPart = none) :
    (resetPart kind m cc offset unset s).cfg = settingsDefault ∧ (resetPart kind m cc offset unset s).mc.settingsValid = false := by
  refine ⟨?_, ?_⟩
  · change (match m.settingsPart with | some img => img.settings | none => settingsDefault) = _
    rw [h]
  · change m.settingsPart.isSome = false
    rw [h]
    rfl

theorem hc_resetPart_some {p : HeaterPart} (h : m.heaterPart = some p) :
    (resetPart kind m cc offset unset s).hc = heaterReset p ∧ (resetPart kind m cc offset unset s).mc.heaterValid = true := by
  refine ⟨?_, ?_⟩
  · change heaterReset (m.heaterPart.getD heaterPartDefault) = _
    rw [h]
    rfl
  · change m.heaterPart.isSome = true
    rw [h]
    rfl

theorem hc_resetPart_none (h : m.heaterPart = none) :
    (resetPart kind m cc offset unset s).hc = heaterReset heaterPartDefault
      ∧ (resetPart kind m cc offset unset s).mc.heaterValid = false := by
  refine ⟨?_, ?_⟩
  · change heaterReset (m.heaterPart.getD heaterPartDefault) = _
    rw [h]
    rfl
  · change m.heaterPart.isSome = false
    rw [h]
    rfl

end Reset

/-! ### The store's parts as a reset finds them -/

theorem cutStore_settings {m : ModeUnit} (h : m.saving = none) : (cutStore m).settingsPart = m.settingsPart := by simp [cutStore, h]

theorem cutStore_no_settings {m : ModeUnit} (h : m.saving.isSome ∨ m.settingsPart = none) : (cutStore m).settingsPart = none := by
  unfold cutStore
  dsimp only
  split
  · rfl
  · rename_i hno
    exact h.resolve_left hno

theorem cutStore_heater {m : ModeUnit} (h : m.heaterWrite = none) : (cutStore m).heaterPart = m.heaterPart := by simp [cutStore, h]

theorem cutStore_no_heater {m : ModeUnit} (h : m.heaterWrite.isSome ∨ m.heaterPart = none) : (cutStore m).heaterPart = none := by
  unfold cutStore
  dsimp only
  split
  · rfl
  · rename_i hno
    exact h.resolve_left hno

theorem powerOn_eq (h : s.mc.supply ≠ .held false) : powerOn s = resetPart .powerOn (cutStore s.mc) ccReset 0 true s := by
  unfold powerOn
  split
  · exact absurd ‹_› h
  · rfl

theorem powerOn_held (h : s.mc.supply = .held false) : powerOn s = s := by
  unfold powerOn
  rw [h]

theorem exec_powerOnReset (s : State) : exec .powerOnReset s = .next (powerOn s) := rfl

/-! ### Entries passed over -/

/-- Only the slots and the handings move. -/
def SlotsMove (s t : State) : Prop := ∃ v hs, t = { s with su := { s.su with slots := v }, handed := hs }

theorem SlotsMove.trans (h : SlotsMove s t) (k : SlotsMove t u) : SlotsMove s u := by
  obtain ⟨v, hs, rfl⟩ := h
  obtain ⟨w, ks, rfl⟩ := k
  exact ⟨w, ks, rfl⟩

theorem passOver_slots (s : State) (k : Fin 8) : SlotsMove s (passOver s k) := by
  unfold passOver
  split
  · exact ⟨s.su.slots, s.handed, rfl⟩
  · exact ⟨_, _, rfl⟩

theorem foldl_slots {α : Type} {f : State → α → State} (hf : ∀ s a, SlotsMove s (f s a)) (xs : List α) (s : State) :
    SlotsMove s (xs.foldl f s) := by
  induction xs generalizing s with
  | nil => exact ⟨s.su.slots, s.handed, rfl⟩
  | cons x xs ih => exact (hf s x).trans (ih _)

theorem restartReset_slots (s : State) : SlotsMove (restarted s) (restartReset s) := by
  unfold restartReset
  dsimp only
  split
  · exact ⟨_, _, rfl⟩
  · exact foldl_slots passOver_slots _ _

/-! ### The MC at the close of an event -/

/-- The judgement for DOZE touches the mode or the silence time alone (R187). -/
theorem close_mc_cases (s u : State) : (close s u).mc = u.mc ∨ (close s u).mc = { u.mc with silence := 0 }
    ∨ (close s u).mc = { u.mc with mode := .doze } := by
  unfold close
  rw [advance_mc, ownerEvent_mc]
  obtain ⟨-, e⟩ | ⟨-, e⟩ | ⟨-, e⟩ := dozeCheck_cases (settle s u) <;> rw [e]
  · exact .inl rfl
  · exact .inr (.inl rfl)
  · exact .inr (.inr (setMode_mc _ _))

/-- A field of the MC that the judgement for DOZE leaves. -/
theorem close_mc_field {α : Type} (g : ModeUnit → α) (hs : ∀ m, g { m with silence := 0 } = g m) (hm : ∀ m, g { m with mode := .doze } = g m)
    (s u : State) : g (close s u).mc = g u.mc := by
  obtain e | e | e := close_mc_cases s u <;> rw [e]
  · exact hs _
  · exact hm _

theorem close_supply (s u : State) : (close s u).mc.supply = u.mc.supply := close_mc_field (·.supply) (fun _ => rfl) (fun _ => rfl) s u
theorem close_restart (s u : State) : (close s u).mc.restart = u.mc.restart := close_mc_field (·.restart) (fun _ => rfl) (fun _ => rfl) s u
theorem close_saving (s u : State) : (close s u).mc.saving = u.mc.saving := close_mc_field (·.saving) (fun _ => rfl) (fun _ => rfl) s u
theorem close_heaterWrite (s u : State) : (close s u).mc.heaterWrite = u.mc.heaterWrite :=
  close_mc_field (·.heaterWrite) (fun _ => rfl) (fun _ => rfl) s u
theorem close_storeBusy (s u : State) : storeBusy (close s u).mc = storeBusy u.mc := by
  unfold storeBusy
  rw [close_saving, close_heaterWrite]

/-! ### A RESTART -/

theorem restartDue_of_waits (h : s.mc.restart ≠ .store ∨ storeBusy s.mc = true) : restartDue s = s := by
  unfold restartDue
  rw [if_neg]
  rintro ⟨-, hstore, hbusy⟩
  exact h.elim (fun hno => hno hstore) fun hb => Bool.false_ne_true (hbusy.symm.trans hb)

theorem restartDue_resets (hrun : s.mc.supply = .running) (h : s.mc.restart = .store) (hbusy : storeBusy s.mc = false) :
    restartDue s = restartReset s := if_pos ⟨hrun, h, hbusy⟩

theorem restart_refused (quiet : Bool) (h1 : s.hc.state ≠ .off) (h2 : s.hc.state ≠ .lockout) (h3 : s.hc.state ≠ .vent) :
    restart quiet s = answer .state [] s := by
  unfold restart
  rw [if_pos]
  cases hst : s.hc.state <;> first | rfl | contradiction

theorem restart_accepted (quiet : Bool) (h : s.hc.state = .off ∨ s.hc.state = .lockout ∨ s.hc.state = .vent) :
    restart quiet s = answer .ok [] (withMc (fun m => { m with restart := if quiet then .store else .reply }) s) := by
  unfold restart
  rw [if_neg]
  obtain h | h | h := h <;> rw [h] <;> decide

/-- A RESTART that is accepted and waits, for its reply or for the store. -/
theorem exec_restart_waits (quiet : Bool) (hrun : s.mc.supply = .running)
    (hst : s.hc.state = .off ∨ s.hc.state = .lockout ∨ s.hc.state = .vent) (hwait : quiet = false ∨ storeBusy s.mc = true) :
    ∃ t, exec (.restart quiet) s = .next t ∧ t.answer = some ⟨.ok, []⟩ ∧ t.mc.restart = (if quiet then .store else .reply)
      ∧ t.cfg = s.cfg ∧ t.lk = s.lk := by
  have e : effect (.restart quiet) (startEvent (.restart quiet) s) =
      answer .ok [] (withMc (fun m => { m with restart := if quiet then .store else .reply }) (startEvent (.restart quiet) s)) :=
    restart_accepted quiet hst
  have hdue := restartDue_of_waits (s := close s (effect (.restart quiet) (startEvent (.restart quiet) s))) (by
    rw [close_restart, close_storeBusy, e]
    exact hwait.imp (fun hq => by simp [hq, withMc]) id)
  refine ⟨_, (exec_restarting hrun rfl).trans (congrArg _ hdue), ?_, ?_, ?_, ?_⟩ <;> rw [e]
  · rw [close_answer]
    rfl
  · rw [close_restart]
    rfl
  · rw [close_cfg]
    rfl
  · rw [close_lk]
    rfl

theorem cabTime_le (s : State) : cabTime s ≤ max32 := Nat.min_le_left _ _

/-- What the reset of a RESTART keeps and sets (R20, R154, R193). -/
theorem restartReset_keeps (s : State) :
    (restartReset s).mc = modeReset .restart (cutStore s.mc).settingsPart (cutStore s.mc).heaterPart
      ∧ (restartReset s).su.elapsed = 0 ∧ cabTime (restartReset s) = cabTime s ∧ (restartReset s).su.unset = s.su.unset
      ∧ (restartReset s).cc = ccRestart s.cc (restartReset s).cfg
      ∧ ((restartReset s).lk.notices.head?.map fun n => (n.kind, n.data)) = some (.resetDone, [1])
      ∧ ∀ r, tget (restartReset s).rev r = 0 := by
  obtain ⟨v, hs, e⟩ := restartReset_slots s
  rw [e]
  refine ⟨rfl, rfl, ?_, rfl, rfl, ?_, fun r => tget_rev_resetPart .restart (cutStore s.mc) (ccRestart s.cc) (cabTime s) s.su.unset s r⟩
  · change min max32 ((0 : Nat) + (cabTime s : Int)).toNat = cabTime s
    have hle := cabTime_le s
    omega
  · change ((resetNotices .restart _ _).head?.map fun n => (n.kind, n.data)) = _
    unfold resetNotices
    dsimp only
    split <;> rfl

/-! ### The store's writes -/

theorem settingsWritten_eq {img : Image} (h : s.mc.saving = some img) : settingsWritten s =
    answer .ok [] (withMc (fun m => { m with settingsPart := some img, settingsValid := true, saving := none }) s) := by
  rw [settingsWritten, h]

theorem heaterWritten_eq {p : HeaterPart} (h : s.mc.heaterWrite = some p) : heaterWritten s =
    withMc (fun m => { m with
      heaterPart := some p, heaterValid := true,
      heaterWrite := if m.heaterAgain then some (heaterPartOf s.hc) else none, heaterAgain := false }) s := by
  rw [heaterWritten, h]

/-- The write's end answers the save, and then the reply begins where the save is the request in hand. -/
theorem storeWritten_settings (h : s.mc.saving.isSome) :
    storeWritten .settings s = settingsWritten s ∨ storeWritten .settings s = deliver (settingsWritten s) := by
  unfold storeWritten
  dsimp only
  rw [if_neg (by simpa using Option.isSome_iff_ne_none.1 h)]
  split
  · split
    · exact .inr rfl
    · exact .inl rfl
  · exact .inl rfl

/-- The MC at the close of an event, the mode, the silence time and the mark of a wake apart. -/
def storeView (m : ModeUnit) : ModeUnit := { m with mode := .awake, silence := 0, woken := false }

theorem close_storeView (s u : State) : storeView (close s u).mc = storeView u.mc :=
  close_mc_field storeView (fun _ => rfl) (fun _ => rfl) s u

theorem storeView_of_modeCore {m n : ModeUnit} (h : modeCore m = modeCore n) : storeView m = storeView n := by
  change { modeCore m with silence := 0 } = { modeCore n with silence := 0 }
  rw [h]

/-- The end of the settings part's write, as the running part takes it. -/
theorem exec_storeWritten_settings (hrun : s.mc.supply = .running) (hnone : s.mc.restart = .none) {img : Image}
    (himg : s.mc.saving = some img) :
    ∃ t, exec (.storeWriteDone .settings) s = .next t
      ∧ storeView t.mc = storeView { s.mc with settingsPart := some img, settingsValid := true, saving := none }
      ∧ t.answer = some ⟨.ok, []⟩ := by
  have hwritten := settingsWritten_eq (s := startEvent (.storeWriteDone .settings) s) himg
  have heffect : ∃ u, effect (.storeWriteDone .settings) (startEvent (.storeWriteDone .settings) s) = u
      ∧ storeView u.mc = storeView { s.mc with settingsPart := some img, settingsValid := true, saving := none }
      ∧ u.answer = some ⟨.ok, []⟩ := by
    refine ⟨_, rfl, ?_⟩
    change storeView (storeWritten .settings _).mc = _ ∧ (storeWritten .settings _).answer = _
    obtain e | e := storeWritten_settings (s := startEvent (.storeWriteDone .settings) s) (by rw [startEvent_mc]; simp [himg])
    · rw [e, hwritten]
      exact ⟨rfl, rfl⟩
    · rw [e, (moves_deliver _).answer_eq, storeView_of_modeCore ((moves_deliver _).frame .mc (by decide)), hwritten]
      exact ⟨rfl, rfl⟩
  obtain ⟨u, e, hmc, hanswer⟩ := heffect
  have hexec := exec_restarting (i := .storeWriteDone .settings) hrun rfl
  have hrestart : u.mc.restart = .none := (congrArg ModeUnit.restart hmc :).trans hnone
  rw [e, restartDue_of_waits (.inl (by rw [close_restart, hrestart]; simp))] at hexec
  exact ⟨_, hexec, (close_storeView _ _).trans hmc, by rw [close_answer]; exact hanswer⟩

end Sys2Proof.Machine

namespace Sys2Proof.Proofs

open Sys2Proof Sys2Proof.Machine

/-- Settles O16: by what the reset of the part leaves, with the store's parts as they check. -/
theorem powerOnResetRestoresTheStore : Obligations.PowerOnResetRestoresTheStore := by
  refine ⟨fun s h => by rw [exec_powerOnReset, powerOn_held h], fun s h => ⟨_, exec_powerOnReset s, ?_⟩⟩
  rw [powerOn_eq h]
  refine ⟨rfl, rfl, rfl, rfl, fun hsave img himg => ?_, fun hno => ?_, fun hwrite p hp => ?_, fun hno => ?_, notices_resetPart ..,
    rfl, rfl, rfl, grantSum_resetPart .., fun r => tget_rev_resetPart .., fun c => compOf_resetPart_state ..⟩
  · exact cfg_resetPart_some _ _ _ _ _ _ ((cutStore_settings hsave).trans himg)
  · exact cfg_resetPart_none _ _ _ _ _ _ (cutStore_no_settings hno)
  · obtain ⟨hhc, hvalid⟩ := hc_resetPart_some .powerOn (cutStore s.mc) ccReset 0 true s ((cutStore_heater hwrite).trans hp)
    rw [hhc]
    exact ⟨rfl, rfl, rfl, rfl, hvalid⟩
  · obtain ⟨hhc, hvalid⟩ := hc_resetPart_none .powerOn (cutStore s.mc) ccReset 0 true s (cutStore_no_heater hno)
    rw [hhc]
    exact ⟨rfl, rfl, rfl, rfl, hvalid⟩

/-- Settles O19: by what the reset of a RESTART keeps, and what each of the store's writes ends with. -/
theorem restartsAndSavesUseTheStore : Obligations.RestartsAndSavesUseTheStore := by
  refine ⟨⟨fun quiet s hrun hnone h1 h2 h3 => ?_, fun s hrun hst => ?_, fun s hrun hst hbusy => ?_, fun s hrun hst hsave hwrite => ?_⟩,
    fun s hrun => ?_, fun s hrun hnone img himg => ?_, fun s hrun hnone p hp => ?_⟩
  · have e : effect (.restart quiet) (startEvent (.restart quiet) s) = answer .state [] (startEvent (.restart quiet) s) :=
      restart_refused quiet h1 h2 h3
    have hwait := restartDue_of_waits (s := close s (answer .state [] (startEvent (.restart quiet) s)))
      (.inl (by rw [close_restart]; simp [hnone]))
    refine ⟨_, (exec_restarting hrun rfl).trans (by rw [e, hwait]), ?_, ?_⟩
    · rw [close_answer]
      rfl
    · rw [close_restart]
      exact hnone
  · exact exec_restart_waits false hrun hst (.inl rfl)
  · exact exec_restart_waits true hrun hst (.inr (by simpa [storeBusy] using hbusy))
  · have e : effect (.restart true) (startEvent (.restart true) s) =
        answer .ok [] (withMc (fun m => { m with restart := .store }) (startEvent (.restart true) s)) := restart_accepted true hst
    have hexec := exec_restarting (i := .restart true) hrun rfl
    rw [e] at hexec
    have hcc : (close s (answer .ok [] (withMc (fun m => { m with restart := .store }) (startEvent (.restart true) s)))).cc = s.cc := by
      rw [close_cc]
      rfl
    have hsu : (close s (answer .ok [] (withMc (fun m => { m with restart := .store }) (startEvent (.restart true) s)))).su = s.su := by
      rw [close_su]
      rfl
    have hreset := restartDue_resets (s := close s (answer .ok [] (withMc (fun m => { m with restart := .store })
      (startEvent (.restart true) s)))) (by rw [close_supply]; exact hrun) (by rw [close_restart]; rfl)
      (by rw [close_storeBusy]; simp [storeBusy, withMc, hsave, hwrite])
    rw [hreset] at hexec
    revert hcc hsu hexec
    generalize close s _ = v
    intro hexec hcc hsu
    obtain ⟨hmc, helapsed, hcab, hunset, hcharge, hnotice, hrev⟩ := restartReset_keeps v
    refine ⟨_, hexec, by rw [hmc]; rfl, by rw [hmc]; rfl, by rw [hmc]; rfl, helapsed, ?_, by rw [hunset, hsu], ?_, ?_, ?_, hnotice, hrev⟩
    · rw [hcab, cabTime, cabTime, hsu]
    · rw [hcharge, hcc]
      rfl
    · rw [hcharge, hcc]
      rfl
    · rw [hcharge, hcc]
      rfl
  · refine ⟨_, exec_running hrun rfl, ?_, exec_changesOnly (i := .saveSettings) (exec_running hrun rfl)⟩
    rw [close_saving]
    rfl
  · obtain ⟨t, hexec, hmc, hanswer⟩ := exec_storeWritten_settings hrun hnone himg
    refine ⟨t, hexec, ?_, ?_, ?_, hanswer⟩
    · exact (congrArg ModeUnit.settingsPart hmc :)
    · exact (congrArg ModeUnit.settingsValid hmc :)
    · exact (congrArg ModeUnit.saving hmc :)
  · have e : effect (.storeWriteDone .heater) (startEvent (.storeWriteDone .heater) s) =
        heaterWritten (startEvent (.storeWriteDone .heater) s) := rfl
    rw [heaterWritten_eq (s := startEvent (.storeWriteDone .heater) s) hp] at e
    have hwait := restartDue_of_waits (s := close s (effect (.storeWriteDone .heater) (startEvent (.storeWriteDone .heater) s)))
      (.inl (by rw [close_restart, e]; simp [withMc, hnone]))
    have hexec := (exec_restarting (i := .storeWriteDone .heater) hrun rfl).trans (congrArg _ hwait)
    rw [e] at hexec
    refine ⟨_, hexec, ?_, ?_, ?_, ?_⟩
    · exact close_mc_field (·.heaterPart) (fun _ => rfl) (fun _ => rfl) _ _
    · exact close_mc_field (·.heaterValid) (fun _ => rfl) (fun _ => rfl) _ _
    · exact close_mc_field (·.heaterAgain) (fun _ => rfl) (fun _ => rfl) _ _
    · exact close_heaterWrite _ _

end Sys2Proof.Proofs
end

section
/-! PROOFS. The trip comparators, the load current readings and the tach. -/

namespace Sys2Proof.Machine

-- One proof after another: started together they wait for one another, each on a thread of its own.
set_option Elab.async false

variable {s t u : State} {as : List Area}

/-! ### The outputs at the close of an event -/

/-- What an owner but the compressor's commands stands through the close. -/
theorem commanded_close (s u : State) {o : Output} (h : o ≠ .compressor) : commanded (close s u) o = commanded u o := by
  have hcore : heaterCore (close s u).hc = heaterCore u.hc := close_heaterCore s u
  have hglow : (close s u).hc.glow = u.hc.glow := (congrArg HeaterUnit.glow hcore :)
  have hpulse : (close s u).hc.pulse = u.hc.pulse := (congrArg HeaterUnit.pulse hcore :)
  have hblower : blowerTarget (close s u) = blowerTarget u :=
    SameOutputs.blowerTarget_congr hcore (by rw [close_cfg]) (by rw [close_cfg])
  have hvent : (close s u).fc.ventEff = u.fc.ventEff := by
    rw [close_fc]
    change (fridgeAfter s u).ventEff = _
    unfold fridgeAfter
    dsimp only
    split_ifs <;> rfl
  cases o with
  | glow => exact hglow
  | pump => exact hpulse
  | blower => exact congrArg (fun n => decide (0 < n)) hblower
  | compressor => exact absurd rfl h
  | vent => exact congrArg (fun n => decide (0 < n)) hvent
  | light i => exact congrArg (fun c : LightChan => decide (0 < c.applied)) (lightOf_close s u i)
  | socket k => exact congrArg (fun g : GrantUnit => (tget g.sockets (socketIx k)).on) (close_ga s u)
  | panel => rfl

/-- The compressor's drive is dropped only where its output is already off. -/
theorem drive_close (s u : State) : (close s u).fc.drive = u.fc.drive ∨ energized u .compressor = false ∧ (close s u).fc.drive = false := by
  rw [close_fc]
  change (fridgeAfter s u).drive = _ ∨ _ ∧ (fridgeAfter s u).drive = _
  unfold fridgeAfter
  dsimp only
  split
  · exact .inl rfl
  split
  · rename_i hoff
    exact .inr ⟨by simpa using (Bool.and_eq_true_iff.1 hoff).2, rfl⟩
  · exact .inl rfl

theorem energized_of_running (h : s.mc.supply = .running) (o : Output) : energized s o = (gateOpen s o && commanded s o) := by
  unfold energized
  rw [h]

theorem energized_of_held {b : Bool} (h : s.mc.supply = .held b) (o : Output) : energized s o = false := by
  unfold energized
  rw [h]

theorem energized_close (s u : State) (o : Output) : energized (close s u) o = energized u o := by
  have hgate : gateOpen (close s u) o = gateOpen u o := SameOutputs.gate_of_ga (by rw [close_ga]) o
  cases hsup : u.mc.supply with
  | held b => rw [energized_of_held hsup, energized_of_held ((close_supply s u).trans hsup)]
  | running =>
    rw [energized_of_running ((close_supply s u).trans hsup), hgate]
    by_cases ho : o = .compressor
    · subst ho
      obtain e | ⟨hoff, e⟩ := drive_close s u
      · rw [energized_of_running hsup, commanded, commanded, e]
      · rw [hoff, commanded, e, Bool.and_false]
    · rw [energized_of_running hsup, commanded_close s u ho]

theorem watchedOn_close (s u : State) (c : Comparator) : watchedOn (close s u) c = watchedOn u c := by
  unfold watchedOn
  congr 1
  exact funext (energized_close s u)

theorem compOf_close (s u : State) (c : Comparator) : compOf (close s u) c = compAfter s u c (compOf u c) := by
  unfold compOf
  rw [close_mu_comp]
  cases c <;> rfl

/-! ### What an effect does to the comparators -/

/-- A run that names no comparator leaves them. -/
theorem Moves.comp_eq (h : Moves as s t) (hav : .comp ∉ as := by decide) : t.mu.comp = s.mu.comp := by
  refine h.lift (R := fun s t => t.mu.comp = s.mu.comp) (fun _ => rfl) (fun _ _ _ h k => k.trans h) fun s t m => ?_
  cases m with
  | measure m _ ha _ hcomp => exact hcomp
  | comps v _ ha => exact absurd ha hav
  | _ => simp

/-- The comparators stay in their states, or no watched output is switched. -/
def CompsKept (s t : State) : Prop := (∀ c, (compOf t c).state = (compOf s c).state) ∨ SameOutputs s t

theorem CompsKept.of_comp (h : t.mu.comp = s.mu.comp) : CompsKept s t := .inl fun c => by rw [compOf, compOf, h]

theorem compsKept_record {r : Nat} (h : RecordOutcome r s t) : CompsKept s t := by
  by_cases h10 : r = 10
  · subst h10
    exact .inr (SameOutputs.outcome h (by decide) fun ws u => (moves_tripsEffect s.cfg.thresholds u).sameOutputs rfl)
  · refine .of_comp ?_
    cases h with
    | answers st data => rfl
    | writes ws st data hr =>
      have hav : ∀ r ∈ writableRecords, r ≠ 10 → Area.comp ∉ writeAreas r := by decide
      exact (moves_accept ws st data (writable_ne_clock hr) (writeWakes hr)).comp_eq (hav r (writable_mem hr) h10)
    | restores drive acc log hr hok =>
      have hmoves : Moves (.answer :: .rm :: fireAreas ++ wakeAreas) s (restored drive acc log s) :=
        moves_restored drive acc log hok ⟨⟨⟨by decide, fun _ => by decide, by decide⟩, by decide⟩, by decide⟩
      exact hmoves.comp_eq

theorem compsKept_panel {r : Nat} (k : Fin 16) {op : State → State} (h : RecordOutcome r s (op s)) :
    CompsKept s (panelOperation k op s) := by
  have hmoves : Moves [.pn, .answer] (op s) (panelOperation k op s) := by
    have hanswer : Moves [.pn, .answer] (op s) { op s with answer := s.answer } := .of_move (.answer s.answer (op s) (by decide))
    exact hanswer.step (moves_dimEnded k _ _)
  obtain hstates | hout := compsKept_record h
  · exact .inl fun c => by rw [compOf, hmoves.comp_eq]; exact hstates c
  · exact .inr (hout.trans (hmoves.sameOutputs rfl))

/-- None of the areas is a comparator's. -/
def compsNone (as : List Area) : Bool := as.all fun a => match a with | .comp => false | _ => true

theorem comp_not_mem (h : compsNone as = true) : .comp ∉ as := fun ha => Bool.false_ne_true (List.all_eq_true.1 h _ ha)

theorem compsNone_append {as bs : List Area} (ha : compsNone as = true) (hb : compsNone bs = true) : compsNone (as ++ bs) = true := by
  rw [compsNone, List.all_append]
  exact Bool.and_eq_true_iff.2 ⟨ha, hb⟩

/-- The comparators' own commands, and the operations on a record. -/
def ofComps : Instr → Bool
  | .currentRise _ _ | .currentFall _ _ | .blankingExpiry _ | .qualifyExpiry _ | .loadCurrentReading _ | .put _ _ _ _ | .fieldWrite _ _
  | .exchange _ _ _ _ | .compareWrite _ _ _ _ _ | .adjust _ _ _ _ | .recordWrite _ _ | .tripsWrite _ => true
  | _ => false

theorem compsNone_areasOf {i : Instr} (h : ofComps i = false) : compsNone (areasOf i) = true := by
  cases i
  case currentRise | currentFall | blankingExpiry | qualifyExpiry | loadCurrentReading | put | fieldWrite | exchange | compareWrite | adjust
    | recordWrite | tripsWrite => cases h
  all_goals rfl

theorem compOf_withComp (c d : Comparator) (f : CompEntry → CompEntry) (s : State) :
    compOf (withComp c f s) d = if c = d then f (compOf s d) else compOf s d := by
  have hinj : compIx c = compIx d ↔ c = d := by cases c <;> cases d <;> decide
  change tget (tset s.mu.comp (compIx c) (f (tget s.mu.comp (compIx c)))) (compIx d) = _
  rw [tget_tset]
  by_cases h : c = d
  · subst h
    simp [compOf]
  · rw [if_neg (hinj.not.2 h), if_neg h]
    rfl

/-- Each comparator of a list changed once. -/
theorem compOf_foldl_withComp (f : Comparator → CompEntry → CompEntry) {cs : List Comparator} (hcs : cs.Nodup) (s : State)
    (d : Comparator) : compOf (cs.foldl (fun s c => withComp c (f c) s) s) d = if d ∈ cs then f d (compOf s d) else compOf s d := by
  induction cs generalizing s with
  | nil => rfl
  | cons c cs ih =>
    obtain ⟨hc, hrest⟩ := List.nodup_cons.1 hcs
    rw [List.foldl_cons, ih hrest, compOf_withComp]
    by_cases h : c = d
    · subst h
      simp [hc]
    · simp [h, Ne.symm h]

theorem loadReading_compOf (r : LoadMeans) (s : State) (c : Comparator) :
    compOf (loadReading r s) c = { compOf s c with reading := readingOf s c (meanOf r c) } := by
  unfold loadReading
  extract_lets s1
  have hholds : (heaterHolds (withSu (fun u => { u with tenth := min 9 (u.tenth + 1) }) s1)).mu.comp = s1.mu.comp :=
    (moves_heaterHolds _).comp_eq
  have hall : c ∈ allComparators := by cases c <;> decide
  rw [compOf, hholds]
  change compOf s1 c = _
  rw [show s1 = allComparators.foldl (fun s' c => withComp c (fun e => { e with reading := readingOf s c (meanOf r c) }) s') s from rfl,
    compOf_foldl_withComp (fun c e => { e with reading := readingOf s c (meanOf r c) }) (by decide), if_pos hall]

theorem effect_loadReading (r : LoadMeans) (s : State) : effect (.loadCurrentReading r) s = loadReading r s := rfl

/-- Every command's effect keeps the comparators' states, or switches no watched output. -/
theorem compsKept_effect (i : Instr) (hreset : mayReset i = false) (s : State) : CompsKept s (effect i s) := by
  by_cases hown : ofComps i = true
  · cases i
    case currentRise c ma => exact .inr ((moves_currentRises c ma s).sameOutputs rfl)
    case currentFall c ma => exact .inr ((moves_currentFalls c ma s).sameOutputs rfl)
    case blankingExpiry c => exact .inr ((moves_blankingOver c s).sameOutputs rfl)
    case qualifyExpiry c => exact .inr ((moves_qualifyOver c s).sameOutputs rfl)
    case loadCurrentReading r => exact .inl fun c => by rw [effect_loadReading, loadReading_compOf]
    case put r e x vs => exact compsKept_record (putOp_outcome r e x vs s)
    case fieldWrite r ws => exact compsKept_record (fieldWriteOp_outcome r ws s)
    case adjust record f e d =>
      cases record with
      | host r => exact compsKept_record (adjustOp_outcome r f e d s)
      | panel k r => exact compsKept_panel k (adjustOp_outcome r f e d s)
    case exchange r f e v => exact compsKept_record (exchangeOp_outcome r f e v s)
    case compareWrite r f e x v => exact compsKept_record (compareOp_outcome r f e x v s)
    case recordWrite p ws => exact compsKept_record (fieldWriteOp_outcome (plainId p) ws s)
    case tripsWrite ws => exact compsKept_record (fieldWriteOp_outcome 10 ws s)
    all_goals cases hown
  · exact .of_comp ((moves_effect i hreset s).comp_eq
      (comp_not_mem (compsNone_append (compsNone_areasOf (by simpa using hown)) (by split <;> rfl))))

/-! ### A comparator over an event -/

/-- A comparator at the switch-on of its output. -/
theorem compAfter_on (c : Comparator) (e : CompEntry) (h1 : watchedOn s c = false) (h2 : watchedOn u c = true) :
    compAfter s u c e = compSwitchOn e := by simp [compAfter, h1, h2]

theorem compAfter_off (c : Comparator) (e : CompEntry) (h1 : watchedOn s c = true) (h2 : watchedOn u c = false) :
    compAfter s u c e = compSwitchOff e := by simp [compAfter, h1, h2]

theorem compSwitchOff_eq (e : CompEntry) : (compSwitchOff e).state = (if e.state = .disabled then .disabled else .off)
    ∧ (compSwitchOff e).current = 0 ∧ (compSwitchOff e).reading = 0 := by
  unfold compSwitchOff
  cases h : e.state <;> simp

theorem compSwitchOn_off {e : CompEntry} (h : e.state = .off) : (compSwitchOn e).state = .blanking := by simp [compSwitchOn, h]

theorem compFurtherOn_on {e : CompEntry} (h : e.state = .watch ∨ e.state = .qualify ∨ e.state = .blanking) :
    (compFurtherOn e).state = .blanking := by
  unfold compFurtherOn
  obtain h | h | h := h <;> simp [h]

theorem compAfter_further (k : Fin 6) (e : CompEntry) (h1 : watchedOn s .t3 = true) (h2 : energized s (.light k) = false)
    (h3 : energized u (.light k) = true) : compAfter s u .t3 e = compFurtherOn e := by
  have hmem : Output.light k ∈ watchedBy .t3 := by fin_cases k <;> decide
  have hon : watchedOn u .t3 = true := List.any_eq_true.2 ⟨_, hmem, h3⟩
  have hfurther : (watchedBy .t3).any (fun o => energized u o && !(energized s o)) = true :=
    List.any_eq_true.2 ⟨_, hmem, by rw [h2, h3]; rfl⟩
  unfold compAfter
  rw [if_pos h1, if_pos hon, if_pos hfurther]

/-- An event that switches no watched output leaves a comparator as its effect does. -/
theorem exec_compOf {i : Instr} (hrun : s.mc.supply = .running) (hreset : mayReset i = false)
    (hout : SameOutputs (startEvent i s) (effect i (startEvent i s))) :
    ∃ t, exec i s = .next t ∧ (∀ c, compOf t c = compOf (effect i (startEvent i s)) c)
      ∧ t.mu.chan = (effect i (startEvent i s)).mu.chan := by
  refine ⟨_, exec_running hrun hreset, fun c => ?_, close_mu_chan _ _⟩
  rw [compOf, close_mu_comp, hout.start.compsAfter_eq]
  rfl

/-! ### The comparators' own commands -/

theorem setCurrent_on {c : Comparator} (ma : Nat) (h : watchedOn s c = true) :
    setCurrent c ma s = withComp c (fun e => { e with current := ma }) s := if_pos h

theorem currentAbove_withCurrent (c : Comparator) (ma : Nat) (s : State) :
    currentAbove (withComp c (fun e => { e with current := ma }) s) c = decide (thresholdOf s c < ma) := by
  have h := compOf_withComp c c (fun e => { e with current := ma }) s
  rw [if_pos rfl] at h
  unfold currentAbove
  change decide (thresholdOf s c < (compOf (withComp c (fun e => { e with current := ma }) s) c).current) = _
  rw [h]

/-- A rising current is held, and takes WATCH to QUALIFY above the threshold (R14). -/
theorem compOf_currentRises {c : Comparator} (ma : Nat) (h : watchedOn s c = true) (d : Comparator) :
    compOf (currentRises c ma s) d = if c = d then { compOf s c with
      current := ma
      state := if (compOf s c).state = .watch ∧ thresholdOf s c < ma then .qualify else (compOf s c).state } else compOf s d := by
  unfold currentRises
  dsimp only
  rw [setCurrent_on ma h, currentAbove_withCurrent]
  by_cases hd : c = d
  · subst hd
    split <;> rename_i hq <;> simp [compOf_withComp] at hq ⊢
    · simp [hq]
    · exact fun h1 h2 => absurd h2 (by have := hq h1; omega)
  · split <;> simp [compOf_withComp, hd]

/-- A falling current is held, and takes QUALIFY back to WATCH at or below the threshold (R14). -/
theorem compOf_currentFalls {c : Comparator} (ma : Nat) (h : watchedOn s c = true) (d : Comparator) :
    compOf (currentFalls c ma s) d = if c = d then { compOf s c with
      current := ma
      state := if (compOf s c).state = .qualify ∧ ma ≤ thresholdOf s c then .watch else (compOf s c).state } else compOf s d := by
  unfold currentFalls
  dsimp only
  rw [setCurrent_on ma h, currentAbove_withCurrent]
  by_cases hd : c = d
  · subst hd
    split <;> rename_i hq <;> simp [compOf_withComp] at hq ⊢
    · simp [hq]
    · exact fun h1 h2 => absurd h2 (by have := hq h1; omega)
  · split <;> simp [compOf_withComp, hd]

/-- The blanking timer's expiry (R14). -/
theorem compOf_blankingOver {c : Comparator} (h : (compOf s c).state = .blanking) (d : Comparator) :
    compOf (blankingOver c s) d = if c = d then { compOf s c with
      state := if thresholdOf s c < (compOf s c).current then .qualify else .watch } else compOf s d := by
  rw [blankingOver, if_pos h, compOf_withComp]
  by_cases hd : c = d
  · subst hd
    by_cases hq : thresholdOf s c < (compOf s c).current
    · simp [hq, show currentAbove s c = true from decide_eq_true hq]
    · simp [hq, show currentAbove s c = false from decide_eq_false hq]
  · rw [if_neg hd, if_neg hd]

/-- The qualify timer's expiry counts, stamps and hands the trip (R14, R16). -/
theorem qualifyOver_trips {c : Comparator} (h : (compOf s c).state = .qualify) :
    (∀ d, compOf (qualifyOver c s) d = if c = d then { compOf s c with
        state := .tripped, total := min 65535 ((compOf s c).total + 1), lastTrip := some (stampNow s) } else compOf s d)
      ∧ .tripReport ⟨c, stampNow s⟩ ∈ (qualifyOver c s).handed := by
  rw [qualifyOver, if_pos h]
  refine ⟨fun d => ?_, by simp [hand]⟩
  have hcomp := compOf_withComp c d (fun e => { e with
    state := .tripped, total := min 65535 (e.total + 1), lastTrip := some (stampNow s) }) s
  refine hcomp.trans ?_
  by_cases hd : c = d
  · subst hd
    rw [if_pos rfl]
  · rw [if_neg hd, if_neg hd]

/-- A comparator whose output is on as before, with no further one switched on, stays as it is. -/
theorem compAfter_same {c : Comparator} (e : CompEntry) (hwatch : watchedOn u c = watchedOn s c)
    (hlight : ∀ k, energized u (.light k) = energized s (.light k)) : compAfter s u c e = e := by
  have hfurther : watchedOn s c = true → (watchedBy c).any (fun o => energized u o && !energized s o) = false := fun hon => by
    cases c
    case t3 =>
      rw [List.any_eq_false]
      intro o ho
      obtain ⟨k, rfl⟩ : ∃ k, o = .light k := by
        rcases (by simpa [watchedBy] using ho) with h | h | h | h | h | h <;> exact ⟨_, h⟩
      rw [hlight]
      cases energized s (.light k) <;> decide
    all_goals
      have hone := hon
      simp only [watchedOn, watchedBy, List.any_cons, List.any_nil, Bool.or_false] at hone
      simp only [watchedBy, List.any_cons, List.any_nil, hone, Bool.not_true, Bool.and_false, Bool.or_false]
  unfold compAfter
  rw [hwatch]
  by_cases hon : watchedOn s c = true
  · rw [if_pos hon, if_pos hon, hfurther hon, if_neg Bool.false_ne_true]
  · rw [if_neg hon, if_neg hon]

/-- A light stands energized where its controller, the arbiter and the supply do. -/
theorem energized_light (hsup : t.mc.supply = s.mc.supply) (hga : t.ga = s.ga) (hlc : t.lc = s.lc) (k : Fin 6) :
    energized t (.light k) = energized s (.light k) := by
  have hcommand : commanded t (.light k) = commanded s (.light k) := by
    unfold commanded lightOf
    rw [hlc]
  unfold energized
  rw [hsup, SameOutputs.gate_of_ga hga, hcommand]

end Sys2Proof.Machine

namespace Sys2Proof.Proofs

open Sys2Proof Sys2Proof.Machine

/-- Settles O24: the comparators' own commands switch no watched output, and of every other command's effect they keep their states up
to the switching at its close. -/
theorem comparatorsFollowTheCurrent : Obligations.ComparatorsFollowTheCurrent := by
  refine ⟨⟨fun c ma s hrun hon => ?_, fun c ma s hrun hon => ?_⟩, ⟨fun c s hrun hst => ?_, fun c s hrun hst => ?_, fun c s hrun => ?_⟩,
    fun i s t hrun hreset h => ?_⟩
  · obtain ⟨t, hexec, hcomp, hchan⟩ := exec_compOf (i := .currentRise c ma) hrun rfl ((moves_currentRises c ma _).sameOutputs rfl)
    have heff : ∀ d, compOf t d = _ := fun d => (hcomp d).trans (compOf_currentRises ma (s := startEvent (.currentRise c ma) s) hon d)
    refine ⟨t, hexec, ?_, ?_, fun d hd => ?_, ?_⟩
    · rw [heff, if_pos rfl]
    · rw [heff, if_pos rfl]
      rfl
    · rw [heff, if_neg hd.symm]
      rfl
    · exact hchan.trans (moves_currentRises c ma _).flameKept.chan
  · obtain ⟨t, hexec, hcomp, hchan⟩ := exec_compOf (i := .currentFall c ma) hrun rfl ((moves_currentFalls c ma _).sameOutputs rfl)
    have heff : ∀ d, compOf t d = _ := fun d => (hcomp d).trans (compOf_currentFalls ma (s := startEvent (.currentFall c ma) s) hon d)
    refine ⟨t, hexec, ?_, ?_, fun d hd => ?_, ?_⟩
    · rw [heff, if_pos rfl]
    · rw [heff, if_pos rfl]
      rfl
    · rw [heff, if_neg hd.symm]
      rfl
    · exact hchan.trans (moves_currentFalls c ma _).flameKept.chan
  · obtain ⟨t, hexec, hcomp, -⟩ := exec_compOf (i := .blankingExpiry c) hrun rfl ((moves_blankingOver c _).sameOutputs rfl)
    have heff : ∀ d, compOf t d = _ := fun d => (hcomp d).trans (compOf_blankingOver (s := startEvent (.blankingExpiry c) s) hst d)
    refine ⟨t, hexec, ?_, ?_, fun d hd => ?_⟩
    · rw [heff, if_pos rfl]
      rfl
    · rw [heff, if_pos rfl]
      rfl
    · rw [heff, if_neg hd.symm]
      rfl
  · obtain ⟨hcomp, hhanded⟩ := qualifyOver_trips (s := startEvent (.qualifyExpiry c) s) hst
    obtain ⟨t, hexec, hclose, -⟩ := exec_compOf (i := .qualifyExpiry c) hrun rfl ((moves_qualifyOver c _).sameOutputs rfl)
    have heff : ∀ d, compOf t d = _ := fun d => (hclose d).trans (hcomp d)
    refine ⟨t, hexec, ?_, ?_, ?_, ?_, fun d hd => ?_⟩
    · rw [heff, if_pos rfl]
    · rw [heff, if_pos rfl]
      rfl
    · rw [heff, if_pos rfl]
      rfl
    · rw [exec_running hrun rfl] at hexec
      obtain rfl := Host.Outcome.next.inj hexec
      exact mem_close_of_mem hhanded
    · rw [heff, if_neg hd.symm]
      rfl
  · refine ⟨fun hst => ?_, fun hst => ?_⟩
    · obtain ⟨hexec, hchanges⟩ := exec_idle (i := .blankingExpiry c) hrun rfl (if_neg hst)
      exact ⟨_, hexec, hchanges .mu (by decide)⟩
    · obtain ⟨hexec, hchanges⟩ := exec_idle (i := .qualifyExpiry c) hrun rfl (if_neg hst)
      exact ⟨_, hexec, hchanges .mu (by decide)⟩
  · rw [exec_running hrun hreset] at h
    obtain rfl := Host.Outcome.next.inj h
    simp only [watchedOn_close, energized_close, compOf_close]
    obtain hstates | hout := compsKept_effect i hreset (startEvent i s)
    · have hst : ∀ c, (compOf (effect i (startEvent i s)) c).state = (compOf s c).state := hstates
      refine ⟨fun c h1 h2 hoff => ?_, fun c h1 h2 => ?_, fun k h1 h2 h3 hon => ?_⟩
      · rw [compAfter_on c _ h1 h2]
        exact compSwitchOn_off ((hst c).trans hoff)
      · rw [compAfter_off c _ h1 h2]
        obtain ⟨hstate, hcurrent, hreading⟩ := compSwitchOff_eq (compOf (effect i (startEvent i s)) c)
        exact ⟨by rw [hstate, hst], hcurrent, hreading⟩
      · rw [compAfter_further k _ h1 h2 h3]
        exact compFurtherOn_on (by rw [hst]; exact hon)
    · have hwatch := hout.start.watchedOn_eq
      refine ⟨fun c h1 h2 => ?_, fun c h1 h2 => ?_, fun k h1 h2 h3 => ?_⟩
      · rw [hwatch, h1] at h2
        cases h2
      · rw [hwatch, h1] at h2
        cases h2
      · rw [hout.start.energized_eq (c := .t3) (by fin_cases k <;> decide), h2] at h3
        cases h3

/-- Settles O25: a reading changes no comparator but its reading, and the tach's edges its capture alone. -/
theorem loadReadingsAndTachMeasure : Obligations.LoadReadingsAndTachMeasure := by
  have htach : ∀ (i : Instr) (s : State) (f : Tach → Tach), s.mc.supply = .running → mayReset i = false →
      (∀ s, effect i s = withMu (fun m => { m with tach := f m.tach }) s) →
      ∃ t, exec i s = .next t ∧ measureCore t.mu = measureCore { s.mu with tach := f s.mu.tach } := fun i s f hrun hreset he => by
    refine ⟨_, exec_running hrun hreset, ?_⟩
    rw [he, close_measureCore]
    have hout : SameOutputs (startEvent i s) (withMu (fun m => { m with tach := f m.tach }) (startEvent i s)) :=
      .of_blocks rfl rfl rfl rfl rfl rfl rfl
    rw [hout.start.compsAfter_eq]
    rfl
  refine ⟨fun r s hrun => ?_, fun us s hrun hedge => ?_, fun us s hrun l hedge => ?_, fun s hrun => ?_⟩
  · have hmoves := moves_loadReading r (startEvent (.loadCurrentReading r) s)
    refine ⟨_, exec_running hrun rfl, fun c hwatch => ?_, (close_mu_chan _ _).trans hmoves.flameKept.chan⟩
    rw [watchedOn_close, effect_loadReading] at hwatch
    rw [compOf_close, effect_loadReading, loadReading_compOf, compAfter_same _ hwatch
      (energized_light hmoves.supply_eq (hmoves.ga_eq (by decide)) (hmoves.lc_eq (by decide)))]
    exact ⟨by cases c <;> rfl, rfl, rfl⟩
  · obtain ⟨t, hexec, hmu⟩ := htach (.tachEdge us) s (tachEdge us) hrun rfl fun _ => rfl
    refine ⟨t, hexec, ?_⟩
    rw [hmu, tachEdge, hedge]
  · obtain ⟨t, hexec, hmu⟩ := htach (.tachEdge us) s (tachEdge us) hrun rfl fun _ => rfl
    rw [tachEdge, hedge] at hmu
    dsimp only at hmu
    refine ⟨t, hexec, fun p hp h1 h2 => ?_, fun hp => ?_, fun hp => ?_, fun hp => ?_⟩ <;> rw [hmu]
    · have hsub : us - l = p := by omega
      rw [hsub, if_neg (by omega), show max 1 (min 999999 p) = p by omega]
      rfl
    · have hsub : us - l = 1000000 := by omega
      rw [hsub]
      rfl
    · rw [if_pos (by omega)]
    · have hsub : us - l = 0 := by omega
      rw [hsub]
      rfl
  · exact htach .tachTimeout s (fun _ => ⟨none, none, 0⟩) hrun rfl fun _ => rfl

end Sys2Proof.Proofs
end

section
/-! PROOFS. The receiver, and the notice queue. -/

namespace Sys2Proof.Machine

-- One proof after another: started together they wait for one another, each on a thread of its own.
set_option Elab.async false

variable {s : State}

/-- The state with its receiver in another state. -/
def receiving (rx : Receiver) (s : State) : State := { s with lk := { s.lk with rx := rx } }

/-! ### The receiver -/

/-- What a command of the running part leaves the LK. -/
theorem exec_lk {i : Instr} (hrun : s.mc.supply = .running) (hreset : mayReset i = false) {l : LinkUnit}
    (h : (effect i (startEvent i s)).lk = l) : ∃ t, exec i s = .next t ∧ t.lk = l :=
  ⟨_, exec_running hrun hreset, (close_lk _ _).trans h⟩

theorem receive_standby (b : Byte) (h : s.mc.mode = .standby) : receive b s = s := if_pos h

theorem receive_awake (b : Byte) (h : s.mc.mode ≠ .standby) : receive b s = match s.lk.rx with
    | .hunt => if b = 0xC3 then receiving .length s else s
    | .length => receiving (if 3 ≤ b.toNat ∧ b.toNat ≤ 60 then .body b.toNat [] else .skip) s
    | .body len got => receiving (if len ≤ (got ++ [b]).length then .check len (got ++ [b]) else .body len (got ++ [b])) s
    | .check len got => if b = crc8 (byte len :: got) then frameComplete got (receiving .hunt s) else receiving .hunt s
    | .skip => s := if_neg h

/-- A complete frame with the reply flag is discarded. -/
theorem frameComplete_reply {body : List Byte} (h : (body.headD 0).getLsbD 1 = true) : frameComplete body s = s := if_pos h

/-- A request joins a queue of fewer than four, and is taken where none is in hand (R178, R179). -/
theorem frameComplete_room {body : List Byte} (h : (body.headD 0).getLsbD 1 = false) (hroom : s.lk.queue.length < 4) :
    frameComplete body s = nextRequest { s with lk := { s.lk with queue := s.lk.queue ++ [body] } } := by
  rw [frameComplete, if_neg (by rw [h]; decide), if_pos hroom]
  rfl

/-- A request at a full queue is discarded with LINK_OVERRUN (R178). -/
theorem frameComplete_full {body : List Byte} (h : (body.headD 0).getLsbD 1 = false) (hfull : 4 ≤ s.lk.queue.length) :
    frameComplete body s = post .linkOverrun .lk .attention [1] s := by
  rw [frameComplete, if_neg (by rw [h]; decide), if_neg (by omega)]

@[simp] theorem nextRequest_lk : (nextRequest s).lk = s.lk := by
  unfold nextRequest
  split <;> simp

theorem mem_nextRequest (hhand : s.lk.inHand = none) (hqueue : s.lk.queue ≠ []) : .requestTake ∈ (nextRequest s).handed := by
  have hnext : (s.lk.inHand.isNone && !s.lk.queue.isEmpty) = true := by simp [hhand, hqueue]
  rw [nextRequest, if_pos hnext]
  exact mem_raise _ _

/-! ### The notice queue -/

theorem coalesces_iff (k : NoticeKind) :
    coalesces k = true ↔ k = .shedLevel ∨ k = .keysWaiting ∨ k = .heaterState ∨ k = .linkOverrun := by
  cases k <;> simp [coalesces]

/-- A posting that joins the entry of its kind and source. -/
theorem queueNotice_joins {p : Posting} (h : coalesces p.kind = true)
    (hsame : s.lk.notices.any (fun x => x.kind == p.kind && x.source == p.source) = true) :
    (queueNotice p s).lk = { s.lk with notices := s.lk.notices.map fun x =>
      if x.kind == p.kind && x.source == p.source then coalesced x (noticeOf s p) else x } := by
  exact congrArg State.lk (if_pos (Bool.and_eq_true_iff.2 ⟨h, hsame⟩))

/-- A posting that joins none, in a queue with room and in a full one. -/
theorem queueNotice_queued {p : Posting}
    (h : ¬(coalesces p.kind = true ∧ s.lk.notices.any (fun x => x.kind == p.kind && x.source == p.source) = true)) :
    (queueNotice p s).lk = if s.lk.notices.length < 16 then { s.lk with notices := s.lk.notices ++ [noticeOf s p] }
      else { s.lk with notices := evictNotice s.lk.notices ++ [noticeOf s p], overflow := true } := by
  refine (congrArg State.lk (if_neg fun hj => h (Bool.and_eq_true_iff.1 hj))).trans ?_
  split <;> rfl

/-- But for LINK_OVERRUN the newer entry takes the older one's place. -/
theorem coalesced_of_ne {old new : Notice} (h : new.kind ≠ .linkOverrun) : coalesced old new = new := if_neg h

end Sys2Proof.Machine

namespace Sys2Proof.Proofs

open Sys2Proof Sys2Proof.Machine

/-- Settles O53, by the receiver's states. -/
theorem receiverTakesFrames : Obligations.ReceiverTakesFrames := by
  have hcheck : ∀ (b : Byte) (n : Nat) (got : List Byte) (s : State), s.mc.supply = .running → s.mc.mode ≠ .standby →
      ∃ t u, exec (.rxByte b) (receiving (.check n got) s) = .next t ∧ t.lk = u.lk ∧ (∀ i ∈ u.handed, i ∈ t.handed)
        ∧ u = if b = crc8 (byte n :: got) then
            frameComplete got (receiving .hunt (startEvent (.rxByte b) (receiving (.check n got) s)))
          else receiving .hunt (startEvent (.rxByte b) (receiving (.check n got) s)) := fun b n got s hrun hmode =>
    ⟨_, _, exec_running (s := receiving (.check n got) s) hrun rfl, close_lk _ _, fun i => mem_close_of_mem,
      receive_awake (s := startEvent (.rxByte b) (receiving (.check n got) s)) b hmode⟩
  refine ⟨fun b s hrun h => exec_lk hrun rfl ?_, fun b s hrun hmode hrx => exec_lk hrun rfl ?_,
    fun b s hrun hmode hrx => exec_lk hrun rfl ?_, fun b n got s hrun hmode => exec_lk (s := receiving (.body n got) s) hrun rfl ?_,
    fun n got s hrun hmode => ?_, fun b n got s hrun hmode hcrc => ?_, fun s hrun => exec_lk hrun rfl rfl,
    fun s hrun => exec_lk hrun rfl rfl⟩
  · change (receive b (startEvent (.rxByte b) s)).lk = s.lk
    by_cases hmode : s.mc.mode = .standby
    · rw [receive_standby b (show (startEvent (.rxByte b) s).mc.mode = .standby from hmode), startEvent_lk]
    · rw [receive_awake b (show (startEvent (.rxByte b) s).mc.mode ≠ .standby from hmode), startEvent_lk,
        h.resolve_left hmode]
      rfl
  · change (receive b (startEvent (.rxByte b) s)).lk = _
    rw [receive_awake b (show (startEvent (.rxByte b) s).mc.mode ≠ .standby from hmode), startEvent_lk, hrx]
    dsimp only
    split
    · rfl
    · rw [startEvent_lk, ← hrx]
  · change (receive b (startEvent (.rxByte b) s)).lk = _
    rw [receive_awake b (show (startEvent (.rxByte b) s).mc.mode ≠ .standby from hmode), startEvent_lk, hrx]
    rfl
  · change (receive b (startEvent (.rxByte b) (receiving (.body n got) s))).lk = _
    rw [receive_awake b (show (startEvent (.rxByte b) (receiving (.body n got) s)).mc.mode ≠ .standby from hmode), startEvent_lk]
    change (receiving (if n ≤ (got ++ [b]).length then _ else _) _).lk = _
    rw [List.length_append]
    rfl
  · obtain ⟨t, u, hexec, hlk, hmem, hu⟩ := hcheck (crc8 (byte n :: got)) n got s hrun hmode
    rw [if_pos rfl] at hu
    generalize hv : receiving .hunt (startEvent (.rxByte (crc8 (byte n :: got))) (receiving (.check n got) s)) = v at hu
    have hvlk : v.lk = { s.lk with rx := .hunt } := by
      rw [← hv]
      rfl
    by_cases hreply : (got.headD 0).getLsbD 1 = true
    · rw [frameComplete_reply hreply] at hu
      rw [hu, hvlk] at hlk
      exact ⟨t, hexec, by rw [hlk], by rw [hlk], by rw [hlk], fun _ => by rw [hlk],
        fun h => absurd hreply (by rw [h]; decide), fun h => absurd hreply (by rw [h]; decide)⟩
    · have hrequest : (got.headD 0).getLsbD 1 = false := by simpa using hreply
      by_cases hroom : s.lk.queue.length < 4
      · rw [frameComplete_room hrequest (by rw [hvlk]; exact hroom)] at hu
        rw [hu, nextRequest_lk, hvlk] at hlk
        refine ⟨t, hexec, by rw [hlk], by rw [hlk], by rw [hlk], fun h => absurd h hreply,
          fun _ _ => ⟨by rw [hlk], fun hhand => hmem _ ?_⟩, fun _ h => absurd hroom (by omega)⟩
        rw [hu]
        exact mem_nextRequest (by rw [hvlk]; exact hhand) (by simp)
      · rw [frameComplete_full hrequest (by rw [hvlk]; exact Nat.not_lt.1 hroom)] at hu
        rw [hu, post_lk, hvlk] at hlk
        refine ⟨t, hexec, by rw [hlk], by rw [hlk], by rw [hlk], fun h => absurd h hreply,
          fun _ h => absurd h hroom, fun _ _ => ⟨by rw [hlk], hmem _ ?_⟩⟩
        rw [hu]
        simp
  · obtain ⟨t, u, hexec, hlk, -, hu⟩ := hcheck b n got s hrun hmode
    rw [if_neg hcrc] at hu
    subst hu
    exact ⟨t, hexec, hlk⟩

/-- Settles O55, by the cases of a posting. -/
theorem noticesQueueAndAreFetched : Obligations.NoticesQueueAndAreFetched := by
  refine ⟨fun p s hrun => ?_, fun s hrun => ?_, fun s hrun => exec_lk hrun rfl rfl⟩
  · intro n joins
    refine ⟨_, exec_running hrun rfl, fun hjoins => ?_, fun hfree => ?_, fun hfree => ?_⟩
    · obtain ⟨hkind, hsame⟩ := hjoins
      have hlk := queueNotice_joins (s := startEvent (.noticePost p) s) ((coalesces_iff _).2 hkind) hsame
      rw [close_lk, show effect (.noticePost p) = queueNotice p from rfl, hlk]
      refine ⟨List.length_map .., rfl, fun hne => ?_⟩
      simp only [coalesced_of_ne (new := noticeOf (startEvent (.noticePost p) s) p) hne]
      rfl
    · intro hroom
      have hlk := queueNotice_queued (s := startEvent (.noticePost p) s) (p := p) fun h => hfree ⟨(coalesces_iff _).1 h.1, h.2⟩
      rw [if_pos (show (startEvent (.noticePost p) s).lk.notices.length < 16 from hroom)] at hlk
      exact (close_lk _ _).trans hlk
    · intro hfull up
      have hlk := queueNotice_queued (s := startEvent (.noticePost p) s) (p := p) fun h => hfree ⟨(coalesces_iff _).1 h.1, h.2⟩
      rw [if_neg (show ¬(startEvent (.noticePost p) s).lk.notices.length < 16 from Nat.not_lt.2 hfull)] at hlk
      exact (close_lk _ _).trans hlk
  · refine ⟨_, exec_running hrun rfl, (close_lk _ _).trans rfl, (close_answer _ _).trans ?_⟩
    change some (⟨if s.lk.notices.take 4 = [] then .empty else .ok, _⟩ : Answer) = _
    have hnone : s.lk.notices.take 4 = [] ↔ s.lk.notices = [] := by simp [List.take_eq_nil_iff]
    simp only [hnone]
    rw [← List.length_take, ← List.length_drop]
    rfl

end Sys2Proof.Proofs
end

section
/-! PROOFS. The chime queue and its player. -/

namespace Sys2Proof.Machine

-- One proof after another: started together they wait for one another, each on a thread of its own.
set_option Elab.async false

variable {s : State}

/-- A request queued behind its equals (R130). -/
def joinedChimes (r : ChimeRequest) (qs : List ChimeRequest) : List ChimeRequest :=
  qs.takeWhile (fun q => decide (r.priority ≤ q.priority)) ++ r :: qs.dropWhile (fun q => decide (r.priority ≤ q.priority))

/-- A chime request as it arrives. -/
def arriving (p : Fin 10) (s : State) : ChimeRequest := ⟨p, (patternOf s.cfg p).priority, s.pn.arrivals⟩

theorem insertChime_eq (r : ChimeRequest) (qs : List ChimeRequest) : insertChime r qs = joinedChimes r qs := by
  induction qs with
  | nil => rfl
  | cons q qs ih =>
    by_cases h : r.priority ≤ q.priority
    · simpa [insertChime, joinedChimes, h] using ih
    · simp [insertChime, joinedChimes, h]

/-! ### The lowest priority -/

theorem foldl_min_le (qs : List ChimeRequest) (m : Nat) :
    qs.foldl (fun m q => min m q.priority) m ≤ m ∧ ∀ q ∈ qs, qs.foldl (fun m q => min m q.priority) m ≤ q.priority := by
  induction qs generalizing m with
  | nil => simp
  | cons q qs ih =>
    obtain ⟨hm, hq⟩ := ih (min m q.priority)
    refine ⟨hm.trans (Nat.min_le_left ..), fun x hx => ?_⟩
    obtain rfl | hx := List.mem_cons.1 hx
    · exact hm.trans (Nat.min_le_right ..)
    · exact hq x hx

theorem le_foldl_min {n m : Nat} (qs : List ChimeRequest) (hm : n ≤ m) (h : ∀ q ∈ qs, n ≤ q.priority) :
    n ≤ qs.foldl (fun m q => min m q.priority) m := by
  induction qs generalizing m with
  | nil => exact hm
  | cons q qs ih => exact ih (Nat.le_min.2 ⟨hm, h q (by simp)⟩) fun x hx => h x (by simp [hx])

/-- The lowest queued priority is reached by a request below which none lies. -/
theorem lowestPriority_eq {qs : List ChimeRequest} {out : ChimeRequest} (hout : out ∈ qs) (h3 : out.priority ≤ 3)
    (h : ∀ q ∈ qs, out.priority ≤ q.priority) : lowestPriority qs = out.priority :=
  Nat.le_antisymm ((foldl_min_le qs 3).2 out hout) (le_foldl_min qs h3 h)

theorem foldl_max_eq {qs : List ChimeRequest} {out : ChimeRequest} (hout : out ∈ qs) (m : Nat) (hm : m ≤ out.arrival)
    (h : ∀ q ∈ qs, q.arrival ≤ out.arrival) : qs.foldl (fun m q => max m q.arrival) m = out.arrival := by
  induction qs generalizing m with
  | nil => cases hout
  | cons q qs ih =>
    have hle : max m q.arrival ≤ out.arrival := Nat.max_le.2 ⟨hm, h q (by simp)⟩
    obtain rfl | hmem := List.mem_cons.1 hout
    · have hconst : ∀ xs : List ChimeRequest, (∀ x ∈ xs, x.arrival ≤ out.arrival) →
          xs.foldl (fun m q => max m q.arrival) out.arrival = out.arrival := fun xs hxs => by
        induction xs with
        | nil => rfl
        | cons x xs ihx =>
          rw [List.foldl_cons, Nat.max_eq_left (hxs x (by simp))]
          exact ihx fun y hy => hxs y (by simp [hy])
      rw [List.foldl_cons, Nat.max_eq_right hm]
      exact hconst qs fun x hx => h x (by simp [hx])
    · exact ih hmem _ hle fun x hx => h x (by simp [hx])

/-- The queue gives up the request of the lowest priority that arrived latest (R130). -/
theorem evictLowest_eq {qs : List ChimeRequest} {out : ChimeRequest} (hout : out ∈ qs) (h3 : out.priority ≤ 3)
    (hlast : ∀ q ∈ qs, q = out ∨ out.priority < q.priority ∨ (q.priority = out.priority ∧ q.arrival < out.arrival)) :
    evictLowest qs = qs.filter (· ≠ out) := by
  have hlow : lowestPriority qs = out.priority := lowestPriority_eq hout h3 fun q hq => by
    obtain rfl | h | ⟨h, -⟩ := hlast q hq
    · exact Nat.le_refl _
    · exact h.le
    · exact h.ge
  have harrival : (qs.filter fun q => q.priority == out.priority).foldl (fun m q => max m q.arrival) 0 = out.arrival := by
    refine foldl_max_eq (by simp [hout]) 0 (Nat.zero_le _) fun q hq => ?_
    obtain ⟨hq, hprio⟩ := List.mem_filter.1 hq
    have hprio : q.priority = out.priority := by simpa using hprio
    obtain rfl | h | ⟨-, h⟩ := hlast q hq
    · exact Nat.le_refl _
    · omega
    · exact h.le
  unfold evictLowest
  rw [hlow]
  dsimp only
  rw [harrival]
  refine List.filter_congr fun q hq => ?_
  obtain rfl | h | ⟨-, h⟩ := hlast q hq
  · simp
  · have hne : q ≠ out := by
      rintro rfl
      omega
    simp [hne, h.ne']
  · have hne : q ≠ out := by
      rintro rfl
      omega
    simp [hne, h.ne]

/-! ### A request as judged -/

/-- A request that is dropped unheard (R130). -/
def chimeDropped (p : Fin 10) (s : State) : Prop :=
  s.pn.grant = 0 ∨ s.pn.standby = true ∨ (s.pn.resting = true ∧ (patternOf s.cfg p).priority < 3)

/-- The pattern is queued already. -/
def chimeMerged (p : Fin 10) (s : State) : Prop := s.pn.chimes.any (fun q => q.pattern == p) = true

theorem judgeChime_dropped {p : Fin 10} (h : chimeDropped p s) : judgeChime p s = (s, false) := by
  unfold judgeChime
  dsimp only
  by_cases hstop : s.pn.grant = 0 ∨ s.pn.standby = true
  · rw [if_pos hstop]
  · rw [if_neg hstop, if_pos ((or_assoc.2 h).resolve_left hstop)]

theorem judgeChime_heard {p : Fin 10} (h : ¬chimeDropped p s) : judgeChime p s =
    if s.pn.chimes.any (fun q => q.pattern == p) then (s, true)
    else if s.pn.chimes.length < 4 then (admitChime p s.pn.chimes s, true)
    else if (patternOf s.cfg p).priority ≤ lowestPriority s.pn.chimes then (s, false)
    else (admitChime p (evictLowest s.pn.chimes) s, true) := by
  unfold judgeChime
  dsimp only
  rw [if_neg fun hs => h (or_assoc.1 (.inl hs)), if_neg fun hr => h (.inr (.inr hr))]

theorem judgeChime_fresh {p : Fin 10} (h : ¬chimeDropped p s) (hm : ¬chimeMerged p s) : judgeChime p s =
    if s.pn.chimes.length < 4 then (admitChime p s.pn.chimes s, true)
    else if (patternOf s.cfg p).priority ≤ lowestPriority s.pn.chimes then (s, false)
    else (admitChime p (evictLowest s.pn.chimes) s, true) := (judgeChime_heard h).trans (if_neg hm)

theorem judgeChime_merged {p : Fin 10} (h : ¬chimeDropped p s) (hm : chimeMerged p s) : judgeChime p s = (s, true) := by
  rw [judgeChime_heard h]
  exact if_pos hm

theorem judgeChime_room {p : Fin 10} (h : ¬chimeDropped p s) (hm : ¬chimeMerged p s) (hroom : s.pn.chimes.length < 4) :
    judgeChime p s = (admitChime p s.pn.chimes s, true) := by
  rw [judgeChime_fresh h hm, if_pos hroom]

/-- At a full queue of no lower priority a request is dropped. -/
theorem judgeChime_full {p : Fin 10} (h : ¬chimeDropped p s) (hm : ¬chimeMerged p s) (hfull : 4 ≤ s.pn.chimes.length)
    (h3 : (patternOf s.cfg p).priority ≤ 3) (hlow : ∀ q ∈ s.pn.chimes, (patternOf s.cfg p).priority ≤ q.priority) :
    judgeChime p s = (s, false) := by
  rw [judgeChime_fresh h hm, if_neg (by omega), if_pos (show _ ≤ lowestPriority s.pn.chimes from le_foldl_min _ h3 hlow)]

/-- At a full queue a request takes the place of the lowest that arrived latest. -/
theorem judgeChime_evicts {p : Fin 10} (h : ¬chimeDropped p s) (hm : ¬chimeMerged p s) (hfull : 4 ≤ s.pn.chimes.length)
    (h3 : (patternOf s.cfg p).priority ≤ 3) {out : ChimeRequest} (hout : out ∈ s.pn.chimes)
    (hlower : out.priority < (patternOf s.cfg p).priority)
    (hlast : ∀ q ∈ s.pn.chimes, q = out ∨ out.priority < q.priority ∨ (q.priority = out.priority ∧ q.arrival < out.arrival)) :
    judgeChime p s = (admitChime p (s.pn.chimes.filter (· ≠ out)) s, true) := by
  have hlow : lowestPriority s.pn.chimes ≤ out.priority := (foldl_min_le _ 3).2 out hout
  rw [judgeChime_fresh h hm, if_neg (by omega), if_neg (by omega), evictLowest_eq hout (by omega) hlast]

/-! ### The player -/

theorem admitChime_pn (p : Fin 10) (qs : List ChimeRequest) : admitChime p qs s =
    afterInsertion (patternOf s.cfg p).priority
      (withPn (fun u => { u with chimes := joinedChimes (arriving p s) qs, arrivals := u.arrivals + 1 }) s) := by
  rw [admitChime, insertChime_eq]
  rfl

/-- A player of no lower priority goes on. -/
theorem admitChime_waits {p : Fin 10} (qs : List ChimeRequest) {pl : Player} (hpl : s.pn.player = some pl)
    (h : (patternOf s.cfg p).priority ≤ pl.shape.priority) :
    (admitChime p qs s).pn = { s.pn with chimes := joinedChimes (arriving p s) qs, arrivals := s.pn.arrivals + 1 } := by
  have hplayer : (withPn (fun u => { u with chimes := joinedChimes (arriving p s) qs, arrivals := u.arrivals + 1 }) s).pn.player = some pl :=
    hpl
  rw [admitChime_pn, afterInsertion, hplayer]
  dsimp only
  rw [if_neg (by omega)]
  rfl

/-- A sounding player of lower priority ends. -/
theorem admitChime_preempts {p : Fin 10} (qs : List ChimeRequest) {pl : Player} (hpl : s.pn.player = some pl)
    (h : pl.shape.priority < (patternOf s.cfg p).priority) (hon : pl.on = true) :
    (admitChime p qs s).pn = { s.pn with
      chimes := joinedChimes (arriving p s) qs, arrivals := s.pn.arrivals + 1, player := some { pl with ending := true } } := by
  have hplayer : (withPn (fun u => { u with chimes := joinedChimes (arriving p s) qs, arrivals := u.arrivals + 1 }) s).pn.player = some pl :=
    hpl
  rw [admitChime_pn, afterInsertion, hplayer]
  dsimp only
  rw [if_pos h, if_pos hon]
  rfl

/-- An idle player starts a request that may sound. -/
theorem admitChime_starts {p : Fin 10} (hpl : s.pn.player = none) (h : ¬chimeDropped p s) :
    (admitChime p [] s).pn = { s.pn with
      chimes := []
      player := some ⟨p, patternOf s.cfg p, 1, true, (patternOf s.cfg p).onTime, false⟩
      arrivals := s.pn.arrivals + 1 } := by
  generalize hv : withPn (fun u => { u with chimes := joinedChimes (arriving p s) [], arrivals := u.arrivals + 1 }) s = v
  have hpn : v.pn = { s.pn with chimes := [arriving p s], arrivals := s.pn.arrivals + 1 } := by
    rw [← hv]
    rfl
  have hcfg : v.cfg = s.cfg := by
    rw [← hv]
    rfl
  have hsounds : maySound v (arriving p s) = true := by
    rw [chimeDropped, not_or, not_or, not_and, Nat.not_lt] at h
    obtain ⟨-, -, hrest⟩ := h
    rw [maySound, hpn, hcfg]
    by_cases hresting : s.pn.resting = true
    · exact Bool.or_eq_true_iff.2 (.inr (decide_eq_true (hrest hresting)))
    · simp [hresting]
  rw [admitChime_pn, hv, afterInsertion, show v.pn.player = none by rw [hpn]; exact hpl]
  change (startNext v).pn = _
  rw [startNext, show (v.pn.chimes.dropWhile fun r => !(maySound v r)) = [arriving p s] by
    rw [hpn]
    simp [hsounds]]
  dsimp only [withPn]
  rw [hpn, hcfg]
  rfl

/-- A chime's answer. -/
theorem chimeStatus_eq (p : Fin 10) (s : State) :
    chimeStatus p.1 s = ((judgeChime p s).1, if (judgeChime p s).2 then .ok else .state) := by
  rw [chimeStatus, dif_pos p.2]

/-- The next request starts where the first may sound. -/
theorem startNext_head {r : ChimeRequest} (hr : r ∈ s.pn.chimes.head?) (h : maySound s r = true) :
    (startNext s).pn = { s.pn with
      chimes := s.pn.chimes.tail
      player := some ⟨r.pattern, patternOf s.cfg r.pattern, 1, true, (patternOf s.cfg r.pattern).onTime, false⟩ } := by
  obtain ⟨rest, hq⟩ : ∃ rest, s.pn.chimes = r :: rest := by
    cases hc : s.pn.chimes with
    | nil =>
      rw [hc] at hr
      cases hr
    | cons x xs =>
      rw [hc] at hr
      cases hr
      exact ⟨xs, rfl⟩
  rw [startNext, hq, List.dropWhile_cons_of_neg (by simp [h])]
  rfl

/-- With none that may sound the queue is left and the player is idle. -/
theorem startNext_none (h : ∀ r ∈ s.pn.chimes, maySound s r = false) :
    (startNext s).pn = { s.pn with chimes := [], player := none } := by
  obtain ⟨-, e⟩ | ⟨r, rest, hdrop, hr, -⟩ := startNext_cases (s := s)
  · rw [e]
    rfl
  · have hmem : r ∈ s.pn.chimes.dropWhile fun r => !(maySound s r) := by
      rw [hdrop]
      simp
    rw [h r ((List.dropWhile_sublist _).subset hmem)] at hr
    cases hr

/-- A phase ends the chime. -/
def phaseEnds (pl : Player) : Prop :=
  if pl.on then pl.ending = true ∨ (pl.shape.gap = 0 ∧ pl.shape.repeats ≤ pl.burst) else pl.shape.repeats ≤ pl.burst

theorem nextBurst_ends {pl : Player} (h : pl.shape.repeats ≤ pl.burst) : nextBurst pl s = startNext s := if_neg (Nat.not_lt.2 h)

theorem nextBurst_goes {pl : Player} (h : pl.burst < pl.shape.repeats) : nextBurst pl s =
    withPn (fun u => { u with player := some { pl with burst := pl.burst + 1, on := true, phaseMs := pl.shape.onTime } }) s := if_pos h

theorem chimePhase_some {pl : Player} (hpl : s.pn.player = some pl) : chimePhase s =
    if pl.on then
      if pl.ending then startNext s
      else if pl.shape.gap = 0 then nextBurst pl s
      else withPn (fun u => { u with player := some { pl with on := false, phaseMs := pl.shape.gap } }) s
    else nextBurst pl s := by
  rw [chimePhase, hpl]

theorem chimePhase_ends {pl : Player} (hpl : s.pn.player = some pl) (h : phaseEnds pl) : chimePhase s = startNext s := by
  rw [chimePhase_some hpl]
  unfold phaseEnds at h
  by_cases hon : pl.on = true
  · rw [if_pos hon] at h
    rw [if_pos hon]
    obtain hend | ⟨hgap, hlast⟩ := h
    · rw [if_pos hend]
    · by_cases hend : pl.ending = true
      · rw [if_pos hend]
      · rw [if_neg hend, if_pos hgap, nextBurst_ends hlast]
  · rw [if_neg hon] at h
    rw [if_neg hon, nextBurst_ends h]

theorem chimePhase_burst {pl : Player} (hpl : s.pn.player = some pl) (h : ¬phaseEnds pl) (hgap : pl.on = false ∨ pl.shape.gap = 0) :
    chimePhase s =
      withPn (fun u => { u with player := some { pl with burst := pl.burst + 1, on := true, phaseMs := pl.shape.onTime } }) s := by
  rw [chimePhase_some hpl]
  unfold phaseEnds at h
  by_cases hon : pl.on = true
  · rw [if_pos hon, not_or, not_and, Nat.not_le] at h
    obtain ⟨hend, hgoes⟩ := h
    have hzero : pl.shape.gap = 0 := hgap.resolve_left (by simp [hon])
    rw [if_pos hon, if_neg hend, if_pos hzero, nextBurst_goes (hgoes hzero)]
  · rw [if_neg hon, Nat.not_le] at h
    rw [if_neg hon, nextBurst_goes h]

/-- What a command of the running part leaves the PI. -/
theorem exec_pn {i : Instr} (hrun : s.mc.supply = .running) (hreset : mayReset i = false) {p : PanelUnit}
    (h : (effect i (startEvent i s)).pn = p) : ∃ t, exec i s = .next t ∧ t.pn = p :=
  ⟨_, exec_running hrun hreset, (close_pn _ _).trans h⟩

end Sys2Proof.Machine

namespace Sys2Proof.Proofs

open Sys2Proof Sys2Proof.Machine

/-- Settles O48: a request is judged case by case, and a phase's end leads to a burst, a gap or the next request. -/
theorem chimesAreJudgedAndPlayed : Obligations.ChimesAreJudgedAndPlayed := by
  refine ⟨fun play p s hrun => ?_, fun n s hrun hn => ?_, fun s hrun => ?_, fun g st s hrun => ?_, fun s hrun pl hpl => ?_⟩
  · intro shape r joined queue dropped merged
    have hexec : ∃ t u, exec (if play then .playChime p.1 else .chimeRequest p) s = .next t ∧ u.pn = s.pn ∧ u.cfg = s.cfg
        ∧ t.pn = (judgeChime p u).1.pn
        ∧ (play = true → t.answer = some ⟨if (judgeChime p u).2 then .ok else .state, []⟩) := by
      cases play with
      | false => exact ⟨_, startEvent (.chimeRequest p) s, exec_running (i := .chimeRequest p) hrun rfl, rfl, rfl, close_pn _ _,
          fun h => absurd h (by decide)⟩
      | true =>
        refine ⟨_, startEvent (.playChime p.1) s, exec_running hrun rfl, rfl, rfl, (close_pn _ _).trans ?_,
          fun _ => (close_answer _ _).trans ?_⟩
        · exact congrArg (fun x : State × Status => x.1.pn) (chimeStatus_eq p _)
        · exact congrArg (fun x : State × Status => some (⟨x.2, []⟩ : Answer)) (chimeStatus_eq p _)
    obtain ⟨t, u, hexec, hpn, hcfg, htpn, hanswer⟩ := hexec
    have hdrop : chimeDropped p u ↔ dropped := by
      unfold chimeDropped
      rw [hpn, hcfg]
    have hmerge : chimeMerged p u ↔ merged := by
      unfold chimeMerged
      rw [hpn]
    have harriving : arriving p u = r := by
      unfold arriving
      rw [hpn, hcfg]
    have hshape : patternOf u.cfg p = shape := by rw [hcfg]
    refine ⟨t, hexec, fun h => ?_, fun h hm => ?_, fun h hm hfull hlow h3 => ?_, fun h hm hfull h3 out hout hlower hlast => ?_,
      fun h hm hroom => ?_⟩
    · rw [judgeChime_dropped (hdrop.2 h)] at htpn hanswer
      exact ⟨htpn.trans hpn, hanswer⟩
    · rw [judgeChime_merged (mt hdrop.1 h) (hmerge.2 hm)] at htpn hanswer
      exact ⟨htpn.trans hpn, hanswer⟩
    · rw [judgeChime_full (mt hdrop.1 h) (mt hmerge.1 hm) (by rw [hpn]; exact hfull) (by rw [hshape]; exact h3)
        (by rw [hpn, hshape]; exact hlow)] at htpn hanswer
      exact ⟨htpn.trans hpn, hanswer⟩
    · rw [judgeChime_evicts (mt hdrop.1 h) (mt hmerge.1 hm) (by rw [hpn]; exact hfull) (by rw [hshape]; exact h3)
        (out := out) (by rw [hpn]; exact hout) (by rw [hshape]; exact hlower) (by rw [hpn]; exact hlast)] at htpn hanswer
      refine ⟨hanswer, fun pl hpl => ⟨fun hle => ?_, fun hlt hon => ?_⟩⟩
      · rw [htpn, admitChime_waits _ (by rw [hpn]; exact hpl) (by rw [hshape]; exact hle), harriving, hpn]
        rfl
      · rw [htpn, admitChime_preempts _ (by rw [hpn]; exact hpl) (by rw [hshape]; exact hlt) hon, harriving, hpn]
        rfl
    · rw [judgeChime_room (mt hdrop.1 h) (mt hmerge.1 hm) (by rw [hpn]; exact hroom)] at htpn hanswer
      refine ⟨hanswer, fun hidle hempty => ?_, fun pl hpl => ⟨fun hle => ?_, fun hlt hon => ?_⟩⟩
      · rw [htpn, show u.pn.chimes = [] by rw [hpn]; exact hempty, admitChime_starts (by rw [hpn]; exact hidle) (mt hdrop.1 h), hpn,
          hcfg, ← hempty]
      · rw [htpn, admitChime_waits _ (by rw [hpn]; exact hpl) (by rw [hshape]; exact hle), harriving, hpn]
        rfl
      · rw [htpn, admitChime_preempts _ (by rw [hpn]; exact hpl) (by rw [hshape]; exact hlt) hon, harriving, hpn]
        rfl
  · have hrange : chimeStatus n (startEvent (.playChime n) s) = (startEvent (.playChime n) s, .range) := dif_neg (by omega)
    refine ⟨_, exec_running hrun rfl, (close_answer _ _).trans ?_, (close_pn _ _).trans ?_⟩
    · exact congrArg (fun x : State × Status => some (⟨x.2, []⟩ : Answer)) hrange
    · exact congrArg (fun x : State × Status => x.1.pn) hrange
  · exact ⟨_, exec_running hrun rfl, (close_answer _ _).trans rfl, (close_pn _ _).trans rfl⟩
  · refine exec_pn hrun rfl ?_
    change (panelGrant g _).pn = _
    unfold panelGrant
    split
    · rename_i h
      rw [h]
      rfl
    · rfl
  · intro ends
    have hplayer : (startEvent .chimePhaseEnd s).pn.player = some pl := hpl
    have hends : ends → (close s (chimePhase (startEvent .chimePhaseEnd s))).pn = (startNext (startEvent .chimePhaseEnd s)).pn :=
      fun h => by rw [close_pn, chimePhase_ends hplayer h]
    have hsilent : ends → (∀ r ∈ s.pn.chimes, maySound (startEvent .chimePhaseEnd s) r = false) →
        (close s (chimePhase (startEvent .chimePhaseEnd s))).pn = { s.pn with chimes := [], player := none } :=
      fun h hr => (hends h).trans (startNext_none hr)
    refine ⟨_, exec_running hrun rfl, fun h hempty => ?_, fun h hrest hlow => hsilent h fun r hr => ?_,
      fun h r hr hsounds => ?_, fun hon hend hgap => ?_, fun h hgap => ?_⟩
    · have hleft := hsilent h fun r hr => absurd (hempty ▸ hr) List.not_mem_nil
      rw [← hempty] at hleft
      exact hleft
    · rw [maySound, startEvent_pn, startEvent_cfg, hrest]
      exact decide_eq_false (Nat.not_le.2 (hlow r hr))
    · refine (hends h).trans (startNext_head hr ?_)
      by_cases hrest : s.pn.resting = true
      · simp [maySound, hsounds hrest]
      · simp [maySound, hrest]
    · rw [close_pn]
      change (chimePhase (startEvent .chimePhaseEnd s)).pn = _
      rw [chimePhase_some hplayer, if_pos hon, if_neg (by simp [hend]), if_neg hgap]
      rfl
    · rw [close_pn]
      change (chimePhase (startEvent .chimePhaseEnd s)).pn = _
      rw [chimePhase_burst hplayer h hgap]
      rfl

end Sys2Proof.Proofs
end

section
/-! PROOFS. Target events, fades, the groups' grants and the entry scene. -/

namespace Sys2Proof.Machine

-- One proof after another: started together they wait for one another, each on a thread of its own.
set_option Elab.async false

variable {s : State}

/-! ### The channels after a target event -/

/-- A channel over a target event that gives it the target `new` (R109, R118). -/
def retargeted (n : Nat) (own : Bool) (new : Nat) (c : LightChan) : LightChan :=
  if c.target = new then c else startFade n { c with target := new, saved := if own then c.saved else none }

theorem retargeted_same {n : Nat} {own : Bool} {new : Nat} {c : LightChan} (h : c.target = new) : retargeted n own new c = c := if_pos h

theorem retargeted_target (n : Nat) (own : Bool) (new : Nat) (c : LightChan) : (retargeted n own new c).target = new := by
  unfold retargeted startFade
  split_ifs with h <;> first | exact h | rfl

theorem retargeted_saved_own (n : Nat) (new : Nat) (c : LightChan) : (retargeted n true new c).saved = c.saved := by
  unfold retargeted startFade
  rw [if_pos rfl]
  split_ifs <;> rfl

/-- With no fade time a changed channel stands at its target at once. -/
theorem retargeted_atOnce {own : Bool} {new : Nat} {c : LightChan} (h : c.target ≠ new) :
    (retargeted 0 own new c).faded = new ∧ (retargeted 0 own new c).fade = none := by
  rw [retargeted, if_neg h]
  exact ⟨rfl, rfl⟩

/-- With a fade time a changed channel fades from where it stands. -/
theorem retargeted_fades {n : Nat} {own : Bool} {new : Nat} {c : LightChan} (h : c.target ≠ new) (hn : n ≠ 0) :
    (retargeted n own new c).faded = c.faded
      ∧ (c.fade.isSome ∨ new ≠ c.faded → (retargeted n own new c).fade = some ⟨c.faded, n, 0⟩) := by
  rw [retargeted, if_neg h, startFade, if_neg hn]
  by_cases hstands : c.fade = none ∧ new = c.faded
  · rw [if_pos hstands]
    exact ⟨rfl, fun hfades => absurd hstands (by rintro ⟨hnone, heq⟩; simp [hnone, heq] at hfades)⟩
  · rw [if_neg hstands]
    exact ⟨rfl, fun _ => rfl⟩

theorem appliedLevel_lightsFollow (s : State) (i : Fin 6) :
    lightOf (lightsFollow s) i = { lightOf s i with applied := appliedLevel (lightsFollow s) i } := by
  unfold lightsFollow
  rw [appliedLevel_applyLevels, lightOf_applyLevels]
  simp only [lightOf, ask_lc]

theorem lightsFollow_lc (s : State) : (lightsFollow s).lc = { s.lc with chan := (lightsFollow s).lc.chan } := by
  refine Eq.trans (mapLights_lc (s := ask .cab (groupRequest (ask .bunk (groupRequest s .bunk) s) .cab)
    (ask .bunk (groupRequest s .bunk) s)) _) ?_
  rw [ask_lc, ask_lc]
  rfl

theorem fadesStarted_entry (old : Vector Nat 6) (n : Nat) (own : Bool) (s : State) :
    (fadesStarted old n own s).lc.entry = s.lc.entry := rfl

/-- A target event leaves each channel retargeted, with its applied level formed again. -/
theorem lightOf_setTargets (f : Fin 6 → Option Nat) (n : Nat) (own : Bool) (s : State) (i : Fin 6) :
    lightOf (setTargets f n own s) i = { retargeted n own ((f i).getD (lightOf s i).target) (lightOf s i) with
      applied := appliedLevel (setTargets f n own s) i } := by
  have hchan : lightOf (entrySettles (fadesStarted (targetsOf s) n own (putTargets f s))) i
      = retargeted n own ((f i).getD (lightOf s i).target) (lightOf s i) := by
    rw [lightOf_entrySettles, fadesStarted, lightOf_mapLights, lightOf_putTargets, tget_targetsOf, retargeted]
    by_cases h : (lightOf s i).target = (f i).getD (lightOf s i).target
    · rw [if_pos h, if_pos h, ← h]
    · rw [if_neg h, if_neg h]
  rw [setTargets, targetEvent_eq, appliedLevel_lightsFollow, hchan]

/-- A target event channel by channel (R109). -/
theorem setTargets_spec (f : Fin 6 → Option Nat) (n : Nat) (own : Bool) (s : State) (i : Fin 6) :
    let c := lightOf (setTargets f n own s) i
    c.target = (f i).getD (lightOf s i).target
      ∧ (c.target = (lightOf s i).target → c.faded = (lightOf s i).faded ∧ c.fade = (lightOf s i).fade)
      ∧ (c.target ≠ (lightOf s i).target → n = 0 → c.faded = c.target ∧ c.fade = none)
      ∧ (c.target ≠ (lightOf s i).target → n ≠ 0 → c.faded = (lightOf s i).faded
          ∧ ((lightOf s i).fade.isSome ∨ c.target ≠ (lightOf s i).faded → c.fade = some ⟨(lightOf s i).faded, n, 0⟩))
      ∧ c.applied = appliedLevel (setTargets f n own s) i := by
  rw [lightOf_setTargets]
  generalize (f i).getD (lightOf s i).target = new
  intro c
  have htarget : c.target = new := retargeted_target _ _ _ _
  refine ⟨htarget, fun h => ?_, fun h hn => ?_, fun h hn => ?_, rfl⟩ <;> rw [htarget] at h
  · have hsame := retargeted_same (n := n) (own := own) (c := lightOf s i) h.symm
    exact ⟨(congrArg LightChan.faded hsame :), (congrArg LightChan.fade hsame :)⟩
  · subst hn
    exact (retargeted_atOnce (fun e => h e.symm)).imp_left (·.trans htarget.symm)
  · rw [htarget]
    exact retargeted_fades (fun e => h e.symm) hn

theorem lightOf_answer (st : Status) (d : List Byte) (s : State) (i : Fin 6) : lightOf (answer st d s) i = lightOf s i := rfl

theorem appliedLevel_answer (st : Status) (d : List Byte) (s : State) (i : Fin 6) :
    appliedLevel (answer st d s) i = appliedLevel s i := rfl

theorem anySaved_iff (s : State) : anySaved s = true ↔ ∃ i, (lightOf s i).saved ≠ none := by
  have hall : ∀ i, i ∈ allLights := by decide
  simp [anySaved, hall, Option.isSome_iff_ne_none]

theorem anySaved_false_iff (s : State) : anySaved s = false ↔ ∀ i, (lightOf s i).saved = none := by
  rw [← Bool.not_eq_true, anySaved_iff]
  simp

/-- RETURNING with no channel saved settles to IDLE. -/
theorem entrySettles_entry (s : State) : (entrySettles s).lc.entry
    = if s.lc.entry = .returning ∧ ∀ i, (lightOf s i).saved = none then .idle else s.lc.entry := by
  unfold entrySettles
  simp only [anySaved_false_iff]
  split <;> rfl

/-- The LC but its channels and the entry's mode stands at a target event. -/
theorem setTargets_lc (f : Fin 6 → Option Nat) (n : Nat) (own : Bool) (s : State) : (setTargets f n own s).lc
    = { s.lc with
        chan := (setTargets f n own s).lc.chan
        entry := if s.lc.entry = .returning ∧ ∀ i, (lightOf (setTargets f n own s) i).saved = none then .idle else s.lc.entry } := by
  have hchan : ∀ i, (lightOf (setTargets f n own s) i).saved
      = (lightOf (fadesStarted (targetsOf s) n own (putTargets f s)) i).saved := fun i => by
    rw [setTargets, targetEvent_eq, appliedLevel_lightsFollow, lightOf_entrySettles]
  simp only [hchan]
  obtain ⟨e, he⟩ := entrySettles_eq (fadesStarted (targetsOf s) n own (putTargets f s))
  have hentry := entrySettles_entry (fadesStarted (targetsOf s) n own (putTargets f s))
  rw [he] at hentry
  conv_lhs => rw [setTargets, targetEvent_eq, lightsFollow_lc, he]
  rw [setTargets, targetEvent_eq, he, ← show (fadesStarted (targetsOf s) n own (putTargets f s)).lc.entry = s.lc.entry from rfl, ← hentry]
  rfl

/-! ### Fade steps -/

theorem fadeStep_none {i : Fin 6} (h : (lightOf s i).fade = none) : fadeStep i s = s := by
  rw [fadeStep, h]

/-- The channel after a step, before the levels are formed again. -/
def stepped (returning : Bool) (f : Fade) (c : LightChan) : LightChan :=
  if f.k + 1 < f.n then { c with faded := fadedAt c.target f (f.k + 1), fade := some { f with k := f.k + 1 } }
  else { c with faded := c.target, fade := none, saved := if returning then none else c.saved }

theorem lightOf_tset (l : LightChan) (i j : Fin 6) (s : State) :
    lightOf (withLc (fun u => { u with chan := tset u.chan i l }) s) j = if i = j then l else lightOf s j := tget_tset _ _ _ _

/-- A fade step changes its channel alone, and forms every applied level again. -/
theorem lightOf_fadeStep {i : Fin 6} {f : Fade} (h : (lightOf s i).fade = some f) (j : Fin 6) :
    lightOf (fadeStep i s) j = { (if i = j then stepped (s.lc.entry = .returning) f (lightOf s i) else lightOf s j) with
      applied := appliedLevel (fadeStep i s) j } := by
  rw [fadeStep, h]
  dsimp only
  by_cases hk : f.k + 1 < f.n
  · rw [if_pos hk, appliedLevel_applyLevels, lightOf_applyLevels, lightOf_tset, stepped, if_pos hk]
  · rw [if_neg hk, appliedLevel_lightsFollow, lightOf_entrySettles, lightOf_tset, stepped, if_neg hk]
    simp only [decide_eq_true_eq]

/-! ### A group's grant -/

/-- A channel's level before the caps (R112). -/
def scaledLevel (s : State) (i : Fin 6) (g : Group) (grant : Nat) : Nat :=
  match tget s.asked (consIx (groupConsumer g)) with
  | none => 0
  | some r => if grant = 0 then 0 else if r.d ≤ grant then (lightOf s i).faded else (lightOf s i).faded * grant / r.d

/-- The caps in force held over a level (R113). -/
def cappedLevel (s : State) (g : Group) (scaled : Nat) : Nat :=
  if g = .bunk then (if s.lc.level = .conserve then min scaled s.cfg.lights.conserveBunk else scaled)
  else
    let capped := if s.lc.level = .conserve then min scaled s.cfg.lights.conserveCab else scaled
    if s.lc.resting ∧ s.lc.entry = .idle then min capped s.cfg.lights.restCab else capped

theorem foldl_capsInForce (s : State) (g : Group) (n : Nat) : (capsInForce s g).foldl min n = cappedLevel s g n := by
  unfold capsInForce cappedLevel
  cases g with
  | bunk =>
    rw [if_pos rfl]
    dsimp only
    split <;> rfl
  | cab =>
    rw [if_neg (show Group.cab ≠ .bunk by decide), List.foldl_append]
    have hresting : (s.lc.resting && s.lc.entry == .idle) = true ↔ s.lc.resting ∧ s.lc.entry = .idle := by simp
    simp only [hresting]
    split <;> split <;> rfl

theorem cappedLevel_zero (s : State) (g : Group) : cappedLevel s g 0 = 0 := by
  unfold cappedLevel
  dsimp only
  split_ifs <;> simp

theorem appliedLevel_eq (s : State) (i : Fin 6) : appliedLevel s i
    = cappedLevel s (groupOf i) (scaledLevel s i (groupOf i) (tget s.lc.group (groupIx (groupOf i))).grant) := by
  unfold appliedLevel scaledLevel
  dsimp only
  cases tget s.asked (consIx (groupConsumer (groupOf i))) with
  | none => exact (cappedLevel_zero s _).symm
  | some r =>
    dsimp only
    split
    · exact (cappedLevel_zero s _).symm
    · exact foldl_capsInForce s _ _

theorem lightsGrant_grant (g : Group) (grant : Nat) (s : State) : (tget (lightsGrant g grant s).lc.group (groupIx g)).grant = grant := by
  change (tget (tset s.lc.group (groupIx g) { tget s.lc.group (groupIx g) with grant := grant }) (groupIx g)).grant = grant
  rw [tget_tset, if_pos rfl]

theorem lightOf_lightsGrant (g : Group) (grant : Nat) (s : State) (i : Fin 6) :
    lightOf (lightsGrant g grant s) i = { lightOf s i with applied := appliedLevel (lightsGrant g grant s) i } := by
  unfold lightsGrant
  rw [appliedLevel_applyLevels, lightOf_applyLevels]
  rfl

/-! ### The entry scene -/

/-- An entry starts with the scene's channels saved and at the scene's targets. -/
theorem startEntry_spec (sc : Scene) (s : State) : (startEntry sc s).lc.door = s.lc.door ∧ (startEntry sc s).lc.entry = .active
    ∧ (startEntry sc s).lc.timer = some (now s + 1200)
    ∧ ∀ i, (lightOf (startEntry sc s) i).saved = (if (tget sc.levels i).isSome then some (lightOf s i).target else none)
        ∧ (lightOf (startEntry sc s) i).target = (tget sc.levels i).getD (lightOf s i).target := by
  generalize hv : withLc (fun l => { l with entry := .active, timer := some (now s + 1200) })
    (mapLights (fun i c => { c with saved := if (tget sc.levels i).isSome then some c.target else none }) s) = v
  have hstart : startEntry sc s = setTargets (fun i => tget sc.levels i) sc.fade true v := by
    rw [← hv]
    rfl
  have hlight : ∀ i, lightOf v i
      = { lightOf s i with saved := if (tget sc.levels i).isSome then some (lightOf s i).target else none } := fun i => by
    rw [← hv]
    exact (lightOf_mapLights s (fun i c => { c with saved := if (tget sc.levels i).isSome then some c.target else none }) i :)
  have hactive : v.lc.entry = .active := by
    rw [← hv]
    rfl
  have hlc := setTargets_lc (fun i => tget sc.levels i) sc.fade true v
  rw [hactive, if_neg (by simp)] at hlc
  rw [hstart, hlc]
  refine ⟨by rw [← hv]; rfl, rfl, by rw [← hv]; rfl, fun i => ?_⟩
  rw [lightOf_setTargets]
  exact ⟨(retargeted_saved_own _ _ _).trans (by rw [hlight]), (retargeted_target _ _ _ _).trans (by rw [hlight])⟩

theorem sceneOf_succ (cfg : Settings) (k : Fin 8) : sceneOf cfg (k.1 + 1) = some (tget cfg.scenes k) := by
  rw [sceneOf, dif_pos ⟨by omega, by omega⟩]
  rfl

theorem sceneOf_none {cfg : Settings} {n : Nat} (h : n = 0 ∨ 8 < n) : sceneOf cfg n = none := dif_neg (by omega)

theorem sceneRequest_none {n : Nat} (h : n = 0 ∨ 8 < n) : sceneRequest n s = (s, .range) := by
  rw [sceneRequest, sceneOf_none h]

theorem cabDark_iff (s : State) : cabDark s = true ↔ ∀ i ∈ groupLights .cab, (lightOf s i).target = 0 := by
  simp [cabDark]

theorem doorOpening_active (h : s.lc.entry = .active) :
    doorOpening s = withLc (fun l => { l with timer := some (now s + 1200) }) s := by
  rw [doorOpening, h]

theorem doorOpening_not_active (h : s.lc.entry ≠ .active) : doorOpening s =
    match s.cfg.lights.entryScene.bind (sceneOf s.cfg) with
    | some sc => if cabDark s then startEntry sc s else s
    | none => s := by
  unfold doorOpening
  cases hentry : s.lc.entry with
  | active => exact absurd hentry h
  | idle | returning => rfl

theorem lightsDoor_opens (h : s.lc.door ≠ .unknown) :
    lightsDoor .active s = doorOpening (withLc (fun l => { l with door := .opened }) s) := if_neg h

/-- The entry's end: each channel still saved returns, and leaves the set where it starts no fade. -/
theorem entryTimeout_spec (h : s.lc.entry = .active) : (entryTimeout s).lc.timer = none
    ∧ (∀ i, (lightOf (entryTimeout s) i).target = (lightOf s i).saved.getD (lightOf s i).target)
    ∧ (∀ i, (lightOf (entryTimeout s) i).saved = none
        ∨ ((lightOf (entryTimeout s) i).saved = (lightOf s i).saved ∧ (lightOf (entryTimeout s) i).fade.isSome))
    ∧ (entryTimeout s).lc.entry = (if ∀ i, (lightOf (entryTimeout s) i).saved = none then .idle else .returning) := by
  generalize hs1 : withLc (fun l => { l with timer := none, entry := if anySaved s then .returning else .idle }) s = s1
  generalize hs2 : setTargets (fun i => (lightOf s i).saved) s.cfg.lights.fade true s1 = s2
  generalize hs3 : mapLights
    (fun i c => if c.fade.isNone || (lightOf s i).saved == some (lightOf s i).target then { c with saved := none } else c) s2 = s3
  have hend : entryTimeout s = lightsFollow (entrySettles s3) := by
    rw [entryTimeout, if_pos h, ← hs3, ← hs2, ← hs1]
  have hlight1 : ∀ i, lightOf s1 i = lightOf s i := fun i => by
    rw [← hs1]
    rfl
  have htarget2 : ∀ i, (lightOf s2 i).target = (lightOf s i).saved.getD (lightOf s i).target := fun i => by
    rw [← hs2, lightOf_setTargets, ← hlight1]
    exact retargeted_target _ _ _ _
  have hsaved2 : ∀ i, (lightOf s2 i).saved = (lightOf s i).saved := fun i => by
    rw [← hs2, lightOf_setTargets, ← hlight1]
    exact retargeted_saved_own _ _ _
  have hlight3 : ∀ i, lightOf s3 i = if (lightOf s2 i).fade.isNone || (lightOf s i).saved == some (lightOf s i).target then
      { lightOf s2 i with saved := none } else lightOf s2 i := fun i => by
    rw [← hs3]
    exact lightOf_mapLights s2 _ i
  have hlight : ∀ i, lightOf (entryTimeout s) i = { lightOf s3 i with applied := appliedLevel (entryTimeout s) i } := fun i => by
    rw [hend, appliedLevel_lightsFollow, lightOf_entrySettles]
  have hlc2 := setTargets_lc (fun i => (lightOf s i).saved) s.cfg.lights.fade true s1
  rw [hs2] at hlc2
  have hentry1 : s1.lc.entry = if anySaved s then .returning else .idle := by rw [← hs1]; rfl
  have hlc3 : s3.lc = { s2.lc with chan := s3.lc.chan } := by
    rw [← hs3]
    rfl
  obtain ⟨e, he⟩ := entrySettles_eq s3
  have hlc : (entryTimeout s).lc = { s1.lc with
      chan := (entryTimeout s).lc.chan, entry := (entrySettles s3).lc.entry } := by
    conv_lhs => rw [hend, lightsFollow_lc, ← hend]
    rw [he]
    dsimp only [withLc]
    rw [hlc3, hlc2]
  refine ⟨by rw [hlc, ← hs1]; rfl, fun i => ?_, fun i => ?_, ?_⟩
  · rw [hlight, hlight3, ← htarget2]
    split <;> rfl
  · rw [hlight, hlight3]
    split
    · exact .inl rfl
    · rename_i hkept
      refine .inr ⟨hsaved2 i, ?_⟩
      rw [Bool.or_eq_true_iff, not_or] at hkept
      exact Option.isSome_iff_ne_none.2 fun hnone => hkept.1 (by
        dsimp only at hnone
        rw [hnone]
        rfl)
  · have hsaved : ∀ i, (lightOf (entryTimeout s) i).saved = (lightOf s3 i).saved := fun i => by rw [hlight]
    have hreturn : ∀ i, (lightOf s2 i).saved = none ↔ (lightOf s i).saved = none := fun i => by rw [hsaved2]
    have hentry3 : s3.lc.entry = s1.lc.entry := by
      rw [hlc3, hlc2]
      simp only [hreturn, ← anySaved_false_iff, hentry1]
      cases anySaved s <;> simp
    rw [show (entryTimeout s).lc.entry = (entrySettles s3).lc.entry by rw [hlc], entrySettles_entry, hentry3, hentry1]
    simp only [hsaved]
    cases hany : anySaved s with
    | true => simp
    | false =>
      have hnone : ∀ i, (lightOf s3 i).saved = none := fun i => by
        rw [hlight3]
        split
        · rfl
        · exact (hsaved2 i).trans ((anySaved_false_iff s).1 hany i)
      simp [hnone]

end Sys2Proof.Machine

namespace Sys2Proof.Proofs

open Sys2Proof Sys2Proof.Machine

/-- Settles O43: a scene retargets every channel, and a fade step moves its channel alone. -/
theorem scenesSetTargetsAndFade : Obligations.ScenesSetTargetsAndFade := by
  refine ⟨⟨fun k s hrun => ?_, fun n s hrun hn => ?_⟩, fun i s hrun f hf => ?_, fun i s hrun hf => ?_⟩
  · intro sc
    have hscene : effect (.lightScene (k.1 + 1)) (startEvent (.lightScene (k.1 + 1)) s)
        = answer .ok [] (applyScene sc false (startEvent (.lightScene (k.1 + 1)) s)) := by
      change answerWith (sceneRequest (k.1 + 1) (startEvent (.lightScene (k.1 + 1)) s)) = _
      rw [sceneRequest, startEvent_cfg, sceneOf_succ]
      rfl
    refine ⟨_, exec_running hrun rfl, by rw [close_answer, hscene]; rfl, fun i => ?_⟩
    rw [appliedLevel_close, lightOf_close, hscene, lightOf_answer, appliedLevel_answer]
    exact setTargets_spec (fun i => tget sc.levels i) sc.fade false (startEvent (.lightScene (k.1 + 1)) s) i
  · exact exec_answers hrun rfl (by
      change answerWith (sceneRequest n (startEvent (.lightScene n) s)) = _
      rw [sceneRequest_none hn]
      rfl)
  · refine ⟨_, exec_running hrun rfl, ?_⟩
    have hlight := lightOf_fadeStep (s := startEvent (.fadeStep i) s) hf
    simp only [appliedLevel_close, lightOf_close]
    change (lightOf (fadeStep i (startEvent (.fadeStep i) s)) i).target = _ ∧ _
    have hown := hlight i
    rw [if_pos rfl, stepped] at hown
    refine ⟨?_, fun hk => ?_, fun hk => ?_, fun j hj => ?_, fun j => ?_⟩
    · rw [hown]
      split <;> rfl
    · rw [if_pos hk] at hown
      exact ⟨congrArg LightChan.fade hown, congrArg LightChan.faded hown⟩
    · rw [if_neg (Nat.not_lt.2 hk)] at hown
      exact ⟨congrArg LightChan.fade hown, congrArg LightChan.faded hown⟩
    · have hother := hlight j
      rw [if_neg (Ne.symm hj)] at hother
      exact ⟨(congrArg LightChan.target hother :), (congrArg LightChan.faded hother :), (congrArg LightChan.fade hother :)⟩
    · exact congrArg LightChan.applied (hlight j)
  · obtain ⟨hexec, hchanges⟩ := exec_idle (i := .fadeStep i) hrun rfl (fadeStep_none (s := startEvent (.fadeStep i) s) hf)
    refine ⟨_, hexec, ?_, ?_⟩
    · exact hchanges .lc (by decide)
    · exact hchanges .asked (by decide)

/-- Settles O44: the group's grant enters its channels' levels, and a trip is held. -/
theorem groupGrantsScaleAndCap : Obligations.GroupGrantsScaleAndCap := by
  refine ⟨fun g grant st s hrun => ?_, fun g o s hrun => ⟨_, exec_running hrun rfl, (close_lc _ _).trans rfl⟩⟩
  generalize hi : Instr.lightGrantReport g grant st = instr
  have hexec : exec instr s = .next (close s (lightsGrant g grant (startEvent instr s))) := by
    rw [← hi]
    exact exec_running hrun rfl
  refine ⟨_, hexec, by rw [close_lc, lightsGrant_grant], by rw [close_asked]; rfl, fun i hg => ?_⟩
  have hlevel : appliedLevel (lightsGrant g grant (startEvent instr s)) i = cappedLevel s g (scaledLevel s i g grant) := by
    rw [appliedLevel_eq, hg, lightsGrant_grant]
    unfold scaledLevel
    rw [lightOf_lightsGrant]
    rfl
  rw [lightOf_close, lightOf_lightsGrant, hlevel]
  exact ⟨rfl, rfl, rfl⟩

/-- Settles O45, by the handings of the door and the entry's timer. -/
theorem entrySceneStartsAndReturns : Obligations.EntrySceneStartsAndReturns := by
  have hopening : ∀ s : State, s.mc.supply = .running → s.lc.door ≠ .unknown → ∃ t u, exec (.cdoorHanding .active) s = .next t
      ∧ t.lc = (doorOpening u).lc ∧ u = withLc (fun l => { l with door := .opened }) (startEvent (.cdoorHanding .active) s) :=
    fun s hrun hdoor => ⟨_, _, exec_running hrun rfl,
      (close_lc _ _).trans (congrArg State.lc (lightsDoor_opens (s := startEvent (.cdoorHanding .active) s) hdoor)), rfl⟩
  refine ⟨fun d s hrun hd hfirst => ?_, fun s hrun hdoor hentry => ?_, fun k s hrun hdoor hentry hscene hdark => ?_,
    fun s hrun hdoor hentry hno => ?_, fun s hrun hentry => ?_⟩
  · cases d with
    | unknown => exact absurd rfl hd
    | inactive => exact ⟨_, exec_running hrun rfl, (close_lc _ _).trans rfl, (close_asked _ _).trans rfl⟩
    | active =>
      have hdoor : s.lc.door = .unknown := hfirst.resolve_left (by decide)
      have he : effect (.cdoorHanding .active) (startEvent (.cdoorHanding .active) s)
          = withLc (fun l => { l with door := .opened }) (startEvent (.cdoorHanding .active) s) := if_pos hdoor
      exact ⟨_, exec_running hrun rfl, by rw [close_lc, he]; rfl, by rw [close_asked, he]; rfl⟩
  · obtain ⟨t, u, hexec, hlc, hu⟩ := hopening s hrun hdoor
    refine ⟨t, hexec, ?_⟩
    rw [hlc, doorOpening_active (by rw [hu]; exact hentry), hu]
    rfl
  · intro sc
    obtain ⟨t, u, hexec, hlc, hu⟩ := hopening s hrun hdoor
    have hlight : ∀ i, lightOf u i = lightOf s i := fun i => by
      rw [hu]
      rfl
    have hcab : cabDark u = true := (cabDark_iff u).2 fun i hi => by
      rw [hlight]
      exact hdark i hi
    have hstart : doorOpening u = startEntry sc u := by
      rw [doorOpening_not_active (by rw [hu]; exact hentry), show u.cfg = s.cfg by rw [hu]; rfl, hscene, Option.bind_some,
        sceneOf_succ]
      exact if_pos hcab
    obtain ⟨hd, he, htimer, hchan⟩ := startEntry_spec sc u
    rw [hstart] at hlc
    refine ⟨t, hexec, ?_, by rw [hlc, he], ?_, fun i => ?_⟩
    · rw [hlc, hd, hu]
      rfl
    · rw [hlc, htimer, hu]
      rfl
    · rw [show lightOf t i = lightOf (startEntry sc u) i by rw [lightOf, hlc]; rfl, ← hlight]
      exact hchan i
  · obtain ⟨t, u, hexec, hlc, hu⟩ := hopening s hrun hdoor
    have hnone : doorOpening u = u := by
      rw [doorOpening_not_active (by rw [hu]; exact hentry)]
      split
      · rename_i sc hsc
        refine if_neg fun hdark => ?_
        obtain hscene | ⟨i, hi, hlit⟩ := hno
        · rw [show u.cfg = s.cfg by rw [hu]; rfl, hscene] at hsc
          cases hsc
        · exact hlit (by rw [← (cabDark_iff u).1 hdark i hi, hu]; rfl)
      · rfl
    refine ⟨t, hexec, ?_⟩
    rw [hlc, hnone, hu]
    rfl
  · refine ⟨_, exec_running hrun rfl, ?_⟩
    simp only [lightOf_close, close_lc]
    exact entryTimeout_spec (s := startEvent .entryTimerExpiry s) hentry

end Sys2Proof.Proofs
end

section
/-! PROOFS. What a command leaves block by block, and a VALID conversion's effect. -/

namespace Sys2Proof.Machine

-- One proof after another: started together they wait for one another, each on a thread of its own.
set_option Elab.async false

variable {s t u : State}

/-! ### What the close leaves -/

/-- The state `t` has the blocks of `u`, those apart that every event's close may touch, and all its handings. -/
structure Leaves (u t : State) : Prop where
  cfg : t.cfg = u.cfg
  cc : t.cc = u.cc
  ga : t.ga = u.ga
  asked : t.asked = u.asked
  core : heaterCore t.hc = heaterCore u.hc
  lc : t.lc = u.lc
  pn : t.pn = u.pn
  rm : t.rm = u.rm
  su : t.su = u.su
  lk : t.lk = u.lk
  answer : t.answer = u.answer
  handed : ∀ i ∈ u.handed, i ∈ t.handed

theorem Leaves.of_close (s u : State) : Leaves u (close s u) :=
  ⟨close_cfg _ _, close_cc _ _, close_ga _ _, close_asked _ _, close_heaterCore _ _, close_lc _ _, close_pn _ _, close_rm _ _,
    close_su _ _, close_lk _ _, close_answer _ _, fun _ => mem_close_of_mem⟩

theorem Leaves.trans {v : State} (h : Leaves u t) (k : Leaves v u) : Leaves v t :=
  ⟨h.cfg.trans k.cfg, h.cc.trans k.cc, h.ga.trans k.ga, h.asked.trans k.asked, h.core.trans k.core, h.lc.trans k.lc, h.pn.trans k.pn,
    h.rm.trans k.rm, h.su.trans k.su, h.lk.trans k.lk, h.answer.trans k.answer, fun i hi => h.handed i (k.handed i hi)⟩

/-- A command of the running part leaves what its effect does. -/
theorem exec_leaves {i : Instr} (hrun : s.mc.supply = .running) (hreset : mayReset i = false) :
    ∃ t, exec i s = .next t ∧ Leaves (effect i (startEvent i s)) t := ⟨_, exec_running hrun hreset, .of_close _ _⟩

theorem Leaves.of_leaveScan (chs : List Channel) (s : State) : Leaves s (leaveScan chs s) := by
  obtain e | ⟨-, -, -, e | e⟩ := leaveScan_cases chs s <;> rw [e]
  · exact ⟨rfl, rfl, rfl, rfl, rfl, rfl, rfl, rfl, rfl, rfl, rfl, fun _ h => h⟩
  · exact ⟨rfl, rfl, rfl, rfl, rfl, rfl, rfl, rfl, rfl, rfl, rfl, fun _ h => h⟩
  · exact ⟨rfl, rfl, rfl, rfl, rfl, rfl, rfl, rfl, rfl, rfl, rfl, fun _ h => List.mem_append_left _ h⟩

/-! ### A conversion's entry -/

/-- The state whose channel has converted a code, before its users have it. -/
def converted (ch : Channel) (code : Nat) (s : State) : State :=
  setChannel ch (convertEntry ch (tget s.cfg.chan (chanIx ch)).k code (chanOf s ch)) s

theorem statusOf_converted_of_ne {ch d : Channel} (code : Nat) (h : ch ≠ d) : statusOf (converted ch code s) d = statusOf s d := by
  rw [converted, statusOf_setChannel, if_neg h]

theorem chanOf_setChannel (ch d : Channel) (e : ChanEntry) (s : State) : chanOf (setChannel ch e s) d
    = if ch = d then { e with status := statusFrom (isConverted s ch) e } else chanOf s d := by
  unfold chanOf setChannel withMu
  dsimp only
  rw [tget_tset]
  by_cases h : ch = d
  · subst h
    rw [if_pos rfl, if_pos rfl]
  · rw [if_neg h, if_neg fun e => h (chanIx_inj e)]

theorem validFiltered_converted_of_ne {ch d : Channel} (code : Nat) (h : ch ≠ d) :
    validFiltered (converted ch code s) d = validFiltered s d := by
  unfold validFiltered isValid
  rw [statusOf_converted_of_ne code h, converted, chanOf_setChannel, if_neg h]

/-- The entry that a VALID conversion leaves. -/
theorem chanOf_converted {ch : Channel} {code : Nat} (h : validNext s ch code) :
    (chanOf (converted ch code s) ch).status = .valid
      ∧ (chanOf (converted ch code s) ch).filtered = some (filteredAt s ch code) := by
  obtain ⟨-, hlo, hhi, hconv, hrange, hhost⟩ := h
  rw [converted, chanOf_setChannel, if_pos rfl, convertEntry_inRange _ _ _ (rangeKindOf_inRange hlo hhi)]
  refine ⟨?_, ?_⟩
  · simp [statusFrom, hconv, hrange, hhost]
  · unfold filteredAt filterStep
    cases (chanOf s ch).filtered <;> rfl

theorem statusOf_converted {ch : Channel} {code : Nat} (h : validNext s ch code) : statusOf (converted ch code s) ch = .valid :=
  (chanOf_converted h).1

theorem validFiltered_converted {ch : Channel} {code : Nat} (h : validNext s ch code) :
    validFiltered (converted ch code s) ch = some (filteredAt s ch code) := by
  rw [validFiltered, isValid, statusOf_converted h, (chanOf_converted h).2]
  rfl

/-! ### A VALID conversion -/

/-- A conversion of the scan's next channel is reported and leaves the scan. -/
theorem convert_next {ch : Channel} (code : Nat) (h : s.mu.scanLeft.head? = some ch) : convert ch code s
    = leaveScan [ch] (sampleTaken ch (statusChange ch (statusOf s ch) (sensorNotice ch (statusOf s ch) (converted ch code s)))) := by
  rw [convert_eq code h, sampleReport_eq]
  rfl

/-- A VALID conversion of a VALID channel is a sample for its users and nothing else. -/
theorem convert_stays {ch : Channel} {code : Nat} (h : validNext s ch code) (hst : statusOf s ch = .valid) :
    convert ch code s = leaveScan [ch] (sampleTaken ch (converted ch code s)) := by
  have hstatus := statusOf_converted h
  have hnotice : sensorNotice ch .valid (converted ch code s) = converted ch code s := by
    have he : (chanOf (converted ch code s) ch).status = .valid := hstatus
    rw [sensorNotice, he, if_neg (by simp), if_neg (by simp)]
  have hchange := statusChange_same ch (converted ch code s)
  rw [hstatus] at hchange
  rw [convert_next code h.1, hst, hnotice, hchange]

/-- What a VALID conversion of a VALID channel leaves. -/
theorem exec_convert_stays {ch : Channel} {code : Nat} (hrun : s.mc.supply = .running) (h : validNext s ch code)
    (hst : statusOf s ch = .valid) : ∃ t, exec (.conversion ch code) s = .next t
      ∧ Leaves (sampleTaken ch (converted ch code (startEvent (.conversion ch code) s))) t := by
  obtain ⟨t, hexec, ht⟩ := exec_leaves (i := .conversion ch code) hrun rfl
  have he : effect (.conversion ch code) (startEvent (.conversion ch code) s) = _ :=
    convert_stays (s := startEvent (.conversion ch code) s) h hst
  rw [he] at ht
  exact ⟨t, hexec, ht.trans (.of_leaveScan _ _)⟩

end Sys2Proof.Machine
end

section
/-! PROOFS. Driving, stopping and resting. -/

namespace Sys2Proof.Machine

-- One proof after another: started together they wait for one another, each on a thread of its own.
set_option Elab.async false

variable {s t u : State} {as : List Area}

/-! ### What each part of a change does to the RM -/

theorem handHorizon_rm (s : State) : (handHorizon s).rm = { s.rm with horizon := horizonOf s } := by
  unfold handHorizon
  dsimp only
  split
  · rename_i h
    rw [h]
  · rfl

/-- A break that is taken clears the counters and marks the open segment; else nothing changes. -/
theorem judgeBreak_rm (s : State) : (judgeBreak s).rm = s.rm ∨ (judgeBreak s).rm = { consumeOpen s.rm with
    drive := 0, acc := 0, soon := false, limit := false, uncertain := false } := by
  unfold judgeBreak
  dsimp only
  split
  · split
    · exact .inr rfl
    · exact .inl rfl
  · exact .inl rfl

theorem consumeOpen_keeps (r : RestUnit) : ∃ g l, consumeOpen r = { r with stopSeg := g, log := l }
    ∧ (r.stopSeg = none → g = none) ∧ (r.log = [] → l = []) := by
  unfold consumeOpen
  split
  · rename_i g hg
    exact ⟨_, r.log, rfl, fun h => absurd (hg.symm.trans h) (by simp), id⟩
  · rename_i hg
    refine ⟨r.stopSeg, _, rfl, id, fun h => ?_⟩
    rw [h]
    rfl

/-- What the judgement of a break leaves of the RM: all but the counters, their flags and the open segment's mark. -/
theorem judgeBreak_keeps (s : State) : ∃ g l d a x y z, (judgeBreak s).rm = { s.rm with
      stopSeg := g, log := l, drive := d, acc := a, soon := x, limit := y, uncertain := z }
    ∧ (s.rm.stopSeg = none → g = none) ∧ (s.rm.log = [] → l = []) ∧ (d = s.rm.drive ∨ d = 0) := by
  obtain e | e := judgeBreak_rm s
  · exact ⟨_, _, _, _, _, _, _, e, id, id, .inl rfl⟩
  · obtain ⟨g, l, hc, hg, hl⟩ := consumeOpen_keeps s.rm
    rw [hc] at e
    exact ⟨g, l, 0, 0, false, false, false, e, hg, hl, .inr rfl⟩

theorem bankBreak_rm (len : Nat) (c : Bool) (s : State) : ∃ a, (bankBreak len c s).rm = { s.rm with acc := a } := by
  unfold bankBreak
  split
  · exact ⟨_, rfl⟩
  · exact ⟨_, rfl⟩

/-- A closed stop leaves no stop segment. -/
theorem closeStop_rm (s : State) : ∃ l d a x y z, (closeStop s).rm = { s.rm with
      stopSeg := none, log := l, drive := d, acc := a, soon := x, limit := y, uncertain := z }
    ∧ (s.rm.log = [] → l = []) ∧ (d = s.rm.drive ∨ d = 0) := by
  obtain ⟨g, l, d, a, x, y, z, e, hg, hl, hd⟩ := judgeBreak_keeps s
  unfold closeStop
  dsimp only
  split
  · obtain ⟨a', e'⟩ := bankBreak_rm (cabTime (judgeBreak s) - (‹StopSeg›).start) (‹StopSeg›).consumed (judgeBreak s)
    refine ⟨l, d, a', x, y, z, ?_, hl, hd⟩
    change { (bankBreak _ _ (judgeBreak s)).rm with stopSeg := none } = _
    rw [e', e]
  · rename_i hnone
    refine ⟨l, d, a, x, y, z, ?_, hl, hd⟩
    rw [e] at hnone
    rw [e]
    exact congrArg (fun g => { s.rm with stopSeg := g, log := l, drive := d, acc := a, soon := x, limit := y, uncertain := z }) hnone

/-- DRIVING is entered with the rest of the RM as it is, but for the repeat timer. -/
theorem toDriving_rm (old : RestState) (s : State) : ∃ r, (toDriving old s).rm = { s.rm with state := .driving, repeatTimer := r } := by
  unfold toDriving
  dsimp only
  split
  · exact ⟨_, rfl⟩
  · exact ⟨_, rfl⟩

theorem dropPrewarm_rm (s : State) : (dropPrewarm s).rm = { s.rm with placed := false } := by
  unfold dropPrewarm
  split
  · rw [(moves_prewarmRemove _).rm_eq]
    rfl
  · rename_i h
    have hplaced : s.rm.placed = false := by simpa using h
    exact congrArg (fun b => { s.rm with placed := b }) hplaced

theorem handResting_rm (b : Bool) (s : State) : (handResting b s).rm = s.rm := (moves_handResting b s).rm_eq

theorem panelResting_resting (b : Bool) (s : State) : (panelResting b s).pn.resting = b := by
  have hnext : ∀ s : State, (startNext s).pn.resting = s.pn.resting := fun s => by
    obtain ⟨-, e⟩ | ⟨r, rest, -, -, e⟩ := startNext_cases (s := s) <;> rw [e] <;> rfl
  unfold panelResting
  cases b with
  | false => rfl
  | true =>
    rw [if_pos rfl]
    dsimp only
    split
    · split
      · exact hnext _
      · rfl
    · rfl

/-- The lights and the panel take a change into or out of RESTING. -/
theorem handResting_resting (b : Bool) (s : State) : (handResting b s).lc.resting = b ∧ (handResting b s).pn.resting = b := by
  unfold handResting
  rw [ownerEvent_lc, ownerEvent_pn]
  refine ⟨?_, panelResting_resting b _⟩
  rw [(moves_panelResting b _).lc_eq, ownerEvent_lc]
  rfl

theorem handResting_handed (b : Bool) (s : State) : Behind s.handed (handResting b s).handed :=
  (moves_handResting b s).handed_behind (by decide)

theorem Behind.mem {hs ks : List Instr} (h : Behind hs ks) {i : Instr} (hi : i ∈ hs) : i ∈ ks := by
  obtain ⟨a, rfl⟩ := h
  exact List.mem_append_left _ hi

/-! ### The close of a rest -/

/-- A rest is closed: its end, its warning and its entry are gone, and every segment of the log is closed. -/
theorem closeRest_rm (new : RestState) (short : Bool) (s : State) : ∃ g l d a x y z h, (closeRest new short s).rm = { s.rm with
      stopSeg := g, log := l, drive := d, acc := a, soon := x, limit := y, uncertain := z, horizon := h
      state := new, plannedEnd := none, endSoon := none, endSoonRaised := false, starterHold := none, placed := false }
    ∧ ∀ g ∈ l, g.stop.isSome := by
  obtain ⟨g, l, d, a, x, y, z, e, -, -, -⟩ := judgeBreak_keeps s
  unfold closeRest
  extract_lets v cab len used s1 s2 s3
  obtain ⟨a', e1⟩ := bankBreak_rm len used (withRm (fun r => { r with log := r.log.map (closeSegment cab v.cfg.profile.tS1) }) v)
  have h2 : s2.rm = { s.rm with
      stopSeg := g, log := l.map (closeSegment cab v.cfg.profile.tS1), drive := d, acc := a', soon := x, limit := y, uncertain := z
      state := new, plannedEnd := none, endSoon := none, endSoonRaised := false, starterHold := none, placed := false } := by
    change { (dropPrewarm s1).rm with state := new, plannedEnd := none, endSoon := none, endSoonRaised := false, starterHold := none } = _
    rw [dropPrewarm_rm, show s1.rm = _ from e1]
    rw [show (withRm (fun r => { r with log := r.log.map (closeSegment cab v.cfg.profile.tS1) }) v).rm
      = { v.rm with log := v.rm.log.map (closeSegment cab v.cfg.profile.tS1) } from rfl, e]
  have h3 : s3.rm = { s2.rm with horizon := s3.rm.horizon } := by
    have hsame : ∀ w, w.rm = s2.rm → (handHorizon w).rm = { s2.rm with horizon := (handHorizon w).rm.horizon } := fun w hw => by
      rw [handHorizon_rm, hw]
    refine hsame _ ?_
    split
    · exact handResting_rm false s2
    · rfl
  have hend : ∀ w : State, w.rm = s3.rm → ∃ g l d a x y z h, w.rm = { s.rm with
      stopSeg := g, log := l, drive := d, acc := a, soon := x, limit := y, uncertain := z, horizon := h
      state := new, plannedEnd := none, endSoon := none, endSoonRaised := false, starterHold := none, placed := false }
    ∧ ∀ g ∈ l, g.stop.isSome := fun w hw => by
    refine ⟨g, l.map (closeSegment cab v.cfg.profile.tS1), d, a', x, y, z, s3.rm.horizon, ?_, fun g hg => ?_⟩
    · rw [hw, h3, h2]
    · obtain ⟨g', -, rfl⟩ := List.mem_map.1 hg
      unfold closeSegment
      split
      · rfl
      · rename_i hclosed
        exact Option.isSome_iff_ne_none.2 (by simpa using hclosed)
  split
  · exact hend _ rfl
  · exact hend _ rfl

/-- The close of a RESTING hands its end, and by MOVE the short rest's chime. -/
theorem closeRest_resting {s : State} (new : RestState) (short : Bool) (h : s.rm.state = .resting) :
    (closeRest new short s).lc.resting = false ∧ (closeRest new short s).pn.resting = false
      ∧ (short = true → .chimeRequest 6 ∈ (closeRest new short s).handed) := by
  unfold closeRest
  extract_lets v cab len used s1 s2 s3
  have hv : v.rm.state = .resting := by
    obtain ⟨g, l, d, a, x, y, z, e, -⟩ := judgeBreak_keeps s
    rw [show v.rm = _ from e]
    exact h
  have h3 : s3 = handHorizon (handResting false s2) := congrArg handHorizon (if_pos hv)
  have hrest : s3.lc.resting = false ∧ s3.pn.resting = false := by
    rw [h3, (moves_handHorizon _).lc_eq, (moves_handHorizon _).pn_eq]
    exact handResting_resting false s2
  split
  · exact ⟨hrest.1, hrest.2, fun _ => by simp⟩
  · rename_i hno
    exact ⟨hrest.1, hrest.2, fun hs => absurd ⟨hs, hv⟩ hno⟩

/-- What a command of the running part leaves the RM. -/
theorem exec_rm {i : Instr} (hrun : s.mc.supply = .running) (hreset : mayReset i = false) {r : RestUnit}
    (h : (effect i (startEvent i s)).rm = r) : ∃ t, exec i s = .next t ∧ t.rm = r :=
  ⟨_, exec_running hrun hreset, (close_rm _ _).trans h⟩

/-! ### MOVE and the starter guard -/

/-- MOVE handed to the RM, before what it brings about. -/
def movedTo (st : ContactState) (s : State) : State := withRm (fun r => { r with move := st }) s

theorem restMove_eq (st : ContactState) (s : State) : restMove st s = match st, s.rm.state with
    | .active, .unknown => toDriving .unknown (withRm (fun r => { r with drive := 0, acc := 0, uncertain := true }) (movedTo st s))
    | .active, .driving => withRm (fun r => { r with candidate := none, stopTimer := none }) (movedTo st s)
    | .active, .stopped => toDriving .stopped (closeStop (if s.rm.done then newDuty (movedTo st s) else movedTo st s))
    | .active, .resting => toDriving .resting (closeRest .driving true (movedTo st s))
    | .active, .rested => toDriving .rested (newDuty (closeRest .driving true (movedTo st s)))
    | .inactive, .driving => withRm (fun r => { r with
        candidate := some (cabTime s), stopTimer := some (s.su.elapsed + s.cfg.profile.stopConfirm) }) (movedTo st s)
    | _, _ => movedTo st s := rfl

theorem restVs_resting {vs : Int} (h : s.rm.state = .resting ∨ s.rm.state = .rested) (hvs : validFiltered s .vs = some vs) :
    restVs s = if vs < s.cfg.profile.starterGuard then
        match s.rm.starterHold with
        | none => if s.rm.ign = .active then s else withRm (fun r => { r with starterHold := some (cabTime s) }) s
        | some t => if t + 60 ≤ cabTime s ∧ s.rm.startRisk = false then startRisk vs s else s
      else withRm (fun r => { r with starterHold := none }) s := by
  rw [restVs, if_pos h, hvs] <;> rfl

/-- A channel with its host mark is not VALID (R7). -/
theorem statusFrom_marked (b : Bool) {e : ChanEntry} (h : e.hostMark = true) : statusFrom b e ≠ .valid := by
  rw [statusFrom_eq, h]
  split_ifs <;> simp_all

/-- A channel that has left VALID is reported to its users. -/
theorem statusReport_left {ch : Channel} (h : statusOf s ch ≠ .valid) : statusReport ch .valid s
    = ownerEvent [3, 12, 14, 24] (fun s =>
        let s1 := if ch = .vs then restVsLeft (heaterLeft ch (chargeLeft ch s)) else heaterLeft ch (chargeLeft ch s)
        if ch = .tf then fridgeTf false s1 else s1) s := by
  have hchange : statusChange ch .valid s
      = if ch = .vs then restVsLeft (heaterLeft ch (chargeLeft ch s)) else heaterLeft ch (chargeLeft ch s) := if_pos ⟨rfl, h⟩
  rw [statusReport, if_neg h, ownerEvent, ownerEvent]
  dsimp only
  rw [hchange]

theorem restVs_elsewhere (h : s.rm.state ≠ .resting) (h' : s.rm.state ≠ .rested) : restVs s = s :=
  if_neg fun hs => hs.elim h h'

end Sys2Proof.Machine

namespace Sys2Proof.Proofs

open Sys2Proof Sys2Proof.Machine

/-- Settles O49: MOVE's entry into DRIVING state by state, and the starter guard at a conversion. -/
theorem moveAndStopChangeTheState : Obligations.MoveAndStopChangeTheState := by
  refine ⟨fun s hrun => ?_, fun s hrun => ?_, fun s hrun hst htimer c hc => ?_, fun st s hrun => exec_rm hrun rfl rfl,
    fun s hrun hst htimer => ?_, fun code s hrun hnext hvalid => ?_, fun s hrun hvalid => ?_⟩
  · obtain ⟨t, hexec, ht⟩ := exec_leaves (i := .moveHanding .active) hrun rfl
    obtain ⟨u, hu⟩ : ∃ u, u = movedTo .active (startEvent (.moveHanding .active) s) := ⟨_, rfl⟩
    have hrm : u.rm = { s.rm with move := .active } := by
      rw [hu]
      rfl
    have heff : effect (.moveHanding .active) (startEvent (.moveHanding .active) s)
        = restMove .active (startEvent (.moveHanding .active) s) := rfl
    rw [heff, restMove_eq, startEvent_rm, ← hu] at ht
    refine ⟨t, hexec, ?_⟩
    cases hst : s.rm.state with
    | unknown =>
      rw [hst] at ht
      dsimp only at ht
      obtain ⟨r, hdriving⟩ := toDriving_rm .unknown (withRm (fun r => { r with drive := 0, acc := 0, uncertain := true }) u)
      have htrm := ht.rm.trans hdriving
      simp only [withRm, hrm] at htrm
      simp [htrm]
    | driving =>
      rw [hst] at ht
      have htrm := ht.rm
      simp only [withRm, hrm] at htrm
      simp [htrm, hst]
    | stopped =>
      rw [hst] at ht
      dsimp only at ht
      obtain ⟨r, hdriving⟩ := toDriving_rm .stopped (closeStop (if s.rm.done then newDuty u else u))
      obtain ⟨l, d, a, x, y, z, hclose, hl, hd⟩ := closeStop_rm (if s.rm.done then newDuty u else u)
      have htrm := ht.rm.trans hdriving
      rw [hclose] at htrm
      by_cases hdone : s.rm.done = true
      · rw [if_pos hdone] at htrm hl hd
        have hempty : l = [] := hl rfl
        have hzero : d = 0 := hd.elim id id
        simp only [newDuty, withRm, hrm] at htrm
        simp [htrm, hempty, hzero]
      · rw [if_neg hdone] at htrm
        simp only [hrm] at htrm
        simp [htrm, hdone]
    | resting =>
      rw [hst] at ht
      dsimp only at ht
      obtain ⟨r, hdriving⟩ := toDriving_rm .resting (closeRest .driving true u)
      obtain ⟨g, l, d, a, x, y, z, h, hclose, -⟩ := closeRest_rm .driving true u
      obtain ⟨hlc, hpn, hchime⟩ := closeRest_resting (s := u) .driving true (by rw [hrm]; exact hst)
      have hmoves := moves_toDriving .resting (closeRest .driving true u)
      have htrm := ht.rm.trans hdriving
      rw [hclose, hrm] at htrm
      refine ⟨by simp [htrm], by simp [htrm], by simp, by simp, by simp, fun _ => by simp [htrm], fun _ => ⟨?_, ?_, ?_⟩, by simp⟩
      · rw [ht.lc, hmoves.lc_eq, hlc]
      · rw [ht.pn, hmoves.pn_eq, hpn]
      · exact ht.handed _ ((hmoves.handed_behind (by decide)).mem (hchime rfl))
    | rested =>
      rw [hst] at ht
      dsimp only at ht
      obtain ⟨r, hdriving⟩ := toDriving_rm .rested (newDuty (closeRest .driving true u))
      obtain ⟨g, l, d, a, x, y, z, h, hclose, -⟩ := closeRest_rm .driving true u
      have htrm := ht.rm.trans hdriving
      simp only [newDuty, withRm, hclose, hrm] at htrm
      simp [htrm]
  · refine exec_rm hrun rfl ?_
    change (restMove .inactive (startEvent (.moveHanding .inactive) s)).rm = _
    rw [restMove_eq, startEvent_rm]
    cases hst : s.rm.state <;> rfl
  · have he : effect .stopConfirmExpiry (startEvent .stopConfirmExpiry s) = restNotice .driving .stop 0
        (withRm (fun r => { r with
          state := .stopped
          stopSeg := some ⟨r.candidate.getD (cabTime s), false⟩
          candidate := none
          stopTimer := none
          repeatTimer := none }) (startEvent .stopConfirmExpiry s)) := if_pos ⟨hst, htimer⟩
    refine ⟨_, exec_running hrun rfl, by rw [close_rm, he]; simp [restNotice, withRm, hc], mem_close_of_mem ?_⟩
    rw [he]
    exact List.mem_append_right _ (List.mem_singleton.2 rfl)
  · have he : effect .limitRepeatExpiry (startEvent .limitRepeatExpiry s) = _ := if_pos ⟨hst, htimer⟩
    exact ⟨_, exec_running hrun rfl, mem_close_of_mem (by rw [he]; simp), by rw [close_rm, he]; rfl⟩
  · intro vs guard
    obtain ⟨t, hexec, ht⟩ := exec_convert_stays hrun hnext hvalid
    obtain ⟨u, hu⟩ : ∃ u, u = converted .vs code (startEvent (.conversion .vs code) s) := ⟨_, rfl⟩
    have hvs : validFiltered u .vs = some vs := by
      rw [hu]
      exact validFiltered_converted hnext
    have hrm : u.rm = s.rm := by
      rw [hu]
      rfl
    have hcab : cabTime u = cabTime s := by
      rw [hu]
      rfl
    have hguard : (u.cfg.profile.starterGuard : Int) = guard := by
      rw [hu]
      rfl
    have hsample : sampleTaken .vs u = restVs u := rfl
    rw [← hu, hsample] at ht
    refine ⟨t, hexec, fun hst => ?_, fun h h' => ?_⟩
    · have hrest := restVs_resting (s := u) (by rw [hrm]; exact hst) hvs
      rw [hguard] at hrest
      refine ⟨fun hle => ?_, fun hlt hnone => ?_, fun hlt h hh => ⟨fun hlong hrisk => ?_, fun hshort => ?_⟩⟩
      · rw [if_neg (Int.not_lt.2 hle)] at hrest
        rw [ht.rm, hrest, ← hrm]
        rfl
      · rw [if_pos hlt, hrm, hnone] at hrest
        rw [ht.rm, hrest]
        dsimp only
        split
        · rw [hrm, ← hnone]
        · rw [← hcab, ← hrm]
          rfl
      · rw [if_pos hlt, hrm, hh] at hrest
        dsimp only at hrest
        rw [if_pos ⟨by rw [hcab]; exact hlong, hrisk⟩] at hrest
        rw [hrest] at ht
        refine ⟨ht.rm.trans (by rw [← hrm]; rfl), ht.handed _ ?_, ht.handed _ ?_⟩
        · exact List.mem_append_left _ (List.mem_append_right _ (List.mem_singleton.2 rfl))
        · exact List.mem_append_right _ (List.mem_singleton.2 rfl)
      · rw [if_pos hlt, hrm, hh] at hrest
        dsimp only at hrest
        rw [if_neg (by rw [hcab]; rintro ⟨hle, hrisk⟩; obtain h1 | h1 := hshort; · omega
                       · rw [hrisk] at h1; cases h1)] at hrest
        rw [ht.rm, hrest, hrm]
    · rw [ht.rm, restVs_elsewhere (by rw [hrm]; exact h) (by rw [hrm]; exact h'), hrm]
  · refine exec_rm hrun rfl ?_
    change (setHostMark (chanIx .vs).1 true (startEvent (.suspectChannel (chanIx .vs).1) s)).rm = _
    rw [setHostMark_eq (channelById_chanIx .vs), answer_rm]
    obtain ⟨w, hw⟩ : ∃ w, w = startEvent (.suspectChannel (chanIx .vs).1) s := ⟨_, rfl⟩
    have hold : statusOf w .vs = .valid := by
      rw [hw]
      exact hvalid
    have hrm : w.rm = s.rm := by
      rw [hw]
      rfl
    rw [← hw, hold]
    have hmoves := moves_sensorNotice .vs .valid (setChannel .vs { chanOf w .vs with hostMark := true } w)
    have hnew : statusOf (sensorNotice .vs .valid (setChannel .vs { chanOf w .vs with hostMark := true } w)) .vs ≠ .valid := by
      rw [statusOf_congr hmoves.chan_eq, statusOf_setChannel, if_pos rfl]
      exact statusFrom_marked _ rfl
    have hrm1 : (sensorNotice .vs .valid (setChannel .vs { chanOf w .vs with hostMark := true } w)).rm = s.rm :=
      hmoves.rm_eq.trans hrm
    rw [statusReport_left hnew, ownerEvent_rm, ← hrm1]
    rfl

end Sys2Proof.Proofs
end

section
/-! PROOFS. What fires leaves of a rest, and a rest's opening and end. -/

namespace Sys2Proof.Machine

-- One proof after another: started together they wait for one another, each on a thread of its own.
set_option Elab.async false

variable {s t u : State} {as : List Area}

/-! ### RESTING at the lights and the panel -/

/-- The lights and the panel are told the same of RESTING. -/
def SameResting (s t : State) : Prop := t.lc.resting = s.lc.resting ∧ t.pn.resting = s.pn.resting

namespace SameResting

theorem refl (s : State) : SameResting s s := ⟨rfl, rfl⟩

theorem trans (h : SameResting s t) (k : SameResting t u) : SameResting s u := ⟨k.1.trans h.1, k.2.trans h.2⟩

/-- A run that moves neither block. -/
theorem of_moves (h : Moves as s t) (hlc : .lc ∉ partsOf as ++ everyEvent := by decide) (hpn : .pn ∉ partsOf as ++ everyEvent := by decide) :
    SameResting s t := ⟨congrArg LightUnit.resting (h.lc_eq hlc), congrArg PanelUnit.resting (h.pn_eq hpn)⟩

theorem foldl {α : Type} {f : State → α → State} (h : ∀ s a, SameResting s (f s a)) (xs : List α) (s : State) :
    SameResting s (xs.foldl f s) := by
  induction xs generalizing s with
  | nil => exact .refl s
  | cons x xs ih => exact (h s x).trans (ih _)

theorem ownerEvent (w : List (Fin 26)) {f : State → State} (h : SameResting s (f s)) : SameResting s (ownerEvent w f s) :=
  h.trans ⟨by rw [ownerEvent_lc], by rw [ownerEvent_pn]⟩

theorem ownerAct (w : List (Fin 26)) {f : State → State × Status} (h : SameResting s (f s).1) : SameResting s (ownerAct w f s).1 :=
  h.trans ⟨rfl, rfl⟩

theorem setTargets (f : Fin 6 → Option Nat) (n : Nat) (own : Bool) (s : State) : SameResting s (setTargets f n own s) :=
  ⟨by rw [setTargets_lc], congrArg PanelUnit.resting (moves_setTargets f n own (.refl s)).pn_eq⟩

theorem sceneRequest (n : Nat) (s : State) : SameResting s (sceneRequest n s).1 := by
  unfold Machine.sceneRequest
  split
  · exact setTargets _ _ _ s
  · exact .refl s

theorem startNext (s : State) : SameResting s (startNext s) := by
  obtain ⟨-, e⟩ | ⟨r, rest, -, -, e⟩ := startNext_cases (s := s) <;> rw [e] <;> exact ⟨rfl, rfl⟩

theorem admitChime (p : Fin 10) (qs : List ChimeRequest) (s : State) : SameResting s (admitChime p qs s) := by
  unfold Machine.admitChime afterInsertion
  dsimp only
  split
  · exact startNext _
  · split
    · split
      · exact ⟨rfl, rfl⟩
      · exact startNext _
    · exact ⟨rfl, rfl⟩

theorem judgeChime (p : Fin 10) (s : State) : SameResting s (judgeChime p s).1 := by
  by_cases h : chimeDropped p s
  · rw [judgeChime_dropped h]
    exact .refl s
  · rw [judgeChime_heard h]
    split
    · exact .refl s
    split
    · exact admitChime _ _ s
    split
    · exact .refl s
    · exact admitChime _ _ s

theorem chimeStatus (n : Nat) (s : State) : SameResting s (chimeStatus n s).1 := by
  unfold Machine.chimeStatus
  split
  · exact judgeChime _ s
  · exact .refl s

theorem runAction (a : Action) (s : State) : SameResting s (runAction a s).1 := by
  unfold Machine.runAction
  split
  · exact ownerAct _ (.of_moves (moves_heaterStart _ _ s))
  · exact ownerAct (f := fun s => (heaterStop s, .ok)) _ (.of_moves (moves_heaterStop s))
  · exact ownerAct _ (sceneRequest _ s)
  · exact ownerAct _ (chimeStatus _ s)
  · exact ownerAct _ (.of_moves (moves_boostStart s))
  · split
    · exact .refl s
    · exact .of_moves (moves_writeVentSpeed _ s)

theorem fireEntry (s : State) (k : Fin 8) : SameResting s (fireEntry s k) := by
  unfold Machine.fireEntry
  split
  · exact .refl s
  · exact (runAction _ s).trans ((of_moves (moves_setSlot _ _ _)).trans (of_moves (moves_scheduleNotice _ _ _ _ _)))

theorem panelGrant (n : Nat) (s : State) : SameResting s (panelGrant n s) := by
  unfold Machine.panelGrant
  dsimp only
  split <;> exact ⟨rfl, rfl⟩

theorem grantPanel (s : State) : SameResting s (grantPanel s) := by
  unfold Machine.grantPanel
  extract_lets s1 e report
  have h1 : SameResting s s1 := by
    have hpass := moves_passEntry .panel (fun e => { e with
      request := some (panelRequest (takeHanding (panelPlacing s) s).cfg.demands) }) (fun _ => rfl) (takeHanding (panelPlacing s) s)
    exact (show SameResting s (takeHanding (panelPlacing s) s) from ⟨rfl, rfl⟩).trans (ownerEvent [5] (.of_moves hpass))
  clear_value s1
  split
  · exact h1.trans ((show SameResting s1 (takeHanding report s1) from ⟨rfl, rfl⟩).trans (ownerEvent [20, 22] (panelGrant _ _)))
  · exact h1

theorem panelBefore (s : State) (k : Fin 8) : SameResting s (panelBefore s k) := by
  unfold Machine.panelBefore
  split
  · dsimp only
    split
    · exact (of_moves (moves_countChoices 1 s)).trans (grantPanel _)
    · exact of_moves (moves_countChoices 1 s)
  · exact .refl s

theorem wakeStandby (s : State) : SameResting s (wakeStandby s) := by
  unfold Machine.wakeStandby
  extract_lets link s1 s2
  have h1 : SameResting s s1 :=
    (of_moves (moves_enterAwake { s with lk := { s.lk with rx := .skip } })).trans (ownerEvent [8] ⟨rfl, rfl⟩)
  have h2 : SameResting s s2 := h1.trans (ownerEvent [20] ⟨rfl, rfl⟩)
  have h3 : SameResting s (ask .panel (some (panelRequest s2.cfg.demands)) s2) := h2.trans ⟨by rw [ask_lc], by rw [ask_pn]⟩
  exact h3.trans (ownerEvent [25] (foldl (fun t k => (panelBefore t k).trans (fireEntry _ k)) _ _))

theorem fireDue (s : State) : SameResting s (fireDue s) := by
  obtain e | e | ⟨-, e⟩ := fireDue_cases s <;> rw [e]
  · exact .refl s
  · exact (of_moves (moves_wakeFromDoze s)).trans (foldl fireEntry _ _)
  · exact wakeStandby s

theorem prewarmPlace (time sp du : Nat) (s : State) : SameResting s (prewarmPlace time sp du s) := by
  unfold Machine.prewarmPlace
  split
  · exact .refl s
  · exact (of_moves (moves_slotEvent _ _ s)).trans (fireDue _)

theorem placePrewarm (s : State) : SameResting s (placePrewarm s) := by
  unfold Machine.placePrewarm
  dsimp only
  split
  · exact (show SameResting s (withRm (fun r => { r with placed := true }) s) from ⟨rfl, rfl⟩).trans (prewarmPlace _ _ _ _)
  · exact .refl s

end SameResting

/-! ### The RM as entries fire -/

/-- The areas that the RM's part of a firing entry may move hold every other block's. -/
theorem wakes_all (s : State) : Wakes wakeAreas s := ⟨by decide, fun _ => by decide, by decide⟩

theorem fireDue_rm (s : State) : (fireDue s).rm = s.rm := (moves_fireDue (wakes_all s)).rm_eq

theorem fireDue_behind (s : State) {i : Instr} (hi : notPanels i = true) (h : i ∈ s.handed) : i ∈ (fireDue s).handed := by
  have hmem := (moves_fireDue (wakes_all s)).handed_notPanels.mem (List.mem_filter.2 ⟨h, hi⟩)
  exact (List.mem_filter.1 hmem).1

theorem placePrewarm_rm (s : State) : (placePrewarm s).rm = { s.rm with placed := s.rm.placed || s.cfg.profile.prewarm } := by
  unfold placePrewarm
  dsimp only
  split
  · rename_i h
    rw [(moves_prewarmPlace _ _ _ (wakes_all _)).rm_eq, h]
    simp [withRm]
  · rename_i h
    simp [h]

/-! ### Opening -/

theorem armEndSoon_rm (s : State) : ∃ e, (armEndSoon s).rm = { s.rm with endSoon := e, endSoonRaised := false } := ⟨_, rfl⟩

/-- What a rest's opening leaves over its log (R138). -/
theorem restOpened_rm (old : RestState) (cause : RestCause) (n : Nat) (s : State) : ∃ e h, (restOpened old cause n s).rm = { s.rm with
    plannedEnd := some (plannedFor s ((openStart s.rm).getD (cabTime s)))
    endSoon := e, endSoonRaised := false, startRisk := false, starterHold := none, horizon := h
    placed := s.rm.placed || s.cfg.profile.prewarm } := by
  unfold restOpened
  extract_lets start s1 s2
  obtain ⟨e, he⟩ := armEndSoon_rm (withRm (fun r => { r with plannedEnd := some (plannedFor s start) }) s)
  have h2 : s2.rm = { s.rm with
      plannedEnd := some (plannedFor s start), endSoon := e, endSoonRaised := false, startRisk := false, starterHold := none } := by
    rw [show s2.rm = _ from handResting_rm true _]
    change { s1.rm with startRisk := false, starterHold := none } = _
    rw [show s1.rm = _ from he]
    rfl
  have hcfg : (handHorizon s2).cfg = s.cfg := by
    rw [(moves_handHorizon s2).cfg_eq, show s2.cfg = _ from (moves_handResting true _).cfg_eq]
    rfl
  refine ⟨e, horizonOf s2, ?_⟩
  change (placePrewarm (handHorizon s2)).rm = _
  rw [placePrewarm_rm, hcfg, handHorizon_rm, h2]

theorem restOpened_resting (old : RestState) (cause : RestCause) (n : Nat) (s : State) :
    (restOpened old cause n s).lc.resting = true ∧ (restOpened old cause n s).pn.resting = true := by
  unfold restOpened
  extract_lets start s1 s2
  have hkept : SameResting s2 (restNotice old cause n (placePrewarm (handHorizon s2))) :=
    (SameResting.of_moves (moves_handHorizon s2)).trans ((SameResting.placePrewarm _).trans ⟨rfl, rfl⟩)
  obtain ⟨hlc, hpn⟩ := handResting_resting true (withRm (fun r => { r with startRisk := false, starterHold := none }) s1)
  exact ⟨hkept.1.trans hlc, hkept.2.trans hpn⟩

theorem cabTime_congr (h : t.su = s.su) : cabTime t = cabTime s := by
  unfold cabTime
  rw [h]

/-- With a stop segment open, its close leaves the log. -/
theorem closeStop_log (h : s.rm.stopSeg.isSome) : (closeStop s).rm.log = s.rm.log := by
  have hbreak : (judgeBreak s).rm.log = s.rm.log := by
    obtain e | e := judgeBreak_rm s <;> rw [e]
    obtain ⟨g, hg⟩ := Option.isSome_iff_exists.1 h
    change (consumeOpen s.rm).log = _
    rw [consumeOpen, hg]
  rw [← hbreak]
  unfold closeStop
  dsimp only
  split
  · obtain ⟨a, e⟩ := bankBreak_rm (cabTime (judgeBreak s) - (‹StopSeg›).start) (‹StopSeg›).consumed (judgeBreak s)
    exact (congrArg RestUnit.log e :)
  · rfl

/-- A rest opened over a log with room (R138). -/
theorem openRest_rm (hroom : s.rm.log.length < 8) : ∃ e h, (openRest s).rm = { s.rm with
    state := .resting
    log := s.rm.log ++ [⟨cabTime s, none, false, false⟩]
    plannedEnd := some (cabTime s + 60 *
      (if s.rm.log.any (fun g => g.stop.isSome && g.split) then min s.cfg.profile.tRest s.cfg.profile.tS2 else s.cfg.profile.tRest))
    endSoon := e, endSoonRaised := false, startRisk := false, starterHold := none, horizon := h
    placed := s.rm.placed || s.cfg.profile.prewarm } := by
  have hfull : decide (8 ≤ s.rm.log.length) = false := decide_eq_false (by omega)
  obtain ⟨e, h, hrm⟩ := restOpened_rm s.rm.state .declared 0
    (withRm (fun r => { r with state := .resting, log := s.rm.log ++ [⟨cabTime s, none, false, false⟩] }) s)
  refine ⟨e, h, ?_⟩
  unfold openRest
  dsimp only
  rw [hfull, if_neg Bool.false_ne_true, if_neg Bool.false_ne_true, hrm]
  have hstart : openStart (withRm (fun r => { r with state := .resting, log := s.rm.log ++ [⟨cabTime s, none, false, false⟩] }) s).rm
      = some (cabTime s) := by simp [openStart, withRm]
  have hplanned : plannedFor (withRm (fun r => { r with state := .resting, log := s.rm.log ++ [⟨cabTime s, none, false, false⟩] }) s)
      (cabTime s) = cabTime s + 60 * (if s.rm.log.any (fun g => g.stop.isSome && g.split) then
        min s.cfg.profile.tRest s.cfg.profile.tS2 else s.cfg.profile.tRest) := by
    have hsplit : anySplit (withRm (fun r => { r with state := .resting, log := s.rm.log ++ [⟨cabTime s, none, false, false⟩] }) s).rm
        = s.rm.log.any (fun g => g.stop.isSome && g.split) := by simp [anySplit, withRm]
    unfold plannedFor
    dsimp only
    rw [hsplit]
    split <;> dsimp only [withRm] <;> omega
  rw [hstart, Option.getD_some, hplanned]
  rfl

theorem openRest_resting (s : State) : (openRest s).lc.resting = true ∧ (openRest s).pn.resting = true := restOpened_resting _ _ _ _

theorem horizonOf_rested (h : s.rm.state ≠ .resting) : horizonOf s = s.cfg.battery.horizon := by
  unfold horizonOf
  split
  · exact absurd ‹_› h
  · rfl

theorem mem_handHorizon (h : horizonOf s ≠ s.rm.horizon) : .horizonChange (horizonOf s) ∈ (handHorizon s).handed := by
  rw [handHorizon, if_neg h]
  exact List.mem_append_right _ (List.mem_singleton.2 rfl)

/-- The wake scene of a planned end. -/
def wakeLights (s : State) : State :=
  match s.cfg.profile.wakeScene with
  | some n => ownerEvent [17] (fun s => (sceneRequest n s).1) s
  | none => s

theorem moves_wakeLights (s : State) : Moves [.lc, .asked] s (wakeLights s) := by
  unfold wakeLights
  split
  · exact moves_ownerEvent [17] (by decide) (moves_sceneRequest _ s)
  · exact .refl

theorem wakeLights_resting (s : State) : SameResting s (wakeLights s) := by
  unfold wakeLights
  split
  · exact .ownerEvent [17] (.sceneRequest _ s)
  · exact .refl s

theorem wakeLights_target (k : Fin 8) (h : s.cfg.profile.wakeScene = some (k.1 + 1)) (i : Fin 6) :
    (lightOf (wakeLights s) i).target = (tget (tget s.cfg.scenes k).levels i).getD (lightOf s i).target := by
  have hscene : (sceneRequest (k.1 + 1) s).1 = applyScene (tget s.cfg.scenes k) false s := by rw [sceneRequest, sceneOf_succ]
  rw [wakeLights, h]
  dsimp only
  rw [lightOf, ownerEvent_lc, hscene]
  exact (setTargets_spec (fun i => tget (tget s.cfg.scenes k).levels i) (tget s.cfg.scenes k).fade false s i).1

theorem handResting_target (b : Bool) (s : State) (i : Fin 6) : (lightOf (handResting b s) i).target = (lightOf s i).target := by
  rw [lightOf, handResting, ownerEvent_lc, (moves_panelResting b _).lc_eq, ownerEvent_lc]
  change (lightOf (applyLevels (withLc (fun l => { l with resting := b }) s)) i).target = _
  rw [lightOf_applyLevels]
  rfl

/-- The planned end is reached (R145): what of it the RM, the lights and the panel hold. -/
theorem plannedReached_spec (s : State) : (plannedReached s).rm = { s.rm with
      state := .rested, done := true, endSoon := if s.rm.endSoonRaised then s.rm.endSoon else none, horizon := s.cfg.battery.horizon }
    ∧ (plannedReached s).lc.resting = false ∧ (plannedReached s).pn.resting = false
    ∧ (s.rm.horizon ≠ s.cfg.battery.horizon → .horizonChange s.cfg.battery.horizon ∈ (plannedReached s).handed)
    ∧ (∀ k : Fin 8, s.cfg.profile.wakeScene = some (k.1 + 1) → ∀ i, (lightOf (plannedReached s) i).target
        = (tget (tget s.cfg.scenes k).levels i).getD (lightOf s i).target)
    ∧ .chimeRequest 7 ∈ (plannedReached s).handed
    ∧ .noticePost ⟨.restDone, .rm, .attention, false, minuteBytes (shownMinutes (cabTime s - (openStart s.rm).getD (cabTime s)))
        ++ [byte (bit (splitUsed s) 0)]⟩ ∈ (plannedReached s).handed
    ∧ .noticePost ⟨.restChange, .rm, .info, false, [byte (4 + 16 * 3), 4, 0]⟩ ∈ (plannedReached s).handed := by
  obtain ⟨u, hu⟩ : ∃ u, u = withRm (fun r => { r with
    state := .rested, done := true, endSoon := if r.endSoonRaised then r.endSoon else none }) s := ⟨_, rfl⟩
  obtain ⟨s1, hs1⟩ : ∃ v, v = handResting false u := ⟨_, rfl⟩
  obtain ⟨s2, hs2⟩ : ∃ v, v = handHorizon s1 := ⟨_, rfl⟩
  obtain ⟨s3, hs3⟩ : ∃ v, v = wakeLights s2 := ⟨_, rfl⟩
  have hreached : plannedReached s = restNotice .resting .plannedEnd 0 (post .restDone .rm .attention
      (minuteBytes (shownMinutes (cabTime s - (openStart s.rm).getD (cabTime s))) ++ [byte (bit (splitUsed s) 0)]) (chime 7 s3)) := by
    rw [hs3, hs2, hs1, hu]
    rfl
  have hmoves1 : Moves [.lc, .pn] u s1 := hs1 ▸ moves_handResting false u
  have hmoves2 : Moves [.rm] s1 s2 := hs2 ▸ moves_handHorizon s1
  have hmoves3 : Moves [.lc, .asked] s2 s3 := hs3 ▸ moves_wakeLights s2
  have hrm1 : s1.rm = { s.rm with state := .rested, done := true, endSoon := if s.rm.endSoonRaised then s.rm.endSoon else none } := by
    rw [hmoves1.rm_eq, hu]
    rfl
  have hcfg1 : s1.cfg = s.cfg := by
    rw [hmoves1.cfg_eq, hu]
    rfl
  have hhorizon : horizonOf s1 = s.cfg.battery.horizon := by
    rw [horizonOf_rested (by rw [hrm1]; simp), hcfg1]
  have hcfg2 : s2.cfg = s.cfg := hmoves2.cfg_eq.trans hcfg1
  have hrm3 : s3.rm = { s.rm with
      state := .rested, done := true, endSoon := if s.rm.endSoonRaised then s.rm.endSoon else none, horizon := s.cfg.battery.horizon } := by
    rw [hmoves3.rm_eq, hs2, handHorizon_rm s1, hhorizon, hrm1]
  have hresting : s3.lc.resting = false ∧ s3.pn.resting = false := by
    have h := (SameResting.of_moves hmoves2).trans (hs3 ▸ wakeLights_resting s2)
    obtain ⟨hlc, hpn⟩ := handResting_resting false u
    rw [← hs1] at hlc hpn
    exact ⟨h.1.trans hlc, h.2.trans hpn⟩
  have htarget : ∀ i, (lightOf s2 i).target = (lightOf s i).target := fun i => by
    rw [lightOf, hmoves2.lc_eq, hs1, ← lightOf, handResting_target, hu]
    rfl
  have hbehind : ∀ i ∈ s2.handed, i ∈ s3.handed := fun i hi => (hmoves3.handed_behind (by decide)).mem hi
  rw [hreached]
  refine ⟨hrm3, hresting.1, hresting.2, fun hne => ?_, fun k hk i => ?_, ?_, ?_, ?_⟩
  · refine List.mem_append_left _ (List.mem_append_left _ (List.mem_append_left _ (hbehind _ ?_)))
    rw [← hhorizon, hs2]
    exact mem_handHorizon (by rw [hhorizon, hrm1]; exact Ne.symm hne)
  · rw [← htarget i, ← hcfg2, lightOf]
    change (lightOf s3 i).target = _
    rw [hs3]
    exact wakeLights_target k (by rw [hcfg2]; exact hk) i
  · exact List.mem_append_left _ (List.mem_append_left _ (List.mem_append_right _ (List.mem_singleton.2 rfl)))
  · exact List.mem_append_left _ (List.mem_append_right _ (List.mem_singleton.2 rfl))
  · refine List.mem_append_right _ (List.mem_singleton.2 ?_)
    rw [post_rm, chime_rm, hrm3]
    rfl

theorem splitUsed_eq {g : RestSeg} {e : Nat} (hlast : s.rm.log.getLast? = some g) (hopen : g.stop = none) (he : s.rm.plannedEnd = some e) :
    splitUsed s = decide (s.rm.log.any (fun x => x.stop.isSome && x.split) = true ∧ e = g.start + 60 * s.cfg.profile.tS2) := by
  have hstart : openStart s.rm = some g.start := by simp [openStart, hlast, hopen]
  unfold splitUsed
  rw [hstart, he]
  dsimp only
  rw [Bool.eq_iff_iff, Bool.and_eq_true_iff, decide_eq_true_iff, beq_iff_eq, Nat.mul_comm 60]
  rfl

end Sys2Proof.Machine

namespace Sys2Proof.Proofs

open Sys2Proof Sys2Proof.Machine

/-- Settles O50: the RM's commands in their states, a rest's opening and close, and its planned end. -/
theorem restsOpenCloseAndEnd : Obligations.RestsOpenCloseAndEnd := by
  have hdeclare : ∀ (s : State) (st : Status), s.mc.supply = .running →
      declareRest (startEvent .declareRest s) = (startEvent .declareRest s, st) →
      ∃ t, exec .declareRest s = .next t ∧ t.answer = some ⟨st, []⟩ ∧ t.rm = s.rm := fun s st hrun he => by
    obtain ⟨t, hexec, ht⟩ := exec_leaves (i := .declareRest) hrun rfl
    have heff : effect .declareRest (startEvent .declareRest s) = answer st [] (startEvent .declareRest s) := congrArg answerWith he
    rw [heff] at ht
    exact ⟨t, hexec, ht.answer, ht.rm⟩
  refine ⟨fun s hrun hst hroom => ?_, fun s hrun hst => hdeclare s .state hrun ?_, fun s hrun hst => hdeclare s .ok hrun ?_,
    fun s hrun hst => ?_, fun s hrun h1 h2 => ?_, fun s hrun hst e he => ?_, fun s hrun hst e he => ?_⟩
  · obtain ⟨t, hexec, ht⟩ := exec_leaves (i := .declareRest) hrun rfl
    obtain ⟨v, hv, hseg, hlog, hplaced, hsu, hcfg⟩ : ∃ v, declareRest (startEvent .declareRest s) = (openRest v, .ok)
        ∧ v.rm.stopSeg = (if s.rm.state = .stopped then none else s.rm.stopSeg) ∧ v.rm.log = s.rm.log ∧ v.rm.placed = s.rm.placed
        ∧ v.su = s.su ∧ v.cfg = s.cfg := by
      obtain ⟨h, hsome⟩ | ⟨h, hmove⟩ := hst
      · obtain ⟨l, d, a, x, y, z, hrm, -⟩ := closeStop_rm (startEvent .declareRest s)
        have hmoves := moves_closeStop (startEvent .declareRest s)
        refine ⟨closeStop (startEvent .declareRest s), ?_, ?_, ?_, ?_, hmoves.su_eq, hmoves.cfg_eq⟩
        · rw [declareRest, startEvent_rm, h]
        · rw [hrm, if_pos h]
        · exact closeStop_log (s := startEvent .declareRest s) hsome
        · rw [hrm]
          rfl
      · refine ⟨withRm (fun r => { r with uncertain := true }) (startEvent .declareRest s), ?_, ?_, rfl, rfl, rfl, rfl⟩
        · rw [declareRest, startEvent_rm, h]
          exact if_pos hmove
        · rw [if_neg (by rw [h]; simp)]
          rfl
    have heff : effect .declareRest (startEvent .declareRest s) = answer .ok [] (openRest v) := congrArg answerWith hv
    rw [heff] at ht
    obtain ⟨e, h, hrm⟩ := openRest_rm (s := v) (by rw [hlog]; exact hroom)
    have htrm : t.rm = (openRest v).rm := ht.rm
    have hcab : cabTime v = cabTime s := cabTime_congr hsu
    obtain ⟨hlc, hpn⟩ := openRest_resting v
    rw [hrm] at htrm
    refine ⟨t, hexec, ht.answer, by rw [htrm], by rw [htrm]; exact hseg, ?_, ?_, ?_, ?_, ?_, ?_⟩
    · rw [htrm, hlog, hcab]
      simp
    · rw [htrm, hlog]
      simp
    · rw [htrm, hlog, hcab, hcfg]
    · rw [htrm, hplaced, hcfg]
    · exact (congrArg LightUnit.resting ht.lc).trans hlc
    · exact (congrArg PanelUnit.resting ht.pn).trans hpn
  · unfold declareRest
    obtain h | ⟨h, hmove⟩ := hst
    · rw [startEvent_rm, h]
    · rw [startEvent_rm, h]
      exact if_neg hmove
  · unfold declareRest
    obtain h | h := hst <;> rw [startEvent_rm, h]
  · obtain ⟨t, hexec, ht⟩ := exec_leaves (i := .endRest) hrun rfl
    obtain ⟨v, hv⟩ : ∃ v, v = closeRest .stopped false (startEvent .endRest s) := ⟨_, rfl⟩
    have hend : endRest (startEvent .endRest s) = (restNotice s.rm.state .ended 0
        (withRm (fun r => { r with stopSeg := some ⟨cabTime s, false⟩ }) v), .ok) := by
      unfold endRest
      rw [hv]
      obtain h | h := hst <;> rw [startEvent_rm, h] <;> rfl
    have heff : effect .endRest (startEvent .endRest s) = answer .ok [] (restNotice s.rm.state .ended 0
        (withRm (fun r => { r with stopSeg := some ⟨cabTime s, false⟩ }) v)) := congrArg answerWith hend
    rw [heff] at ht
    obtain ⟨g, l, d, a, x, y, z, h, hrm, hclosed⟩ := closeRest_rm .stopped false (startEvent .endRest s)
    have htrm : t.rm = { v.rm with stopSeg := some ⟨cabTime s, false⟩ } := ht.rm
    rw [hv, hrm] at htrm
    refine ⟨t, hexec, ht.answer, by rw [htrm], by rw [htrm], by rw [htrm], by rw [htrm], fun g hg => ?_, fun hr => ?_⟩
    · rw [htrm] at hg
      exact hclosed g hg
    · obtain ⟨hlc, hpn, -⟩ := closeRest_resting (s := startEvent .endRest s) .stopped false hr
      rw [← hv] at hlc hpn
      exact ⟨(congrArg LightUnit.resting ht.lc).trans hlc, (congrArg PanelUnit.resting ht.pn).trans hpn⟩
  · obtain ⟨t, hexec, ht⟩ := exec_leaves (i := .endRest) hrun rfl
    have hend : endRest (startEvent .endRest s) = (startEvent .endRest s, .state) := by
      unfold endRest
      rw [startEvent_rm]
      split
      · exact absurd ‹_› h1
      · exact absurd ‹_› h2
      · rfl
    have heff : effect .endRest (startEvent .endRest s) = answer .state [] (startEvent .endRest s) := congrArg answerWith hend
    rw [heff] at ht
    exact ⟨t, hexec, ht.answer, ht.rm⟩
  · obtain ⟨t, hexec, ht⟩ := exec_leaves (i := .plannedEndReached) hrun rfl
    obtain ⟨v, hv⟩ : ∃ v, v = startEvent .plannedEndReached s := ⟨_, rfl⟩
    have hvrm : v.rm = s.rm := by
      rw [hv]
      rfl
    have hvcfg : v.cfg = s.cfg := by
      rw [hv]
      rfl
    have hcab : cabTime v = cabTime s := by
      rw [hv]
      rfl
    have heff : effect .plannedEndReached v = if e ≤ cabTime v then plannedReached v else v := by
      change plannedEndNow v = _
      rw [plannedEndNow, hvrm, hst, he]
    rw [← hv, heff, hcab] at ht
    refine ⟨t, hexec, fun hle => ?_, fun hlt => ?_⟩
    · rw [if_pos hle] at ht
      obtain ⟨hrm, hlc, hpn, hhorizon, hscene, hchime, hdone, hchange⟩ := plannedReached_spec v
      rw [hvrm, hvcfg] at hrm hhorizon
      rw [hvcfg] at hscene
      have htrm := ht.rm.trans hrm
      refine ⟨by rw [htrm], by rw [htrm], (congrArg LightUnit.resting ht.lc).trans hlc, (congrArg PanelUnit.resting ht.pn).trans hpn,
        by rw [htrm], by rw [htrm], by rw [htrm], fun hne => ht.handed _ (hhorizon hne), fun k hk i => ?_, ht.handed _ hchime,
        fun g hlast hopen => ht.handed _ ?_, ht.handed _ hchange⟩
      · have hlight : lightOf t i = lightOf (plannedReached v) i := by rw [lightOf, ht.lc, lightOf]
        rw [hlight, hscene k hk i, hv]
        rfl
      · have hstart : openStart v.rm = some g.start := by simp [hvrm, openStart, hlast, hopen]
        rw [hstart, Option.getD_some, splitUsed_eq (s := v) (by rw [hvrm]; exact hlast) hopen (by rw [hvrm]; exact he), hcab, hvrm,
          hvcfg] at hdone
        convert hdone using 6
        simp only [bit, decide_eq_true_eq]
        split <;> rfl
    · rw [if_neg (Nat.not_le.2 hlt)] at ht
      exact ht.rm.trans hvrm
  · obtain ⟨t, hexec, ht⟩ := exec_leaves (i := .endSoonReached) hrun rfl
    have heff : effect .endSoonReached (startEvent .endSoonReached s) = if e ≤ cabTime s ∧ s.rm.endSoonRaised = false then
        raiseEndSoon (startEvent .endSoonReached s) else startEvent .endSoonReached s := by
      change endSoonNow _ = _
      rw [endSoonNow, startEvent_rm, hst, he]
      rfl
    rw [heff] at ht
    by_cases hraise : e ≤ cabTime s ∧ s.rm.endSoonRaised = false
    · obtain ⟨hle, hnot⟩ := hraise
      rw [if_pos ⟨hle, hnot⟩] at ht
      refine ⟨t, hexec, ?_, fun _ _ p hp => ht.handed _ ?_⟩
      · rw [ht.rm, hnot, decide_eq_true hle]
        rfl
      · refine List.mem_append_right _ (List.mem_singleton.2 ?_)
        have hminutes : minutesToEnd (startEvent .endSoonReached s)
            = if cabTime s ≤ p then shownMinutes (p - cabTime s) else Config.minutesPastEnd (cabTime s - p) := by
          rw [minutesToEnd, startEvent_rm, hp]
          rfl
        rw [hminutes]
    · rw [if_neg hraise] at ht
      refine ⟨t, hexec, ?_, fun hnot hle => absurd ⟨hle, hnot⟩ hraise⟩
      have hsame : (s.rm.endSoonRaised || decide (e ≤ cabTime s)) = s.rm.endSoonRaised := by
        rw [not_and, Bool.not_eq_false] at hraise
        by_cases hle : e ≤ cabTime s
        · rw [hraise hle, Bool.true_or]
        · rw [decide_eq_false hle, Bool.or_false]
      rw [hsame]
      exact ht.rm

end Sys2Proof.Proofs
end

section
/-! PROOFS. What fires, and what of the schedule it leaves. -/

namespace Sys2Proof.Machine

-- One proof after another: started together they wait for one another, each on a thread of its own.
set_option Elab.async false

variable {s t u : State} {as : List Area} {ks ls : List (Fin 8)}

/-! ### The entries over a firing -/

/-- An entry after its firing in some state of the part, at the time of `s`. -/
def Fired (s : State) (e : SchedEntry) (o : Option SchedEntry) : Prop :=
  ∃ st u, st = (runAction e.action u).2 ∧ o = some (entryAfter (cabTime s) ⟨st == .ok || st == .clamped, some st, stampNow s⟩ e)

/-- The entries of the slots `ks` fire once each, and of the schedule nothing else changes. -/
structure Fires (ks : List (Fin 8)) (s t : State) : Prop where
  su : t.su = { s.su with slots := t.su.slots }
  other : ∀ k, k ∉ ks → slotOf t k = slotOf s k
  fired : ∀ k ∈ ks, ∀ e, slotOf s k = some e → Fired s e (slotOf t k)

theorem stampNow_congr (h : t.su = s.su) : stampNow t = stampNow s := by
  unfold stampNow
  rw [cabTime_congr h, h]

theorem Fires.of_su (h : t.su = s.su) : Fires [] s t :=
  ⟨by rw [h], fun k _ => by rw [slotOf, h, slotOf], fun k hk => absurd hk List.not_mem_nil⟩

theorem Fires.cabTime (h : Fires ks s t) : cabTime t = cabTime s := by
  unfold Machine.cabTime
  rw [h.su]

theorem Fires.stampNow (h : Fires ks s t) : stampNow t = stampNow s := by
  unfold Machine.stampNow
  rw [h.cabTime, h.su]

theorem Fires.trans (h : Fires ks s t) (k : Fires ls t u) (hdisj : ∀ i ∈ ks, i ∉ ls) : Fires (ks ++ ls) s u := by
  refine ⟨by rw [k.su, h.su], fun i hi => ?_, fun i hi e he => ?_⟩
  · rw [List.mem_append, not_or] at hi
    exact (k.other i hi.2).trans (h.other i hi.1)
  · by_cases hks : i ∈ ks
    · rw [k.other i (hdisj i hks)]
      exact h.fired i hks e he
    · have hls : i ∈ ls := (List.mem_append.1 hi).resolve_left hks
      obtain ⟨st, v, hst, hfired⟩ := k.fired i hls e ((h.other i hks).trans he)
      exact ⟨st, v, hst, by rw [hfired, h.cabTime, h.stampNow]⟩

/-- A step that leaves the schedule, before and behind a firing. -/
theorem Fires.before (h : Fires ks t u) (k : t.su = s.su) : Fires ks s u := (Fires.of_su k).trans h fun _ hi => absurd hi List.not_mem_nil

theorem Fires.after (h : Fires ks s t) (k : u.su = t.su) : Fires ks s u := by
  have hu := h.trans (Fires.of_su k) fun _ _ => List.not_mem_nil
  rwa [List.append_nil] at hu

theorem Fires.foldl {f : State → Fin 8 → State} (hf : ∀ s k, Fires [k] s (f s k)) {ks : List (Fin 8)} (hks : ks.Nodup) (s : State) :
    Fires ks s (ks.foldl f s) := by
  induction ks generalizing s with
  | nil => exact .of_su rfl
  | cons k ks ih =>
    obtain ⟨hk, hrest⟩ := List.nodup_cons.1 hks
    exact (hf s k).trans (ih hrest _) fun i hi => by rwa [List.mem_singleton.1 hi]

theorem runAction_su (a : Action) (s : State) : (runAction a s).1.su = s.su := by
  unfold runAction
  split
  · exact (moves_heaterStart _ _ s).su_eq
  · exact (moves_heaterStop s).su_eq
  · exact (moves_sceneRequest _ s).su_eq
  · exact (moves_chimeStatus _ s).su_eq
  · exact (moves_boostStart s).su_eq
  · split
    · rfl
    · exact (moves_writeVentSpeed _ s).su_eq

theorem slotOf_setSlot (k j : Fin 8) (e : Option SchedEntry) (s : State) : slotOf (setSlot k e s) j = if k = j then e else slotOf s j :=
  tget_tset _ _ _ _

theorem fires_fireEntry (s : State) (k : Fin 8) : Fires [k] s (fireEntry s k) := by
  unfold fireEntry
  split
  · rename_i hnone
    exact ⟨rfl, fun _ _ => rfl, fun j hj e he => absurd (he.symm.trans ((List.mem_singleton.1 hj) ▸ hnone)) (by simp)⟩
  · rename_i e he
    extract_lets r done s1
    have hsu : s1.su = { s.su with slots := tset s.su.slots k (some (entryAfter (cabTime s) ⟨done, some r.2, stampNow s⟩ e)) } := by
      have hrun : r.1.su = s.su := runAction_su e.action s
      rw [← hrun]
      rfl
    have hslot : ∀ j, slotOf s1 j = if k = j then some (entryAfter (cabTime s) ⟨done, some r.2, stampNow s⟩ e) else slotOf s j := fun j => by
      rw [slotOf, hsu]
      exact tget_tset _ _ _ _
    refine ⟨?_, fun j hj => ?_, fun j hj e' he' => ?_⟩
    · rw [scheduleNotice, post_su, hsu]
    · rw [List.mem_singleton] at hj
      exact (hslot j).trans (if_neg (Ne.symm hj))
    · obtain rfl := List.mem_singleton.1 hj
      obtain rfl := Option.some.inj (he.symm.trans he')
      exact ⟨r.2, s, rfl, (hslot j).trans (if_pos rfl)⟩

/-! ### The due slots -/

theorem mem_insertDue (x y : Nat × Fin 8) (xs : List (Nat × Fin 8)) : y ∈ insertDue x xs ↔ y = x ∨ y ∈ xs := by
  induction xs with
  | nil => simp [insertDue]
  | cons z zs ih =>
    unfold insertDue
    split
    · simp
    · simp only [List.mem_cons, ih]
      tauto

theorem insertDue_perm (x : Nat × Fin 8) (xs : List (Nat × Fin 8)) : (insertDue x xs).Perm (x :: xs) := by
  induction xs with
  | nil => exact .refl _
  | cons z zs ih =>
    unfold insertDue
    split
    · exact .refl _
    · exact (ih.cons z).trans (.swap x z zs)

theorem foldl_insertDue_perm (xs acc : List (Nat × Fin 8)) : (xs.foldl (fun acc x => insertDue x acc) acc).Perm (xs ++ acc) := by
  induction xs generalizing acc with
  | nil => exact .refl _
  | cons x xs ih =>
    refine (ih (insertDue x acc)).trans ?_
    exact ((insertDue_perm x acc).append_left xs).trans List.perm_middle

/-- The due slots fire in an order of their own, each once. -/
theorem dueSlots_perm (s : State) : (dueSlots s).Perm (allSlots.filter (isDue s)) := by
  unfold dueSlots
  refine ((foldl_insertDue_perm _ []).map (·.2)).trans ?_
  rw [List.append_nil, List.map_map]
  exact List.Perm.of_eq (List.map_id _)

theorem mem_dueSlots (s : State) (k : Fin 8) : k ∈ dueSlots s ↔ isDue s k = true := by
  have hall : k ∈ allSlots := by fin_cases k <;> decide
  rw [(dueSlots_perm s).mem_iff, List.mem_filter]
  exact and_iff_right hall

theorem dueSlots_nodup (s : State) : (dueSlots s).Nodup := (dueSlots_perm s).nodup_iff.2 (List.Nodup.filter _ (by decide))

theorem isDue_congr (h : t.su = s.su) (k : Fin 8) : isDue t k = isDue s k := by
  unfold isDue slotOf
  rw [h, cabTime_congr h]

theorem dueSlots_congr (h : t.su = s.su) : dueSlots t = dueSlots s := by
  unfold dueSlots slotOf
  rw [h, show isDue t = isDue s from funext (isDue_congr h)]

/-! ### The search for due entries -/

theorem grantPanel_su (s : State) : (grantPanel s).su = s.su := by
  unfold grantPanel
  extract_lets s1 e report
  have h1 : s1.su = s.su := by
    have hpass := moves_passEntry .panel (fun e => { e with
      request := some (panelRequest (takeHanding (panelPlacing s) s).cfg.demands) }) (fun _ => rfl) (takeHanding (panelPlacing s) s)
    exact (ownerEvent_su [5] _ _).trans hpass.su_eq
  clear_value s1
  split
  · rw [ownerEvent_su, (moves_panelGrant _ _).su_eq]
    exact h1
  · exact h1

theorem panelBefore_su (s : State) (k : Fin 8) : (panelBefore s k).su = s.su := by
  unfold panelBefore
  split
  · dsimp only
    split
    · exact grantPanel_su _
    · rfl
  · rfl

theorem fires_fireHeld (s : State) : Fires (dueSlots s) s (fireHeld s) :=
  Fires.foldl (fun s k => (fires_fireEntry _ k).before (panelBefore_su s k)) (dueSlots_nodup s) s

theorem fires_wakeStandby (s : State) : Fires (dueSlots s) s (wakeStandby s) := by
  unfold wakeStandby
  extract_lets link s1 s2
  have h1 : s1.su = s.su := (ownerEvent_su [8] _ _).trans (moves_enterAwake { s with lk := { s.lk with rx := .skip } }).su_eq
  have h2 : (ask .panel (some (panelRequest s2.cfg.demands)) s2).su = s.su := by
    rw [ask_su, show s2.su = s1.su from ownerEvent_su [20] _ _, h1]
  have hfires := (fires_fireHeld (ask .panel (some (panelRequest s2.cfg.demands)) s2)).before h2
  rw [dueSlots_congr h2] at hfires
  exact hfires.after (ownerEvent_su [25] _ _)

/-- What is due fires, once each, and of the schedule nothing else changes (R160). -/
theorem fires_fireDue (s : State) : Fires (dueSlots s) s (fireDue s) := by
  have hwoken : Fires (dueSlots s) s (fireAll (wakeFromDoze s)) := by
    have hsu := (moves_wakeFromDoze s).su_eq
    rw [← dueSlots_congr hsu]
    exact (Fires.foldl fires_fireEntry (dueSlots_nodup _) _).before hsu
  unfold fireDue
  split
  · rename_i hnone
    rw [hnone]
    exact .of_su rfl
  · split
    · exact hwoken
    · exact hwoken
    · exact fires_wakeStandby s

/-- A slot whose entry is not due stands at a search. -/
theorem slotOf_fireDue {k : Fin 8} (h : isDue s k = false) : slotOf (fireDue s) k = slotOf s k :=
  (fires_fireDue s).other k fun hk => Bool.false_ne_true (h.symm.trans ((mem_dueSlots s k).1 hk))

/-- A due entry has fired. -/
theorem fired_fireDue {k : Fin 8} {e : SchedEntry} (h : isDue s k = true) (he : slotOf s k = some e) : Fired s e (slotOf (fireDue s) k) :=
  (fires_fireDue s).fired k ((mem_dueSlots s k).2 h) e he

end Sys2Proof.Machine
end

section
/-! PROOFS. The cab clock's setting, and the schedule's entries. -/

namespace Sys2Proof.Machine

-- One proof after another: started together they wait for one another, each on a thread of its own.
set_option Elab.async false

variable {s t u : State} {as : List Area}

/-! ### The clock's setting -/

theorem clockRefused_false_iff (time : Nat) (s : State) : clockRefused time s = false ↔ time ≤ 4294967295
    ∧ ∀ x ∈ restTimes s.rm ++ (restEntryTime s).toList,
        0 ≤ (x : Int) + ((time : Int) - (cabTime s : Int)) ∧ (x : Int) + ((time : Int) - (cabTime s : Int)) ≤ 4294967295 := by
  unfold clockRefused clockDelta
  rw [Bool.or_eq_false_iff, decide_eq_false_iff_not, Nat.not_lt, Bool.not_eq_false', List.all_eq_true]
  refine and_congr Iff.rfl (forall_congr' fun x => imp_congr_right fun _ => ?_)
  rw [staysInRange, Bool.and_eq_true_iff, decide_eq_true_iff, decide_eq_true_iff]
  exact Iff.rfl

/-- A step that touches a slot of its own and nothing else of the schedule. -/
def TouchesSlot (f : State → Fin 8 → State) : Prop :=
  ∀ s k, (f s k).su = { s.su with slots := (f s k).su.slots } ∧ ∀ j, j ≠ k → slotOf (f s k) j = slotOf s j

/-- Over a list of slots each is touched once, where the schedule else stands as it stood. -/
theorem TouchesSlot.foldl {f : State → Fin 8 → State} (hf : TouchesSlot f) {ks : List (Fin 8)} (hks : ks.Nodup) (s : State) :
    (ks.foldl f s).su = { s.su with slots := (ks.foldl f s).su.slots } ∧ ∀ k ∈ ks,
      ∃ u, u.su = { s.su with slots := u.su.slots } ∧ slotOf u k = slotOf s k ∧ slotOf (ks.foldl f s) k = slotOf (f u k) k := by
  have hother : ∀ (ks : List (Fin 8)) (s : State), (ks.foldl f s).su = { s.su with slots := (ks.foldl f s).su.slots }
      ∧ ∀ j, j ∉ ks → slotOf (ks.foldl f s) j = slotOf s j := fun ks => by
    induction ks with
    | nil => exact fun s => ⟨rfl, fun _ _ => rfl⟩
    | cons k ks ih =>
      intro s
      obtain ⟨hsu, hslots⟩ := ih (f s k)
      refine ⟨by rw [List.foldl_cons, hsu, (hf s k).1], fun j hj => ?_⟩
      rw [List.mem_cons, not_or] at hj
      exact (hslots j hj.2).trans ((hf s k).2 j hj.1)
  refine ⟨(hother ks s).1, fun k hk => ?_⟩
  induction ks generalizing s with
  | nil => cases hk
  | cons i ks ih =>
    obtain ⟨hi, hrest⟩ := List.nodup_cons.1 hks
    obtain rfl | hmem := List.mem_cons.1 hk
    · exact ⟨s, rfl, rfl, (hother ks _).2 k hi⟩
    · obtain ⟨u, hu, hslot, hlast⟩ := ih hrest (f s i) hmem
      have hne : k ≠ i := fun e => hi (e ▸ hmem)
      exact ⟨u, by rw [hu, (hf s i).1], hslot.trans ((hf s i).2 k hne), hlast⟩

theorem passOver_touches : TouchesSlot passOver := fun s k => by
  unfold passOver
  split
  · exact ⟨rfl, fun _ _ => rfl⟩
  · exact ⟨rfl, fun j hj => (slotOf_setSlot _ _ _ _).trans (if_neg (Ne.symm hj))⟩

theorem slotOf_passOver {k : Fin 8} {e : SchedEntry} (h : slotOf s k = some e) :
    slotOf (passOver s k) k = some (entryAfter (cabTime s) ⟨false, none, stampNow s⟩ e) := by
  rw [passOver, h]
  exact (slotOf_setSlot _ _ _ _).trans (if_pos rfl)

/-- A passed entry is passed over once, the schedule else as it stood. -/
theorem passOverAll_spec (s : State) : (passOverAll s).su = { s.su with slots := (passOverAll s).su.slots }
    ∧ ∀ k e, isPassed s k = true → slotOf s k = some e →
        slotOf (passOverAll s) k = some (entryAfter (cabTime s) ⟨false, none, stampNow s⟩ e) := by
  obtain ⟨hsu, hslots⟩ := passOver_touches.foldl (ks := allSlots.filter (isPassed s)) (List.Nodup.filter _ (by decide)) s
  refine ⟨hsu, fun k e hk he => ?_⟩
  have hall : k ∈ allSlots := by fin_cases k <;> decide
  obtain ⟨u, hu, hslot, hlast⟩ := hslots k (List.mem_filter.2 ⟨hall, hk⟩)
  have hcab : cabTime u = cabTime s := by
    unfold cabTime
    rw [hu]
  have hstamp : stampNow u = stampNow s := by
    unfold stampNow
    rw [hcab, hu]
  rw [passOverAll, hlast, slotOf_passOver (hslot.trans he), hcab, hstamp]

theorem slotOf_pullEntries (s : State) (k : Fin 8) : slotOf (pullEntries s) k = (slotOf s k).map (pullEntry (cabTime s)) :=
  tget_map _ _ _

theorem pullEntries_su (s : State) : (pullEntries s).su = { s.su with slots := (pullEntries s).su.slots } := rfl

/-- The clock as a setting leaves it, before what is passed over and what fires. -/
def clockSet (time : Nat) (s : State) : State :=
  withSu (fun u => { u with
    offset := (time : Int) - (u.elapsed : Int)
    lastDelta := some (clockDelta time s)
    unset := false
    slots := u.slots.map (Option.map (shiftEntry (clockDelta time s))) }) (withRm (shiftRest (clockDelta time s)) s)

theorem cabTime_clockSet {time : Nat} (h : time ≤ 4294967295) (s : State) : cabTime (clockSet time s) = time := by
  change min max32 ((s.su.elapsed : Int) + ((time : Int) - (s.su.elapsed : Int))).toNat = time
  rw [show (s.su.elapsed : Int) + ((time : Int) - (s.su.elapsed : Int)) = time by omega, Int.toNat_natCast]
  exact Nat.min_eq_right h

theorem slotOf_clockSet (time : Nat) (s : State) (k : Fin 8) :
    slotOf (clockSet time s) k = (slotOf s k).map (shiftEntry (clockDelta time s)) := tget_map _ _ _

/-- A setting's shift leaves the schedule but its slots at the new time. -/
theorem shiftClock_su (time : Nat) (s : State) :
    (shiftClock time s).su = { (clockSet time s).su with slots := (shiftClock time s).su.slots } := by
  have hpass : ∀ v : State, (passOverAll v).su = { v.su with slots := (passOverAll v).su.slots } := fun v => (passOverAll_spec v).1
  unfold shiftClock
  extract_lets d s1 s2
  have h2 : s2.su = { (clockSet time s).su with slots := s2.su.slots } := by
    unfold s2
    split
    · rfl
    · exact hpass s1
  split
  · exact (pullEntries_su s2).trans (by rw [h2])
  · exact h2

theorem shiftClock_rm (time : Nat) (s : State) : (shiftClock time s).rm = shiftRest (clockDelta time s) s.rm := by
  unfold shiftClock
  extract_lets d s1 s2
  have h2 : s2.rm = s1.rm := by
    unfold s2
    split
    · rfl
    · exact (moves_passOverAll s1).rm_eq
  split
  · exact h2
  · exact h2

/-- A passed ONCE host entry is SKIPPED with CLOCK, unless the clock was set and moves on by 1 to 120 s. -/
theorem shiftClock_skips {time : Nat} (htime : time ≤ 4294967295) {k : Fin 8} {e : SchedEntry} (he : slotOf s k = some e) (hhost : e.rest = false)
    (harmed : e.state = .armed) (honce : e.daily = false) (hle : e.time ≤ time)
    (hjump : s.su.unset = true ∨ clockDelta time s < 1 ∨ 120 < clockDelta time s) :
    slotOf (shiftClock time s) k = some { e with state := .skipped, last := some ⟨false, none, ⟨time, false⟩⟩ } := by
  have hslot : slotOf (clockSet time s) k = some e := by
    rw [slotOf_clockSet, he]
    simp [shiftEntry, hhost]
  have hpassed : isPassed (clockSet time s) k = true := by
    rw [isPassed, hslot]
    simp [hhost, harmed, cabTime_clockSet htime, hle]
  have hskip := (passOverAll_spec (clockSet time s)).2 k e hpassed hslot
  rw [stampNow, cabTime_clockSet htime] at hskip
  have hafter : slotOf (passOverAll (clockSet time s)) k
      = some { e with state := .skipped, last := some ⟨false, none, ⟨time, false⟩⟩ } := by
    rw [hskip, entryAfter, if_neg (by simp [honce])]
    rfl
  have hno : ¬(s.su.unset = false ∧ 1 ≤ clockDelta time s ∧ clockDelta time s ≤ 120) := by
    rintro ⟨hset, h1, h120⟩
    obtain h | h | h := hjump
    · rw [hset] at h
      cases h
    · omega
    · omega
  have hshift : shiftClock time s = if clockDelta time s < 0 then pullEntries (passOverAll (clockSet time s))
      else passOverAll (clockSet time s) := by
    unfold shiftClock
    dsimp only
    rw [if_neg hno]
    rfl
  rw [hshift]
  split
  · rw [slotOf_pullEntries, hafter]
    simp [pullEntry, honce]
  · exact hafter

end Sys2Proof.Machine

namespace Sys2Proof.Proofs

open Sys2Proof Sys2Proof.Machine

/-- Settles O51: the setting shifts the clock, the RM's times and the entries, and a skipped entry does not fire. -/
theorem setClockMovesTheCabTime : Obligations.SetClockMovesTheCabTime := by
  have hrefused : ∀ (time : Nat) (s : State), s.mc.supply = .running → clockRefused time s = true →
      ∃ t, exec (.setClock time) s = .next t ∧ t.answer = some ⟨.range, []⟩ ∧ changesOnly (.answer :: everyEvent) s t :=
    fun time s hrun h => exec_answers hrun rfl (if_pos h)
  refine ⟨fun time s hrun htime => hrefused time s hrun ?_, fun time s hrun htime => ?_⟩
  · exact Bool.or_eq_true_iff.2 (.inl (decide_eq_true htime))
  · intro d fits
    have hfits : fits ↔ clockRefused time s = false := by
      rw [clockRefused_false_iff]
      exact (and_iff_right htime).symm
    by_cases hok : clockRefused time s = false
    · obtain ⟨t, hexec, ht⟩ := exec_leaves (i := .setClock time) hrun rfl
      obtain ⟨v, hv⟩ : ∃ v, v = startEvent (.setClock time) s := ⟨_, rfl⟩
      have hcab : cabTime v = cabTime s := by
        rw [hv]
        rfl
      have hsu : v.su = s.su := by
        rw [hv]
        rfl
      have hrm : v.rm = s.rm := by
        rw [hv]
        rfl
      have hd : clockDelta time v = d := by rw [clockDelta, hcab]
      have heff : effect (.setClock time) v = answer .ok [] (moveClock time v) := by
        rw [hv]
        exact if_neg (by rw [show clockRefused time (startEvent (.setClock time) s) = clockRefused time s from rfl, hok]; decide)
      rw [← hv, heff] at ht
      have hfires := fires_fireDue (ownerEvent [1, 24, 25] (shiftClock time) v)
      have htsu : t.su = { (clockSet time v).su with slots := t.su.slots } := by
        rw [ht.su, answer_su, moveClock, hfires.su, ownerEvent_su, shiftClock_su]
      have hset : (clockSet time v).su.elapsed = s.su.elapsed := by
        rw [← hsu]
        rfl
      refine ⟨t, hexec, fun h => absurd (hfits.2 hok) h, fun _ => ⟨ht.answer, ?_, ?_, ?_, ?_, ?_, fun k hk hjump => ?_⟩⟩
      · rw [show cabTime t = cabTime (clockSet time v) by unfold cabTime; rw [htsu]]
        exact cabTime_clockSet htime v
      · rw [htsu]
        rfl
      · rw [htsu, ← hd]
        rfl
      · rw [htsu]
        exact hset
      · rw [ht.rm, answer_rm, moveClock, fireDue_rm, ownerEvent_rm, shiftClock_rm, hd, hrm]
      · cases he : slotOf s k with
        | none =>
          rw [he] at hk
          cases hk
        | some e =>
          rw [he] at hk
          simp only [Option.any_some, Bool.and_eq_true, Bool.not_eq_true', beq_iff_eq, decide_eq_true_eq] at hk
          obtain ⟨⟨⟨hhost, harmed⟩, honce⟩, hle⟩ := hk
          have hev : slotOf v k = some e := by rw [slotOf, hsu, ← slotOf, he]
          have hskip := shiftClock_skips htime hev hhost harmed honce hle (by rw [hsu, hd]; exact hjump)
          have hslot : slotOf (ownerEvent [1, 24, 25] (shiftClock time) v) k
              = some { e with state := .skipped, last := some ⟨false, none, ⟨time, false⟩⟩ } := by
            rw [slotOf, ownerEvent_su]
            exact hskip
          have hnot : isDue (ownerEvent [1, 24, 25] (shiftClock time) v) k = false := by
            rw [isDue, hslot]
            simp
          rw [slotOf, ht.su, answer_su, moveClock, ← slotOf, slotOf_fireDue hnot, hslot]
          rfl
    · obtain ⟨t, hexec, hanswer, hchanges⟩ := hrefused time s hrun (by simpa using hok)
      exact ⟨t, hexec, fun _ => ⟨hanswer, hchanges .su (by decide), hchanges .rm (by decide)⟩, fun h => absurd (hfits.1 h) hok⟩

end Sys2Proof.Proofs
end

section
/-! PROOFS. Entries added, placed, moved and removed. -/

namespace Sys2Proof.Machine

-- One proof after another: started together they wait for one another, each on a thread of its own.
set_option Elab.async false

variable {s t u : State} {as : List Area}

/-! ### Slots found -/

theorem mem_allSlots (k : Fin 8) : k ∈ allSlots := by fin_cases k <;> decide

theorem allSlots_split : ∀ k : Fin 8, allSlots = allSlots.take k.1 ++ k :: allSlots.drop (k.1 + 1)
    ∧ ∀ j ∈ allSlots.take k.1, j < k := by decide

theorem freeSlot_eq {k : Fin 8} (h : slotOf s k = none) (hlow : ∀ j ∈ allSlots, j < k → slotOf s j ≠ none) : freeSlot s = some k := by
  obtain ⟨hsplit, hbelow⟩ := allSlots_split k
  refine List.find?_eq_some_iff_append.2 ⟨by rw [h]; rfl, _, _, hsplit, fun j hj => ?_⟩
  have htaken := hlow j (mem_allSlots j) (hbelow j hj)
  cases hslot : slotOf s j with
  | none => exact absurd hslot htaken
  | some e => rfl

theorem restSlot_eq {k : Fin 8} {e : SchedEntry} (he : slotOf s k = some e) (hrest : e.rest = true)
    (honly : ∀ j ∈ allSlots, j ≠ k → (slotOf s j).all (fun e => !e.rest) = true) : restSlot s = some k := by
  have hk : (match slotOf s k with | some e => e.rest | none => false) = true := by rw [he]; exact hrest
  unfold restSlot
  cases hfind : allSlots.find? (fun k => match slotOf s k with | some e => e.rest | none => false) with
  | none => exact absurd hk (List.find?_eq_none.1 hfind k (mem_allSlots k))
  | some j =>
    have hj := List.find?_some hfind
    by_cases hjk : j = k
    · rw [hjk]
    · have hno := honly j (mem_allSlots j) hjk
      cases hslot : slotOf s j with
      | none =>
        rw [hslot] at hj
        cases hj
      | some e' =>
        rw [hslot] at hj hno
        rw [Option.all_some, show e'.rest = true from hj] at hno
        cases hno

theorem isDue_some {k : Fin 8} {e : SchedEntry} (h : slotOf s k = some e) :
    isDue s k = (!s.su.unset && e.state == .armed && decide (e.time ≤ cabTime s)) := by rw [isDue, h]

theorem isDue_none {k : Fin 8} (h : slotOf s k = none) : isDue s k = false := by rw [isDue, h]

/-- An entry that lies ahead is not due. -/
theorem isDue_ahead {k : Fin 8} {e : SchedEntry} (h : slotOf s k = some e) (hahead : s.su.unset = true ∨ cabTime s < e.time) :
    isDue s k = false := by
  rw [isDue_some h]
  obtain hunset | hlater := hahead
  · simp [hunset]
  · simp [Nat.not_le.2 hlater]

/-! ### A slot filled, with the search behind it -/

/-- A slot filled and the entries due then fired. -/
def placed (k : Fin 8) (e : SchedEntry) (s : State) : State := ownerEvent [25] (setSlot k (some e)) s

theorem placed_su (k : Fin 8) (e : SchedEntry) (s : State) : (placed k e s).su = { s.su with slots := tset s.su.slots k (some e) } :=
  ownerEvent_su [25] _ _

theorem slotOf_placed (k j : Fin 8) (e : SchedEntry) (s : State) : slotOf (placed k e s) j = if k = j then some e else slotOf s j := by
  rw [slotOf, placed_su]
  exact tget_tset _ _ _ _

theorem cabTime_placed (k : Fin 8) (e : SchedEntry) (s : State) : cabTime (placed k e s) = cabTime s := by
  unfold cabTime
  rw [placed_su]

theorem isDue_placed_of_ne {k j : Fin 8} (e : SchedEntry) (h : j ≠ k) : isDue (placed k e s) j = isDue s j := by
  unfold isDue
  rw [slotOf_placed, if_neg h.symm, placed_su, cabTime_placed]

theorem isDue_placed (k : Fin 8) (e : SchedEntry) :
    isDue (placed k e s) k = (!s.su.unset && e.state == .armed && decide (e.time ≤ cabTime s)) := by
  rw [isDue_some ((slotOf_placed k k e s).trans (if_pos rfl)), placed_su, cabTime_placed]

theorem prewarmPlace_free {k : Fin 8} (time sp du : Nat) (h : freeSlot s = some k) : prewarmPlace time sp du s
    = fireDue (placed k ⟨true, time, false, .heatStart sp (some du), .armed, none⟩ s) := by
  rw [prewarmPlace, h]
  rfl

theorem prewarmMove_rest {k : Fin 8} {e : SchedEntry} (time sp du : Nat) (h : restSlot s = some k) (he : slotOf s k = some e) :
    prewarmMove time sp du s = fireDue (placed k { e with time := time, action := .heatStart sp (some du) } s) := by
  rw [prewarmMove, h]
  dsimp only
  rw [he]
  rfl

theorem prewarmRemove_rest {k : Fin 8} (h : restSlot s = some k) : prewarmRemove s = ownerEvent [25] (setSlot k none) s := by
  rw [prewarmRemove, h]

/-- A fired entry has its result and its action. -/
theorem Fired.kept {e : SchedEntry} {o : Option SchedEntry} (h : Fired s e o) : o.any (fun x => x.last.isSome && x.action == e.action) = true := by
  obtain ⟨st, u, -, rfl⟩ := h
  unfold entryAfter
  split
  · split <;> simp
  · simp

theorem entryAfter_last (cab : Nat) (r : EntryResult) (e : SchedEntry) : (entryAfter cab r e).last = some r := by
  unfold entryAfter
  split
  · split <;> rfl
  · rfl

theorem chimeStatus_status {p : Nat} (h : p ≤ 9) (s : State) : (chimeStatus p s).2 = .ok ∨ (chimeStatus p s).2 = .state := by
  rw [chimeStatus, dif_pos (by omega)]
  dsimp only
  split
  · exact .inl rfl
  · exact .inr rfl

/-- A CHIME that has fired ended DONE or was refused with STATE. -/
theorem Fired.chime {e : SchedEntry} {p : Nat} {o : Option SchedEntry} (h : Fired s e o) (he : e.action = .chime p) (hp : p ≤ 9)
    {x : SchedEntry} (hx : o = some x) :
    x.last = some ⟨true, some .ok, stampNow s⟩ ∨ x.last = some ⟨false, some .state, stampNow s⟩ := by
  obtain ⟨st, u, hst, rfl⟩ := h
  obtain rfl := Option.some.inj hx
  rw [he] at hst
  rw [entryAfter_last]
  obtain hok | hrefused := chimeStatus_status hp u
  · rw [show st = .ok from hst.trans hok]
    exact .inl rfl
  · rw [show st = .state from hst.trans hrefused]
    exact .inr rfl

/-! ### ADD ENTRY -/

/-- An action as an entry takes it (R156). -/
def takenAction : Action → Action
  | .heatStart sp du => .heatStart (max 50 (min 300 sp)) (du.map fun d => max 1 (min 720 d))
  | other => other

/-- Whether an entry holds an action at all. -/
def actionHeld : Action → Bool
  | .scene n => decide (1 ≤ n ∧ n ≤ 8)
  | .chime p => decide (p ≤ 9)
  | .vent v => decide (v ≤ 3)
  | _ => true

theorem takeAction_held {a : Action} (h : actionHeld a = true) : ∃ clamped, takeAction a = some (takenAction a, clamped)
    ∧ (clamped = true ↔ takenAction a ≠ a) := by
  cases a with
  | heatStart sp du =>
    refine ⟨_, rfl, ?_⟩
    simp only [takenAction, Bool.or_eq_true, bne_iff_ne, ne_eq, Action.heatStart.injEq]
    tauto
  | heatStop => exact ⟨false, rfl, by simp [takenAction]⟩
  | scene n => exact ⟨false, if_pos (of_decide_eq_true h), by simp [takenAction]⟩
  | chime p => exact ⟨false, if_pos (of_decide_eq_true h), by simp [takenAction]⟩
  | fridgeBoost => exact ⟨false, rfl, by simp [takenAction]⟩
  | vent v => exact ⟨false, if_pos (of_decide_eq_true h), by simp [takenAction]⟩

/-- ADD ENTRY's refusal of what no entry holds. -/
theorem addEntry_range {time rep state : Nat} {a : Option Action} (h : a.bind takeAction = none ∨ max32 < time ∨ 1 < rep ∨ (state ≠ 0 ∧ state ≠ 3)) :
    addEntry time rep state a s = answer .range [] s := by
  unfold addEntry
  split
  · rfl
  · rename_i hsome
    exact if_pos (h.resolve_left (by rw [hsome]; simp))

theorem addEntry_full {time rep state : Nat} {a b : Action} {c : Bool} (ha : takeAction a = some (b, c))
    (hfields : ¬(max32 < time ∨ 1 < rep ∨ (state ≠ 0 ∧ state ≠ 3))) (hfull : 7 ≤ hostEntries s) :
    addEntry time rep state (some a) s = answer .noRoom [] s := by
  rw [addEntry, Option.bind_some, ha]
  dsimp only
  rw [if_neg hfields, if_pos hfull]

/-- ADD ENTRY's entry in the lowest free slot, and the search behind it. -/
theorem addEntry_taken {time rep state : Nat} {a b : Action} {c : Bool} (ha : takeAction a = some (b, c))
    (hfields : ¬(max32 < time ∨ 1 < rep ∨ (state ≠ 0 ∧ state ≠ 3))) (hroom : hostEntries s < 7) {k : Fin 8} (hfree : freeSlot s = some k) :
    addEntry time rep state (some a) s = fireDue (answer (if c then .clamped else .ok) [byte k.1]
      (placed k ⟨false, time, rep == 1, b, if state = 0 then .armed else .disabled, none⟩ s)) := by
  rw [addEntry, Option.bind_some, ha]
  dsimp only
  rw [if_neg hfields, if_neg (Nat.not_le.2 hroom), hfree]
  rfl

end Sys2Proof.Machine

namespace Sys2Proof.Proofs

open Sys2Proof Sys2Proof.Machine

/-- Settles O52: each command fills, changes or frees one slot, and what is then due fires. -/
theorem entriesAreAddedMovedAndRemoved : Obligations.EntriesAreAddedMovedAndRemoved := by
  refine ⟨fun time rep state a k s hrun htime hrep hstate hroom hnone hlow hheld => ?_, fun time rep state a s hrun h => ?_,
    fun time rep state s hrun htime hrep hstate hfull => ?_, fun k s hrun => ?_, fun n s hrun hn => ?_,
    fun time sp du k s hrun hnone hlow hahead => ?_, fun time sp du k s hrun hahead honly e he hrest => ?_,
    fun k s hrun honly hrest => ?_⟩
  · intro taken e due
    have hheld : actionHeld a = true := by cases a <;> exact hheld
    have htaken : taken = takenAction a := by cases a <;> rfl
    obtain ⟨clamped, haction, hclamped⟩ := takeAction_held hheld
    have hfields : ¬(max32 < time ∨ 1 < rep ∨ (state ≠ 0 ∧ state ≠ 3)) := by
      rw [show max32 = 4294967295 from rfl]
      omega
    obtain ⟨v, hv⟩ : ∃ v, v = startEvent (.addEntry time rep state (some a)) s := ⟨_, rfl⟩
    have hvsu : v.su = s.su := by
      rw [hv]
      rfl
    have hslot : ∀ j, slotOf v j = slotOf s j := fun j => by rw [slotOf, hvsu, slotOf]
    have hfree : freeSlot v = some k := freeSlot_eq (by rw [hslot]; exact hnone) fun j hj hjk => by
      rw [hslot]
      exact hlow j hj hjk
    have hroomv : hostEntries v < 7 := by
      rw [show hostEntries v = hostEntries s by rw [hv]; rfl]
      exact hroom
    obtain ⟨w, hw⟩ : ∃ w, w = answer (if clamped then .clamped else .ok) [byte k.1] (placed k e v) := ⟨_, rfl⟩
    have hwsu : w.su = (placed k e v).su := by
      rw [hw]
      rfl
    obtain ⟨t, hexec, ht⟩ := exec_leaves (i := .addEntry time rep state (some a)) hrun rfl
    have heff : effect (.addEntry time rep state (some a)) v = fireDue w := by
      rw [hw, show e = ⟨false, time, rep == 1, takenAction a, if state = 0 then .armed else .disabled, none⟩ by rw [← htaken]]
      exact addEntry_taken haction hfields hroomv hfree
    rw [← hv, heff] at ht
    have htslot : ∀ j, slotOf t j = slotOf (fireDue w) j := fun j => by rw [slotOf, ht.su, slotOf]
    have hwslot : slotOf w k = some e := by
      rw [slotOf, hwsu, ← slotOf, slotOf_placed, if_pos rfl]
    have hcabw : cabTime w = cabTime s := by rw [cabTime_congr hwsu, cabTime_placed, cabTime_congr hvsu]
    have hstampw : stampNow w = stampNow s := by
      rw [stampNow, hcabw, hwsu, placed_su, hvsu]
      rfl
    have hdue : isDue w k = true ↔ due := by
      rw [isDue_congr hwsu, isDue_placed, hvsu, cabTime_congr hvsu]
      have harmed : e.state = .armed ↔ state = 0 := by
        change (if state = 0 then EntryState.armed else .disabled) = .armed ↔ _
        split <;> simp_all
      simp only [Bool.and_eq_true, Bool.not_eq_true', beq_iff_eq, decide_eq_true_eq, harmed]
      tauto
    refine ⟨t, hexec, fun hnot => ?_, fun hfires => ?_, fun hfires p hp x hx => ?_, ?_, fun j hj hnotdue => ?_⟩
    · rw [htslot, slotOf_fireDue (by rw [← Bool.not_eq_true, hdue]; exact hnot), hwslot]
    · rw [htslot]
      exact (fired_fireDue (hdue.2 hfires) hwslot).kept
    · rw [htslot] at hx
      rw [← hstampw]
      refine (fired_fireDue (hdue.2 hfires) hwslot).chime (p := p) ?_ ?_ hx
      · change taken = _
        rw [htaken, hp]
        rfl
      · rw [hp] at hheld
        exact of_decide_eq_true hheld
    · rw [ht.answer, (moves_fireDue (wakes_all w)).answer_eq, hw, answer_answer, htaken]
      by_cases hc : clamped = true
      · rw [if_pos hc, if_neg (hclamped.1 hc)]
      · rw [if_neg hc, if_pos (by_contra fun h => hc (hclamped.2 h))]
    · have hwother : slotOf w j = slotOf s j := by
        rw [slotOf, hwsu, ← slotOf, slotOf_placed, if_neg hj.symm, hslot]
      rw [htslot, slotOf_fireDue (by rw [isDue_congr hwsu, isDue_placed_of_ne e hj, isDue_congr hvsu, hnotdue]), hwother]
  · have hbad : a.bind takeAction = none ∨ max32 < time ∨ 1 < rep ∨ (state ≠ 0 ∧ state ≠ 3) := by
      obtain rfl | h | h | h | ⟨n, rfl, hn⟩ | ⟨p, rfl, hp⟩ | ⟨v, rfl, hv⟩ := h
      · exact .inl rfl
      · exact .inr (.inl h)
      · exact .inr (.inr (.inl h))
      · exact .inr (.inr (.inr h))
      · exact .inl (if_neg (by omega))
      · exact .inl (if_neg (by omega))
      · exact .inl (if_neg (by omega))
    obtain ⟨t, hexec, hanswer, hchanges⟩ := exec_answers (i := .addEntry time rep state a) hrun rfl (addEntry_range hbad)
    exact ⟨t, hexec, hanswer, hchanges .su (by decide)⟩
  · have hfields : ¬(max32 < time ∨ 1 < rep ∨ (state ≠ 0 ∧ state ≠ 3)) := by
      rw [show max32 = 4294967295 from rfl]
      omega
    obtain ⟨t, hexec, hanswer, hchanges⟩ := exec_answers (i := .addEntry time rep state (some .heatStop)) hrun rfl
      (addEntry_full (s := startEvent (.addEntry time rep state (some .heatStop)) s) (a := .heatStop) (b := .heatStop) (c := false) rfl
        hfields hfull)
    exact ⟨t, hexec, hanswer, hchanges .su (by decide)⟩
  · obtain ⟨t, hexec, ht⟩ := exec_leaves (i := .removeEntry k.1) hrun rfl
    have htslot : ∀ j, slotOf t j = slotOf (removeEntry k.1 (startEvent (.removeEntry k.1) s)) j := fun j => by
      rw [slotOf, ht.su]
      rfl
    have hremove : removeEntry k.1 (startEvent (.removeEntry k.1) s) = match slotOf s k with
        | none => answer .ok [] (startEvent (.removeEntry k.1) s)
        | some e => if e.rest then answer .owned [] (startEvent (.removeEntry k.1) s)
            else answer .ok [] (setSlot k none (startEvent (.removeEntry k.1) s)) := dif_pos k.2
    refine ⟨t, hexec, fun hhost => ?_, fun hrest => ?_, fun j hj => ?_⟩
    · cases hslot : slotOf s k with
      | none =>
        rw [hslot] at hremove
        refine ⟨ht.answer.trans (congrArg State.answer hremove), ?_⟩
        rw [htslot, hremove]
        exact hslot
      | some e =>
        rw [hslot] at hremove hhost
        have hno : ¬ e.rest = true := by simpa using hhost
        dsimp only at hremove
        rw [if_neg hno] at hremove
        refine ⟨ht.answer.trans (congrArg State.answer hremove), ?_⟩
        rw [htslot, hremove]
        exact (slotOf_setSlot _ _ _ _).trans (if_pos rfl)
    · cases hslot : slotOf s k with
      | none =>
        rw [hslot] at hrest
        cases hrest
      | some e =>
        rw [hslot] at hremove hrest
        dsimp only at hremove
        rw [if_pos (by simpa using hrest)] at hremove
        exact ⟨ht.answer.trans (congrArg State.answer hremove), ht.su.trans (congrArg State.su hremove :)⟩
    · rw [htslot, hremove]
      split
      · rfl
      · split
        · rfl
        · exact (slotOf_setSlot _ _ _ _).trans (if_neg hj.symm)
  · obtain ⟨t, hexec, hanswer, hchanges⟩ := exec_answers (i := .removeEntry n) hrun rfl
      (dif_neg (by omega) : removeEntry n (startEvent (.removeEntry n) s) = _)
    exact ⟨t, hexec, hanswer, hchanges .su (by decide)⟩
  · obtain ⟨t, hexec, ht⟩ := exec_leaves (i := .prewarmEntryPlace time sp du) hrun rfl
    have heff : effect (.prewarmEntryPlace time sp du) (startEvent (.prewarmEntryPlace time sp du) s) = _ :=
      prewarmPlace_free (s := startEvent (.prewarmEntryPlace time sp du) s) time sp du (freeSlot_eq hnone hlow)
    rw [heff] at ht
    refine ⟨t, hexec, ?_⟩
    have hslot := slotOf_placed k k ⟨true, time, false, .heatStart sp (some du), .armed, none⟩ (startEvent (.prewarmEntryPlace time sp du) s)
    rw [if_pos rfl] at hslot
    rw [slotOf, ht.su, ← slotOf, slotOf_fireDue (isDue_ahead hslot (by rw [placed_su, cabTime_placed]; exact hahead)), hslot]
  · obtain ⟨t, hexec, ht⟩ := exec_leaves (i := .prewarmEntryMove time sp du) hrun rfl
    have heff : effect (.prewarmEntryMove time sp du) (startEvent (.prewarmEntryMove time sp du) s) = _ :=
      prewarmMove_rest (s := startEvent (.prewarmEntryMove time sp du) s) time sp du (restSlot_eq he hrest honly) he
    rw [heff] at ht
    refine ⟨t, hexec, ?_⟩
    have hslot := slotOf_placed k k { e with time := time, action := .heatStart sp (some du) } (startEvent (.prewarmEntryMove time sp du) s)
    rw [if_pos rfl] at hslot
    rw [slotOf, ht.su, ← slotOf, slotOf_fireDue (isDue_ahead hslot (by rw [placed_su, cabTime_placed]; exact hahead)), hslot]
  · obtain ⟨t, hexec, ht⟩ := exec_leaves (i := .prewarmEntryRemove) hrun rfl
    obtain ⟨e, he, hrest⟩ : ∃ e, slotOf s k = some e ∧ e.rest = true := by
      cases he : slotOf s k with
      | none =>
        rw [he] at hrest
        cases hrest
      | some e =>
        rw [he] at hrest
        exact ⟨e, rfl, hrest⟩
    have heff : effect .prewarmEntryRemove (startEvent .prewarmEntryRemove s) = _ :=
      prewarmRemove_rest (s := startEvent .prewarmEntryRemove s) (restSlot_eq he hrest honly)
    rw [heff] at ht
    have htslot : ∀ j, slotOf t j = if k = j then none else slotOf s j := fun j => by
      rw [slotOf, ht.su, ownerEvent_su]
      exact slotOf_setSlot k j none (startEvent .prewarmEntryRemove s)
    exact ⟨t, hexec, (htslot k).trans (if_pos rfl), fun j hj => (htslot j).trans (if_neg hj.symm)⟩

end Sys2Proof.Proofs
end

section
/-! PROOFS. The heater as it has entered a state, and what its stops, starts and purges leave. -/

namespace Sys2Proof.Machine

-- One proof after another: started together they wait for one another, each on a thread of its own.
set_option Elab.async false

variable {s t u : State} {h k : HeaterUnit} {d : Demands}

/-! ### The heater at an event's end -/

/-- The heater less what follows the blower's output at every event (R79) and what a frost run's end may set (R87). -/
def entryCore (h : HeaterUnit) : HeaterUnit := { heaterCore h with frostRun := false, frostBackoff := none }

/-- The heater stands as `h`, a frost run ended where the state ends it, and its request is the one of `h` (R63, R87). -/
structure HeaterAt (d : Demands) (h : HeaterUnit) (t : State) : Prop where
  core : entryCore t.hc = entryCore h
  frostRun : t.hc.frostRun = (h.frostRun && !endsFrost h.state)
  override : h.frostRun = true → endsFrost h.state = true → .classOverride false ∈ t.handed
  asked : tget t.asked (consIx .heat) = heaterRequest d h

namespace HeaterAt

theorem of_leaves (a : HeaterAt d h u) (l : Leaves u t) : HeaterAt d h t where
  core := (congrArg (fun h : HeaterUnit => { h with frostRun := false, frostBackoff := none }) l.core :).trans a.core
  frostRun := (congrArg HeaterUnit.frostRun l.core :).trans a.frostRun
  override hf he := l.handed _ (a.override hf he)
  asked := (congrArg (tget · (consIx .heat)) l.asked :).trans a.asked

theorem keep (a : HeaterAt d h t) (s : State) : HeaterAt d h (keepHeater s t) := by
  unfold keepHeater writeHeater
  split
  · exact a
  · split <;> exact ⟨a.core, a.frostRun, a.override, a.asked⟩

theorem state (a : HeaterAt d h t) : t.hc.state = h.state := (congrArg HeaterUnit.state a.core :)
theorem lastFault (a : HeaterAt d h t) : t.hc.lastFault = h.lastFault := (congrArg HeaterUnit.lastFault a.core :)
theorem attempt (a : HeaterAt d h t) : t.hc.attempt = h.attempt := (congrArg HeaterUnit.attempt a.core :)
theorem restartPending (a : HeaterAt d h t) : t.hc.restartPending = h.restartPending := (congrArg HeaterUnit.restartPending a.core :)
theorem durationEnd (a : HeaterAt d h t) : t.hc.durationEnd = h.durationEnd := (congrArg HeaterUnit.durationEnd a.core :)
theorem tempStage (a : HeaterAt d h t) : t.hc.tempStage = h.tempStage := (congrArg HeaterUnit.tempStage a.core :)
theorem desired (a : HeaterAt d h t) : t.hc.desired = h.desired := (congrArg HeaterUnit.desired a.core :)
theorem effective (a : HeaterAt d h t) : t.hc.effective = h.effective := (congrArg HeaterUnit.effective a.core :)
theorem lastRise (a : HeaterAt d h t) : t.hc.lastRise = h.lastRise := (congrArg HeaterUnit.lastRise a.core :)
theorem flameOut (a : HeaterAt d h t) : t.hc.flameOut = h.flameOut := (congrArg HeaterUnit.flameOut a.core :)
theorem igniteRef (a : HeaterAt d h t) : t.hc.igniteRef = h.igniteRef := (congrArg HeaterUnit.igniteRef a.core :)
theorem purge (a : HeaterAt d h t) : t.hc.purge = h.purge := (congrArg HeaterUnit.purge a.core :)
theorem phase (a : HeaterAt d h t) : t.hc.phase = h.phase := (congrArg HeaterUnit.phase a.core :)
theorem power (a : HeaterAt d h t) : t.hc.power = h.power := (congrArg HeaterUnit.power a.core :)
theorem failed (a : HeaterAt d h t) : t.hc.failed = h.failed := (congrArg HeaterUnit.failed a.core :)
theorem overheats (a : HeaterAt d h t) : t.hc.overheats = h.overheats := (congrArg HeaterUnit.overheats a.core :)
theorem lockout (a : HeaterAt d h t) : t.hc.lockout = h.lockout := (congrArg HeaterUnit.lockout a.core :)
theorem grant (a : HeaterAt d h t) : t.hc.grant = h.grant := (congrArg HeaterUnit.grant a.core :)
theorem glow (a : HeaterAt d h t) : t.hc.glow = h.glow := (congrArg HeaterUnit.glow a.core :)
theorem stroke (a : HeaterAt d h t) : t.hc.stroke = h.stroke := (congrArg HeaterUnit.stroke a.core :)
theorem strokesRun (a : HeaterAt d h t) : t.hc.strokesRun = h.strokesRun := (congrArg HeaterUnit.strokesRun a.core :)
theorem firstTx (a : HeaterAt d h t) : t.hc.firstTx = h.firstTx := (congrArg HeaterUnit.firstTx a.core :)

end HeaterAt

/-! ### The entry of a state -/

theorem frostAtEntry_frostRun (s : State) : (frostAtEntry s).hc.frostRun = (s.hc.frostRun && !endsFrost s.hc.state) := by
  unfold frostAtEntry
  cases hf : s.hc.frostRun <;> cases he : endsFrost s.hc.state
  · simp [hf]
  · simp [hf]
  · simp [hf]
  · simp only [Bool.and_self, if_true]
    split
    · simp [withHc]
    · simp

theorem frostAtEntry_override (hf : s.hc.frostRun = true) (he : endsFrost s.hc.state = true) :
    .classOverride false ∈ (frostAtEntry s).handed := by
  have hend : .classOverride false ∈ (endFrost s).handed := by simp [endFrost, hf, hand]
  unfold frostAtEntry
  rw [hf, he]
  simp only [Bool.and_self, if_true]
  split
  · exact hend
  · exact hend

theorem mem_wakeFromDoze {i : Instr} (hi : i ∈ s.handed) : i ∈ (wakeFromDoze s).handed :=
  ((moves_wakeFromDoze s).handed_behind (by decide)).mem hi

theorem mem_entrySigns {i : Instr} (hi : i ∈ s.handed) : i ∈ (entrySigns s).handed := by
  unfold entrySigns
  split
  · exact List.mem_append_left _ hi
  · exact List.mem_append_left _ hi
  · exact mem_wakeFromDoze hi
  · exact hi

/-- The heater brought to its request, at its notice and signs. -/
theorem heaterAt_signs (hu : u.hc = h) :
    HeaterAt d h (entrySigns (heaterNotice (frostAtEntry (ask .heat (heaterRequest d h) u)))) := by
  subst hu
  have hhc : (ask .heat (heaterRequest d u.hc) u).hc = u.hc := ask_hc _ _ _
  refine ⟨?_, ?_, fun hf he => mem_entrySigns (List.mem_append_left _ (frostAtEntry_override ?_ ?_)), ?_⟩
  · rw [entrySigns_hc, heaterNotice_hc]
    obtain ⟨b, o, e⟩ := frostAtEntry_hc (ask .heat (heaterRequest d u.hc) u)
    rw [e, hhc]
    rfl
  · rw [entrySigns_hc, heaterNotice_hc, frostAtEntry_frostRun, hhc]
  · rw [hhc]
    exact hf
  · rw [hhc]
    exact he
  · rw [entrySigns_asked, heaterNotice_asked, frostAtEntry_asked, ask_asked_same]

/-- The entry of a state that begins no flame. -/
theorem heaterAt_enter {new : HeaterState} (upd : HeaterUnit → HeaterUnit) (hb : burning new = false ∨ burning s.hc.state = true) :
    HeaterAt s.cfg.demands (upd (heaterIn new s.hc)) (enterHeater new upd s) := by
  unfold enterHeater
  dsimp only
  rw [if_neg (by obtain hb | hb := hb <;> simp [hb])]
  exact heaterAt_signs rfl

/-- The entry of PRIME, with the flame's first stroke fixed one period ahead (R82). -/
theorem heaterAt_toPrime (hst : burning s.hc.state = false) : ∃ pulse n m, HeaterAt s.cfg.demands { heaterIn .prime s.hc with
    phase := some (now s + 10 * s.cfg.heaterTune.primeTime)
    stroke := some (strokePeriod s.cfg.heaterTune.startRate)
    pulse := pulse
    strokesRun := n
    strokesTotal := m } (toPrime s) := by
  unfold toPrime enterHeater
  dsimp only
  rw [hst, if_pos (by rfl)]
  unfold strokeAt
  dsimp only
  split
  · exact ⟨_, _, _, heaterAt_signs rfl⟩
  · exact ⟨_, _, _, heaterAt_signs rfl⟩

/-! ### OFF, PURGE, LOCKOUT, DRY_COOL and WAIT_POWER -/

theorem heaterAt_off (s : State) : HeaterAt s.cfg.demands (heaterIn .off s.hc) (heaterOff s) := heaterAt_enter id (.inl rfl)

theorem heaterAt_offWith (f : HeaterFault) (s : State) :
    HeaterAt s.cfg.demands (heaterIn .off { s.hc with lastFault := some f }) (offWith f s) :=
  heaterAt_enter (s := recordFault f s.hc.state false s) id (.inl rfl)

/-- The heater in PURGE with its record. -/
def purging (exit : PurgeExit) (fault : Option HeaterFault) (time : Nat) (h : HeaterUnit) : HeaterUnit :=
  { heaterIn .purge h with lastFault := fault.or h.lastFault, purge := some ⟨exit, fault, time⟩, flameRestart := false }

theorem heaterAt_toPurge (exit : PurgeExit) (fault : Option HeaterFault) (s : State) :
    HeaterAt s.cfg.demands (purging exit fault (now s) s.hc) (toPurge exit fault s) := by
  cases fault with
  | none => exact heaterAt_enter (fun h => { h with purge := some ⟨exit, none, now s⟩, flameRestart := false }) (.inl rfl)
  | some f =>
    exact heaterAt_enter (s := recordFault f s.hc.state (leadsToLockout f s.hc) s)
      (fun h => { h with purge := some ⟨exit, some f, now s⟩, flameRestart := false }) (.inl rfl)

theorem heaterAt_toOverheat (s : State) :
    HeaterAt s.cfg.demands (purging .off (some .overheat) (now s) { s.hc with overheats := min 3 (s.hc.overheats + 1) }) (toOverheat s) :=
  (heaterAt_toPurge .off (some .overheat) (withHc (fun h => { h with overheats := min 3 (h.overheats + 1) }) s)).keep s

theorem heaterAt_toLockout (s : State) :
    HeaterAt s.cfg.demands { heaterIn .lockout s.hc with lockout := true } (toLockout s) :=
  heaterAt_enter (new := .lockout) (fun h => { h with lockout := true }) (.inl rfl)

/-- A start whose fault is counted adds to the failed-start counter at the purge's end (R77, R84). -/
def counting (h : HeaterUnit) : HeaterUnit := if countsFailed (h.purge.bind (·.fault)) then addFailed h else h

theorem countPurge_hc (s : State) : (countPurge s).hc = counting s.hc := by
  unfold countPurge counting
  split <;> rfl

theorem countPurge_cfg (s : State) : (countPurge s).cfg = s.cfg := by
  unfold countPurge
  split <;> rfl

theorem countPurge_su (s : State) : (countPurge s).su = s.su := by
  unfold countPurge
  split <;> rfl

theorem heaterAt_toDryCool (s : State) : HeaterAt s.cfg.demands
    { heaterIn .dryCool { counting s.hc with lastFault := some .blower } with phase := some (now s + 6000), lockout := true }
    (toDryCool s) := by
  unfold toDryCool
  dsimp only
  have a := heaterAt_enter (s := recordFault .blower s.hc.state true (countPurge s)) (new := .dryCool)
    (fun h => { h with phase := some (now s + 6000), lockout := true }) (.inl rfl)
  rw [recordFault_hc, countPurge_hc] at a
  have hcfg : (recordFault .blower s.hc.state true (countPurge s)).cfg = s.cfg := countPurge_cfg s
  rw [hcfg] at a
  exact a.keep s

theorem heaterAt_toWaitPower (upd : HeaterUnit → HeaterUnit) (s : State) :
    HeaterAt s.cfg.demands (upd { heaterIn .waitPower s.hc with phase := some (now s + 600) }) (toWaitPower upd s) :=
  heaterAt_enter (new := .waitPower) (fun h => upd { h with phase := some (now s + 600) }) (.inl rfl)

/-- The heater at the start of a new run (R65). -/
def runBegun (time : Nat) (h : HeaterUnit) : HeaterUnit :=
  { heaterIn .waitPower h with phase := some time, lastFault := none, attempt := 1, flameOut := 0, strokesRun := 0 }

theorem heaterAt_newRun (s : State) : HeaterAt s.cfg.demands (runBegun (now s + 600) s.hc) (newRun s) :=
  heaterAt_toWaitPower (fun h => { h with lastFault := none, attempt := 1, flameOut := 0, strokesRun := 0 }) s

end Sys2Proof.Machine
end

section
/-! PROOFS. The heater's stops, and its blower loop and stroke generator. -/

namespace Sys2Proof.Machine

-- One proof after another: started together they wait for one another, each on a thread of its own.
set_option Elab.async false

variable {s t u : State} {as : List Area}

theorem burning_cases {st : HeaterState} : burning st = true ↔ st = .prime ∨ st = .ignite ∨ st = .stabilize ∨ st = .run := by
  cases st <;> simp [burning]

/-! ### Stops (R66) -/

theorem heaterStop_ends (hst : s.hc.state = .vent ∨ s.hc.state = .waitPower ∨ s.hc.state = .check ∨ s.hc.state = .preheat
    ∨ s.hc.state = .pause) : heaterStop s = heaterOff s := by
  unfold heaterStop
  obtain h | h | h | h | h := hst <;> rw [h]

theorem heaterStop_burning (hst : burning s.hc.state = true) : heaterStop s = toPurge .off none s := by
  unfold heaterStop
  obtain h | h | h | h := burning_cases.mp hst <;> rw [h]

theorem heaterStop_purge {p : PurgeRecord} (hst : s.hc.state = .purge) (hp : s.hc.purge = some p) : heaterStop s
    = if p.fault.isSome then s else withHc (fun h => { h with restartPending := false, purge := some { p with exit := .off } }) s := by
  unfold heaterStop
  rw [hst]
  dsimp only
  rw [hp]

theorem heaterStop_purge_none (hst : s.hc.state = .purge) (hp : s.hc.purge = none) : heaterStop s = s := by
  unfold heaterStop
  rw [hst]
  dsimp only
  rw [hp]

theorem heaterStop_stays (hst : s.hc.state = .off ∨ s.hc.state = .dryCool ∨ s.hc.state = .lockout) : heaterStop s = s := by
  unfold heaterStop
  obtain h | h | h := hst <;> rw [h]

/-- The state that a stop leads to. -/
def stopState : HeaterState → HeaterState
  | .vent | .waitPower | .check | .preheat | .pause => .off
  | .prime | .ignite | .stabilize | .run => .purge
  | other => other

/-- What a stop leaves of a heater: a flame is purged, a run on its way to one ends in OFF, and a purge without a fault ends
there. -/
structure StopLeft (d : Demands) (time : Nat) (h : HeaterUnit) (t : State) : Prop where
  state : t.hc.state = stopState h.state
  flame : burning h.state = true → t.hc.purge = some ⟨.off, none, time⟩ ∧ t.hc.stroke = none ∧ t.hc.glow = false
    ∧ tget t.asked (consIx .heat) = some ⟨d.purge, d.purge, none, true⟩
  ended : h.state = .vent ∨ h.state = .waitPower ∨ h.state = .check ∨ h.state = .preheat ∨ h.state = .pause →
    tget t.asked (consIx .heat) = none ∧ t.hc.glow = false
  purge : h.state = .purge → ∀ p, h.purge = some p → t.hc.purge = some (if p.fault.isSome then p else { p with exit := .off })
    ∧ t.hc.restartPending = (h.restartPending && p.fault.isSome)
  duration : t.hc.durationEnd = h.durationEnd

theorem StopLeft.of_eq {d : Demands} {time : Nat} {h : HeaterUnit} (l : StopLeft d time h u) (hhc : heaterCore t.hc = heaterCore u.hc)
    (hasked : t.asked = u.asked) : StopLeft d time h t := by
  have hst : t.hc.state = u.hc.state := (congrArg HeaterUnit.state hhc :)
  have hpurge : t.hc.purge = u.hc.purge := (congrArg HeaterUnit.purge hhc :)
  have hstroke : t.hc.stroke = u.hc.stroke := (congrArg HeaterUnit.stroke hhc :)
  have hglow : t.hc.glow = u.hc.glow := (congrArg HeaterUnit.glow hhc :)
  have hrestart : t.hc.restartPending = u.hc.restartPending := (congrArg HeaterUnit.restartPending hhc :)
  have hduration : t.hc.durationEnd = u.hc.durationEnd := (congrArg HeaterUnit.durationEnd hhc :)
  constructor
  · rw [hst]; exact l.state
  · rw [hpurge, hstroke, hglow, hasked]; exact l.flame
  · rw [hglow, hasked]; exact l.ended
  · rw [hpurge, hrestart]; exact l.purge
  · rw [hduration]; exact l.duration

theorem stopLeft_purge (hst : s.hc.state = .purge) : StopLeft s.cfg.demands (now s) s.hc (heaterStop s) := by
  have hstays : (heaterStop s).hc.state = s.hc.state ∧ (heaterStop s).hc.durationEnd = s.hc.durationEnd := by
    cases hp : s.hc.purge with
    | none =>
      rw [heaterStop_purge_none hst hp]
      exact ⟨rfl, rfl⟩
    | some p =>
      rw [heaterStop_purge hst hp]
      split <;> exact ⟨rfl, rfl⟩
  refine ⟨?_, by simp [hst, burning], by simp [hst], fun _ p hp => ?_, hstays.2⟩
  · rw [hstays.1, hst]
    rfl
  · rw [heaterStop_purge hst hp]
    cases hf : p.fault.isSome
    · exact ⟨rfl, by simp [withHc]⟩
    · exact ⟨by simpa using hp, by simp⟩

theorem stopLeft_heaterStop (s : State) : StopLeft s.cfg.demands (now s) s.hc (heaterStop s) := by
  by_cases hends : s.hc.state = .vent ∨ s.hc.state = .waitPower ∨ s.hc.state = .check ∨ s.hc.state = .preheat ∨ s.hc.state = .pause
  · have a := heaterAt_off s
    rw [heaterStop_ends hends]
    refine ⟨?_, ?_, fun _ => ⟨a.asked, a.glow⟩, ?_, a.durationEnd⟩
    · rw [a.state]
      obtain h | h | h | h | h := hends <;> rw [h] <;> rfl
    · obtain h | h | h | h | h := hends <;> simp [h, burning]
    · obtain h | h | h | h | h := hends <;> simp [h]
  by_cases hburn : burning s.hc.state = true
  · have a := heaterAt_toPurge .off none s
    rw [heaterStop_burning hburn]
    refine ⟨?_, fun _ => ⟨a.purge, a.stroke, a.glow, a.asked⟩, fun h => absurd h hends, ?_, a.durationEnd⟩
    · rw [a.state]
      obtain h | h | h | h := burning_cases.mp hburn <;> rw [h] <;> rfl
    · obtain h | h | h | h := burning_cases.mp hburn <;> simp [h]
  by_cases hpurge : s.hc.state = .purge
  · exact stopLeft_purge hpurge
  have hstays : s.hc.state = .off ∨ s.hc.state = .dryCool ∨ s.hc.state = .lockout := by
    cases h : s.hc.state <;> simp_all [burning]
  rw [heaterStop_stays hstays]
  refine ⟨?_, fun h => absurd h hburn, fun h => absurd h hends, fun h => absurd h hpurge, rfl⟩
  obtain h | h | h := hstays <;> rw [h] <;> rfl

theorem StopLeft.of_leaves {d : Demands} {time : Nat} {h : HeaterUnit} (k : StopLeft d time h u) (l : Leaves u t) :
    StopLeft d time h t := k.of_eq l.core l.asked

/-- A duration's expiry at a heater that it ends is a stop, the duration past. -/
theorem durationStop_reached (h : s.hc.durationEnd.any (· ≤ s.su.elapsed) = true) (hvent : s.hc.state ≠ .vent) :
    StopLeft s.cfg.demands (now s) { s.hc with durationEnd := (durationStop s).hc.durationEnd } (durationStop s)
      ∧ (s.hc.state ≠ .off → s.hc.state ≠ .dryCool → s.hc.state ≠ .lockout → (durationStop s).hc.durationEnd = none) := by
  obtain ⟨e, he, hle⟩ : ∃ e, s.hc.durationEnd = some e ∧ e ≤ s.su.elapsed := by
    cases hd : s.hc.durationEnd with
    | none => simp [hd] at h
    | some e => exact ⟨e, rfl, by simpa [hd] using h⟩
  by_cases hstays : s.hc.state = .off ∨ s.hc.state = .dryCool ∨ s.hc.state = .lockout
  · have hstop : durationStop s = s := by
      unfold durationStop
      rw [he]
      dsimp only
      rw [if_neg (by omega)]
      obtain h | h | h := hstays <;> rw [h]
    have k := stopLeft_heaterStop s
    rw [heaterStop_stays hstays] at k
    rw [hstop]
    refine ⟨⟨k.state, k.flame, k.ended, k.purge, rfl⟩, fun h1 h2 h3 => ?_⟩
    obtain h | h | h := hstays <;> contradiction
  · have hstop : durationStop s = heaterStop (withHc (fun h => { h with durationEnd := none }) s) := by
      unfold durationStop
      rw [he]
      dsimp only
      rw [if_neg (by omega)]
      cases hst : s.hc.state <;> simp [hst] at hstays hvent ⊢
    have k := stopLeft_heaterStop (withHc (fun h => { h with durationEnd := none }) s)
    rw [hstop]
    exact ⟨⟨k.state, k.flame, k.ended, k.purge, rfl⟩, fun _ _ _ => k.duration⟩

theorem durationStop_waits (h : s.hc.durationEnd.all (s.su.elapsed < ·) = true) : durationStop s = s := by
  unfold durationStop
  cases hd : s.hc.durationEnd with
  | none => rfl
  | some e =>
    have hlt : s.su.elapsed < e := by simpa [hd] using h
    exact if_pos hlt

/-- What a stop, by the host or by the duration's expiry, leaves. -/
theorem exec_stop {i : Instr} (hrun : s.mc.supply = .running) (hi : i = .heatStop
    ∨ (i = .durationExpiry ∧ s.hc.state ≠ .vent ∧ s.hc.durationEnd.any (· ≤ s.su.elapsed) = true)) :
    ∃ t d, exec i s = .next t ∧ StopLeft s.cfg.demands (now s) { s.hc with durationEnd := d } t := by
  obtain rfl | ⟨rfl, hvent, hdue⟩ := hi
  · obtain ⟨t, hexec, ht⟩ := exec_leaves (i := .heatStop) hrun rfl
    have k : StopLeft s.cfg.demands (now s) s.hc (answer .ok [] (heaterStop (startEvent .heatStop s))) :=
      (stopLeft_heaterStop (startEvent .heatStop s)).of_eq rfl rfl
    exact ⟨t, s.hc.durationEnd, hexec, k.of_leaves ht⟩
  · obtain ⟨t, hexec, ht⟩ := exec_leaves (i := .durationExpiry) hrun rfl
    exact ⟨t, _, hexec, (durationStop_reached (s := startEvent .durationExpiry s) hdue hvent).1.of_leaves ht⟩

end Sys2Proof.Machine

namespace Sys2Proof.Proofs

open Sys2Proof Sys2Proof.Machine

/-- Settles O33: a stop by the state it finds, with the duration's expiry as the same stop. -/
theorem heatStopFollowsTheState : Obligations.HeatStopFollowsTheState := by
  refine ⟨fun i s hrun hi => ?_, fun s hrun => ?_, fun s hrun hdue ⟨h1, h2, h3, h4⟩ => ?_, fun s hrun hwait => ?_⟩
  · obtain ⟨t, d, hexec, k⟩ := exec_stop hrun hi
    refine ⟨t, hexec, ?_, k.flame, k.ended, k.purge⟩
    rw [k.state]
    unfold stopState
    cases s.hc.state <;> rfl
  · obtain ⟨t, hexec, ht⟩ := exec_leaves (i := .heatStop) hrun rfl
    exact ⟨t, hexec, ht.answer⟩
  · obtain ⟨t, hexec, ht⟩ := exec_leaves (i := .durationExpiry) hrun rfl
    have k := (durationStop_reached (s := startEvent .durationExpiry s) hdue h4).2 h1 h2 h3
    exact ⟨t, hexec, (congrArg HeaterUnit.durationEnd ht.core :).trans k⟩
  · have he : effect .durationExpiry (startEvent .durationExpiry s) = startEvent .durationExpiry s := durationStop_waits hwait
    exact ⟨_, exec_idle hrun rfl he⟩

end Sys2Proof.Proofs
end

section
/-! PROOFS. HEAT START, the blower loop and the stroke generator. -/

namespace Sys2Proof.Machine

-- One proof after another: started together they wait for one another, each on a thread of its own.
set_option Elab.async false

variable {s t u : State}

theorem now_congr (h : t.su = s.su) : now t = now s := by rw [now, h, now]

/-! ### Starts (R65) -/

theorem noPowerRefusal_iff : noPowerRefusal s = true ↔ noStart s := by
  simp [noPowerRefusal, noStart, or_assoc]

theorem noPowerRefusal_false (h1 : s.hc.level ≠ .cutoff) (h2 : s.hc.level = .reserve → s.cfg.demands.start ≤ s.cfg.battery.aRes)
    (h3 : (entryOf s .heat).latched = false) : noPowerRefusal s = false := by
  rw [Bool.eq_false_iff]
  intro h
  obtain h | ⟨h, hlt⟩ | h := noPowerRefusal_iff.mp h
  · exact h1 h
  · exact absurd (h2 h) (by omega)
  · simp [h3] at h

/-- The settings and the heater as an accepted start takes its setpoint and duration, a frost run ended (R65, R87). -/
def startTaken (sp : Nat) (du : Option Nat) (s : State) : State :=
  endFrost { s with
    cfg := { s.cfg with heaterSet := { s.cfg.heaterSet with setpoint := ((max 50 (min 300 sp) : Nat) : Int) } }
    hc := { s.hc with durationEnd := du.map (fun d => s.su.elapsed + 60 * max 1 (min 720 d)) } }

/-- The status of an accepted start. -/
def startStatus (sp : Nat) (du : Option Nat) : Status :=
  if sp < 50 ∨ 300 < sp ∨ du.any (fun d => d < 1 || 720 < d) = true then .clamped else .ok

theorem heaterStart_refused {st : Status} (sp du : Option Nat) (h : startRefusal s = some st) : heaterStart sp du s = (s, st) := by
  unfold heaterStart
  rw [h]

theorem heaterStart_accepted (sp : Nat) (du : Option Nat) (h : startRefusal s = none) :
    heaterStart (some sp) du s = (startEffect (startTaken sp du s), startStatus sp du) := by
  unfold heaterStart
  rw [h]
  have hsp : clampInt 50 300 (sp : Int) = ((max 50 (min 300 sp) : Nat) : Int) := by
    unfold clampInt
    omega
  have hdu : ((du.map fun v => max 1 (min 720 v)) != du) = du.any (fun d => d < 1 || 720 < d) := by
    cases du with
    | none => rfl
    | some d =>
      rw [Option.map_some, Option.any_some, Bool.eq_iff_iff]
      simp
      omega
  have hspne : (some (clampInt 50 300 (sp : Int)) != some (sp : Int)) = decide (sp < 50 ∨ 300 < sp) := by
    rw [hsp, Bool.eq_iff_iff]
    simp
    omega
  have hclamped : ((some (clampInt 50 300 (sp : Int)) != some (sp : Int)) || ((du.map fun v => max 1 (min 720 v)) != du)) = true
      ↔ (sp < 50 ∨ 300 < sp ∨ du.any (fun d => d < 1 || 720 < d) = true) := by
    rw [hspne, hdu]
    simp [or_assoc]
  refine Prod.ext ?_ (if_congr hclamped rfl rfl)
  simp only [Option.map_map, Option.map_some, Option.getD_some, Option.bind_eq_bind, Option.bind_some, Option.pure_def, hsp]
  rfl

theorem startTaken_hc (sp : Nat) (du : Option Nat) (s : State) : (startTaken sp du s).hc
    = { s.hc with durationEnd := du.map (fun d => s.su.elapsed + 60 * max 1 (min 720 d)), frostRun := false } := endFrost_hc _

theorem startTaken_cfg (sp : Nat) (du : Option Nat) (s : State) : (startTaken sp du s).cfg
    = { s.cfg with heaterSet := { s.cfg.heaterSet with setpoint := ((max 50 (min 300 sp) : Nat) : Int) } } := endFrost_cfg _

theorem startTaken_su (sp : Nat) (du : Option Nat) (s : State) : (startTaken sp du s).su = s.su := endFrost_su _

theorem startTaken_override (sp : Nat) (du : Option Nat) (h : s.hc.frostRun = true) :
    .classOverride false ∈ (startTaken sp du s).handed := by simp [startTaken, endFrost, h, hand]

theorem startRefusal_state (h : s.hc.state = .dryCool ∨ s.hc.state = .lockout
    ∨ (s.hc.state = .purge ∧ (s.hc.purge.bind (·.fault)).isSome = true)) : startRefusal s = some .state := by
  unfold startRefusal
  obtain h | h | ⟨h, hf⟩ := h <;> rw [h]
  exact if_pos hf

theorem startRefusal_cold (h : s.hc.state = .off ∨ s.hc.state = .pause ∨ s.hc.state = .vent) :
    startRefusal s = if noPowerRefusal s then some .noPower else none := by
  unfold startRefusal
  obtain h | h | h := h <;> rw [h]

theorem startRefusal_started (h : s.hc.state = .waitPower ∨ s.hc.state = .check ∨ s.hc.state = .preheat ∨ burning s.hc.state = true) :
    startRefusal s = none := by
  unfold startRefusal
  rw [burning_cases] at h
  obtain h | h | h | h | h | h | h := h <;> rw [h]

theorem startRefusal_purge {p : PurgeRecord} (h : s.hc.state = .purge) (hp : s.hc.purge = some p) (hf : p.fault = none) :
    startRefusal s = none := by
  unfold startRefusal
  rw [h, hp]
  simp [hf]

theorem startEffect_cold (h : s.hc.state = .off ∨ s.hc.state = .pause ∨ s.hc.state = .vent) : startEffect s = newRun s := by
  unfold startEffect
  obtain h | h | h := h <;> rw [h]

theorem startEffect_started (h : s.hc.state = .waitPower ∨ s.hc.state = .check ∨ s.hc.state = .preheat ∨ burning s.hc.state = true) :
    startEffect s = s := by
  unfold startEffect
  rw [burning_cases] at h
  obtain h | h | h | h | h | h | h := h <;> rw [h]

theorem startEffect_purge {p : PurgeRecord} (h : s.hc.state = .purge) (hp : s.hc.purge = some p) : startEffect s
    = if p.exit = .off ∨ p.exit = .pause then withHc (fun h => { h with restartPending := true }) s else s := by
  unfold startEffect
  rw [h]
  dsimp only
  rw [hp]

theorem startEffect_purge_hc {p : PurgeRecord} (h : s.hc.state = .purge) (hp : s.hc.purge = some p) : (startEffect s).hc
    = { s.hc with restartPending := s.hc.restartPending || p.exit == .off || p.exit == .pause } := by
  rw [startEffect_purge h hp]
  split
  · rename_i hexit
    obtain hexit | hexit := hexit <;> simp [withHc, hexit]
  · rename_i hexit
    rw [not_or] at hexit
    simp [beq_eq_false_iff_ne.mpr hexit.1, beq_eq_false_iff_ne.mpr hexit.2]

theorem startEffect_cfg (s : State) : (startEffect s).cfg = s.cfg := (moves_startEffect s).cfg_eq

/-- What an accepted HEAT START leaves. -/
theorem exec_heatStart {sp : Nat} {du : Option Nat} (hrun : s.mc.supply = .running) (h : startRefusal s = none) :
    ∃ t, exec (.heatStart sp du) s = .next t ∧ t.answer = some ⟨startStatus sp du, []⟩
      ∧ t.cfg = { s.cfg with heaterSet := { s.cfg.heaterSet with setpoint := ((max 50 (min 300 sp) : Nat) : Int) } }
      ∧ (s.hc.frostRun = true → .classOverride false ∈ t.handed)
      ∧ Leaves (answer (startStatus sp du) [] (startEffect (startTaken sp du (startEvent (.heatStart sp du) s)))) t := by
  obtain ⟨t, hexec, ht⟩ := exec_leaves (i := .heatStart sp du) hrun rfl
  have he : effect (.heatStart sp du) (startEvent (.heatStart sp du) s)
      = answer (startStatus sp du) [] (startEffect (startTaken sp du (startEvent (.heatStart sp du) s))) := by
    have hr := heaterStart_accepted (s := startEvent (.heatStart sp du) s) sp du h
    exact (congrArg answerWith hr :)
  rw [he] at ht
  have hmoves := moves_startEffect (startTaken sp du (startEvent (.heatStart sp du) s))
  refine ⟨t, hexec, ht.answer, ht.cfg.trans ?_, fun hf => ht.handed _ ?_, ht⟩
  · exact (startEffect_cfg _).trans (startTaken_cfg sp du (startEvent (.heatStart sp du) s))
  · exact (hmoves.handed_behind (by decide)).mem (startTaken_override (s := startEvent (.heatStart sp du) s) sp du hf)

/-! ### The generator (R82, R83) -/

theorem strokeAt_hc (s : State) : (strokeAt s).hc = if gateOpen s .pump then { s.hc with
      stroke := some (strokePeriod (pumpRate s.cfg.heaterTune s.hc)), pulse := true
      strokesRun := min 4294967295 (s.hc.strokesRun + 1), strokesTotal := min 4294967295 (s.hc.strokesTotal + 1) }
    else { s.hc with stroke := some (strokePeriod (pumpRate s.cfg.heaterTune s.hc)) } := by
  unfold strokeAt
  split <;> rfl

/-! ### The blower's loop (R79, R80) -/

theorem blowerFault_hot (h : burning s.hc.state = true ∨ s.hc.state = .purge) : blowerFault s = toDryCool s := by
  unfold blowerFault
  rw [burning_cases] at h
  obtain (h | h | h | h) | h := h <;> rw [h]

theorem blowerFault_cold (h : s.hc.state = .preheat ∨ s.hc.state = .vent) : blowerFault s = offWith .blower s := by
  unfold blowerFault
  obtain h | h := h <;> rw [h]

theorem blowerFault_idle (h1 : s.hc.state ≠ .preheat) (h2 : s.hc.state ≠ .vent) (h3 : burning s.hc.state = false)
    (h4 : s.hc.state ≠ .purge) : blowerFault s = s := by
  unfold blowerFault
  split <;> simp_all [burning]

/-- The duty and the fault counts after a step of the blower's loop (R79, R80). -/
def dutyStepped (s : State) : HeaterUnit := { s.hc with
  duty := nextDuty s.hc.duty s.mu.tach.speed (blowerTarget s)
  stallRun := if 300 ≤ nextDuty s.hc.duty s.mu.tach.speed (blowerTarget s) ∧ s.mu.tach.speed = 0 then s.hc.stallRun + 1 else 0
  slowRun := if s.mu.tach.speed * 10 < blowerTarget s * 3 then s.hc.slowRun + 1 else 0 }

/-- Whether a step finds a fault check met (R80). -/
def stepFaulty (s : State) : Prop := 5 ≤ (dutyStepped s).stallRun ∨ 21 ≤ (dutyStepped s).slowRun

theorem blowerStep_well (hon : energized s .blower = true) (h : ¬stepFaulty s) : blowerStep s = { s with hc := dutyStepped s } := by
  unfold blowerStep
  rw [if_pos hon]
  exact if_neg h

theorem blowerStep_faulty (hon : energized s .blower = true) (h : stepFaulty s) :
    blowerStep s = blowerFault { s with hc := dutyStepped s } := by
  unfold blowerStep
  rw [if_pos hon]
  exact if_pos h

theorem close_hc_blower (s u : State) : (close s u).hc = blowerAfter s u := close_hc s u

/-- At an event that leaves the blower on, the loop's duty and counts stay as the event left them. -/
theorem close_hc_on (hs : energized s .blower = true) (hu : energized u .blower = true) : (close s u).hc = u.hc := by
  rw [close_hc_blower, blowerAfter, if_pos hu, if_pos hs]

theorem close_hc_off (hu : energized u .blower = false) : (close s u).hc = { u.hc with duty := 0, stallRun := 0, slowRun := 0 } := by
  rw [close_hc_blower, blowerAfter, if_neg (by simp [hu])]

theorem SameOutputs.blower_on (h : SameOutputs s t) : energized t .blower = energized s .blower :=
  h.energized_eq (c := .t1) (by decide)

/-- A heater in DRY_COOL commands its blower off. -/
theorem energized_dryCool (h : s.hc.state = .dryCool) : energized s .blower = false := by
  have hc : commanded s .blower = false := by simp [commanded, blowerTarget, h]
  unfold energized
  split
  · rw [hc, Bool.and_false]
  · rfl

end Sys2Proof.Machine

namespace Sys2Proof.Proofs

open Sys2Proof Sys2Proof.Machine

/-- Settles O32: HEAT START by the state it finds. -/
theorem heatStartFollowsTheState : Obligations.HeatStartFollowsTheState := by
  have hrefuse : ∀ (sp : Nat) (du : Option Nat) (s : State) (st : Status), s.mc.supply = .running → startRefusal s = some st →
      ∃ t, Machine.exec (.heatStart sp du) s = .next t ∧ t.answer = some ⟨st, []⟩ ∧ changesOnly (.answer :: everyEvent) s t := by
    intro sp du s st hrun h
    have hr := heaterStart_refused (s := startEvent (.heatStart sp du) s) (some sp) du h
    exact exec_answers hrun rfl (congrArg answerWith hr :)
  refine ⟨fun sp du s hrun h => hrefuse sp du s _ hrun (startRefusal_state h), fun sp du s hrun h hno => ?_,
    fun sp du s hrun h h1 h2 h3 => ?_, fun sp du s hrun h => ?_, fun sp du s hrun h p hp hf => ?_⟩
  · refine hrefuse sp du s _ hrun ?_
    rw [startRefusal_cold h, if_pos (noPowerRefusal_iff.mpr hno)]
  · obtain ⟨t, hexec, hans, hcfg, hover, ht⟩ := exec_heatStart (sp := sp) (du := du) hrun
      ((startRefusal_cold h).trans (by rw [noPowerRefusal_false h1 h2 h3]; rfl))
    obtain ⟨v, hv⟩ : ∃ v, v = startTaken sp du (startEvent (.heatStart sp du) s) := ⟨_, rfl⟩
    have hvhc : v.hc = _ := hv ▸ startTaken_hc sp du (startEvent (.heatStart sp du) s)
    rw [← hv, startEffect_cold (by rw [hvhc]; exact h)] at ht
    have a := heaterAt_newRun v
    have a' : HeaterAt v.cfg.demands (runBegun (now v + 600) v.hc) (answer (startStatus sp du) [] (newRun v)) :=
      ⟨a.core, a.frostRun, a.override, a.asked⟩
    have b := a'.of_leaves ht
    have hnow : now v = now s := by rw [hv]; exact now_congr (startTaken_su sp du (startEvent (.heatStart sp du) s))
    have hd : v.cfg.demands = s.cfg.demands := by rw [hv, startTaken_cfg]; rfl
    rw [hvhc, hnow, hd] at b
    exact ⟨t, hexec, hans, by rw [hcfg], b.durationEnd, b.state, b.phase, b.lastFault, b.attempt, b.flameOut,
      b.strokesRun, b.frostRun, b.asked, hover⟩
  · obtain ⟨t, hexec, hans, hcfg, hover, ht⟩ := exec_heatStart (sp := sp) (du := du) hrun (startRefusal_started h)
    rw [startEffect_started (by rw [startTaken_hc]; exact h)] at ht
    refine ⟨t, hexec, hans, hcfg, ht.core.trans ?_, hover⟩
    exact congrArg heaterCore (startTaken_hc sp du (startEvent (.heatStart sp du) s))
  · obtain ⟨t, hexec, hans, hcfg, hover, ht⟩ := exec_heatStart (sp := sp) (du := du) hrun (startRefusal_purge h hp hf)
    refine ⟨t, hexec, hans, hcfg, ht.core.trans ?_, hover⟩
    have hv := startTaken_hc sp du (startEvent (.heatStart sp du) s)
    have he := startEffect_purge_hc (s := startTaken sp du (startEvent (.heatStart sp du) s)) (p := p)
      (by rw [hv]; exact h) (by rw [hv]; exact hp)
    rw [hv] at he
    exact congrArg heaterCore he

/-- Settles O38: the blower's loop and the stroke generator. -/
theorem blowerAndStrokesKeepTime : Obligations.BlowerAndStrokesKeepTime := by
  refine ⟨fun s hrun hon => ?_, fun s hrun hoff => ?_, fun s hrun hstroke => ?_, fun s hrun => ?_⟩
  · obtain ⟨v, hv⟩ : ∃ v, v = startEvent .blowerStep s := ⟨_, rfl⟩
    have hstep : dutyStepped v = dutyStepped s := hv ▸ rfl
    have hvon : energized v .blower = true := by rw [hv]; exact hon
    have hfaulty : stepFaulty v ↔ stepFaulty s := by rw [stepFaulty, hstep, stepFaulty]
    have hexec : exec .blowerStep s = .next (close s (blowerStep v)) := hv ▸ exec_running hrun rfl
    refine ⟨_, hexec, fun h1 h2 => ?_, fun hfault hst => ?_⟩
    · have hwell : ¬stepFaulty s := by
        rintro (h | h)
        · exact absurd (Nat.lt_of_lt_of_le h1 h) (lt_irrefl _)
        · exact absurd (Nat.lt_of_lt_of_le h2 h) (lt_irrefl _)
      have hsame : SameOutputs v { v with hc := dutyStepped v } := .of_blocks rfl rfl rfl rfl rfl rfl rfl
      rw [blowerStep_well hvon (hfaulty.not.mpr hwell), close_hc_on hon (hsame.blower_on.trans hvon)]
      exact hstep
    · have hv' : { v with hc := dutyStepped v }.hc.state = s.hc.state := by rw [hv]; rfl
      rw [blowerStep_faulty hvon (hfaulty.mpr hfault), blowerFault_hot (by rw [hv']; exact hst)]
      have a := (heaterAt_toDryCool { v with hc := dutyStepped v }).of_leaves (.of_close s _)
      exact ⟨a.state, a.lastFault, a.lockout, a.glow, a.stroke, energized_dryCool a.state⟩
  · have hv : energized (startEvent .blowerStep s) .blower = false := hoff
    have he : effect .blowerStep (startEvent .blowerStep s) = startEvent .blowerStep s := if_neg (by simp [hv])
    refine ⟨_, exec_running hrun rfl, ?_⟩
    rw [he]
    exact close_hc_off hoff
  · obtain ⟨t, hexec, ht⟩ := exec_leaves (i := .strokeStart) hrun rfl
    have he : effect .strokeStart (startEvent .strokeStart s) = strokeAt (startEvent .strokeStart s) := if_pos hstroke
    rw [he] at ht
    exact ⟨t, hexec, ht.core.trans (congrArg heaterCore (strokeAt_hc (startEvent .strokeStart s)))⟩
  · obtain ⟨t, hexec, ht⟩ := exec_leaves (i := .strokePulseEnd) hrun rfl
    exact ⟨t, hexec, ht.core⟩

end Sys2Proof.Proofs
end

section
/-! PROOFS. A conversion at the heater, and the ends of a purge and of DRY_COOL. -/

namespace Sys2Proof.Machine

-- One proof after another: started together they wait for one another, each on a thread of its own.
set_option Elab.async false

variable {s t u : State} {as : List Area}

/-! ### A conversion at the heater (R10) -/

/-- A run that touches no heater leaves the heater as it is. -/
theorem Moves.hc_eq (h : Moves as s t) (hav : .hc ∉ as := by decide) : t.hc = s.hc := by
  refine h.lift (R := fun s t => t.hc = s.hc) (fun _ => rfl) (fun _ _ _ h k => k.trans h) (fun s t m => ?_)
  cases m with
  | heater h s ha => exact absurd ha hav
  | heaterEnter h s ha => exact absurd ha hav
  | _ => simp

/-- The HC's channels. -/
def heaterChannel (ch : Channel) : Prop := ch = .vh ∨ ch = .tc ∨ ch = .th ∨ ch = .tx

/-- What the HC judges by stands as it was. -/
structure HeaterFinds (s u : State) : Prop where
  hc : u.hc = s.hc
  cfg : u.cfg = s.cfg
  su : u.su = s.su
  ga : u.ga = s.ga
  asked : u.asked = s.asked

/-- What the HC finds at a VALID conversion: everything as it was, and the new filtered value. -/
structure AtConversion (ch : Channel) (code : Nat) (s u : State) : Prop extends HeaterFinds s u where
  reading : validFiltered u ch = some (filteredAt s ch code)

theorem statusChange_valid {ch : Channel} {old : SampleStatus} (h : statusOf s ch = .valid) :
    statusChange ch old s = s ∨ statusChange ch old s = chargeRegained ch s := by
  unfold statusChange
  dsimp only
  rw [h, if_neg (by simp)]
  split
  · exact .inr rfl
  · exact .inl rfl

/-- A VALID conversion is a conversion at the HC, what it leaves there, and nothing more. -/
theorem exec_heaterConversion {ch : Channel} {code : Nat} (hch : heaterChannel ch) (hrun : s.mc.supply = .running)
    (h : validNext s ch code) : ∃ t u, exec (.conversion ch code) s = .next t ∧ AtConversion ch code s u
      ∧ Leaves (heaterConversion ch u) t := by
  obtain ⟨t, hexec, ht⟩ := exec_leaves (i := .conversion ch code) hrun rfl
  obtain ⟨v, hv⟩ : ∃ v, v = startEvent (.conversion ch code) s := ⟨_, rfl⟩
  have hnext : validNext v ch code := hv ▸ h
  have he : effect (.conversion ch code) v = _ := convert_next (s := v) code hnext.1
  rw [← hv, he] at ht
  obtain ⟨w, hw⟩ : ∃ w, w = sensorNotice ch (statusOf v ch) (converted ch code v) := ⟨_, rfl⟩
  have hmoves : Moves [.rawChan] v w := hw ▸ (moves_setChannel ch _ v).step (moves_sensorNotice ch _ _)
  have hwmu : w.mu = (converted ch code v).mu := hw ▸ sensorNotice_mu _ _ _
  have hwcfg : w.cfg = v.cfg := hmoves.cfg_eq
  have hvalid : statusOf w ch = .valid := (congrArg (fun m : MeasureUnit => (tget m.chan (chanIx ch)).status) hwmu :).trans
    (statusOf_converted hnext)
  obtain ⟨x, hx⟩ : ∃ x, x = chargeConversion ch (statusChange ch (statusOf v ch) w) := ⟨_, rfl⟩
  have hxmoves : Moves [.rawChan, .cc] v x := by
    rw [hx]
    refine (hmoves.mono.trans ?_).step (moves_chargeConversion ch _)
    obtain e | e := statusChange_valid (old := statusOf v ch) hvalid <;> rw [e]
    · exact .refl
    · exact (moves_chargeRegained ch w).mono
  have hxmu : x.mu = (converted ch code v).mu := by
    rw [hx, chargeConversion_mu, ← hwmu]
    obtain e | e := statusChange_valid (old := statusOf v ch) hvalid <;> rw [e]
    exact chargeRegained_mu w ch
  have hsample : sampleTaken ch (statusChange ch (statusOf v ch) w) = heaterConversion ch x := by
    rw [hx]
    obtain rfl | rfl | rfl | rfl := hch <;> rfl
  rw [← hw, hsample] at ht
  refine ⟨t, x, hexec, ⟨⟨?_, ?_, ?_, ?_, ?_⟩, ?_⟩, ht.trans (.of_leaveScan _ _)⟩
  · rw [hxmoves.hc_eq, hv]; rfl
  · rw [hxmoves.cfg_eq, hv]; rfl
  · rw [hxmoves.su_eq, hv]; rfl
  · rw [hxmoves.ga_eq, hv]; rfl
  · rw [hxmoves.asked_eq, hv]; rfl
  · have hread : validFiltered x ch = validFiltered (converted ch code v) ch := by
      unfold validFiltered isValid statusOf chanOf
      rw [hxmu]
    rw [hread, validFiltered_converted hnext, hv]
    rfl

theorem HeaterFinds.now (a : HeaterFinds s u) : now u = Machine.now s := now_congr a.su

/-! ### Refusals of a start by the blocks they are judged on (R65) -/

theorem noPowerRefusal_congr (hlevel : t.hc.level = s.hc.level) (hcfg : t.cfg = s.cfg) (hga : t.ga = s.ga) :
    noPowerRefusal t = noPowerRefusal s := by
  unfold noPowerRefusal entryOf
  rw [hlevel, hcfg, hga]

/-! ### The end of a purge (R77) -/

theorem countPurge_ga (s : State) : (countPurge s).ga = s.ga := by
  unfold countPurge
  split <;> rfl

theorem countPurge_noPower (s : State) : noPowerRefusal (countPurge s) = noPowerRefusal s := by
  refine noPowerRefusal_congr ?_ (countPurge_cfg s) (countPurge_ga s)
  unfold countPurge
  split <;> rfl

/-- Whether a purge closes a failed start that is counted (R77, R84). -/
def closesFailed (p : PurgeRecord) : Prop := p.fault = some .noIgnition ∨ p.fault = some .flameLoss

theorem countsFailed_iff (p : PurgeRecord) : countsFailed p.fault = true ↔ p.fault = some .noIgnition ∨ p.fault = some .flameLoss := by
  cases p.fault with
  | none => simp [countsFailed]
  | some f => cases f <;> simp [countsFailed]

theorem counting_failed {h : HeaterUnit} {p : PurgeRecord} (hp : h.purge = some p) : (counting h).failed
    = if p.fault = some .noIgnition ∨ p.fault = some .flameLoss then min 3 (h.failed + 1) else h.failed := by
  unfold counting
  rw [hp, Option.bind_some, if_congr (countsFailed_iff p) rfl rfl]
  split <;> rfl

theorem counting_same {α : Type} (g : HeaterUnit → α) (hg : ∀ h n, g { h with failed := n } = g h) (h : HeaterUnit) :
    g (counting h) = g h := by
  unfold counting
  split
  · exact hg h _
  · rfl

theorem purgeEnd_eq {p : PurgeRecord} (hp : s.hc.purge = some p) : purgeEnd s = keepHeater s
    (if 3 ≤ (counting s.hc).failed ∨ 3 ≤ s.hc.overheats then toLockout (countPurge s) else purgeExit p (countPurge s)) := by
  unfold purgeEnd
  rw [hp]
  dsimp only
  rw [countPurge_hc, counting_same (·.overheats) (fun _ _ => rfl)]

/-- The heater as a purge's exit leaves it. -/
structure ExitTaken (p : PurgeRecord) (pending noPower : Bool) (h k : HeaterUnit) : Prop where
  failed : k.failed = h.failed
  purge : k.purge = none
  restart : k.restartPending = false
  retries : p.exit = .retry → k.state = .waitPower ∧ k.attempt = 2
  restarts : p.exit = .restart → k.state = .waitPower ∧ k.flameOut = h.flameOut
    ∧ k.attempt = if h.flameRestart then 1 else h.attempt
  ends : p.exit = .off → pending = false → k.state = .off ∧ k.lastFault = h.lastFault
  pauses : p.exit = .pause → pending = false → k.state = .pause
  refused : p.exit = .off ∨ p.exit = .pause → pending = true → noPower = true → k.state = .off ∧ k.lastFault = some .noPower
  begins : p.exit = .off ∨ p.exit = .pause → pending = true → noPower = false → k.state = .waitPower ∧ k.attempt = 1 ∧ k.flameOut = 0

/-- A start that waited for the purge begins, or is refused (R65, R77). -/
theorem heaterAt_pendingStart (s : State) : ∃ k,
    HeaterAt s.cfg.demands k (if noPowerRefusal s then offWith .noPower s else newRun s)
      ∧ ∀ p : PurgeRecord, p.exit = .off ∨ p.exit = .pause → ExitTaken p true (noPowerRefusal s) s.hc k := by
  cases noPowerRefusal s
  · exact ⟨_, heaterAt_newRun s, fun p hp => by obtain hp | hp := hp <;> constructor <;> simp [hp, runBegun, heaterIn]⟩
  · exact ⟨_, heaterAt_offWith _ s, fun p hp => by obtain hp | hp := hp <;> constructor <;> simp [hp, heaterIn]⟩

theorem heaterAt_purgeExit (p : PurgeRecord) (s : State) : ∃ k, HeaterAt s.cfg.demands k (purgeExit p s)
    ∧ ExitTaken p s.hc.restartPending (noPowerRefusal s) s.hc k := by
  cases hexit : p.exit with
  | retry =>
    refine ⟨_, by rw [purgeExit, hexit]; exact heaterAt_toWaitPower _ s, ?_⟩
    constructor <;> simp [hexit, heaterIn]
  | restart =>
    refine ⟨_, by rw [purgeExit, hexit]; exact heaterAt_toWaitPower _ s, ?_⟩
    constructor <;> simp [hexit, heaterIn]
  | off =>
    have he : purgeExit p s = if s.hc.restartPending then (if noPowerRefusal s then offWith .noPower s else newRun s) else heaterOff s := by
      rw [purgeExit, hexit]
    cases hr : s.hc.restartPending
    · exact ⟨_, by rw [he, hr]; exact heaterAt_off s, by constructor <;> simp [hexit, heaterIn]⟩
    · obtain ⟨k, hk, hx⟩ := heaterAt_pendingStart s
      exact ⟨k, by rw [he, hr]; exact hk, hx p (.inl hexit)⟩
  | pause =>
    have he : purgeExit p s
        = if s.hc.restartPending then (if noPowerRefusal s then offWith .noPower s else newRun s) else enterHeater .pause id s := by
      rw [purgeExit, hexit]
    cases hr : s.hc.restartPending
    · exact ⟨_, by rw [he, hr]; exact heaterAt_enter (s := s) (new := .pause) id (.inl rfl), by constructor <;> simp [hexit, heaterIn]⟩
    · obtain ⟨k, hk, hx⟩ := heaterAt_pendingStart s
      exact ⟨k, by rw [he, hr]; exact hk, hx p (.inr hexit)⟩


/-- A purge ends in LOCKOUT where a counter has reached 3, and takes its exit otherwise (R77, R84). -/
theorem heaterAt_purgeEnd {p : PurgeRecord} (hp : s.hc.purge = some p) : ∃ k, HeaterAt s.cfg.demands k (purgeEnd s)
    ∧ k.failed = (counting s.hc).failed ∧ k.purge = none ∧ k.restartPending = false
    ∧ (3 ≤ (counting s.hc).failed ∨ 3 ≤ s.hc.overheats → k.state = .lockout ∧ k.lockout = true)
    ∧ ((counting s.hc).failed < 3 → s.hc.overheats < 3 →
        ExitTaken p s.hc.restartPending (noPowerRefusal s) (counting s.hc) k) := by
  rw [purgeEnd_eq hp]
  have hcfg := countPurge_cfg s
  by_cases hlock : 3 ≤ (counting s.hc).failed ∨ 3 ≤ s.hc.overheats
  · rw [if_pos hlock]
    refine ⟨_, hcfg ▸ (heaterAt_toLockout (countPurge s)).keep s, ?_, rfl, rfl, fun _ => ⟨rfl, rfl⟩, fun h1 h2 => ?_⟩
    · rw [countPurge_hc]
      rfl
    · omega
  · rw [if_neg hlock]
    obtain ⟨k, hk, hx⟩ := heaterAt_purgeExit p (countPurge s)
    rw [countPurge_noPower, countPurge_hc, counting_same (·.restartPending) (fun _ _ => rfl)] at hx
    exact ⟨k, hcfg ▸ hk.keep s, hx.failed, hx.purge, hx.restart, fun h => absurd h hlock, fun _ _ => hx⟩

theorem txCool_of {tx : Int} (hst : statusOf s .tx = .valid) (hf : (chanOf s .tx).filtered = some tx) : txCool s = decide (tx < 600) := by
  simp [txCool, validBelow, validFiltered, isValid, hst, hf]

theorem txCool_not_valid (hst : statusOf s .tx ≠ .valid) : txCool s = false := by
  simp [txCool, validBelow, validFiltered, isValid, hst]

/-! ### The 300 s point (R78) -/

theorem purgeHot_hot {p : PurgeRecord} (hst : s.hc.state = .purge) (hp : s.hc.purge = some p) (hcool : txCool s = false)
    (hvalid : statusOf s .tx = .valid) : purgeHot s = keepHeater s (toLockout (recordFault .purgeHot .purge true s)) := by
  unfold purgeHot
  rw [hst, hp]
  dsimp only
  rw [hcool, if_neg (by decide), isValid, hvalid, if_pos (by rfl)]

/-- A purge whose chamber TX does not show ends for OFF (R78). -/
def endsBlind (p : PurgeRecord) (s : State) : State :=
  withHc (fun h => { h with restartPending := false, purge := some { p with exit := .off } })
    (if p.fault.isSome then s else recordFault .flameSensor .purge (leadsToLockout .flameSensor s.hc) s)

theorem purgeHot_blind {p : PurgeRecord} (hst : s.hc.state = .purge) (hp : s.hc.purge = some p)
    (hvalid : statusOf s .tx ≠ .valid) : purgeHot s = purgeEnd (endsBlind p s) := by
  unfold purgeHot
  rw [hst, hp]
  dsimp only
  rw [txCool_not_valid hvalid, if_neg (by decide), isValid, if_neg (by simp [hvalid])]
  rfl

theorem endsBlind_hc (p : PurgeRecord) (s : State) : (endsBlind p s).hc = { s.hc with
    restartPending := false
    purge := some { p with exit := .off }
    lastFault := if p.fault.isSome then s.hc.lastFault else some .flameSensor } := by
  unfold endsBlind
  split <;> rfl

/-! ### TX conversions (R62, R78, R81) -/

theorem heaterTx_eq (s : State) : heaterTx s
    = if s.hc.firstTx = true ∧ s.hc.state = .off ∧ validAbove s .tx 600 = true
      then toPurge .off none (withHc (fun h => { h with firstTx := false }) s)
      else heaterTxState (withHc (fun h => { h with firstTx := false }) s) := by
  unfold heaterTx
  cases hf : s.hc.firstTx
  · have hs : withHc (fun h => { h with firstTx := false }) s = s := by
      have hhc : { s.hc with firstTx := false } = s.hc := by rw [← hf]
      exact congrArg (fun h => { s with hc := h }) hhc
    simp [hs]
  · simp

theorem heaterTxState_purge {p : PurgeRecord} {tx : Int} (hst : s.hc.state = .purge) (hp : s.hc.purge = some p)
    (hr : validFiltered s .tx = some tx) :
    heaterTxState s = if p.entry + 1200 ≤ now s ∧ tx < 600 then purgeEnd s else s := by
  unfold heaterTxState purgeLong heldFor
  rw [hr, hst, hp]
  simp

theorem heaterTxState_dryCool {tx : Int} (hst : s.hc.state = .dryCool) (hr : validFiltered s .tx = some tx) :
    heaterTxState s = if tx < 600 then toLockout s else s := by
  unfold heaterTxState
  rw [hr, hst]

theorem heaterTxState_off (hst : s.hc.state = .off) : heaterTxState s = s := by
  unfold heaterTxState
  rw [hst]
  split <;> rfl

/-- A VALID conversion of TX that finds no hot chamber in OFF after a reset. -/
theorem exec_heaterTx {code : Nat} (hrun : s.mc.supply = .running) (h : validNext s .tx code) (hst : s.hc.state ≠ .off) :
    ∃ t u, exec (.conversion .tx code) s = .next t ∧ u.hc = { s.hc with firstTx := false } ∧ u.cfg = s.cfg ∧ now u = now s
      ∧ noPowerRefusal u = noPowerRefusal s ∧ validFiltered u .tx = some (filteredAt s .tx code) ∧ Leaves (heaterTxState u) t := by
  obtain ⟨t, u, hexec, a, ht⟩ := exec_heaterConversion (ch := .tx) (.inr (.inr (.inr rfl))) hrun h
  have he : heaterConversion .tx u = heaterTx u := rfl
  rw [he, heaterTx_eq, if_neg fun h => hst (a.hc ▸ h.2.1)] at ht
  refine ⟨t, withHc (fun h => { h with firstTx := false }) u, hexec, ?_, a.cfg, a.now, ?_, a.reading, ht⟩
  · exact congrArg (fun h : HeaterUnit => { h with firstTx := false }) a.hc
  · exact noPowerRefusal_congr (congrArg HeaterUnit.level a.hc :) a.cfg a.ga

end Sys2Proof.Machine

namespace Sys2Proof.Proofs

open Sys2Proof Sys2Proof.Machine

/-- Settles O36: the ends of a purge and of DRY_COOL, at their timers and at TX conversions. -/
theorem purgeEndsAsItsRecordSays : Obligations.PurgeEndsAsItsRecordSays := by
  refine ⟨fun s hrun hst hvalid tx hf p hp hcool => ?_, fun s hrun hst hwarm => ?_, fun s hrun hst p hp tx hf hvalid hwarm => ?_,
    fun s hrun hst p hp hvalid hover hfailed => ?_, fun s hrun hst => ?_, fun code s hrun hn hst p hp => ?_,
    fun code s hrun hn hst => ?_, fun code s hrun hn hst => ?_⟩
  · obtain ⟨t, hexec, ht⟩ := exec_leaves (i := .purgeEnd) hrun rfl
    have hv : txCool (startEvent .purgeEnd s) = true := (txCool_of (s := s) hvalid hf).trans (decide_eq_true hcool)
    have he : effect .purgeEnd (startEvent .purgeEnd s) = purgeEnd (startEvent .purgeEnd s) := (if_pos hst).trans (if_pos hv)
    obtain ⟨k, hk, hfail, hpurge, hrestart, hlock, hexit⟩ := heaterAt_purgeEnd (s := startEvent .purgeEnd s) hp
    rw [he] at ht
    have b := hk.of_leaves ht
    have hcount : (counting s.hc).failed = _ := counting_failed hp
    have hsame : (counting s.hc).attempt = s.hc.attempt ∧ (counting s.hc).flameRestart = s.hc.flameRestart
        ∧ (counting s.hc).flameOut = s.hc.flameOut :=
      ⟨counting_same (·.attempt) (fun _ _ => rfl) _, counting_same (·.flameRestart) (fun _ _ => rfl) _,
        counting_same (·.flameOut) (fun _ _ => rfl) _⟩
    refine ⟨t, hexec, b.failed.trans (hfail.trans hcount), b.purge.trans hpurge, b.restartPending.trans hrestart, fun h => ?_, fun h1 h2 => ?_⟩
    · have := hlock (hcount ▸ h)
      exact ⟨b.state.trans this.1, b.lockout.trans this.2⟩
    · have x : ExitTaken p s.hc.restartPending (noPowerRefusal s) (counting s.hc) k := hexit (hcount ▸ h1) h2
      refine ⟨fun h => ⟨b.state.trans (x.retries h).1, b.attempt.trans (x.retries h).2⟩, fun h => ?_,
        fun h hr => b.state.trans (x.ends h hr).1, fun h hr => b.state.trans (x.pauses h hr), fun h hr => ⟨fun hno => ?_, fun h1 h2 h3 => ?_⟩⟩
      · obtain ⟨e1, e2, e3⟩ := x.restarts h
        rw [hsame.1, hsame.2.1] at e3
        exact ⟨b.state.trans e1, b.flameOut.trans (e2.trans hsame.2.2), b.attempt.trans e3⟩
      · have e := x.refused h hr (noPowerRefusal_iff.mpr hno)
        exact ⟨b.state.trans e.1, b.lastFault.trans e.2⟩
      · obtain ⟨e1, e2, e3⟩ := x.begins h hr (noPowerRefusal_false h1 h2 h3)
        exact ⟨b.state.trans e1, b.attempt.trans e2, b.flameOut.trans e3⟩
  · obtain ⟨t, hexec, ht⟩ := exec_leaves (i := .purgeEnd) hrun rfl
    have hcool : txCool s = false := by
      by_cases hvalid : statusOf s .tx = .valid
      · cases hf : (chanOf s .tx).filtered with
        | none => simp [txCool, validBelow, validFiltered, isValid, hvalid, hf]
        | some tx => exact (txCool_of hvalid hf).trans (decide_eq_false (by have := hwarm.resolve_left (not_not_intro hvalid) tx hf; omega))
      · exact txCool_not_valid hvalid
    have he : effect .purgeEnd (startEvent .purgeEnd s) = startEvent .purgeEnd s :=
      (if_pos hst).trans (if_neg (Bool.eq_false_iff.mp hcool))
    rw [he] at ht
    exact ⟨t, hexec, ht.core⟩
  · obtain ⟨t, hexec, ht⟩ := exec_leaves (i := .purgeHotTimeout) hrun rfl
    have hcool : txCool (startEvent .purgeHotTimeout s) = false :=
      (txCool_of (s := s) hvalid hf).trans (decide_eq_false (by omega))
    have he : effect .purgeHotTimeout (startEvent .purgeHotTimeout s) = _ :=
      purgeHot_hot (s := startEvent .purgeHotTimeout s) hst hp hcool hvalid
    rw [he] at ht
    have b := ((heaterAt_toLockout (recordFault .purgeHot .purge true (startEvent .purgeHotTimeout s))).keep _).of_leaves ht
    exact ⟨t, hexec, b.state, b.lockout, b.lastFault, b.failed, b.asked⟩
  · obtain ⟨t, hexec, ht⟩ := exec_leaves (i := .purgeHotTimeout) hrun rfl
    have he : effect .purgeHotTimeout (startEvent .purgeHotTimeout s) = _ :=
      purgeHot_blind (s := startEvent .purgeHotTimeout s) hst hp hvalid
    obtain ⟨v, hv⟩ : ∃ v, v = endsBlind p (startEvent .purgeHotTimeout s) := ⟨_, rfl⟩
    have hvhc : v.hc = _ := hv ▸ endsBlind_hc p (startEvent .purgeHotTimeout s)
    rw [he, ← hv] at ht
    have hvp : v.hc.purge = some { p with exit := .off } := by rw [hvhc]
    obtain ⟨k, hk, -, -, -, -, hexit⟩ := heaterAt_purgeEnd hvp
    have hcount : (counting v.hc).failed < 3 := by
      rw [counting_failed hvp, hvhc]
      show (if p.fault = some .noIgnition ∨ p.fault = some .flameLoss then min 3 (s.hc.failed + 1) else s.hc.failed) < 3
      obtain hfailed | ⟨hfailed, hnone⟩ := hfailed
      · split <;> omega
      · rw [if_neg (by simp [hnone])]
        exact hfailed
    have hoh : v.hc.overheats < 3 := by rw [hvhc]; exact hover
    have x := (hexit hcount hoh).ends rfl (by rw [hvhc])
    have b := hk.of_leaves ht
    refine ⟨t, hexec, b.state.trans x.1, (b.lastFault.trans x.2).trans ?_⟩
    rw [counting_same (·.lastFault) (fun _ _ => rfl), hvhc]
    rfl
  · obtain ⟨t, hexec, ht⟩ := exec_leaves (i := .dryCoolTimeout) hrun rfl
    have he : effect .dryCoolTimeout (startEvent .dryCoolTimeout s) = toLockout (startEvent .dryCoolTimeout s) := if_pos hst
    rw [he] at ht
    have b := (heaterAt_toLockout (startEvent .dryCoolTimeout s)).of_leaves ht
    exact ⟨t, hexec, b.state, b.lockout⟩
  · obtain ⟨t, u, hexec, hhc, hcfg, hnow, hpow, hread, ht⟩ := exec_heaterTx hrun hn (by rw [hst]; decide)
    have hup : u.hc.purge = some p := by rw [hhc]; exact hp
    rw [heaterTxState_purge (by rw [hhc]; exact hst) hup hread, hnow] at ht
    refine ⟨t, hexec, fun h => ?_, fun h1 h2 h3 h4 => ?_⟩
    · rw [if_neg (by omega)] at ht
      exact ht.core.trans (congrArg heaterCore hhc)
    · rw [if_pos ⟨h1, h2⟩] at ht
      obtain ⟨k, hk, -, hpurge, -, -, hexit⟩ := heaterAt_purgeEnd hup
      have b := hk.of_leaves ht
      have hcount : (counting u.hc).failed < 3 := by
        rw [counting_failed hup, hhc]
        show (if p.fault = some .noIgnition ∨ p.fault = some .flameLoss then min 3 (s.hc.failed + 1) else s.hc.failed) < 3
        split <;> omega
      have x := hexit hcount (by rw [hhc]; exact h4)
      rw [hhc] at x
      exact ⟨b.purge.trans hpurge, fun h => ⟨b.state.trans (x.retries h).1, b.attempt.trans (x.retries h).2⟩,
        fun h => b.state.trans (x.restarts h).1, fun h hr => b.state.trans (x.ends h hr).1, fun h hr => b.state.trans (x.pauses h hr)⟩
  · obtain ⟨t, u, hexec, hhc, hcfg, hnow, hpow, hread, ht⟩ := exec_heaterTx hrun hn (by rw [hst]; decide)
    rw [heaterTxState_dryCool (by rw [hhc]; exact hst) hread] at ht
    refine ⟨t, hexec, fun h => ?_, fun h => ?_⟩
    · rw [if_pos h] at ht
      have b := (heaterAt_toLockout u).of_leaves ht
      exact ⟨b.state, b.lockout⟩
    · rw [if_neg (by omega)] at ht
      exact ht.core.trans (congrArg heaterCore hhc)
  · obtain ⟨t, u, hexec, a, ht⟩ := exec_heaterConversion (ch := .tx) (.inr (.inr (.inr rfl))) hrun hn
    have he : heaterConversion .tx u = heaterTx u := rfl
    have habove : validAbove u .tx 600 = decide (600 < filteredAt s .tx code) := by simp [validAbove, a.reading]
    rw [he, heaterTx_eq, habove, a.hc] at ht
    refine ⟨t, hexec, fun h1 h2 => ?_, fun h => ?_⟩
    · rw [if_pos ⟨h1, hst, decide_eq_true h2⟩] at ht
      have b := (heaterAt_toPurge .off none (withHc (fun h => { h with firstTx := false }) u)).of_leaves ht
      refine ⟨b.state, b.purge.trans ?_, b.firstTx⟩
      exact congrArg (fun n => some (PurgeRecord.mk .off none n)) a.now
    · rw [if_neg (by rintro ⟨h1, -, h2⟩; simp [h1] at h; simp at h2; omega),
        heaterTxState_off (by exact (congrArg HeaterUnit.state a.hc).trans hst)] at ht
      exact ht.core.trans (congrArg (fun h : HeaterUnit => heaterCore { h with firstTx := false }) a.hc)

end Sys2Proof.Proofs
end

section
/-! PROOFS. The phases of a start, from CHECK to RUN. -/

namespace Sys2Proof.Machine

-- One proof after another: started together they wait for one another, each on a thread of its own.
set_option Elab.async false

variable {s t u : State}

/-! ### The phases' entries (R68 to R73) -/

theorem heaterAt_toPreheat (s : State) :
    HeaterAt s.cfg.demands { heaterIn .preheat s.hc with power := some (now s + 600) } (toPreheat s) :=
  heaterAt_enter (new := .preheat) (fun h => { h with power := some (now s + 600) }) (.inl rfl)

theorem heaterAt_toIgnite (hst : s.hc.state = .prime) : HeaterAt s.cfg.demands { heaterIn .ignite s.hc with
    phase := some (now s + 10 * s.cfg.heaterTune.igniteLimit), igniteRef := (chanOf s .tx).filtered } (toIgnite s) :=
  heaterAt_enter (new := .ignite) (fun h => { h with
    phase := some (now s + 10 * s.cfg.heaterTune.igniteLimit), igniteRef := (chanOf s .tx).filtered }) (.inr (by rw [hst]; rfl))

theorem heaterAt_toStabilize (hst : s.hc.state = .ignite) : HeaterAt s.cfg.demands { heaterIn .stabilize s.hc with
    phase := some (now s + 10 * s.cfg.heaterTune.stabilizeTime) } (toStabilize s) :=
  heaterAt_enter (new := .stabilize) (fun h => { h with phase := some (now s + 10 * s.cfg.heaterTune.stabilizeTime) })
    (.inr (by rw [hst]; rfl))

theorem heaterAt_toRun (hst : s.hc.state = .stabilize) : HeaterAt s.cfg.demands { heaterIn .run s.hc with
    failed := 0, desired := some .low, effective := some .low, lastRise := some s.su.elapsed } (toRun s) :=
  (heaterAt_enter (new := .run) (fun h => { h with
    failed := 0, desired := some .low, effective := some .low, lastRise := some s.su.elapsed }) (.inr (by rw [hst]; rfl))).keep s

/-- What a failed attempt leaves: a purge for a retry at attempt 1, and NO_IGNITION after it (R72, R73). -/
theorem heaterAt_attemptFailed (s : State) : HeaterAt s.cfg.demands (if s.hc.attempt ≤ 1 then purging .retry none (now s) s.hc
    else purging .off (some .noIgnition) (now s) s.hc) (attemptFailed s) := by
  unfold attemptFailed
  split
  · exact heaterAt_toPurge .retry none s
  · exact heaterAt_toPurge .off (some .noIgnition) s

/-! ### The glow test (R68) -/

theorem glowTest_on (hst : s.hc.state = .check) (hglow : s.hc.glow = true) (h : 10 < (compOf s .t0).reading) :
    glowTest s = withHc (fun h => { h with glow := false }) s := by
  unfold glowTest
  rw [if_pos ⟨hst, hglow⟩]
  exact if_pos h

/-- An open glow plug is counted as a failed start, which locks out at the third (R68, R84). -/
theorem heaterAt_glowTest (hst : s.hc.state = .check) (hglow : s.hc.glow = true) (h : (compOf s .t0).reading ≤ 10) :
    HeaterAt s.cfg.demands (if 2 ≤ s.hc.failed
      then { heaterIn .lockout { addFailed s.hc with lastFault := some .glowOpen } with lockout := true }
      else heaterIn .off { addFailed s.hc with lastFault := some .glowOpen }) (glowTest s) := by
  have he : glowTest s = keepHeater s (if 3 ≤ min 3 (s.hc.failed + 1)
      then toLockout (recordFault .glowOpen .check true (withHc addFailed s))
      else heaterOff (recordFault .glowOpen .check false (withHc addFailed s))) := by
    unfold glowTest
    rw [if_pos ⟨hst, hglow⟩, if_neg (by exact Nat.not_lt.mpr h)]
    dsimp only
    by_cases hfull : 3 ≤ min 3 (s.hc.failed + 1)
    · have hd : decide (3 ≤ (withHc addFailed s).hc.failed) = true := decide_eq_true hfull
      rw [hd, if_pos rfl, if_pos hfull]
    · have hd : decide (3 ≤ (withHc addFailed s).hc.failed) = false := decide_eq_false hfull
      rw [hd, if_neg (by decide), if_neg hfull]
  rw [he]
  refine HeaterAt.keep ?_ s
  by_cases hfull : 2 ≤ s.hc.failed
  · rw [if_pos hfull, if_pos (by omega)]
    exact heaterAt_toLockout (recordFault .glowOpen .check true (withHc addFailed s))
  · rw [if_neg hfull, if_neg (by omega)]
    exact heaterAt_off (recordFault .glowOpen .check false (withHc addFailed s))

/-! ### TX on the way to the flame (R72, R73) -/

theorem heaterTxState_ignite {tx ref : Int} (hst : s.hc.state = .ignite) (href : s.hc.igniteRef = some ref)
    (hr : validFiltered s .tx = some tx) :
    heaterTxState s = if ref + s.cfg.heaterTune.flameRise ≤ tx then toStabilize s else s := by
  unfold heaterTxState
  rw [hr, hst]
  dsimp only
  rw [href]

theorem heaterTxState_stabilize {tx ref : Int} (hst : s.hc.state = .stabilize) (href : s.hc.igniteRef = some ref)
    (hr : validFiltered s .tx = some tx) :
    heaterTxState s = if tx < ref + s.cfg.heaterTune.margin then attemptFailed s else s := by
  unfold heaterTxState
  rw [hr, hst]
  dsimp only
  rw [href]

/-! ### The heater part's write (R84, R192) -/

theorem writeHeater_isSome (s : State) : (writeHeater s).mc.heaterWrite.isSome = true := by
  unfold writeHeater
  split
  · rfl
  · rename_i p hp
    simp [hp]

theorem keepHeater_writes {s t : State} (h : heaterPartOf s.hc ≠ heaterPartOf t.hc) :
    (keepHeater s t).mc.heaterWrite.isSome = true := by
  rw [keepHeater, if_neg h]
  exact writeHeater_isSome t

end Sys2Proof.Machine

namespace Sys2Proof.Proofs

open Sys2Proof Sys2Proof.Machine

/-- Settles O35: the phases of a start, at their timers and at TX conversions. -/
theorem startPhasesFollowEachOther : Obligations.StartPhasesFollowEachOther := by
  refine ⟨fun s hrun hst hglow => ?_, fun s hrun hst => ?_, fun s hrun hst hphase => ?_, fun s hrun hst => ?_, fun s hrun hst => ?_,
    fun code s hrun hn hst ref href => ?_, fun code s hrun hn hst ref href => ?_, fun s hrun hst => ?_⟩
  · obtain ⟨t, hexec, ht⟩ := exec_leaves (i := .glowTest) hrun rfl
    refine ⟨t, hexec, fun hon => ?_, fun hopen => ?_⟩
    · have he : effect .glowTest (startEvent .glowTest s) = _ := glowTest_on (s := startEvent .glowTest s) hst hglow hon
      rw [he] at ht
      exact ⟨(congrArg HeaterUnit.state ht.core :).trans hst, (congrArg HeaterUnit.glow ht.core :), (congrArg HeaterUnit.failed ht.core :)⟩
    · have b := (heaterAt_glowTest (s := startEvent .glowTest s) hst hglow hopen).of_leaves ht
      have hc : (startEvent .glowTest s).hc.failed = s.hc.failed := rfl
      rw [hc] at b
      by_cases hfull : 2 ≤ s.hc.failed
      · rw [if_pos hfull] at b ⊢
        exact ⟨b.failed, b.lastFault, b.state, fun _ => b.lockout, b.asked⟩
      · rw [if_neg hfull] at b ⊢
        exact ⟨b.failed, b.lastFault, b.state, fun h => absurd h hfull, b.asked⟩
  · obtain ⟨t, hexec, ht⟩ := exec_leaves (i := .checkPhaseEnd) hrun rfl
    have he : effect .checkPhaseEnd (startEvent .checkPhaseEnd s) = toPreheat (startEvent .checkPhaseEnd s) := if_pos hst
    rw [he] at ht
    have b := (heaterAt_toPreheat (startEvent .checkPhaseEnd s)).of_leaves ht
    exact ⟨t, hexec, b.state, b.glow, b.power, b.phase, b.asked⟩
  · obtain ⟨t, hexec, ht⟩ := exec_leaves (i := .preheatPhaseEnd) hrun rfl
    have he : effect .preheatPhaseEnd (startEvent .preheatPhaseEnd s) = toPrime (startEvent .preheatPhaseEnd s) :=
      (if_pos hst).trans (if_pos hphase)
    rw [he] at ht
    obtain ⟨pulse, n, m, a⟩ := heaterAt_toPrime (s := startEvent .preheatPhaseEnd s) (by exact (congrArg burning hst).trans rfl)
    have b := a.of_leaves ht
    exact ⟨t, hexec, b.state, b.glow, b.phase, b.stroke⟩
  · obtain ⟨t, hexec, ht⟩ := exec_leaves (i := .primePhaseEnd) hrun rfl
    have he : effect .primePhaseEnd (startEvent .primePhaseEnd s) = toIgnite (startEvent .primePhaseEnd s) := if_pos hst
    rw [he] at ht
    have b := (heaterAt_toIgnite (s := startEvent .primePhaseEnd s) hst).of_leaves ht
    exact ⟨t, hexec, b.state, b.glow, b.igniteRef, b.phase, b.stroke⟩
  · obtain ⟨t, hexec, ht⟩ := exec_leaves (i := .igniteLimitExpiry) hrun rfl
    have he : effect .igniteLimitExpiry (startEvent .igniteLimitExpiry s) = attemptFailed (startEvent .igniteLimitExpiry s) := if_pos hst
    rw [he] at ht
    have b := (heaterAt_attemptFailed (startEvent .igniteLimitExpiry s)).of_leaves ht
    have hc : (startEvent .igniteLimitExpiry s).hc.attempt = s.hc.attempt := rfl
    rw [hc] at b
    by_cases hfirst : s.hc.attempt ≤ 1
    · rw [if_pos hfirst] at b
      exact ⟨t, hexec, b.state, b.glow, b.stroke, fun _ => ⟨b.purge, b.lastFault⟩, fun h => absurd hfirst (by omega), b.failed⟩
    · rw [if_neg hfirst] at b
      exact ⟨t, hexec, b.state, b.glow, b.stroke, fun h => absurd h hfirst, fun _ => ⟨b.purge, b.lastFault⟩, b.failed⟩
  · obtain ⟨t, u, hexec, hhc, hcfg, hnow, -, hread, ht⟩ := exec_heaterTx hrun hn (by rw [hst]; decide)
    have hust : u.hc.state = .ignite := by rw [hhc]; exact hst
    rw [heaterTxState_ignite hust (by rw [hhc]; exact href) hread, hcfg] at ht
    refine ⟨t, hexec, fun h => ?_, fun h => ?_⟩
    · rw [if_pos h] at ht
      have b := (heaterAt_toStabilize hust).of_leaves ht
      rw [hhc, hcfg, hnow] at b
      exact ⟨b.state, b.glow, b.igniteRef.trans href, b.stroke, b.phase, b.failed, b.asked⟩
    · rw [if_neg (by omega)] at ht
      exact ht.core.trans (congrArg heaterCore hhc)
  · obtain ⟨t, u, hexec, hhc, hcfg, hnow, -, hread, ht⟩ := exec_heaterTx hrun hn (by rw [hst]; decide)
    have hust : u.hc.state = .stabilize := by rw [hhc]; exact hst
    rw [heaterTxState_stabilize hust (by rw [hhc]; exact href) hread, hcfg] at ht
    refine ⟨t, hexec, fun h => ?_, fun h => ?_⟩
    · rw [if_pos h] at ht
      have b := (heaterAt_attemptFailed u).of_leaves ht
      have hc : u.hc.attempt = s.hc.attempt := by rw [hhc]
      rw [hc, hnow] at b
      by_cases hfirst : s.hc.attempt ≤ 1
      · rw [if_pos hfirst] at b
        exact ⟨b.state, b.stroke, fun _ => ⟨b.purge, b.lastFault.trans (by rw [hhc]; rfl)⟩, fun h => absurd hfirst (by omega)⟩
      · rw [if_neg hfirst] at b
        exact ⟨b.state, b.stroke, fun h => absurd h hfirst, fun _ => ⟨b.purge, b.lastFault⟩⟩
    · rw [if_neg (by omega)] at ht
      exact ht.core.trans (congrArg heaterCore hhc)
  · have he : effect .stabilizePhaseEnd (startEvent .stabilizePhaseEnd s) = toRun (startEvent .stabilizePhaseEnd s) := if_pos hst
    have b := (heaterAt_toRun (s := startEvent .stabilizePhaseEnd s) hst).of_leaves (.of_close s _)
    refine ⟨_, he ▸ exec_running (i := .stabilizePhaseEnd) hrun rfl, b.state, b.failed, b.desired, b.effective, b.lastRise, b.asked, fun h => ?_⟩
    rw [close_heaterWrite]
    refine keepHeater_writes fun hsame => h ?_
    have a := heaterAt_toRun (s := startEvent .stabilizePhaseEnd s) hst
    exact (congrArg HeaterPart.failed hsame :).trans ((congrArg HeaterUnit.failed (keepHeater_hc _ _)).symm.trans a.failed)

end Sys2Proof.Proofs
end

section
/-! PROOFS. The heater at a channel that leaves VALID and as the clock moves; trips, vent mode and the lockout's clearing. -/

namespace Sys2Proof.Machine

-- One proof after another: started together they wait for one another, each on a thread of its own.
set_option Elab.async false

variable {s t u : State} {h : HeaterUnit} {d : Demands} {as : List Area}

/-! ### What another event leaves of a heater's -/

/-- A state has the heater of another, its request and its handings. -/
structure HeaterOf (u t : State) : Prop where
  core : heaterCore t.hc = heaterCore u.hc
  asked : t.asked = u.asked
  handed : ∀ i ∈ u.handed, i ∈ t.handed

theorem Leaves.heaterOf (l : Leaves u t) : HeaterOf u t := ⟨l.core, l.asked, l.handed⟩

/-- An event of the owners' revisions leaves the heater of what it does. -/
theorem Leaves.heaterOf_advance {v : State} {rs : List (Fin 26)} (l : Leaves (advance rs v u) t) : HeaterOf u t :=
  ⟨l.core, l.asked, l.handed⟩

theorem HeaterAt.of_heater (a : HeaterAt d h u) (l : HeaterOf u t) : HeaterAt d h t where
  core := (congrArg (fun h : HeaterUnit => { h with frostRun := false, frostBackoff := none }) l.core :).trans a.core
  frostRun := (congrArg HeaterUnit.frostRun l.core :).trans a.frostRun
  override hf he := l.handed _ (a.override hf he)
  asked := (congrArg (tget · (consIx .heat)) l.asked :).trans a.asked

theorem HeaterFinds.of_moves (m : Moves as s u) (h1 : .hc ∉ as := by decide) (h2 : .cfg ∉ partsOf as ++ everyEvent := by decide)
    (h3 : .su ∉ partsOf as ++ everyEvent := by decide) (h4 : .ga ∉ partsOf as ++ everyEvent := by decide)
    (h5 : .asked ∉ partsOf as ++ everyEvent := by decide) : HeaterFinds s u :=
  ⟨m.hc_eq h1, m.cfg_eq h2, m.su_eq h3, m.ga_eq h4, m.asked_eq h5⟩

theorem HeaterFinds.trans {v : State} (h : HeaterFinds s t) (k : HeaterFinds t v) : HeaterFinds s v :=
  ⟨k.hc.trans h.hc, k.cfg.trans h.cfg, k.su.trans h.su, k.ga.trans h.ga, k.asked.trans h.asked⟩

theorem HeaterFinds.noPower (a : HeaterFinds s u) : noPowerRefusal u = noPowerRefusal s :=
  noPowerRefusal_congr (congrArg HeaterUnit.level a.hc :) a.cfg a.ga

/-! ### A channel of the HC marked SUSPECT (R9, R10) -/

/-- A SUSPECT CHANNEL of a VALID channel is its leaving VALID at the HC. -/
theorem exec_suspect {ch : Channel} (hch : ch = .tc ∨ ch = .th ∨ ch = .tx) (hrun : s.mc.supply = .running)
    (hst : statusOf s ch = .valid) : ∃ t u, exec (.suspectChannel (chanIx ch).1) s = .next t ∧ HeaterFinds s u
      ∧ HeaterOf (heaterLeft ch u) t := by
  obtain ⟨t, hexec, ht⟩ := exec_leaves (i := .suspectChannel (chanIx ch).1) hrun rfl
  obtain ⟨v, hv⟩ : ∃ v, v = startEvent (.suspectChannel (chanIx ch).1) s := ⟨_, rfl⟩
  have hvst : statusOf v ch = .valid := hv ▸ hst
  have he : effect (.suspectChannel (chanIx ch).1) v = _ := setHostMark_eq (channelById_chanIx ch) true v
  rw [← hv, he, hvst] at ht
  obtain ⟨w, hw⟩ : ∃ w, w = sensorNotice ch .valid (setChannel ch { chanOf v ch with hostMark := true } v) := ⟨_, rfl⟩
  rw [← hw] at ht
  have hmoves : Moves [.rawChan] v w := hw ▸ (moves_setChannel ch _ v).step (moves_sensorNotice ch _ _)
  have hnew : statusOf w ch ≠ .valid := by
    have hmu : w.mu = (setChannel ch { chanOf v ch with hostMark := true } v).mu := hw ▸ sensorNotice_mu _ _ _
    have hstatus : statusOf w ch = statusOf (setChannel ch { chanOf v ch with hostMark := true } v) ch :=
      congrArg (fun m : MeasureUnit => (tget m.chan (chanIx ch)).status) hmu
    rw [hstatus, statusOf_setChannel, if_pos rfl]
    simp only [statusFrom]
    split <;> simp
  have hchange : statusChange ch .valid w = heaterLeft ch (chargeLeft ch w) := by
    unfold statusChange
    dsimp only
    rw [if_pos ⟨rfl, hnew⟩, if_neg (by obtain rfl | rfl | rfl := hch <;> decide)]
  have hreport : ∃ rs, statusReport ch .valid w = advance rs w (heaterLeft ch (chargeLeft ch w)) := by
    unfold statusReport ownerEvent
    dsimp only
    rw [if_neg hnew, if_neg (by obtain rfl | rfl | rfl := hch <;> decide), hchange]
    exact ⟨_, rfl⟩
  obtain ⟨rs, hreport⟩ := hreport
  rw [hreport] at ht
  refine ⟨t, chargeLeft ch w, hexec, ?_, ⟨ht.core, ht.asked, ht.handed⟩⟩
  have hstart : HeaterFinds s v := hv ▸ ⟨rfl, rfl, rfl, rfl, rfl⟩
  exact hstart.trans (.of_moves (as := [.rawChan, .cc]) (hmoves.mono.step (moves_chargeLeft ch w)))

/-! ### The clock's moves (R62, R154) -/

theorem dueSlots_none (h : ∀ k e, slotOf s k = some e → e.state ≠ .armed) : dueSlots s = [] := by
  rw [List.eq_nil_iff_forall_not_mem]
  intro k hk
  rw [mem_dueSlots, isDue] at hk
  cases he : slotOf s k with
  | none => simp [he] at hk
  | some e => simp [he, h k e he] at hk

theorem fireDue_none (h : dueSlots s = []) : fireDue s = s := by
  unfold fireDue
  rw [h]

/-- A tick with no entry armed, and a load current reading, move the clock and leave the heater its holds. -/
theorem exec_clockMoves {i : Instr} (hrun : s.mc.supply = .running) (hi : i = .elapsedTick ∨ ∃ r, i = .loadCurrentReading r)
    (harmed : ∀ k e, slotOf s k = some e → e.state ≠ .armed) : ∃ t u, exec i s = .next t ∧ u.hc = s.hc ∧ u.cfg = s.cfg
      ∧ noPowerRefusal u = noPowerRefusal s ∧ t.su = u.su ∧ HeaterOf (heaterHolds u) t := by
  obtain rfl | ⟨r, rfl⟩ := hi
  · obtain ⟨t, hexec, ht⟩ := exec_leaves (i := .elapsedTick) hrun rfl
    obtain ⟨v, hv⟩ : ∃ v, v = startEvent .elapsedTick s := ⟨_, rfl⟩
    obtain ⟨u, hu⟩ : ∃ u, u = raiseExpiries (restTick (dozeCheck (tickClocks v))) := ⟨_, rfl⟩
    have hclocks : Moves [.su, .mc, .doze] v (tickClocks v) := moves_tickClocks v
    have hrest : Moves [.mc, .doze, .rm] (tickClocks v) u :=
      hu ▸ ((moves_dozeCheck _).mono.step (moves_restTick _)).step (moves_raiseExpiries _)
    have hslots : ∀ k, slotOf (ownerEvent allRecords tickBlocks v) k = slotOf s k := by
      intro k
      have hsu : (ownerEvent allRecords tickBlocks v).su = (tickClocks v).su := by
        rw [ownerEvent_su]
        have hblocks : tickBlocks v = heaterHolds u := hu ▸ rfl
        rw [hblocks, (moves_heaterHolds u).su_eq, hrest.su_eq]
      exact (congrArg (fun w : ScheduleUnit => tget w.slots k) hsu).trans (hv ▸ rfl)
    have he : effect .elapsedTick v = ownerEvent allRecords tickBlocks v :=
      fireDue_none (dueSlots_none fun k e hk => harmed k e (hslots k ▸ hk))
    rw [← hv, he] at ht
    have hblocks : tickBlocks v = heaterHolds u := hu ▸ rfl
    refine ⟨t, u, hexec, ?_, ?_, noPowerRefusal_congr ?_ ?_ ?_, ?_, ?_⟩
    · rw [hrest.hc_eq, hclocks.hc_eq, hv]; rfl
    · rw [hrest.cfg_eq, hclocks.cfg_eq, hv]; rfl
    · rw [hrest.hc_eq, hclocks.hc_eq, hv]; rfl
    · rw [hrest.cfg_eq, hclocks.cfg_eq, hv]; rfl
    · rw [hrest.ga_eq, hclocks.ga_eq, hv]; rfl
    · rw [ht.su, ownerEvent_su, hblocks, (moves_heaterHolds u).su_eq]
    · rw [ownerEvent, hblocks] at ht
      exact ht.heaterOf_advance
  · obtain ⟨t, hexec, ht⟩ := exec_leaves (i := .loadCurrentReading r) hrun rfl
    obtain ⟨v, hv⟩ : ∃ v, v = startEvent (.loadCurrentReading r) s := ⟨_, rfl⟩
    obtain ⟨w, hw⟩ : ∃ w, w = allComparators.foldl (fun s' c => withComp c (fun e => { e with reading := readingOf v c (meanOf r c) }) s') v :=
      ⟨_, rfl⟩
    obtain ⟨u, hu⟩ : ∃ u, u = withSu (fun u => { u with tenth := min 9 (u.tenth + 1) }) w := ⟨_, rfl⟩
    have hcomps : Moves [.comp] v w := hw ▸ moves_foldl
      (f := fun s' c => withComp c (fun e => { e with reading := readingOf v c (meanOf r c) }) s') (fun s' c => moves_withComp c _ s') _ v
    have he : effect (.loadCurrentReading r) v = heaterHolds u := hu ▸ hw ▸ rfl
    rw [← hv, he] at ht
    have huhc : u.hc = w.hc := hu ▸ rfl
    have hucfg : u.cfg = w.cfg := hu ▸ rfl
    have huga : u.ga = w.ga := hu ▸ rfl
    refine ⟨t, u, hexec, ?_, ?_, noPowerRefusal_congr ?_ ?_ ?_, ht.su.trans (moves_heaterHolds u).su_eq, ht.heaterOf⟩
    · rw [huhc, hcomps.hc_eq, hv]; rfl
    · rw [hucfg, hcomps.cfg_eq, hv]; rfl
    · rw [huhc, hcomps.hc_eq, hv]; rfl
    · rw [hucfg, hcomps.cfg_eq, hv]; rfl
    · rw [huga, hcomps.ga_eq, hv]; rfl

/-! ### The heater at a channel that has left VALID (R68 to R71) -/

theorem heaterLeft_tx_burning (hst : burning s.hc.state = true) : heaterLeft .tx s = toPurge .off (some .flameSensor) s := by
  unfold heaterLeft
  dsimp only
  obtain h | h | h | h := burning_cases.mp hst <;> rw [h]

theorem heaterLeft_th_burning (hst : burning s.hc.state = true) : heaterLeft .th s = toOverheat s := by
  unfold heaterLeft
  dsimp only
  obtain h | h | h | h := burning_cases.mp hst <;> rw [h]

theorem heaterLeft_starting {ch : Channel} (hch : ch = .tx ∨ ch = .th) (hst : s.hc.state = .check ∨ s.hc.state = .preheat) :
    heaterLeft ch s = offWith .sensor s := by
  unfold heaterLeft
  obtain rfl | rfl := hch <;> dsimp only <;> obtain h | h := hst <;> rw [h]

theorem heaterLeft_stays {ch : Channel} (hch : ch = .tx ∨ ch = .th) (h1 : s.hc.state ≠ .check) (h2 : s.hc.state ≠ .preheat)
    (h3 : burning s.hc.state = false) : heaterLeft ch s = s := by
  unfold heaterLeft
  obtain rfl | rfl := hch <;> dsimp only <;> cases h : s.hc.state <;> simp_all [burning]

/-! ### Trips (R67, R68, R69, R71, R80) -/

theorem heaterTrip_starting (hst : s.hc.state = .check ∨ s.hc.state = .preheat) : heaterTrip .t0 s = offWith .glowShort s := by
  unfold heaterTrip
  dsimp only
  obtain h | h := hst <;> rw [h]

theorem heaterTrip_burning (hst : burning s.hc.state = true) : heaterTrip .t0 s = toPurge .off (some .glowShort) s := by
  unfold heaterTrip
  dsimp only
  obtain h | h | h | h := burning_cases.mp hst <;> rw [h]

theorem heaterTrip_stays (h1 : s.hc.state ≠ .check) (h2 : s.hc.state ≠ .preheat) (h3 : burning s.hc.state = false) :
    heaterTrip .t0 s = s := by
  unfold heaterTrip
  dsimp only
  cases h : s.hc.state <;> simp_all [burning]

/-! ### Holds of a flame (R71, R75) -/

theorem heaterTh_ends {th : Int} (hst : burning s.hc.state = true) (hr : validFiltered s .th = some th) (h : th ≤ 1200) :
    heaterTh s = withHc (fun h => { h with overHold := none }) s := by
  unfold heaterTh validAbove
  rw [if_pos hst, hr]
  exact if_neg (by simpa using h)

theorem heaterTh_begins {th : Int} (hst : burning s.hc.state = true) (hr : validFiltered s .th = some th) (h : 1200 < th)
    (hhold : s.hc.overHold = none) : heaterTh s = withHc (fun h => { h with overHold := some (now s) }) s := by
  unfold heaterTh validAbove
  rw [if_pos hst, hr, hhold]
  exact if_pos (decide_eq_true h)

theorem heaterTh_holds {th : Int} {e : Nat} (hst : burning s.hc.state = true) (hr : validFiltered s .th = some th) (h : 1200 < th)
    (hhold : s.hc.overHold = some e) : heaterTh s = if e + 20 ≤ now s then toOverheat s else s := by
  unfold heaterTh validAbove heldFor
  rw [if_pos hst, hr, hhold]
  exact (if_pos (decide_eq_true h)).trans (if_congr decide_eq_true_iff rfl rfl)

theorem heaterVh_ends {vh : Int} (hst : burning s.hc.state = true) (hr : validFiltered s .vh = some vh) (h : 20000 ≤ vh) :
    heaterVh s = withHc (fun h => { h with underHold := none }) s := by
  unfold heaterVh validBelow
  rw [if_pos hst, hr]
  exact if_neg (by simpa using h)

theorem heaterVh_begins {vh : Int} (hst : burning s.hc.state = true) (hr : validFiltered s .vh = some vh) (h : vh < 20000)
    (hhold : s.hc.underHold = none) : heaterVh s = withHc (fun h => { h with underHold := some (now s) }) s := by
  unfold heaterVh validBelow
  rw [if_pos hst, hr, hhold]
  exact if_pos (decide_eq_true h)

theorem heaterVh_holds {vh : Int} {e : Nat} (hst : burning s.hc.state = true) (hr : validFiltered s .vh = some vh) (h : vh < 20000)
    (hhold : s.hc.underHold = some e) : heaterVh s = if e + 200 ≤ now s then toPurge .off (some .undervolt) s else s := by
  unfold heaterVh validBelow heldFor
  rw [if_pos hst, hr, hhold]
  exact (if_pos (decide_eq_true h)).trans (if_congr decide_eq_true_iff rfl rfl)

/-- The heater after a flame-out: the first one purges for a restart, a further one ends in OFF (R75). -/
theorem heaterAt_flameGone (s : State) : HeaterAt s.cfg.demands (if s.hc.flameOut = 0
      then { purging .restart none (now s) { s.hc with flameOut := 1 } with flameRestart := true }
      else purging .off (some .flameLoss) (now s) s.hc) (flameGone s) := by
  unfold flameGone
  split
  · have a := heaterAt_toPurge .restart none (withHc (fun h => { h with flameOut := 1 }) s)
    have hflame := congrArg (fun h : HeaterUnit => { h with flameRestart := true }) a.core
    exact ⟨hflame, a.frostRun, a.override, a.asked⟩
  · exact heaterAt_toPurge .off (some .flameLoss) s

/-- What a flame-out leaves, at a time. -/
structure FlameGone (time : Nat) (s t : State) : Prop where
  state : t.hc.state = .purge
  first : s.hc.flameOut = 0 → t.hc.purge = some ⟨.restart, none, time⟩ ∧ t.hc.flameOut = 1
  again : s.hc.flameOut ≠ 0 → t.hc.purge = some ⟨.off, some .flameLoss, time⟩ ∧ t.hc.lastFault = some .flameLoss

theorem flameGone_left {time : Nat} (l : HeaterOf (flameGone u) t) (hout : u.hc.flameOut = s.hc.flameOut) (htime : now u = time) :
    FlameGone time s t := by
  have b := (heaterAt_flameGone u).of_heater l
  rw [hout, htime] at b
  by_cases h : s.hc.flameOut = 0
  · rw [if_pos h] at b
    exact ⟨b.state, fun _ => ⟨b.purge, b.flameOut⟩, fun hn => absurd h hn⟩
  · rw [if_neg h] at b
    exact ⟨b.state, fun he => absurd he h, fun _ => ⟨b.purge, b.lastFault⟩⟩

theorem heaterTxState_run {tx : Int} (hst : s.hc.state = .run) (hr : validFiltered s .tx = some tx) :
    heaterTxState s = flameStep tx s := by
  unfold heaterTxState
  rw [hr, hst]

theorem flameStep_ends {tx : Int} (h : ¬tx < s.cfg.heaterTune.flameLoss) :
    flameStep tx s = withHc (fun h => { h with flameHold := none }) s := if_neg h

theorem flameStep_begins {tx : Int} (h : tx < s.cfg.heaterTune.flameLoss) (hhold : s.hc.flameHold = none) :
    flameStep tx s = withHc (fun h => { h with flameHold := some (now s) }) s := by
  unfold flameStep
  rw [if_pos h, hhold]

theorem flameStep_holds {tx : Int} {e : Nat} (h : tx < s.cfg.heaterTune.flameLoss) (hhold : s.hc.flameHold = some e) :
    flameStep tx s = if e + 100 ≤ now s then flameGone s else s := by
  unfold flameStep heldFor
  rw [if_pos h, hhold]
  exact if_congr decide_eq_true_iff rfl rfl

/-- HEAT VENT enters VENT from OFF and OFF from VENT, and otherwise only answers (R86). -/
theorem heatVent_eq (on : Bool) (s : State) : ∃ w,
    heatVent on s = answer (if on = true ∧ s.hc.state ≠ .off ∧ s.hc.state ≠ .vent then .state else .ok) [] w
      ∧ (on = true → s.hc.state = .off → HeaterAt s.cfg.demands (heaterIn .vent s.hc) w)
      ∧ (on = false → s.hc.state = .vent → HeaterAt s.cfg.demands (heaterIn .off s.hc) w)
      ∧ (¬(on = true ∧ s.hc.state = .off) → ¬(on = false ∧ s.hc.state = .vent) → w = s) := by
  unfold heatVent
  split
  · rename_i h
    exact ⟨_, by simp [h], fun _ _ => heaterAt_enter (new := .vent) id (.inl rfl), nofun, fun hn => absurd ⟨rfl, h⟩ hn⟩
  · rename_i h
    exact ⟨s, by simp [h], fun _ h' => by simp [h] at h', nofun, fun _ _ => rfl⟩
  · rename_i h1 h2
    exact ⟨s, by rw [if_pos ⟨rfl, h1, h2⟩], fun _ h => absurd h h1, nofun, fun _ _ => rfl⟩
  · rename_i h
    exact ⟨_, by simp, nofun, fun _ _ => heaterAt_off s, fun _ hn => absurd ⟨rfl, h⟩ hn⟩
  · rename_i h
    exact ⟨s, by simp, nofun, fun _ h' => absurd h' h, fun _ _ => rfl⟩

/-- An accepted CLEAR LOCKOUT clears both counters and leaves LOCKOUT, and writes the heater part (R85). -/
theorem clearLockout_eq (h1 : s.hc.state ≠ .purge) (h2 : s.hc.state ≠ .dryCool) : ∃ w, clearLockout s = answer .ok [] (writeHeater w)
    ∧ (s.hc.state = .lockout → HeaterAt s.cfg.demands
        { heaterIn .off s.hc with failed := 0, overheats := 0, lockout := false, lastFault := none } w)
    ∧ (s.hc.state ≠ .lockout → w = withHc (fun h => { h with failed := 0, overheats := 0 }) s) := by
  unfold clearLockout
  split
  · contradiction
  · contradiction
  · rename_i h
    exact ⟨_, rfl, fun _ => heaterAt_enter (new := .off) (fun h => { h with failed := 0, overheats := 0, lockout := false, lastFault := none })
      (.inl rfl), fun hn => absurd h hn⟩
  · rename_i h
    exact ⟨_, rfl, fun h' => absurd h' h, fun _ => rfl⟩

theorem writeHeater_hc (s : State) : (writeHeater s).hc = s.hc := by
  unfold writeHeater
  split <;> rfl

theorem HeaterOf.of_writeHeater (s : State) : HeaterOf s (writeHeater s) := by
  unfold writeHeater
  split <;> exact ⟨rfl, rfl, fun _ h => h⟩

theorem HeaterOf.trans {v : State} (h : HeaterOf s t) (k : HeaterOf t v) : HeaterOf s v :=
  ⟨k.core.trans h.core, k.asked.trans h.asked, fun i hi => k.handed i (h.handed i hi)⟩

theorem holdMet_waits {hold : Option Nat} {tenths : Nat} (h : hold.all (fun e => decide (now s < e + tenths)) = true) :
    holdMet s hold tenths = false := by
  cases hold with
  | none => rfl
  | some e => exact decide_eq_false (by have : now s < e + tenths := by simpa using h
                                        omega)

theorem heaterHolds_run (hst : s.hc.state = .run) : heaterHolds s
    = if holdMet s s.hc.pauseHold 6000 then toPurge .pause none s else if holdMet s s.hc.flameHold 100 then flameGone s else s := by
  unfold heaterHolds
  rw [hst]

end Sys2Proof.Machine

namespace Sys2Proof.Proofs

open Sys2Proof Sys2Proof.Machine

/-- Settles O37: trips, lost sensors, overheat, undervoltage and flame-out at the heater, vent mode and CLEAR LOCKOUT. -/
theorem tripsVentAndLockoutClear : Obligations.TripsVentAndLockoutClear := by
  refine ⟨fun o s hrun => ?_, fun o s hrun => ?_, fun on s hrun => ?_, fun s hrun hst => ?_, fun s hrun h1 h2 => ?_,
    fun ch s hrun hch hvalid => ?_, fun code s hrun hn hst => ?_, fun code s hrun hn hst => ?_,
    fun i s hrun helapsed hi harmed hst => ?_, fun code s hrun hn hst => ?_⟩
  · obtain ⟨t, hexec, ht⟩ := exec_leaves (i := .heaterTripReport .t0 o) hrun rfl
    obtain ⟨v, hv⟩ : ∃ v, v = startEvent (.heaterTripReport .t0 o) s := ⟨_, rfl⟩
    have hhc : v.hc = s.hc := hv ▸ rfl
    have hnow : now v = now s := hv ▸ rfl
    have ht : Leaves (heaterTrip .t0 v) t := hv ▸ ht
    refine ⟨t, hexec, fun h => ?_, fun h => ?_, fun h1 h2 h3 => ?_⟩
    · rw [heaterTrip_starting (hhc ▸ h)] at ht
      have b := (heaterAt_offWith _ v).of_leaves ht
      exact ⟨b.state, b.lastFault⟩
    · rw [heaterTrip_burning (hhc ▸ h)] at ht
      have b := (heaterAt_toPurge _ _ v).of_leaves ht
      rw [hnow] at b
      exact ⟨b.state, b.purge⟩
    · rw [heaterTrip_stays (hhc ▸ h1) (hhc ▸ h2) (hhc ▸ h3)] at ht
      exact ht.core.trans (congrArg heaterCore hhc)
  · obtain ⟨t, hexec, ht⟩ := exec_leaves (i := .heaterTripReport .t1 o) hrun rfl
    obtain ⟨v, hv⟩ : ∃ v, v = startEvent (.heaterTripReport .t1 o) s := ⟨_, rfl⟩
    have hhc : v.hc = s.hc := hv ▸ rfl
    have hnow : now v = now s := hv ▸ rfl
    have ht : Leaves (blowerFault v) t := hv ▸ ht
    refine ⟨t, hexec, fun h => ?_, fun h => ?_, fun h1 h2 h3 h4 => ?_⟩
    · rw [blowerFault_cold (hhc ▸ h)] at ht
      have b := (heaterAt_offWith _ v).of_leaves ht
      exact ⟨b.state, b.lastFault⟩
    · rw [blowerFault_hot (hhc ▸ h)] at ht
      have b := (heaterAt_toDryCool v).of_leaves ht
      rw [hnow] at b
      exact ⟨b.state, b.lastFault, b.lockout, b.phase, b.glow, b.stroke, b.asked⟩
    · rw [blowerFault_idle (hhc ▸ h1) (hhc ▸ h2) (hhc ▸ h3) (hhc ▸ h4)] at ht
      exact ht.core.trans (congrArg heaterCore hhc)
  · obtain ⟨t, hexec, ht⟩ := exec_leaves (i := .heatVent on) hrun rfl
    obtain ⟨v, hv⟩ : ∃ v, v = startEvent (.heatVent on) s := ⟨_, rfl⟩
    have hhc : v.hc = s.hc := hv ▸ rfl
    have hcfg : v.cfg = s.cfg := hv ▸ rfl
    obtain ⟨w, hw, hvent, hoff, hstays⟩ := heatVent_eq on v
    rw [hhc] at hw hvent hoff hstays
    have ht : Leaves (answer (if on = true ∧ s.hc.state ≠ .off ∧ s.hc.state ≠ .vent then .state else .ok) [] w) t := hw ▸ hv ▸ ht
    have hof : HeaterOf w t := ⟨ht.core, ht.asked, ht.handed⟩
    refine ⟨t, hexec, ht.answer, ?_, fun hon hst => ?_⟩
    · split
      · rename_i h
        exact ((hvent h.1 h.2).of_heater hof).state
      · rename_i hn
        split
        · rename_i h
          exact ((hoff h.1 h.2).of_heater hof).state
        · rename_i hm
          have hsame := hstays hn hm
          exact (congrArg HeaterUnit.state hof.core :).trans (congrArg HeaterUnit.state (hsame ▸ hhc) :)
    · have b := (hvent hon hst).of_heater hof
      rw [hcfg] at b
      exact b.asked
  · refine exec_answers hrun rfl ?_
    show clearLockout (startEvent .clearLockout s) = _
    unfold clearLockout
    have hst' : (startEvent .clearLockout s).hc.state = s.hc.state := rfl
    rw [hst']
    obtain h | h := hst <;> rw [h]
  · obtain ⟨v, hv⟩ : ∃ v, v = startEvent .clearLockout s := ⟨_, rfl⟩
    have hhc : v.hc = s.hc := hv ▸ rfl
    obtain ⟨w, hw, hleaves, hclears⟩ := clearLockout_eq (hhc ▸ h1) (hhc ▸ h2)
    have hexec : exec .clearLockout s = .next (close s (answer .ok [] (writeHeater w))) :=
      (exec_running hrun rfl).trans (by rw [← hv]; exact congrArg (fun u => Host.Outcome.next (close s u)) hw)
    have hanswer : HeaterOf (writeHeater w) (answer .ok [] (writeHeater w)) := ⟨rfl, rfl, fun _ h => h⟩
    have hof : HeaterOf w (close s (answer .ok [] (writeHeater w))) :=
      ((HeaterOf.of_writeHeater w).trans hanswer).trans (Leaves.of_close s _).heaterOf
    have hwrite : (close s (answer .ok [] (writeHeater w))).mc.heaterWrite.isSome = true := by
      rw [close_heaterWrite]
      exact writeHeater_isSome w
    by_cases hst : s.hc.state = .lockout
    · have b := (hleaves (hhc ▸ hst)).of_heater hof
      exact ⟨_, hexec, by rw [close_answer]; rfl, b.failed, b.overheats, hwrite, b.state.trans (if_pos hst).symm, fun _ => ⟨b.lockout, b.lastFault⟩⟩
    · have hcore := hof.core.trans (congrArg (fun u : State => heaterCore u.hc) (hclears (hhc ▸ hst)))
      refine ⟨_, hexec, by rw [close_answer]; rfl, (congrArg HeaterUnit.failed hcore :), (congrArg HeaterUnit.overheats hcore :), hwrite, ?_,
        fun h => absurd h hst⟩
      exact (congrArg HeaterUnit.state hcore :).trans ((congrArg HeaterUnit.state hhc).trans (if_neg hst).symm)
  · obtain ⟨t, u, hexec, a, ht⟩ := exec_suspect (.inr hch.symm) hrun hvalid
    refine ⟨t, hexec, fun h => ?_, fun h => ?_, fun h1 h2 h3 => ?_⟩
    · rw [heaterLeft_starting hch (a.hc ▸ h)] at ht
      have b := (heaterAt_offWith _ u).of_heater ht
      exact ⟨b.state, b.lastFault⟩
    · obtain rfl | rfl := hch
      · rw [heaterLeft_tx_burning (a.hc ▸ h)] at ht
        have b := (heaterAt_toPurge _ _ u).of_heater ht
        rw [a.now, a.hc] at b
        exact ⟨b.state, fun _ => ⟨b.purge, b.overheats⟩, nofun⟩
      · rw [heaterLeft_th_burning (a.hc ▸ h)] at ht
        have b := (heaterAt_toOverheat u).of_heater ht
        rw [a.now, a.hc] at b
        exact ⟨b.state, nofun, fun _ => ⟨b.purge, b.overheats⟩⟩
    · rw [heaterLeft_stays hch (a.hc ▸ h1) (a.hc ▸ h2) (a.hc ▸ h3)] at ht
      exact ht.core.trans (congrArg heaterCore a.hc)
  · obtain ⟨t, u, hexec, a, ht⟩ := exec_heaterConversion (ch := .th) (.inr (.inr (.inl rfl))) hrun hn
    have ht : Leaves (heaterTh u) t := ht
    have hburn : burning u.hc.state = true := a.hc ▸ hst
    refine ⟨t, hexec, fun h => ?_, fun h hnone => ?_, fun h e he => ⟨fun hwait => ?_, fun hmet => ?_⟩⟩
    · rw [heaterTh_ends hburn a.reading h] at ht
      exact ht.core.trans (congrArg (fun h : HeaterUnit => heaterCore { h with overHold := none }) a.hc)
    · rw [heaterTh_begins hburn a.reading h (a.hc ▸ hnone)] at ht
      exact ht.core.trans (by rw [← a.hc, ← a.now]; rfl)
    · rw [heaterTh_holds hburn a.reading h (a.hc ▸ he), a.now, if_neg (by omega)] at ht
      exact ht.core.trans (congrArg heaterCore a.hc)
    · rw [heaterTh_holds hburn a.reading h (a.hc ▸ he), a.now, if_pos hmet] at ht
      have b := (heaterAt_toOverheat u).of_leaves ht
      rw [a.now, a.hc] at b
      exact ⟨b.state, b.purge, b.overheats⟩
  · obtain ⟨t, u, hexec, a, ht⟩ := exec_heaterConversion (ch := .vh) (.inl rfl) hrun hn
    have ht : Leaves (heaterVh u) t := ht
    have hburn : burning u.hc.state = true := a.hc ▸ hst
    refine ⟨t, hexec, fun h => ?_, fun h hnone => ?_, fun h e he => ⟨fun hwait => ?_, fun hmet => ?_⟩⟩
    · rw [heaterVh_ends hburn a.reading h] at ht
      exact ht.core.trans (congrArg (fun h : HeaterUnit => heaterCore { h with underHold := none }) a.hc)
    · rw [heaterVh_begins hburn a.reading h (a.hc ▸ hnone)] at ht
      exact ht.core.trans (by rw [← a.hc, ← a.now]; rfl)
    · rw [heaterVh_holds hburn a.reading h (a.hc ▸ he), a.now, if_neg (by omega)] at ht
      exact ht.core.trans (congrArg heaterCore a.hc)
    · rw [heaterVh_holds hburn a.reading h (a.hc ▸ he), a.now, if_pos hmet] at ht
      have b := (heaterAt_toPurge .off (some .undervolt) u).of_leaves ht
      rw [a.now, a.hc] at b
      exact ⟨b.state, b.purge⟩
  · obtain ⟨t, u, hexec, hhc, hcfg, hpow, hsu, ht⟩ := exec_clockMoves hrun hi harmed
    have hnow : now t = now u := now_congr hsu
    refine ⟨t, hexec, fun hpause e he hmet => ?_⟩
    rw [heaterHolds_run (hhc ▸ hst), hhc, if_neg, if_pos] at ht
    · have g : FlameGone (now t) s t := flameGone_left ht (by rw [hhc]) hnow.symm
      exact ⟨g.state, g.first, g.again⟩
    · rw [he]
      exact decide_eq_true (hnow ▸ hmet)
    · rw [holdMet_waits (hnow ▸ hpause)]
      decide
  · obtain ⟨t, u, hexec, hhc, hcfg, hnow, -, hread, ht⟩ := exec_heaterTx hrun hn (by rw [hst]; decide)
    rw [heaterTxState_run (by rw [hhc]; exact hst) hread] at ht
    have hhold : u.hc.flameHold = s.hc.flameHold := by rw [hhc]
    refine ⟨t, hexec, fun h => ?_, fun h hnone => ?_, fun h e he => ⟨fun hwait => ?_, fun hmet => ?_⟩⟩
    · rw [flameStep_ends (by rw [hcfg]; exact h)] at ht
      exact ht.core.trans (congrArg (fun h : HeaterUnit => heaterCore { h with flameHold := none }) hhc)
    · rw [flameStep_begins (by rw [hcfg]; exact h) (hhold.trans hnone), hnow] at ht
      exact ht.core.trans (congrArg (fun h : HeaterUnit => heaterCore { h with flameHold := some (now s) }) hhc)
    · rw [flameStep_holds (by rw [hcfg]; exact h) (hhold.trans he), hnow, if_neg (by omega)] at ht
      exact ht.core.trans (congrArg heaterCore hhc)
    · rw [flameStep_holds (by rw [hcfg]; exact h) (hhold.trans he), hnow, if_pos hmet] at ht
      have g : FlameGone (now s) s t := flameGone_left ht.heaterOf (by rw [hhc]) hnow
      exact ⟨g.state, g.first, g.again⟩

end Sys2Proof.Proofs
end

section
/-! PROOFS. Grants and power on the way to the flame, RUN's regulation, PAUSE and the frost guard. -/

namespace Sys2Proof.Machine

-- One proof after another: started together they wait for one another, each on a thread of its own.
set_option Elab.async false

variable {s t u : State} {d : Stage}

/-! ### Grants (R67, R68, R69, R71, R74) -/

/-- The state whose heater holds a grant. -/
def granted (g : Nat) (s : State) : State := withHc (fun h => { h with grant := g }) s

theorem heaterGrant_waitPower (g : Nat) (hst : s.hc.state = .waitPower) :
    heaterGrant g s = if s.cfg.demands.check ≤ g then toCheck (granted g s) else granted g s := by
  have hv : (granted g s).hc.state = .waitPower := hst
  unfold heaterGrant
  dsimp only
  rw [← granted, hv]
  rfl

theorem heaterGrant_check (g : Nat) (hst : s.hc.state = .check) :
    heaterGrant g s = if g = 0 then offWith .noPower (granted g s) else granted g s := by
  have hv : (granted g s).hc.state = .check := hst
  unfold heaterGrant
  dsimp only
  rw [← granted, hv]

theorem heaterGrant_warming (g : Nat) (hst : s.hc.state = .preheat) (hp : s.hc.phase = none) : heaterGrant g s
    = if g = s.cfg.demands.start
      then withHc (fun h => { h with phase := some (now s + 10 * s.cfg.heaterTune.preheatTime), power := none }) (granted g s)
      else granted g s := by
  have hv : (granted g s).hc.state = .preheat := hst
  have hvp : (granted g s).hc.phase = none := hp
  unfold heaterGrant
  dsimp only
  rw [← granted, hv]
  dsimp only
  rw [hvp]
  rfl

theorem heaterGrant_preheat (g : Nat) (hst : s.hc.state = .preheat) (hp : s.hc.phase.isSome = true) :
    heaterGrant g s = if g = 0 then offWith .noPower (granted g s) else granted g s := by
  obtain ⟨e, he⟩ := Option.isSome_iff_exists.mp hp
  have hv : (granted g s).hc.state = .preheat := hst
  have hvp : (granted g s).hc.phase = some e := he
  unfold heaterGrant
  dsimp only
  rw [← granted, hv]
  dsimp only
  rw [hvp]

theorem heaterGrant_flame (g : Nat) (hst : s.hc.state = .prime ∨ s.hc.state = .ignite ∨ s.hc.state = .stabilize) :
    heaterGrant g s = if g = 0 then toPurge .off (some .noPower) (granted g s) else granted g s := by
  have hv : (granted g s).hc.state = s.hc.state := rfl
  unfold heaterGrant
  dsimp only
  rw [← granted, hv]
  obtain h | h | h := hst <;> rw [h]

theorem heaterGrant_run (g : Nat) (hst : s.hc.state = .run) : heaterGrant g s
    = if g < s.cfg.demands.low then toPurge .off (some .noPower) (granted g s)
      else withHc (fun h => { h with effective := effectiveStage s.cfg.demands (h.desired.getD .low) g }) (granted g s) := by
  have hv : (granted g s).hc.state = .run := hst
  unfold heaterGrant
  dsimp only
  rw [← granted, hv]
  rfl

theorem heaterGrant_others (g : Nat) (h1 : s.hc.state ≠ .waitPower) (h2 : s.hc.state ≠ .check) (h3 : s.hc.state ≠ .preheat)
    (h4 : burning s.hc.state = false) : heaterGrant g s = granted g s := by
  have hv : (granted g s).hc.state = s.hc.state := rfl
  unfold heaterGrant
  dsimp only
  rw [← granted, hv]
  cases h : s.hc.state <;> simp_all [burning]

/-! ### CHECK's entry (R68) -/

theorem heaterAt_toCheck_sensor (h : statusOf s .tx ≠ .valid ∨ statusOf s .th ≠ .valid) :
    HeaterAt s.cfg.demands (heaterIn .off { s.hc with lastFault := some .sensor }) (toCheck s) := by
  unfold toCheck isValid
  rw [if_pos (by obtain h | h := h <;> simp [h])]
  exact heaterAt_enter (s := recordFault .sensor .check false s) (new := .off) id (.inl rfl)

theorem validAbove_of {ch : Channel} {v level : Int} (hst : statusOf s ch = .valid) (hf : (chanOf s ch).filtered = some v) :
    validAbove s ch level = decide (level < v) := by
  simp [validAbove, validFiltered, isValid, hst, hf]

theorem heaterAt_toCheck_hot {tx : Int} (h1 : statusOf s .tx = .valid) (h2 : statusOf s .th = .valid)
    (hf : (chanOf s .tx).filtered = some tx) (h : 600 < tx) :
    HeaterAt s.cfg.demands (purging .restart none (now s) s.hc) (toCheck s) := by
  unfold toCheck
  rw [isValid, isValid, h1, h2, if_neg (by decide), validAbove_of h1 hf, if_pos (decide_eq_true h)]
  exact heaterAt_toPurge .restart none s

theorem heaterAt_toCheck_cool {tx : Int} (h1 : statusOf s .tx = .valid) (h2 : statusOf s .th = .valid)
    (hf : (chanOf s .tx).filtered = some tx) (h : tx ≤ 600) :
    HeaterAt s.cfg.demands { heaterIn .check s.hc with phase := some (now s + 50) } (toCheck s) := by
  unfold toCheck
  rw [isValid, isValid, h1, h2, if_neg (by decide), validAbove_of h1 hf, if_neg (by simpa using h)]
  exact heaterAt_enter (new := .check) (fun h => { h with phase := some (now s + 50) }) (.inl rfl)

/-- A grant report is held, and no failed start comes of it. -/
theorem heaterGrant_keeps (g : Nat) (s : State) : (heaterGrant g s).hc.grant = g ∧ (heaterGrant g s).hc.failed = s.hc.failed := by
  have hoff := heaterAt_offWith .noPower (granted g s)
  have hpurge := heaterAt_toPurge .off (some .noPower) (granted g s)
  by_cases hwait : s.hc.state = .waitPower
  · rw [heaterGrant_waitPower g hwait]
    split
    · unfold toCheck
      split
      · have a := heaterAt_enter (s := recordFault .sensor .check false (granted g s)) (new := .off) id (.inl rfl)
        exact ⟨a.grant, a.failed⟩
      · split
        · have a := heaterAt_toPurge .restart none (granted g s)
          exact ⟨a.grant, a.failed⟩
        · have a := heaterAt_enter (s := granted g s) (new := .check) (fun h => { h with phase := some (now s + 50) }) (.inl rfl)
          exact ⟨a.grant, a.failed⟩
    · exact ⟨rfl, rfl⟩
  by_cases hcheck : s.hc.state = .check
  · rw [heaterGrant_check g hcheck]
    split
    · exact ⟨hoff.grant, hoff.failed⟩
    · exact ⟨rfl, rfl⟩
  by_cases hpre : s.hc.state = .preheat
  · cases hp : s.hc.phase with
    | none =>
      rw [heaterGrant_warming g hpre hp]
      split <;> exact ⟨rfl, rfl⟩
    | some e =>
      rw [heaterGrant_preheat g hpre (by rw [hp]; rfl)]
      split
      · exact ⟨hoff.grant, hoff.failed⟩
      · exact ⟨rfl, rfl⟩
  by_cases hrun : s.hc.state = .run
  · rw [heaterGrant_run g hrun]
    split
    · exact ⟨hpurge.grant, hpurge.failed⟩
    · exact ⟨rfl, rfl⟩
  by_cases hflame : s.hc.state = .prime ∨ s.hc.state = .ignite ∨ s.hc.state = .stabilize
  · rw [heaterGrant_flame g hflame]
    split
    · exact ⟨hpurge.grant, hpurge.failed⟩
    · exact ⟨rfl, rfl⟩
  · rw [heaterGrant_others g hwait hcheck hpre]
    · exact ⟨rfl, rfl⟩
    · rw [Bool.eq_false_iff, ne_eq, burning_cases]
      tauto

/-- What a grant report does on the way to the flame and in RUN, but for CHECK's entry. -/
structure GrantTaken (g : Nat) (s t : State) : Prop where
  waits : s.hc.state = .waitPower → g < s.cfg.demands.check → t.hc.state = .waitPower ∧ t.hc.phase = s.hc.phase
  checks : s.hc.state = .check → t.hc.state = if g = 0 then .off else .check
  warms : s.hc.state = .preheat → s.hc.phase = none → t.hc.state = .preheat
    ∧ (g = s.cfg.demands.start → t.hc.phase = some (now s + 10 * s.cfg.heaterTune.preheatTime) ∧ t.hc.power = none)
    ∧ (g ≠ s.cfg.demands.start → t.hc.phase = none ∧ t.hc.power = s.hc.power)
  preheats : s.hc.state = .preheat → s.hc.phase.isSome = true → t.hc.state = if g = 0 then .off else .preheat
  flames : (s.hc.state = .prime ∨ s.hc.state = .ignite ∨ s.hc.state = .stabilize) →
    (g = 0 → t.hc.state = .purge ∧ t.hc.purge = some ⟨.off, some .noPower, now s⟩) ∧ (g ≠ 0 → t.hc.state = s.hc.state)
  runs : s.hc.state = .run → (g < s.cfg.demands.low → t.hc.state = .purge ∧ t.hc.purge = some ⟨.off, some .noPower, now s⟩)
    ∧ (s.cfg.demands.low ≤ g → t.hc.state = .run ∧ t.hc.desired = s.hc.desired
        ∧ t.hc.effective = effectiveStage s.cfg.demands (s.hc.desired.getD .low) g)
  faults : (s.hc.state = .check ∨ s.hc.state = .preheat) ∧ t.hc.state = .off → t.hc.lastFault = some .noPower

/-- A grant of 0 ends a start that has its power, with NO_POWER, and any other leaves it. -/
theorem grantZero_left {g : Nat} {v : State} (l : Leaves (if g = 0 then offWith .noPower (granted g v) else granted g v) t) :
    t.hc.state = (if g = 0 then .off else v.hc.state) ∧ (g = 0 → t.hc.lastFault = some .noPower) := by
  by_cases hg : g = 0
  · rw [if_pos hg] at l ⊢
    have b := (heaterAt_offWith .noPower (granted g v)).of_leaves l
    exact ⟨b.state, fun _ => b.lastFault⟩
  · rw [if_neg hg] at l ⊢
    exact ⟨(congrArg HeaterUnit.state l.core :), fun h => absurd h hg⟩

theorem grantTaken_left {g : Nat} {v : State} (hhc : v.hc = s.hc) (hcfg : v.cfg = s.cfg) (hnow : now v = now s)
    (l : Leaves (heaterGrant g v) t) : GrantTaken g s t := by
  have hnow' : now (granted g v) = now s := hnow
  have hpurge : Leaves (toPurge .off (some .noPower) (granted g v)) t →
      t.hc.state = .purge ∧ t.hc.purge = some ⟨.off, some .noPower, now s⟩ := by
    intro l
    have b := (heaterAt_toPurge .off (some .noPower) (granted g v)).of_leaves l
    rw [hnow'] at b
    exact ⟨b.state, b.purge⟩
  have hstays : Leaves (granted g v) t → t.hc.state = s.hc.state ∧ t.hc.phase = s.hc.phase ∧ t.hc.power = s.hc.power :=
    fun l => ⟨(congrArg HeaterUnit.state l.core :).trans (congrArg HeaterUnit.state hhc :),
      (congrArg HeaterUnit.phase l.core :).trans (congrArg HeaterUnit.phase hhc :),
      (congrArg HeaterUnit.power l.core :).trans (congrArg HeaterUnit.power hhc :)⟩
  have hcheck : s.hc.state = .check → t.hc.state = (if g = 0 then .off else .check) ∧ (g = 0 → t.hc.lastFault = some .noPower) := by
    intro h
    rw [heaterGrant_check g (hhc ▸ h)] at l
    have k := grantZero_left l
    rw [hhc, h] at k
    exact k
  have hpreheat : s.hc.state = .preheat → s.hc.phase.isSome = true →
      t.hc.state = (if g = 0 then .off else .preheat) ∧ (g = 0 → t.hc.lastFault = some .noPower) := by
    intro h hp
    rw [heaterGrant_preheat g (hhc ▸ h) (hhc ▸ hp)] at l
    have k := grantZero_left l
    rw [hhc, h] at k
    exact k
  have hwarm : s.hc.state = .preheat → s.hc.phase = none → t.hc.state = .preheat
      ∧ (g = s.cfg.demands.start → t.hc.phase = some (now s + 10 * s.cfg.heaterTune.preheatTime) ∧ t.hc.power = none)
      ∧ (g ≠ s.cfg.demands.start → t.hc.phase = none ∧ t.hc.power = s.hc.power) := by
    intro h hp
    rw [heaterGrant_warming g (hhc ▸ h) (hhc ▸ hp), hcfg, hnow] at l
    by_cases hg : g = s.cfg.demands.start
    · rw [if_pos hg] at l
      exact ⟨(congrArg HeaterUnit.state l.core :).trans ((congrArg HeaterUnit.state hhc :).trans h),
        fun _ => ⟨(congrArg HeaterUnit.phase l.core :), (congrArg HeaterUnit.power l.core :)⟩, fun hn => absurd hg hn⟩
    · rw [if_neg hg] at l
      obtain ⟨h1, h2, h3⟩ := hstays l
      exact ⟨h1.trans h, fun he => absurd he hg, fun _ => ⟨h2.trans hp, h3⟩⟩
  refine ⟨fun h hg => ?_, fun h => (hcheck h).1, hwarm, fun h hp => (hpreheat h hp).1, fun h => ?_, fun h => ?_, fun ⟨h, hoff⟩ => ?_⟩
  · rw [heaterGrant_waitPower g (hhc ▸ h), hcfg, if_neg (by omega)] at l
    obtain ⟨h1, h2, -⟩ := hstays l
    exact ⟨h1.trans h, h2⟩
  · rw [heaterGrant_flame g (hhc ▸ h)] at l
    refine ⟨fun hg => hpurge ?_, fun hg => (hstays ?_).1⟩
    · rw [if_pos hg] at l
      exact l
    · rw [if_neg hg] at l
      exact l
  · rw [heaterGrant_run g (hhc ▸ h), hcfg] at l
    refine ⟨fun hg => ?_, fun hg => ?_⟩
    · rw [if_pos hg] at l
      exact hpurge l
    · rw [if_neg (by omega)] at l
      refine ⟨(congrArg HeaterUnit.state l.core :).trans ((congrArg HeaterUnit.state hhc :).trans h),
        (congrArg HeaterUnit.desired l.core :).trans (congrArg HeaterUnit.desired hhc :), ?_⟩
      exact (congrArg HeaterUnit.effective l.core :).trans (by rw [← hhc]; rfl)
  · by_cases hg : g = 0
    · obtain h | h := h
      · exact (hcheck h).2 hg
      · cases hp : s.hc.phase with
        | none => rw [(hwarm h hp).1] at hoff; cases hoff
        | some e => exact (hpreheat h (by rw [hp]; rfl)).2 hg
    · obtain h | h := h
      · rw [(hcheck h).1, if_neg hg] at hoff
        cases hoff
      · cases hp : s.hc.phase with
        | none => rw [(hwarm h hp).1] at hoff; cases hoff
        | some e => rw [(hpreheat h (by rw [hp]; rfl)).1, if_neg hg] at hoff; cases hoff

/-! ### RUN's regulation (R74, R75) -/

/-- What a change of RUN's desired stage leaves. -/
theorem setDesired_spec {g : Stage} (hst : s.hc.state = .run) (hd : s.hc.desired ≠ some g) :
    (setDesired g s).hc = { s.hc with desired := some g, effective := effectiveStage s.cfg.demands g s.hc.grant }
      ∧ tget (setDesired g s).asked (consIx .heat)
        = some ⟨stageDemand s.cfg.demands g, s.cfg.demands.low, some (stageSteps s.cfg.demands g), false⟩ := by
  unfold setDesired
  rw [if_neg hd]
  dsimp only
  refine ⟨ask_hc _ _ _, (ask_asked_same _ _ _).trans ?_⟩
  have hv : (withHc (fun h => { h with desired := some g, effective := effectiveStage s.cfg.demands g h.grant }) s).hc.state = .run := hst
  unfold heaterRequest
  rw [hv]
  rfl

/-- Whether RUN's desired stage may rise toward a stage (R74). -/
abbrev mayRise (g d : Stage) (s : State) : Prop := stageCode d < stageCode g ∧ s.hc.lastRise.getD 0 + 60 ≤ s.su.elapsed

/-- RUN's desired stage moved toward a stage (R74). -/
def stageToward (g d : Stage) (s : State) : Stage :=
  if stageCode g < stageCode d then g else if mayRise g d s then (if d = .low then .mid else .high) else d

theorem moveStage_spec (g : Stage) (hst : s.hc.state = .run) (hd : s.hc.desired = some d) :
    (moveStage g s).hc = { s.hc with
        desired := some (stageToward g d s)
        lastRise := if mayRise g d s then some s.su.elapsed else s.hc.lastRise
        effective := if stageToward g d s = d then s.hc.effective else effectiveStage s.cfg.demands (stageToward g d s) s.hc.grant }
      ∧ (stageToward g d s ≠ d → tget (moveStage g s).asked (consIx .heat)
        = some ⟨stageDemand s.cfg.demands (stageToward g d s), s.cfg.demands.low, some (stageSteps s.cfg.demands (stageToward g d s)), false⟩)
      := by
  have hget : s.hc.desired.getD .low = d := by rw [hd]; rfl
  unfold moveStage stageToward
  dsimp only
  rw [hget]
  by_cases hdown : stageCode g < stageCode d
  · have hne : g ≠ d := fun h => absurd hdown (by rw [h]; exact lt_irrefl _)
    have hnot : ¬mayRise g d s := fun h => absurd h.1 (by omega)
    obtain ⟨h1, h2⟩ := setDesired_spec hst (g := g) (by rw [hd]; simpa using Ne.symm hne)
    rw [if_pos hdown, if_pos hdown, if_neg hnot, if_neg hne, h1]
    exact ⟨rfl, fun _ => h2⟩
  by_cases hup : mayRise g d s
  · have hstage : stageUp d = if d = .low then .mid else .high := by cases d <;> rfl
    have hne : stageUp d ≠ d := by
      intro h
      have hlt := hup.1
      cases d
      · cases h
      · cases h
      · cases g <;> simp [stageCode] at hlt
    rw [if_neg hdown, if_pos hup, if_neg hdown, if_pos hup, ← hstage, if_neg hne]
    obtain ⟨h1, h2⟩ := setDesired_spec (s := withHc (fun h => { h with lastRise := some s.su.elapsed }) s) hst (g := stageUp d)
      (by intro h; exact hne (Option.some.inj (h.symm.trans hd)))
    rw [h1]
    exact ⟨by rw [if_pos hup]; rfl, fun _ => h2⟩
  · rw [if_neg hdown, if_neg hup, if_neg hdown, if_neg hup, if_neg hup, if_pos rfl, ← hd]
    exact ⟨rfl, fun h => absurd rfl h⟩

theorem moveStage_su (g : Stage) (hst : s.hc.state = .run) : (moveStage g s).su = s.su := (moves_moveStage g hst).su_eq

/-! ### The frost guard (R87) -/

theorem frostActs_iff : frostActs s = true ↔ s.cfg.heaterSet.frost = true ∧ s.hc.state = .off
    ∧ s.hc.frostBackoff.all (· ≤ s.su.elapsed) = true := by
  unfold frostActs
  cases s.hc.frostBackoff <;> simp [and_assoc]

theorem frostStart_su (hst : s.hc.state = .off) : (frostStart s).su = s.su :=
  (moves_frostStart (by rw [hst]; decide) (by rw [hst]; decide)).su_eq

/-- What a met frost hold leaves: a run at class 0, or the back-off where no grant could reach START. -/
structure FrostMet (s t : State) : Prop where
  starts : noPowerRefusal s = false → t.hc.state = .waitPower ∧ t.hc.frostRun = true ∧ t.hc.durationEnd = none ∧ t.hc.attempt = 1
    ∧ .classOverride true ∈ t.handed
  backs : noPowerRefusal s = true → t.hc.state = .off ∧ t.hc.frostBackoff = some (t.su.elapsed + 900)

theorem frostStart_left (l : HeaterOf (frostStart u) t) (hst : u.hc.state = .off) (hsu : t.su = u.su)
    (hpow : noPowerRefusal u = noPowerRefusal s) : FrostMet s t := by
  unfold frostStart at l
  refine ⟨fun h => ?_, fun h => ?_⟩
  · rw [hpow, h, if_neg (by decide)] at l
    have a := heaterAt_newRun (withHc (fun h => { h with durationEnd := none, frostRun := true }) u)
    have b := a.of_heater (l := ⟨l.core, l.asked, fun i hi => l.handed i (List.mem_append_left _ hi)⟩)
    exact ⟨b.state, b.frostRun, b.durationEnd, b.attempt, l.handed _ (List.mem_append_right _ (List.mem_singleton_self _))⟩
  · rw [hpow, h, if_pos rfl] at l
    refine ⟨(congrArg HeaterUnit.state l.core :).trans hst, (congrArg HeaterUnit.frostBackoff l.core :).trans ?_⟩
    rw [hsu]
    rfl

/-! ### TC conversions (R74, R75, R76, R87) -/

/-- The end of a frost run at a TC that is warm again, and otherwise each state's own step. -/
theorem heaterTc_warm {tc : Int} (hr : validFiltered s .tc = some tc) (hf : s.hc.frostRun = true)
    (h : s.cfg.heaterSet.threshold + 50 ≤ tc) : heaterTc s = heaterStop s := by
  unfold heaterTc
  rw [hr]
  exact if_pos ⟨hf, h⟩

theorem heaterTc_run {tc : Int} (hr : validFiltered s .tc = some tc) (hf : s.hc.frostRun = false) (hst : s.hc.state = .run) :
    heaterTc s = regulate tc s := by
  unfold heaterTc
  rw [hr, hf, hst]
  simp

theorem heaterTc_pause {tc : Int} (hr : validFiltered s .tc = some tc) (hf : s.hc.frostRun = false) (hst : s.hc.state = .pause) :
    heaterTc s = if 10 ≤ s.cfg.heaterSet.setpoint - tc then newRun s else s := by
  unfold heaterTc workingSetpoint
  rw [hr, hf, hst]
  simp

theorem heaterTc_off {tc : Int} (hr : validFiltered s .tc = some tc) (hf : s.hc.frostRun = false) (hst : s.hc.state = .off) :
    heaterTc s = frostStep tc s := by
  unfold heaterTc
  rw [hr, hf, hst]
  simp

/-- RUN with its temperature stage formed and its desired stage moved toward it. -/
def regulated (e : Int) (s : State) : State := moveStage (stageOf e) (withHc (fun h => { h with tempStage := some (stageOf e) }) s)

theorem regulate_eq (tc : Int) (hf : s.hc.frostRun = false) : regulate tc s
    = pauseStep (s.cfg.heaterSet.setpoint - tc) (regulated (s.cfg.heaterSet.setpoint - tc) s) := by
  unfold regulate workingSetpoint
  rw [hf]
  rfl

theorem pauseStep_ends {e : Int} (h : ¬(s.hc.desired = some .low ∧ e ≤ -15)) :
    pauseStep e s = withHc (fun h => { h with pauseHold := none }) s := if_neg h

theorem pauseStep_begins {e : Int} (h : s.hc.desired = some .low ∧ e ≤ -15) (hhold : s.hc.pauseHold = none) :
    pauseStep e s = withHc (fun h => { h with pauseHold := some (now s) }) s := by
  unfold pauseStep
  rw [if_pos h, hhold]

theorem pauseStep_holds {e : Int} {n : Nat} (h : s.hc.desired = some .low ∧ e ≤ -15) (hhold : s.hc.pauseHold = some n) :
    pauseStep e s = if n + 6000 ≤ now s then toPurge .pause none s else s := by
  unfold pauseStep heldFor
  rw [if_pos h, hhold]
  exact if_congr decide_eq_true_iff rfl rfl

theorem frostStep_ends {tc : Int} (h : ¬tc < s.cfg.heaterSet.threshold) :
    frostStep tc s = withHc (fun h => { h with frostHold := none }) s := if_neg h

theorem frostStep_begins {tc : Int} (h : tc < s.cfg.heaterSet.threshold) (hacts : frostActs s = true) (hhold : s.hc.frostHold = none) :
    frostStep tc s = withHc (fun h => { h with frostHold := some (now s) }) s := by
  unfold frostStep
  rw [if_pos h, hhold]
  exact if_pos hacts

theorem frostStep_holds {tc : Int} {n : Nat} (h : tc < s.cfg.heaterSet.threshold) (hacts : frostActs s = true)
    (hhold : s.hc.frostHold = some n) : frostStep tc s = if n + 600 ≤ now s then frostStart s else s := by
  unfold frostStep heldFor
  rw [if_pos h, hhold, hacts]
  exact if_congr (by simp) rfl rfl

theorem heaterHolds_off (hst : s.hc.state = .off) :
    heaterHolds s = if frostActs s && holdMet s s.hc.frostHold 600 then frostStart s else s := by
  unfold heaterHolds
  rw [hst]

theorem heaterLeft_run (hst : s.hc.state = .run) : heaterLeft .tc s
    = setDesired .low (withHc (fun h => { h with tempStage := some .low, pauseHold := none, frostHold := none }) s) := by
  unfold heaterLeft
  rw [hst]

theorem heaterLeft_pause (hst : s.hc.state = .pause) : heaterLeft .tc s = newRun s := by
  unfold heaterLeft
  rw [hst]

/-- RUN as its temperature stage has moved the desired stage, the pause hold not yet judged. -/
theorem regulated_spec {e : Int} (hst : s.hc.state = .run) (hd : s.hc.desired = some d) :
    (regulated e s).hc = { s.hc with
        tempStage := some (stageOf e)
        desired := some (stageToward (stageOf e) d s)
        lastRise := if mayRise (stageOf e) d s then some s.su.elapsed else s.hc.lastRise
        effective := if stageToward (stageOf e) d s = d then s.hc.effective
          else effectiveStage s.cfg.demands (stageToward (stageOf e) d s) s.hc.grant }
      ∧ (stageToward (stageOf e) d s ≠ d → tget (regulated e s).asked (consIx .heat)
        = some ⟨stageDemand s.cfg.demands (stageToward (stageOf e) d s), s.cfg.demands.low,
            some (stageSteps s.cfg.demands (stageToward (stageOf e) d s)), false⟩)
      ∧ now (regulated e s) = now s :=
  have k := moveStage_spec (s := withHc (fun h => { h with tempStage := some (stageOf e) }) s) (stageOf e) hst hd
  ⟨k.1, k.2, now_congr (moveStage_su (stageOf e) (s := withHc (fun h => { h with tempStage := some (stageOf e) }) s) hst)⟩

theorem pauseStep_none_left {e : Int} (hhold : s.hc.pauseHold = none) (l : Leaves (pauseStep e s) t) :
    heaterCore t.hc = heaterCore { s.hc with pauseHold := if s.hc.desired = some .low ∧ e ≤ -15 then some (now s) else none }
      ∧ t.asked = s.asked := by
  by_cases h : s.hc.desired = some .low ∧ e ≤ -15
  · rw [pauseStep_begins h hhold] at l
    rw [if_pos h]
    exact ⟨l.core, l.asked⟩
  · rw [pauseStep_ends h] at l
    rw [if_neg h]
    exact ⟨l.core, l.asked⟩

end Sys2Proof.Machine

namespace Sys2Proof.Proofs

open Sys2Proof Sys2Proof.Machine

/-- Settles O34: grants, power timers, regulation, PAUSE and the frost guard. -/
theorem grantsDriveTheHeater : Obligations.GrantsDriveTheHeater := by
  refine ⟨fun g st s hrun hst hcheck tx hf => ?_, fun g st s hrun => ?_, fun s hrun hst => ?_, fun s hrun hst hpower => ?_,
    fun code s hrun hn hst hfrost d hd => ?_, fun code s hrun hn hst hfrost => ?_, fun s hrun hvalid hst => ?_,
    fun code s hrun hn hst hfrost hset hback => ?_, fun i s hrun helapsed hi harmed => ?_, fun code s hrun hn hfrost hwarm => ?_⟩
  · obtain ⟨t, hexec, ht⟩ := exec_leaves (i := .heaterGrantReport g st) hrun rfl
    obtain ⟨v, hv⟩ : ∃ v, v = startEvent (.heaterGrantReport g st) s := ⟨_, rfl⟩
    have hvhc : v.hc = s.hc := hv ▸ rfl
    have hvcfg : v.cfg = s.cfg := hv ▸ rfl
    have hgrant : t.hc.grant = g := (congrArg HeaterUnit.grant ht.core :).trans (heaterGrant_keeps g _).1
    have ht : Leaves (heaterGrant g v) t := hv ▸ ht
    rw [heaterGrant_waitPower g (hvhc ▸ hst), hvcfg, if_pos hcheck] at ht
    have htx : statusOf (granted g v) .tx = statusOf s .tx := hv ▸ rfl
    have hth : statusOf (granted g v) .th = statusOf s .th := hv ▸ rfl
    have hfv : (chanOf (granted g v) .tx).filtered = some tx := hv ▸ hf
    have hnow : now (granted g v) = now s := hv ▸ rfl
    refine ⟨t, hexec, hgrant, fun h => ?_, fun h1 h2 h => ?_, fun h1 h2 h => ?_⟩
    · have b := (heaterAt_toCheck_sensor (s := granted g v) (by rw [htx, hth]; exact h)).of_leaves ht
      exact ⟨b.state, b.lastFault⟩
    · have b := (heaterAt_toCheck_hot (s := granted g v) (htx.trans h1) (hth.trans h2) hfv h).of_leaves ht
      rw [hnow] at b
      exact ⟨b.state, b.purge⟩
    · have b := (heaterAt_toCheck_cool (s := granted g v) (htx.trans h1) (hth.trans h2) hfv h).of_leaves ht
      rw [hnow] at b
      exact ⟨b.state, b.glow, b.phase⟩
  · obtain ⟨t, hexec, ht⟩ := exec_leaves (i := .heaterGrantReport g st) hrun rfl
    have hkeeps := heaterGrant_keeps g (startEvent (.heaterGrantReport g st) s)
    have k : GrantTaken g s t := grantTaken_left (v := startEvent (.heaterGrantReport g st) s) rfl rfl rfl ht
    exact ⟨t, hexec, (congrArg HeaterUnit.grant ht.core :).trans hkeeps.1, k.waits, k.checks, k.warms, k.preheats, k.flames, k.runs,
      k.faults, (congrArg HeaterUnit.failed ht.core :).trans hkeeps.2⟩
  · obtain ⟨t, hexec, ht⟩ := exec_leaves (i := .waitPowerTimeout) hrun rfl
    have he : effect .waitPowerTimeout (startEvent .waitPowerTimeout s) = offWith .noPower (startEvent .waitPowerTimeout s) := if_pos hst
    rw [he] at ht
    have b := (heaterAt_offWith .noPower (startEvent .waitPowerTimeout s)).of_leaves ht
    exact ⟨t, hexec, b.state, b.lastFault, b.failed, b.asked⟩
  · obtain ⟨t, hexec, ht⟩ := exec_leaves (i := .preheatPowerTimeout) hrun rfl
    have he : effect .preheatPowerTimeout (startEvent .preheatPowerTimeout s) = offWith .noPower (startEvent .preheatPowerTimeout s) :=
      (if_pos hst).trans (if_pos hpower)
    rw [he] at ht
    have b := (heaterAt_offWith .noPower (startEvent .preheatPowerTimeout s)).of_leaves ht
    exact ⟨t, hexec, b.state, b.lastFault, b.failed, b.asked⟩
  · obtain ⟨t, u, hexec, a, ht⟩ := exec_heaterConversion (ch := .tc) (.inr (.inl rfl)) hrun hn
    have ht : Leaves (heaterTc u) t := ht
    have hust : u.hc.state = .run := a.hc ▸ hst
    rw [heaterTc_run a.reading (a.hc ▸ hfrost) hust, regulate_eq _ (a.hc ▸ hfrost), a.cfg] at ht
    obtain ⟨hhc, hasked, hnow⟩ := regulated_spec (s := u) (e := s.cfg.heaterSet.setpoint - filteredAt s .tc code) hust (a.hc ▸ hd)
    have hrise : ∀ g, mayRise g d u = mayRise g d s := fun g => by rw [mayRise, a.hc, a.su]
    have htoward : ∀ g, stageToward g d u = stageToward g d s := fun g => by
      simp only [stageToward, hrise]
    simp only [htoward, hrise] at hhc hasked
    rw [a.hc, a.su, a.cfg] at hhc
    rw [a.cfg] at hasked
    rw [a.now] at hnow
    refine ⟨t, hexec, fun hnone => ?_, fun h hhold hlow hcold => ?_⟩
    · obtain ⟨hcore, hsame⟩ := pauseStep_none_left (by rw [hhc]; exact hnone) ht
      rw [hhc, hnow] at hcore
      refine ⟨(congrArg HeaterUnit.state hcore :).trans hst, (congrArg HeaterUnit.tempStage hcore :), (congrArg HeaterUnit.desired hcore :),
        (congrArg HeaterUnit.lastRise hcore :), ?_, fun hne => ⟨?_, ?_⟩⟩
      · refine (congrArg HeaterUnit.pauseHold hcore :).trans (if_congr ?_ rfl rfl)
        exact and_congr_left fun _ => ⟨Option.some.inj, congrArg some⟩
      · exact (congrArg HeaterUnit.effective hcore :).trans (if_neg hne)
      · exact (congrArg (tget · (consIx .heat)) hsame).trans (hasked hne)
    · have hg : stageOf (s.cfg.heaterSet.setpoint - filteredAt s .tc code) = .low := by
        rw [stageOf, if_neg (by omega), if_neg (by omega)]
      have hnew : stageToward (stageOf (s.cfg.heaterSet.setpoint - filteredAt s .tc code)) d s = .low := by
        rw [hg, hlow]
        simp [stageToward, mayRise]
      rw [pauseStep_holds ⟨by rw [hhc, hnew], hcold⟩ (by rw [hhc]; exact hhold), hnow] at ht
      refine ⟨fun hmet => ?_, fun hwait => ?_⟩
      · rw [if_pos hmet] at ht
        have b := (heaterAt_toPurge .pause none _).of_leaves ht
        rw [hnow] at b
        exact ⟨b.state, b.purge⟩
      · rw [if_neg (by omega)] at ht
        have hcore := ht.core
        rw [hhc] at hcore
        exact ⟨(congrArg HeaterUnit.state hcore :).trans hst, (congrArg HeaterUnit.pauseHold hcore :).trans hhold⟩
  · obtain ⟨t, u, hexec, a, ht⟩ := exec_heaterConversion (ch := .tc) (.inr (.inl rfl)) hrun hn
    have ht : Leaves (heaterTc u) t := ht
    rw [heaterTc_pause a.reading (a.hc ▸ hfrost) (a.hc ▸ hst), a.cfg] at ht
    refine ⟨t, hexec, fun h => ?_, fun h => ?_⟩
    · rw [if_pos h] at ht
      have b := (heaterAt_newRun u).of_leaves ht
      rw [a.now] at b
      exact ⟨b.state, b.attempt, b.flameOut, b.phase⟩
    · rw [if_neg (by omega)] at ht
      exact ht.core.trans (congrArg heaterCore a.hc)
  · obtain ⟨t, u, hexec, a, ht⟩ := exec_suspect (ch := .tc) (.inl rfl) hrun hvalid
    refine ⟨t, hexec, fun h => ?_, fun h => ?_⟩
    · have hlow : (heaterLeft .tc u).hc.state = .run ∧ (heaterLeft .tc u).hc.desired = some .low
          ∧ (heaterLeft .tc u).hc.tempStage = some .low ∧ (heaterLeft .tc u).hc.pauseHold = none := by
        have hust : u.hc.state = .run := a.hc ▸ h
        rw [heaterLeft_run hust]
        by_cases hd : u.hc.desired = some .low
        · have hsame : setDesired .low (withHc (fun h => { h with tempStage := some .low, pauseHold := none, frostHold := none }) u)
              = withHc (fun h => { h with tempStage := some .low, pauseHold := none, frostHold := none }) u := if_pos hd
          rw [hsame]
          exact ⟨hust, hd, rfl, rfl⟩
        · have k := setDesired_spec (s := withHc (fun h => { h with tempStage := some .low, pauseHold := none, frostHold := none }) u) hust hd
          rw [k.1]
          exact ⟨hust, rfl, rfl, rfl⟩
      obtain ⟨h1, h2, h3, h4⟩ := hlow
      exact ⟨(congrArg HeaterUnit.state ht.core :).trans h1, (congrArg HeaterUnit.desired ht.core :).trans h2,
        (congrArg HeaterUnit.tempStage ht.core :).trans h3, (congrArg HeaterUnit.pauseHold ht.core :).trans h4⟩
    · rw [heaterLeft_pause (a.hc ▸ h)] at ht
      exact ((heaterAt_newRun u).of_heater ht).state
  · obtain ⟨t, u, hexec, a, ht⟩ := exec_heaterConversion (ch := .tc) (.inr (.inl rfl)) hrun hn
    have ht : Leaves (heaterTc u) t := ht
    have hust : u.hc.state = .off := a.hc ▸ hst
    have hacts : frostActs u = true := frostActs_iff.mpr ⟨a.cfg ▸ hset, hust, by rw [a.hc, a.su]; exact hback⟩
    rw [heaterTc_off a.reading (a.hc ▸ hfrost) hust] at ht
    refine ⟨t, hexec, fun hwarm => ?_, fun hcold hnone => ?_, fun hcold h hhold => ?_⟩
    · rw [frostStep_ends (a.cfg ▸ hwarm)] at ht
      exact ht.core.trans (congrArg (fun h : HeaterUnit => heaterCore { h with frostHold := none }) a.hc)
    · rw [frostStep_begins (a.cfg ▸ hcold) hacts (a.hc ▸ hnone), a.now] at ht
      exact ht.core.trans (congrArg (fun h : HeaterUnit => heaterCore { h with frostHold := some (now s) }) a.hc)
    · rw [frostStep_holds (a.cfg ▸ hcold) hacts (a.hc ▸ hhold), a.now] at ht
      refine ⟨fun hwait => ?_, fun hmet h1 h2 h3 => ?_, fun hmet hno => ?_⟩
      · rw [if_neg (by omega)] at ht
        exact ht.core.trans (congrArg heaterCore a.hc)
      · rw [if_pos hmet] at ht
        exact (frostStart_left ht.heaterOf hust (ht.su.trans (frostStart_su hust)) a.noPower).starts (noPowerRefusal_false h1 h2 h3)
      · rw [if_pos hmet] at ht
        have hsu : t.su = u.su := ht.su.trans (frostStart_su hust)
        obtain ⟨h1, h2⟩ := (frostStart_left ht.heaterOf hust hsu a.noPower).backs (noPowerRefusal_iff.mpr hno)
        exact ⟨h1, h2.trans (by rw [hsu, a.su])⟩
  · obtain ⟨t, u, hexec, hhc, hcfg, hpow, hsu, ht⟩ := exec_clockMoves hrun hi harmed
    have hnow : now t = now u := now_congr hsu
    refine ⟨t, hexec, fun hst h hhold hmet => ?_, fun hst hpause hflame => ?_, fun hst hset hback h hhold => ?_⟩
    · have hheld : holdMet u (some h) 6000 = true := decide_eq_true (hnow ▸ hmet)
      rw [heaterHolds_run (hhc ▸ hst), hhc, hhold, if_pos hheld] at ht
      have b := (heaterAt_toPurge .pause none u).of_heater ht
      rw [← hnow] at b
      exact ⟨b.state, b.purge⟩
    · rw [heaterHolds_run (hhc ▸ hst), hhc, holdMet_waits (hnow ▸ hpause), holdMet_waits (hnow ▸ hflame)] at ht
      exact ht.core.trans (congrArg heaterCore hhc)
    · have hust : u.hc.state = .off := hhc ▸ hst
      have hacts : frostActs u = true := frostActs_iff.mpr ⟨hcfg ▸ hset, hust, by rw [hhc, ← hsu]; exact hback⟩
      have hmeets : (frostActs u && holdMet u u.hc.frostHold 600) = decide (h + 600 ≤ now t) := by
        rw [hacts, hhc, hhold, hnow]
        rfl
      rw [heaterHolds_off hust, hmeets] at ht
      refine ⟨fun hwait => ?_, fun hmet h1 h2 h3 => ?_, fun hmet hno => ?_⟩
      · rw [if_neg (by simpa using hwait)] at ht
        exact ht.core.trans (congrArg heaterCore hhc)
      · rw [if_pos (decide_eq_true hmet)] at ht
        exact (frostStart_left ht hust hsu hpow).starts (noPowerRefusal_false h1 h2 h3)
      · rw [if_pos (decide_eq_true hmet)] at ht
        exact (frostStart_left ht hust hsu hpow).backs (noPowerRefusal_iff.mpr hno)
  · obtain ⟨t, u, hexec, a, ht⟩ := exec_heaterConversion (ch := .tc) (.inr (.inl rfl)) hrun hn
    have ht : Leaves (heaterTc u) t := ht
    rw [heaterTc_warm a.reading (a.hc ▸ hfrost) (a.cfg ▸ hwarm)] at ht
    refine ⟨t, hexec, fun h => ?_, fun h => ?_⟩
    · rw [heaterStop_burning (a.hc ▸ h)] at ht
      have b := (heaterAt_toPurge .off none u).of_leaves ht
      rw [a.now] at b
      exact ⟨b.state, b.purge⟩
    · rw [heaterStop_ends (a.hc ▸ .inr h)] at ht
      have b := (heaterAt_off u).of_leaves ht
      rw [a.hc] at b
      exact ⟨b.state, b.frostRun.trans (Bool.and_false _), b.override hfrost rfl⟩

end Sys2Proof.Proofs
end

section
/-! PROOFS. What an event leaves of the fridge and the roof vent, with the door's supervision and the vent. -/

namespace Sys2Proof.Machine

-- One proof after another: started together they wait for one another, each on a thread of its own.
set_option Elab.async false

variable {s t u : State} {as : List Area}

/-! ### The fridge at an event's end (R94, R95, R97) -/

/-- The fridge less what the compressor's switching sets at an event's end (R95, R97). -/
def fridgeCore (f : FridgeUnit) : FridgeUnit := { f with starts := 0, switchOn := none, phase := none, lastStop := 0 }

/-- The part's supply, the compressor's gate and the clock stand. -/
structure SameGate (s u : State) : Prop where
  supply : u.mc.supply = s.mc.supply
  ga : u.ga = s.ga
  su : u.su = s.su

theorem SameGate.now (g : SameGate s u) : now u = Machine.now s := now_congr g.su

theorem SameGate.trans (h : SameGate s t) (k : SameGate t u) : SameGate s u := 
  ⟨k.supply.trans h.supply, k.ga.trans h.ga, k.su.trans h.su⟩

theorem SameGate.of_moves (m : Moves as s u) (h : .ga ∉ partsOf as ++ everyEvent := by decide)
    (h' : .su ∉ partsOf as ++ everyEvent := by decide) : SameGate s u := ⟨m.supply_eq, m.ga_eq h, m.su_eq h'⟩

/-- What the end of an event that leaves the gate leaves of the fridge `u` has. -/
structure FridgeLeaves (s u t : State) : Prop where
  core : fridgeCore t.fc = fridgeCore u.fc
  phase : u.fc.state ≠ .start → t.fc.phase = u.fc.phase
  lastStop : t.fc.lastStop = if energized s .compressor = true ∧ u.fc.drive = false then now s else u.fc.lastStop
  switchOn : u.fc.drive = false → t.fc.switchOn = if energized s .compressor then none else u.fc.switchOn
  same : u.fc.drive = s.fc.drive → t.fc = u.fc
  asked : t.asked = u.asked
  handed : ∀ i ∈ u.handed, i ∈ t.handed

theorem SameGate.energized (hrun : s.mc.supply = .running) (g : SameGate s u) :
    energized u .compressor = (gateOpen s .compressor && u.fc.drive) := by
  rw [energized_of_running (g.supply.trans hrun), SameOutputs.gate_of_ga g.ga]
  rfl

theorem SameGate.energized_eq (g : SameGate s u) (hdrive : u.fc.drive = s.fc.drive) :
    Machine.energized u .compressor = Machine.energized s .compressor :=
  SameCompressor.energized_eq (.of_entries g.supply (congrArg GrantUnit.entries g.ga) hdrive)

theorem close_fc_after (s u : State) : (close s u).fc = fridgeAfter s u := close_fc s u

/-- An event that leaves the gate switches the compressor by its latched drive alone. -/
theorem fridgeLeaves_close (hrun : s.mc.supply = .running) (g : SameGate s u) : FridgeLeaves s u (close s u) := by
  have hu := g.energized hrun
  have hs := SameGate.energized hrun ⟨rfl, rfl, rfl⟩
  have hfc : (close s u).fc = fridgeAfter s u := close_fc_after s u
  refine ⟨?_, fun hst => ?_, ?_, fun hdrive => ?_, fun hdrive => ?_, close_asked _ _, fun _ => mem_close_of_mem⟩ <;> rw [hfc] <;>
    unfold fridgeAfter <;> dsimp only
  · cases hon : energized u .compressor <;> cases hwas : energized s .compressor
    · rfl
    · have hdrop : u.fc.drive = false := by
        rw [hu] at hon
        rw [hs] at hwas
        simp_all
      exact congrArg (fun b => { fridgeCore u.fc with drive := b }) hdrop.symm
    · rfl
    · rfl
  · cases hon : energized u .compressor <;> cases hwas : energized s .compressor
    · rfl
    · rfl
    · exact if_neg hst
    · rfl
  · rw [← g.now]
    cases hon : energized u .compressor <;> cases hwas : energized s .compressor
    · rfl
    · have hdrop : u.fc.drive = false := by
        rw [hu] at hon
        rw [hs] at hwas
        simp_all
      exact (if_pos ⟨rfl, hdrop⟩).symm
    · exact (if_neg (by simp)).symm
    · have hdrive : u.fc.drive = true := by
        rw [hu] at hon
        simp_all
      exact (if_neg (by simp [hdrive])).symm
  · have hoff : energized u .compressor = false := by rw [hu, hdrive, Bool.and_false]
    rw [hoff]
    cases energized s .compressor <;> rfl
  · rw [g.energized_eq hdrive]
    cases energized s .compressor <;> rfl

namespace FridgeLeaves

variable (l : FridgeLeaves s u t)
include l

theorem state : t.fc.state = u.fc.state := (congrArg FridgeUnit.state l.core :)
theorem reading : t.fc.reading = u.fc.reading := (congrArg FridgeUnit.reading l.core :)
theorem grant : t.fc.grant = u.fc.grant := (congrArg FridgeUnit.grant l.core :)
theorem drive : t.fc.drive = u.fc.drive := (congrArg FridgeUnit.drive l.core :)
theorem wanted : t.fc.wanted = u.fc.wanted := (congrArg FridgeUnit.wanted l.core :)
theorem effective : t.fc.effective = u.fc.effective := (congrArg FridgeUnit.effective l.core :)
theorem satisfied : t.fc.satisfied = u.fc.satisfied := (congrArg FridgeUnit.satisfied l.core :)
theorem used : t.fc.used = u.fc.used := (congrArg FridgeUnit.used l.core :)
theorem stallLog : t.fc.stallLog = u.fc.stallLog := (congrArg FridgeUnit.stallLog l.core :)

end FridgeLeaves

/-- What an event of the fridge leaves, from its effect. -/
theorem exec_fridge {i : Instr} (hrun : s.mc.supply = .running) (hreset : mayReset i = false) (m : Moves as (startEvent i s) (effect i (startEvent i s)))
    (h : .ga ∉ partsOf as ++ everyEvent := by decide) (h' : .su ∉ partsOf as ++ everyEvent := by decide) :
    ∃ t, exec i s = .next t ∧ FridgeLeaves s (effect i (startEvent i s)) t :=
  have hstart : SameGate s (startEvent i s) := ⟨rfl, rfl, rfl⟩
  ⟨_, exec_running hrun hreset, fridgeLeaves_close hrun (hstart.trans (.of_moves m h h'))⟩

/-! ### Door and vent (R103, R104) -/

theorem fridgeDoor_closed_fc (s : State) :
    (fridgeDoor .inactive s).fc = { s.fc with doorOpen := false, openSince := none, alerts := 0, doorTimer := none } := by
  unfold fridgeDoor
  dsimp only
  split
  · split <;> rfl
  · rfl

theorem fridgeDoor_closed_notice {o : Nat} (ho : s.fc.openSince = some o) (h : 0 < s.fc.alerts) :
    .noticePost ⟨.door, .fc, .info, false, byte s.fc.alerts :: leBytes 2 ((secondsOpen s o : Nat) : Int)⟩
      ∈ (fridgeDoor .inactive s).handed := by
  unfold fridgeDoor
  dsimp only
  rw [ho]
  dsimp only
  rw [if_pos h]
  exact List.mem_append_right _ (List.mem_singleton_self _)

/-- The fridge with an alert of its open door raised. -/
def alerted (s : State) : State := withFc (fun f => { f with
  alerts := min 5 (s.fc.alerts + 1)
  doorTimer := if s.fc.alerts + 1 < 5 then some (now s + 600) else none }) s

theorem doorAlert_eq {o : Nat} (htimer : s.fc.doorTimer.isSome = true) (ho : s.fc.openSince = some o) :
    doorAlert s = chime 2 (doorNotice true .attention (secondsOpen s o) (min 5 (s.fc.alerts + 1)) (alerted s)) := by
  obtain ⟨e, he⟩ := Option.isSome_iff_exists.mp htimer
  have hlimit : (min 5 (s.fc.alerts + 1) < 5) = (s.fc.alerts + 1 < 5) := propext (by omega)
  unfold doorAlert alerted
  rw [ho, he]
  simp only [hlimit]

/-- The vent at its run end (R104). -/
theorem ventRunReached_eq {e : Nat} (hspeed : s.fc.ventSpeed ≠ 0) (he : s.fc.ventRunEnd = some e) (hdue : e ≤ s.su.elapsed) :
    ventRunReached s = post .vent .fc .info [0]
      (ask .vent none (withFc (fun f => { f with ventSpeed := 0, ventEff := 0, ventRunEnd := none }) s)) := by
  have heff : ventEffective (withFc (fun f => { f with ventSpeed := 0 }) s) = 0 := by
    unfold ventEffective
    split <;> rfl
  unfold ventRunReached
  rw [he]
  dsimp only
  rw [if_pos hdue]
  unfold ventRunOut setVentSpeed ventEffect
  rw [if_neg (by exact hspeed)]
  dsimp only
  rw [heff]
  rfl

theorem ventGrantIn_fc (g : Nat) (s : State) : (ventGrantIn g s).fc = { s.fc with
    ventGrant := g
    ventEff := if g = 0 then 0 else speedWithin s.cfg.demands.vent.toList s.fc.ventSpeed g } := rfl

end Sys2Proof.Machine

namespace Sys2Proof.Proofs

open Sys2Proof Sys2Proof.Machine

/-- Settles O42: the door's supervision, and the vent's grant and run end. -/
theorem doorAndVentFollowTheirEvents : Obligations.DoorAndVentFollowTheirEvents := by
  refine ⟨fun s hrun => ?_, fun s hrun => ?_, fun s hrun htimer o ho => ?_, fun s hrun hspeed e he hdue => ?_, fun g st s hrun => ?_⟩
  · obtain ⟨t, hexec, l⟩ := exec_fridge (i := .fdoorHanding .active) hrun rfl (moves_fridgeDoor .active _)
    exact ⟨t, hexec, l.same rfl⟩
  · obtain ⟨t, hexec, l⟩ := exec_fridge (i := .fdoorHanding .inactive) hrun rfl (moves_fridgeDoor .inactive _)
    have hfc := fridgeDoor_closed_fc (startEvent (.fdoorHanding .inactive) s)
    refine ⟨t, hexec, (l.same (congrArg FridgeUnit.drive hfc :)).trans hfc, fun o ho h => l.handed _ ?_⟩
    exact fridgeDoor_closed_notice (s := startEvent (.fdoorHanding .inactive) s) ho h
  · obtain ⟨t, hexec, l⟩ := exec_fridge (i := .doorTimerExpiry) hrun rfl (moves_doorAlert _)
    have he : effect .doorTimerExpiry (startEvent .doorTimerExpiry s) = _ :=
      doorAlert_eq (s := startEvent .doorTimerExpiry s) htimer ho
    rw [he] at l
    refine ⟨t, hexec, l.same rfl, l.handed _ (List.mem_append_right _ (List.mem_singleton_self _)),
      l.handed _ (List.mem_append_left _ (List.mem_append_right _ (List.mem_singleton_self _)))⟩
  · obtain ⟨t, hexec, l⟩ := exec_fridge (i := .ventRunEnd) hrun rfl (moves_ventRunReached _)
    have hv : effect .ventRunEnd (startEvent .ventRunEnd s) = _ := ventRunReached_eq (s := startEvent .ventRunEnd s) hspeed he hdue
    rw [hv] at l
    have hfc : ∀ (f : FridgeUnit → FridgeUnit) (v : State), (post .vent .fc .info [0] (ask .vent none (withFc f v))).fc = f v.fc :=
      fun f v => ask_fc _ _ _
    refine ⟨t, hexec, (l.same ?_).trans (hfc _ _), ?_, l.handed _ (List.mem_append_right _ (List.mem_singleton_self _))⟩
    · rw [hfc]
      rfl
    · rw [l.asked]
      exact ask_asked_same _ _ _
  · obtain ⟨t, hexec, l⟩ := exec_fridge (i := .ventGrantReport g st) hrun rfl (moves_ventGrantIn g _)
    exact ⟨t, hexec, (l.same rfl).trans (ventGrantIn_fc g _)⟩

end Sys2Proof.Proofs
end

section
/-! PROOFS. The fridge's states: what their entries, the thermostat and a lost or regained sensor leave. -/

namespace Sys2Proof.Machine

-- One proof after another: started together they wait for one another, each on a thread of its own.
set_option Elab.async false

variable {s t u v : State} {f : FridgeUnit} {d : Demands} {as : List Area}

/-! ### Entries of the fridge's states (R94) -/

/-- The fridge stands as `f`, and its request is the one of `f`. -/
structure FridgeIn (d : Demands) (f : FridgeUnit) (u : State) : Prop where
  fc : u.fc = f
  asked : tget u.asked (consIx .fridge) = fridgeRequest d f

/-- The fridge as it enters a state. -/
def fridgeEnters (new : FridgeState) (f : FridgeUnit) : FridgeUnit :=
  { f with state := new, phase := none, wanted := none, effective := none }

theorem fridgeIn_enter (new : FridgeState) (upd : FridgeUnit → FridgeUnit) (s : State) :
    FridgeIn s.cfg.demands (upd (fridgeEnters new s.fc)) (enterFridge new upd s) := ⟨ask_fc _ _ _, ask_asked_same _ _ _⟩

theorem FridgeIn.posts (a : FridgeIn d f u) (e : FridgeEvent) : FridgeIn d f (fridgeNotice e u) := ⟨a.fc, a.asked⟩

/-- The fridge at an event's end, the event's effect having brought it to `f`. -/
structure FridgeAt (d : Demands) (f : FridgeUnit) (s t : State) : Prop where
  core : fridgeCore t.fc = fridgeCore f
  phase : f.state ≠ .start → t.fc.phase = f.phase
  lastStop : t.fc.lastStop = if energized s .compressor = true ∧ f.drive = false then now s else f.lastStop
  switchOn : f.drive = false → t.fc.switchOn = if energized s .compressor then none else f.switchOn
  same : f.drive = s.fc.drive → t.fc = f
  asked : tget t.asked (consIx .fridge) = fridgeRequest d f

theorem FridgeIn.leaves (a : FridgeIn d f u) (l : FridgeLeaves s u t) : FridgeAt d f s t := by
  obtain ⟨rfl, hasked⟩ := a
  exact ⟨l.core, l.phase, l.lastStop, l.switchOn, l.same, (congrArg (tget · (consIx .fridge)) l.asked).trans hasked⟩

namespace FridgeAt

variable (a : FridgeAt d f s t)
include a

theorem state : t.fc.state = f.state := (congrArg FridgeUnit.state a.core :)
theorem reading : t.fc.reading = f.reading := (congrArg FridgeUnit.reading a.core :)
theorem grant : t.fc.grant = f.grant := (congrArg FridgeUnit.grant a.core :)
theorem drive : t.fc.drive = f.drive := (congrArg FridgeUnit.drive a.core :)
theorem wanted : t.fc.wanted = f.wanted := (congrArg FridgeUnit.wanted a.core :)
theorem effective : t.fc.effective = f.effective := (congrArg FridgeUnit.effective a.core :)
theorem satisfied : t.fc.satisfied = f.satisfied := (congrArg FridgeUnit.satisfied a.core :)
theorem used : t.fc.used = f.used := (congrArg FridgeUnit.used a.core :)
theorem stallLog : t.fc.stallLog = f.stallLog := (congrArg FridgeUnit.stallLog a.core :)

end FridgeAt

/-- The fridge with its compressor commanded off (R94, R95). -/
def droppedAt (time : Nat) (on : Bool) (f : FridgeUnit) : FridgeUnit := { f with
  drive := false
  lastStop := if on then time else f.lastStop
  switchOn := if on then none else f.switchOn }

theorem commandOff_fc (s : State) : (commandOff s).fc = droppedAt (now s) (energized s .compressor) s.fc := by
  unfold commandOff droppedAt
  cases energized s .compressor <;> rfl

theorem commandOff_now (s : State) : now (commandOff s) = now s := by
  unfold commandOff
  split <;> rfl

theorem fridgeIn_toIdle (s : State) : FridgeIn s.cfg.demands (fridgeEnters .idle s.fc) (toIdle s) := fridgeIn_enter .idle id s

theorem fridgeIn_toStart (s : State) : FridgeIn s.cfg.demands { fridgeEnters .start s.fc with
    wanted := some (wantedSpeed s (latestTf s)), drive := true } (toStart s) :=
  fridgeIn_enter .start (fun f => { f with wanted := some (wantedSpeed s (latestTf s)), drive := true }) s

theorem fridgeIn_toWaitOff (h : now s < minOffEnd s) :
    FridgeIn s.cfg.demands { fridgeEnters .waitOff s.fc with phase := some (minOffEnd s) } (toWaitOff s) := by
  unfold toWaitOff minOffOver
  rw [if_neg (by simpa using h)]
  exact fridgeIn_enter .waitOff (fun f => { f with phase := some (minOffEnd s) }) s

theorem fridgeIn_toFallbackOn (drive : Bool) (s : State) : FridgeIn s.cfg.demands { fridgeEnters .fallbackOn s.fc with
    phase := some (now s + 6000), drive := drive } (toFallbackOn drive s) :=
  fridgeIn_enter .fallbackOn (fun f => { f with phase := some (now s + 6000), drive := drive }) s

theorem fridgeIn_toFallbackOff (h : now s < s.fc.lastStop + 12000) : FridgeIn s.cfg.demands
    { fridgeEnters .fallbackOff s.fc with phase := some (s.fc.lastStop + 12000) } (toFallbackOff s) := by
  unfold toFallbackOff
  rw [if_neg (by omega)]
  exact fridgeIn_enter .fallbackOff (fun f => { f with phase := some (s.fc.lastStop + 12000) }) s

theorem toFallbackOff_over (h : s.fc.lastStop + 12000 ≤ now s) : toFallbackOff s = toFallbackOn true s := if_pos h

/-- The compressor's stop into WAIT_OFF. -/
theorem fridgeIn_stops (h : now s < (if energized s .compressor then now s else s.fc.lastStop) + 10 * s.cfg.fridgeSet.minOff) :
    FridgeIn s.cfg.demands { fridgeEnters .waitOff (droppedAt (now s) (energized s .compressor) s.fc) with
      phase := some ((if energized s .compressor then now s else s.fc.lastStop) + 10 * s.cfg.fridgeSet.minOff) }
      (toWaitOff (commandOff s)) := by
  have hfc := commandOff_fc s
  have hcfg : (commandOff s).cfg = s.cfg := commandOff_cfg s
  have hend : minOffEnd (commandOff s) = (if energized s .compressor then now s else s.fc.lastStop) + 10 * s.cfg.fridgeSet.minOff := by
    unfold minOffEnd
    rw [hcfg, hfc]
    rfl
  have a := fridgeIn_toWaitOff (s := commandOff s) (by rw [commandOff_now, hend]; exact h)
  rw [hcfg, hfc, hend] at a
  exact a

/-- The compressor's stop into FALLBACK_OFF. -/
theorem fridgeIn_stopsFallback (h : now s < (if energized s .compressor then now s else s.fc.lastStop) + 12000) :
    FridgeIn s.cfg.demands { fridgeEnters .fallbackOff (droppedAt (now s) (energized s .compressor) s.fc) with
      phase := some ((if energized s .compressor then now s else s.fc.lastStop) + 12000) } (toFallbackOff (commandOff s)) := by
  have hfc := commandOff_fc s
  have hcfg : (commandOff s).cfg = s.cfg := commandOff_cfg s
  have a := fridgeIn_toFallbackOff (s := commandOff s) (by rw [commandOff_now, hfc]; exact h)
  rw [hcfg, hfc] at a
  exact a

end Sys2Proof.Machine
end

section
/-! PROOFS. The thermostat at a conversion of TF, and the ends of the fridge's phases. -/

namespace Sys2Proof.Machine

-- One proof after another: started together they wait for one another, each on a thread of its own.
set_option Elab.async false

variable {s t u : State} {tf : Int}

/-! ### A conversion of TF (R93) -/

theorem FridgeLeaves.of_leaveScan {chs : List Channel} (l : FridgeLeaves s (leaveScan chs u) t) : FridgeLeaves s u t := by
  obtain e | ⟨-, -, -, e | e⟩ := leaveScan_cases chs u <;> rw [e] at l
  · exact ⟨l.core, l.phase, l.lastStop, l.switchOn, l.same, l.asked, l.handed⟩
  · exact ⟨l.core, l.phase, l.lastStop, l.switchOn, l.same, l.asked, l.handed⟩
  · exact ⟨l.core, l.phase, l.lastStop, l.switchOn, l.same, l.asked, fun i hi => l.handed i (List.mem_append_left _ hi)⟩

/-- What the FC finds at a report of TF. -/
structure FridgeFinds (s u : State) : Prop where
  fc : u.fc = s.fc
  cfg : u.cfg = s.cfg
  gate : SameGate s u

theorem FridgeFinds.now (a : FridgeFinds s u) : now u = Machine.now s := a.gate.now

/-- A VALID conversion of TF is the FC's judgement of it. -/
theorem exec_tfConversion {code : Nat} (hrun : s.mc.supply = .running) (h : validNext s .tf code) :
    ∃ t u, exec (.conversion .tf code) s = .next t ∧ FridgeFinds s u ∧ statusOf u .tf = .valid
      ∧ (chanOf u .tf).filtered = some (filteredAt s .tf code) ∧ FridgeLeaves s (fridgeTf true u) t := by
  obtain ⟨v, hv⟩ : ∃ v, v = startEvent (.conversion .tf code) s := ⟨_, rfl⟩
  have hnext : validNext v .tf code := hv ▸ h
  have he : effect (.conversion .tf code) v = _ := convert_next (s := v) code hnext.1
  obtain ⟨w, hw⟩ : ∃ w, w = sensorNotice .tf (statusOf v .tf) (converted .tf code v) := ⟨_, rfl⟩
  have hmoves : Moves [.rawChan] v w := hw ▸ (moves_setChannel .tf _ v).step (moves_sensorNotice .tf _ _)
  have hwmu : w.mu = (converted .tf code v).mu := hw ▸ sensorNotice_mu _ _ _
  have hvalid : statusOf w .tf = .valid := (congrArg (fun m : MeasureUnit => (tget m.chan (chanIx .tf)).status) hwmu :).trans
    (statusOf_converted hnext)
  obtain ⟨x, hx⟩ : ∃ x, x = statusChange .tf (statusOf v .tf) w := ⟨_, rfl⟩
  have hxmoves : Moves [.rawChan, .cc] v x := by
    rw [hx]
    refine hmoves.mono.trans ?_
    obtain e | e := statusChange_valid (old := statusOf v .tf) hvalid <;> rw [e]
    · exact .refl
    · exact (moves_chargeRegained .tf w).mono
  have hxmu : x.mu = (converted .tf code v).mu := by
    rw [hx, ← hwmu]
    obtain e | e := statusChange_valid (old := statusOf v .tf) hvalid <;> rw [e]
    exact chargeRegained_mu w .tf
  have hsample : effect (.conversion .tf code) v = leaveScan [.tf] (fridgeTf true x) := by
    rw [he, ← hw, hx]
    rfl
  have hstart : SameGate s v := hv ▸ ⟨rfl, rfl, rfl⟩
  have hgate : SameGate s x := hstart.trans (.of_moves hxmoves)
  have hall : SameGate s (leaveScan [.tf] (fridgeTf true x)) :=
    hgate.trans (.of_moves (as := [.fc, .asked, .mu]) ((moves_fridgeTf true x).mono.step (moves_leaveScan _ _)))
  refine ⟨close s (leaveScan [.tf] (fridgeTf true x)), x, ?_, ⟨?_, ?_, hgate⟩, ?_, ?_,
    (fridgeLeaves_close hrun hall).of_leaveScan⟩
  · rw [exec_running hrun rfl, ← hv, hsample]
  · rw [hxmoves.fc_eq, hv]; rfl
  · rw [hxmoves.cfg_eq, hv]; rfl
  · exact (congrArg (fun m : MeasureUnit => (tget m.chan (chanIx .tf)).status) hxmu :).trans (statusOf_converted hnext)
  · refine (congrArg (fun m : MeasureUnit => (tget m.chan (chanIx .tf)).filtered) hxmu :).trans ((chanOf_converted hnext).2.trans ?_)
    rw [hv]
    rfl

/-! ### The thermostat (R96 to R99) -/

/-- The fridge at a VALID conversion of TF: the thermostat works from now on with what stands now. -/
def usingNow (u : State) : State := withFc (fun f => { f with used := useNow u, reading := .reading }) u

theorem fridgeTf_reading (hst : statusOf u .tf = .valid) (hf : (chanOf u .tf).filtered = some tf) (hr : u.fc.reading = .reading) :
    fridgeTf true u = thermostat tf (usingNow u) := by
  have hconv : validFiltered u .tf = some tf := by rw [validFiltered, isValid, hst, hf]; rfl
  have hst' : statusOf (withFc (fun f => { f with used := useNow u }) u) .tf = .valid := hst
  have hr' : (withFc (fun f => { f with used := useNow u }) u).fc.reading = .reading := hr
  unfold fridgeTf
  dsimp only
  simp only [if_true, hconv, Option.isSome_some, hst', hr', readingAfter]
  rfl

theorem fridgeTf_pending (hst : statusOf u .tf = .valid) (hf : (chanOf u .tf).filtered = some tf) (hr : u.fc.reading = .pending) :
    fridgeTf true u = thermostat tf (speedReturns (usingNow u)) := by
  have hconv : validFiltered u .tf = some tf := by rw [validFiltered, isValid, hst, hf]; rfl
  have hst' : statusOf (withFc (fun f => { f with used := useNow u }) u) .tf = .valid := hst
  have hr' : (withFc (fun f => { f with used := useNow u }) u).fc.reading = .pending := hr
  unfold fridgeTf
  dsimp only
  simp only [if_true, hconv, Option.isSome_some, hst', hr', readingAfter]
  rfl

theorem fridgeTf_regains (hst : statusOf u .tf = .valid) (hf : (chanOf u .tf).filtered = some tf) (hr : u.fc.reading = .lost) :
    fridgeTf true u = tfRegained (some tf) (withFc (fun f => { f with used := useNow u }) u) := by
  have hconv : validFiltered u .tf = some tf := by rw [validFiltered, isValid, hst, hf]; rfl
  have hst' : statusOf (withFc (fun f => { f with used := useNow u }) u) .tf = .valid := hst
  have hr' : (withFc (fun f => { f with used := useNow u }) u).fc.reading = .lost := hr
  unfold fridgeTf
  dsimp only
  simp only [if_true, hconv, Option.isSome_some, hst', hr', readingAfter]

/-- The fridge as a conversion has marked whether it satisfies the thermostat. -/
def satisfying (tf : Int) (s : State) : State := withFc (fun f => { f with satisfied := decide (tf ≤ usedLower s.fc.used) }) s

theorem thermostat_idle (hst : s.fc.state = .idle) : thermostat tf s
    = if usedUpper s.fc.used ≤ tf then (if minOffEnd s ≤ now s then toStart (satisfying tf s) else toWaitOff (satisfying tf s))
      else satisfying tf s := by
  unfold thermostat minOffOver
  rw [hst]
  simp only [decide_eq_true_eq]
  rfl

theorem thermostat_start (hst : s.fc.state = .start) : thermostat tf s
    = if tf ≤ usedLower s.fc.used ∧ s.fc.phase = none ∧ s.fc.drive = true then toIdle (commandOff (satisfying tf s))
      else updateWanted tf (satisfying tf s) := by
  unfold thermostat
  rw [hst]
  dsimp only
  refine if_congr ?_ rfl rfl
  simp [and_assoc]

theorem thermostat_run (hst : s.fc.state = .run) : thermostat tf s
    = if tf ≤ usedLower s.fc.used ∧ minOnOver s = true then thermostatStop (satisfying tf s)
      else updateWanted tf (satisfying tf s) := by
  unfold thermostat
  rw [hst]
  dsimp only
  refine if_congr ?_ rfl rfl
  simp

theorem thermostat_others (h : s.fc.state = .off ∨ s.fc.state = .waitOff ∨ s.fc.state = .stallWait ∨ s.fc.state = .fault) :
    thermostat tf s = s ∨ thermostat tf s = satisfying tf s := by
  unfold thermostat
  obtain h | h | h | h := h <;> rw [h]
  · exact .inl rfl
  · exact .inr rfl
  · exact .inr rfl
  · exact .inl rfl

/-! ### What no entry of a fridge's state touches -/

/-- The FC's reading of TF and what the thermostat works with. -/
structure SameUse (s u : State) : Prop where
  reading : u.fc.reading = s.fc.reading
  used : u.fc.used = s.fc.used

theorem SameUse.refl (s : State) : SameUse s s := ⟨rfl, rfl⟩

theorem SameUse.trans (h : SameUse s t) (k : SameUse t u) : SameUse s u := ⟨k.reading.trans h.reading, k.used.trans h.used⟩

theorem SameUse.enter (new : FridgeState) (upd : FridgeUnit → FridgeUnit) (s : State) (h1 : ∀ f, (upd f).reading = f.reading)
    (h2 : ∀ f, (upd f).used = f.used) : SameUse s (enterFridge new upd s) := by
  have a := fridgeIn_enter new upd s
  exact ⟨(congrArg FridgeUnit.reading a.fc).trans (h1 _), (congrArg FridgeUnit.used a.fc).trans (h2 _)⟩

theorem SameUse.commandOff (s : State) : SameUse s (commandOff s) := by
  have h := commandOff_fc s
  exact ⟨(congrArg FridgeUnit.reading h :), (congrArg FridgeUnit.used h :)⟩

theorem SameUse.toStart (s : State) : SameUse s (toStart s) := .enter _ _ _ (fun _ => rfl) (fun _ => rfl)

theorem SameUse.toIdle (s : State) : SameUse s (toIdle s) := .enter _ _ _ (fun _ => rfl) (fun _ => rfl)

theorem SameUse.toWaitOff (s : State) : SameUse s (toWaitOff s) := by
  unfold Machine.toWaitOff waitOffEnd
  split
  · split
    · exact .toStart s
    · exact .toIdle s
  · exact .enter _ _ _ (fun _ => rfl) (fun _ => rfl)

/-- The wanted speed of a conversion, with the effective one and the request where it is another (R98). -/
theorem updateWanted_fc (tf : Int) (s : State) : (updateWanted tf s).fc = { s.fc with
    wanted := some (wantedSpeed s tf)
    effective := if s.fc.wanted = some (wantedSpeed s tf) then s.fc.effective
      else if s.fc.state = .run then effectiveSpeed s (wantedSpeed s tf) else none } := by
  unfold updateWanted
  dsimp only
  split
  · rename_i h
    rw [← h]
  · exact ask_fc _ _ _

theorem updateWanted_asked (h : s.fc.wanted ≠ some (wantedSpeed s tf)) (hst : s.fc.state = .run) :
    tget (updateWanted tf s).asked (consIx .fridge) = some (speedRequest s.cfg.demands (wantedSpeed s tf)) := by
  unfold updateWanted
  dsimp only
  rw [if_neg h]
  refine (ask_asked_same _ _ _).trans ?_
  have hst' : (withFc (fun f => { f with
      wanted := some (wantedSpeed s tf)
      effective := if s.fc.state = .run then effectiveSpeed s (wantedSpeed s tf) else none }) s).fc.state = .run := hst
  unfold fridgeRequest
  rw [hst']
  rfl

theorem SameUse.updateWanted (tf : Int) (s : State) : SameUse s (updateWanted tf s) := by
  have h := updateWanted_fc tf s
  exact ⟨(congrArg FridgeUnit.reading h :), (congrArg FridgeUnit.used h :)⟩

theorem SameUse.satisfying (tf : Int) (s : State) : SameUse s (satisfying tf s) := ⟨rfl, rfl⟩

theorem SameUse.thermostat (tf : Int) (s : State) : SameUse s (thermostat tf s) := by
  have h := SameUse.satisfying tf s
  cases hst : s.fc.state
  case idle =>
    rw [thermostat_idle hst]
    split
    · split
      · exact h.trans (.toStart _)
      · exact h.trans (.toWaitOff _)
    · exact h
  case start =>
    rw [thermostat_start hst]
    split
    · exact (h.trans (.commandOff _)).trans (.toIdle _)
    · exact h.trans (.updateWanted _ _)
  case run =>
    rw [thermostat_run hst]
    split
    · exact (h.trans (.commandOff _)).trans (.toWaitOff _)
    · exact h.trans (.updateWanted _ _)
  all_goals
    unfold Machine.thermostat
    rw [hst]
  case waitOff => exact h
  case stallWait => exact h
  all_goals exact .refl s

end Sys2Proof.Machine
end

section
/-! PROOFS. The ends of the fridge's phases and the thermostat's conversions. -/

namespace Sys2Proof.Machine

-- One proof after another: started together they wait for one another, each on a thread of its own.
set_option Elab.async false

variable {s t u v : State} {tf : Int}

/-! ### The gate over the fridge's entries -/

namespace SameGate

theorem refl (s : State) : SameGate s s := ⟨rfl, rfl, rfl⟩

theorem enter (new : FridgeState) (upd : FridgeUnit → FridgeUnit) (s : State) : SameGate s (enterFridge new upd s) :=
  ⟨by simp [enterFridge, withFc], by simp [enterFridge, withFc], by simp [enterFridge, withFc]⟩

theorem commandOff (s : State) : SameGate s (commandOff s) := by
  unfold Machine.commandOff
  split <;> exact ⟨rfl, rfl, rfl⟩

theorem waitOffEnd (s : State) : SameGate s (waitOffEnd s) := by
  unfold Machine.waitOffEnd
  split
  · exact .enter _ _ s
  · exact .enter _ _ s

theorem toWaitOff (s : State) : SameGate s (toWaitOff s) := by
  unfold Machine.toWaitOff
  split
  · exact .waitOffEnd s
  · exact .enter _ _ s

theorem softStartEnd (s : State) : SameGate s (softStartEnd s) := by
  unfold Machine.softStartEnd
  exact .enter _ _ s

theorem toFallbackOff (s : State) : SameGate s (toFallbackOff s) := by
  unfold Machine.toFallbackOff
  split
  · exact .enter _ _ s
  · exact .enter _ _ s

end SameGate

/-- What an event of the fridge leaves, from its effect and the gate it keeps. -/
theorem exec_fridgeTo {i : Instr} {v : State} (hv : v = startEvent i s) (hrun : s.mc.supply = .running) (hreset : mayReset i = false)
    (he : effect i v = u) (g : SameGate v u) : ∃ t, exec i s = .next t ∧ FridgeLeaves s u t := by
  subst hv
  have hstart : SameGate s (startEvent i s) := ⟨rfl, rfl, rfl⟩
  exact ⟨close s u, he ▸ exec_running hrun hreset, fridgeLeaves_close hrun (hstart.trans g)⟩

/-- As `exec_fridgeTo`, with the answer of the effect. -/
theorem exec_fridgeAnswers {i : Instr} {v : State} (hv : v = startEvent i s) (hrun : s.mc.supply = .running)
    (hreset : mayReset i = false) (he : effect i v = u) (g : SameGate v u) :
    ∃ t, exec i s = .next t ∧ FridgeLeaves s u t ∧ t.answer = u.answer := by
  subst hv
  have hstart : SameGate s (startEvent i s) := ⟨rfl, rfl, rfl⟩
  exact ⟨close s u, he ▸ exec_running hrun hreset, fridgeLeaves_close hrun (hstart.trans g), close_answer _ _⟩

theorem waitOffEnd_starts (h1 : s.fc.reading = .reading) (h2 : usedUpper s.fc.used ≤ latestTf s) : waitOffEnd s = toStart s :=
  if_pos ⟨h1, h2⟩

theorem waitOffEnd_rests (h : s.fc.reading ≠ .reading ∨ latestTf s < usedUpper s.fc.used) : waitOffEnd s = toIdle s := by
  refine if_neg fun ⟨h1, h2⟩ => ?_
  obtain h | h := h
  · exact h h1
  · omega

theorem minOn_idle (h : s.fc.satisfied = false ∨ s.fc.reading ≠ .reading) : ¬(s.fc.satisfied && s.fc.reading == .reading) = true := by
  obtain h | h := h <;> simp [h]

theorem fridgeIn_softStartEnd {w : Nat} (hw : s.fc.wanted = some w) : FridgeIn s.cfg.demands { fridgeEnters .run s.fc with
    wanted := some w, effective := effectiveSpeed s w } (softStartEnd s) := by
  have hget : s.fc.wanted.getD 1 = w := by rw [hw]; rfl
  unfold softStartEnd
  dsimp only
  rw [hget]
  exact fridgeIn_enter .run (fun f => { f with wanted := some w, effective := effectiveSpeed s w }) s

theorem minOnOver_iff : minOnOver s = true ↔ ∃ o, s.fc.switchOn = some o ∧ o + 600 ≤ now s := by
  unfold minOnOver heldFor
  cases s.fc.switchOn <;> simp

/-! ### What the thermostat finds at a conversion -/

theorem useNow_congr (hfc : u.fc = s.fc) (hcfg : u.cfg = s.cfg) : useNow u = useNow s := by
  unfold useNow fridgeSetpoint
  rw [hfc, hcfg]

/-- The fridge as a VALID conversion hands it to the thermostat. -/
structure Judged (tf : Int) (s y : State) : Prop where
  fc : y.fc = { s.fc with used := useNow s, reading := .reading, satisfied := decide (tf ≤ lowerThreshold s) }
  cfg : y.cfg = s.cfg
  now : now y = Machine.now s
  latest : latestTf y = tf
  gate : SameGate s y

theorem FridgeFinds.judged (a : FridgeFinds s u) (hf : (chanOf u .tf).filtered = some tf) : Judged tf s (satisfying tf (usingNow u)) := by
  have huse := useNow_congr a.fc a.cfg
  have hlower : usedLower (useNow u) = lowerThreshold s := by rw [huse]; rfl
  refine ⟨?_, a.cfg, a.now, ?_, a.gate.trans ⟨rfl, rfl, rfl⟩⟩
  · show { u.fc with used := useNow u, reading := .reading, satisfied := decide (tf ≤ usedLower (useNow u)) } = _
    rw [hlower, huse, a.fc]
  · have hlatest : latestTf (satisfying tf (usingNow u)) = (chanOf u .tf).filtered.getD 0 := rfl
    rw [hlatest, hf]
    rfl

theorem Judged.wanted {y : State} (j : Judged tf s y) : wantedSpeed y tf = min (tempSpeed (tf - fridgeSetpoint s)) s.cfg.fridgeSet.maxSpeed := by
  unfold wantedSpeed
  rw [j.fc]
  rfl

theorem Judged.energized {y : State} (j : Judged tf s y) : energized y .compressor = Machine.energized s .compressor :=
  j.gate.energized_eq (congrArg FridgeUnit.drive j.fc :)

/-- The fridge as a conversion finds it, with what the thermostat works with now. -/
structure Using (s x : State) : Prop where
  fc : x.fc = { s.fc with used := useNow s, reading := .reading }
  cfg : x.cfg = s.cfg
  gate : SameGate s x

theorem FridgeFinds.using (a : FridgeFinds s u) : Using s (usingNow u) := by
  refine ⟨?_, a.cfg, a.gate.trans ⟨rfl, rfl, rfl⟩⟩
  show { u.fc with used := useNow u, reading := .reading } = _
  rw [useNow_congr a.fc a.cfg, a.fc]

namespace Using

variable {x : State} (a : Using s x)
include a

theorem state : x.fc.state = s.fc.state := (congrArg FridgeUnit.state a.fc :)
theorem phase : x.fc.phase = s.fc.phase := (congrArg FridgeUnit.phase a.fc :)
theorem drive : x.fc.drive = s.fc.drive := (congrArg FridgeUnit.drive a.fc :)
theorem switchOn : x.fc.switchOn = s.fc.switchOn := (congrArg FridgeUnit.switchOn a.fc :)
theorem lastStop : x.fc.lastStop = s.fc.lastStop := (congrArg FridgeUnit.lastStop a.fc :)
theorem used : x.fc.used = useNow s := (congrArg FridgeUnit.used a.fc :)
theorem lower : usedLower x.fc.used = lowerThreshold s := by rw [a.used]; rfl
theorem upper : usedUpper x.fc.used = upperThreshold s := by rw [a.used]; rfl

theorem offEnd : minOffEnd x = s.fc.lastStop + 10 * s.cfg.fridgeSet.minOff := by rw [minOffEnd, a.lastStop, a.cfg]

theorem onOver : minOnOver x = true ↔ ∃ o, s.fc.switchOn = some o ∧ o + 600 ≤ now s := by
  rw [minOnOver_iff, a.switchOn, a.gate.now]

end Using

theorem Judged.offEnd {y : State} (j : Judged tf s y) : minOffEnd y = s.fc.lastStop + 10 * s.cfg.fridgeSet.minOff := by
  rw [minOffEnd, j.cfg, j.fc]

/-- The wanted speed at a conversion, as the settings then stand. -/
abbrev speedAt (tf : Int) (s : State) : Nat := min (tempSpeed (tf - fridgeSetpoint s)) s.cfg.fridgeSet.maxSpeed

/-- The wanted speed formed in START and RUN at a conversion. -/
theorem Judged.updates {y : State} (j : Judged tf s y) (l : FridgeLeaves s (updateWanted tf y) t) :
    t.fc.state = s.fc.state ∧ t.fc.wanted = some (speedAt tf s) ∧ t.fc.satisfied = decide (tf ≤ lowerThreshold s)
      ∧ t.fc.reading = .reading ∧ t.fc.drive = s.fc.drive
      ∧ (s.fc.state = .run → s.fc.wanted ≠ some (speedAt tf s) → t.fc.effective = effectiveSpeed s (speedAt tf s)
          ∧ tget t.asked (consIx .fridge) = some (speedRequest s.cfg.demands (speedAt tf s))) := by
  have hfc := updateWanted_fc tf y
  rw [j.wanted] at hfc
  have hy : y.fc.state = s.fc.state ∧ y.fc.wanted = s.fc.wanted := ⟨(congrArg FridgeUnit.state j.fc :), (congrArg FridgeUnit.wanted j.fc :)⟩
  refine ⟨l.state.trans ((congrArg FridgeUnit.state hfc :).trans hy.1), l.wanted.trans (congrArg FridgeUnit.wanted hfc :),
    l.satisfied.trans ((congrArg FridgeUnit.satisfied hfc :).trans (congrArg FridgeUnit.satisfied j.fc :)),
    l.reading.trans ((congrArg FridgeUnit.reading hfc :).trans (congrArg FridgeUnit.reading j.fc :)),
    l.drive.trans ((congrArg FridgeUnit.drive hfc :).trans (congrArg FridgeUnit.drive j.fc :)), fun hrun hne => ⟨?_, ?_⟩⟩
  · have heff := l.effective.trans (congrArg FridgeUnit.effective hfc :)
    rw [hy.2, if_neg hne, hy.1, if_pos hrun] at heff
    rw [heff, effectiveSpeed, effectiveSpeed, j.cfg, j.fc]
  · rw [l.asked, updateWanted_asked (by rw [hy.2, j.wanted]; exact hne) (hy.1.trans hrun), j.wanted, j.cfg]

end Sys2Proof.Machine

namespace Sys2Proof.Proofs

open Sys2Proof Sys2Proof.Machine

/-- Settles O39: the ends of the fridge's phases, and the thermostat at a conversion of TF. -/
theorem fridgePhasesEnd : Obligations.FridgePhasesEnd := by
  refine ⟨fun s hrun hst tf hf => ?_, fun s hrun hst hphase w hw => ?_, fun s hrun hst => ⟨fun hsat hread hon hmin => ?_, fun hno => ?_⟩,
    fun s hrun hst => ?_, fun s hrun hst => ?_, fun s hrun hst => ?_, fun code s hrun hn hread => ?_⟩
  · obtain ⟨v, hv⟩ : ∃ v, v = startEvent .waitOffEnd s := ⟨_, rfl⟩
    have hvfc : v.fc = s.fc := hv ▸ rfl
    have hvcfg : v.cfg = s.cfg := hv ▸ rfl
    have he : effect .waitOffEnd v = waitOffEnd v := hv ▸ if_pos hst
    have hlatest : latestTf v = tf := by
      have h : latestTf v = (chanOf s .tf).filtered.getD 0 := hv ▸ rfl
      rw [h, hf]
      rfl
    obtain ⟨t, hexec, l⟩ := exec_fridgeTo hv hrun rfl he (.waitOffEnd v)
    refine ⟨t, hexec, fun hr hup => ?_, fun hno => ?_⟩
    · rw [waitOffEnd_starts (hvfc ▸ hr) (by rw [hvfc, hlatest]; exact hup)] at l
      have a := (fridgeIn_toStart v).leaves l
      rw [wantedSpeed, hlatest, hvfc, hvcfg] at a
      exact ⟨a.state, a.drive, a.wanted, a.asked⟩
    · rw [waitOffEnd_rests (by rw [hvfc, hlatest]; exact hno)] at l
      have a := (fridgeIn_toIdle v).leaves l
      rw [hvfc] at a
      exact ⟨a.state, a.drive, a.asked⟩
  · obtain ⟨v, hv⟩ : ∃ v, v = startEvent .softStartEnd s := ⟨_, rfl⟩
    have hvfc : v.fc = s.fc := hv ▸ rfl
    have hvcfg : v.cfg = s.cfg := hv ▸ rfl
    have he : effect .softStartEnd v = softStartEnd v := hv ▸ (if_pos hst).trans (if_pos hphase)
    obtain ⟨t, hexec, l⟩ := exec_fridgeTo hv hrun rfl he (.softStartEnd v)
    have a := (fridgeIn_softStartEnd (s := v) (hvfc ▸ hw)).leaves l
    rw [effectiveSpeed, hvfc, hvcfg] at a
    exact ⟨t, hexec, a.state, a.wanted, a.effective, a.drive, a.asked⟩
  · obtain ⟨v, hv⟩ : ∃ v, v = startEvent .minOnTimeEnd s := ⟨_, rfl⟩
    have hvfc : v.fc = s.fc := hv ▸ rfl
    have hvcfg : v.cfg = s.cfg := hv ▸ rfl
    have hvnow : now v = now s := hv ▸ rfl
    have hvon : energized v .compressor = true := hv ▸ hon
    have he : effect .minOnTimeEnd v = toWaitOff (commandOff v) := hv ▸ (if_pos hst).trans (if_pos (by simp [startEvent, takeHanding, hsat, hread]))
    obtain ⟨t, hexec, l⟩ := exec_fridgeTo hv hrun rfl he ((SameGate.commandOff v).trans (.toWaitOff _))
    have a := (fridgeIn_stops (s := v) (by rw [hvon, hvcfg]; simp; omega)).leaves l
    rw [hvon, hvfc, hvnow, hvcfg] at a
    have hstop := a.lastStop
    rw [if_pos ⟨hon, rfl⟩] at hstop
    exact ⟨t, hexec, a.state, a.drive, hstop, (a.switchOn rfl).trans (if_pos hon), a.phase (by simp [fridgeEnters]), a.asked⟩
  · obtain ⟨t, hexec, l⟩ := exec_fridgeTo (s := s) rfl hrun rfl (i := .minOnTimeEnd) (u := startEvent .minOnTimeEnd s)
      ((if_pos hst).trans (if_neg (minOn_idle hno))) (.refl _)
    exact ⟨t, hexec, l.same rfl⟩
  · obtain ⟨v, hv⟩ : ∃ v, v = startEvent .stallWaitEnd s := ⟨_, rfl⟩
    have hvfc : v.fc = s.fc := hv ▸ rfl
    have hvcfg : v.cfg = s.cfg := hv ▸ rfl
    have hvnow : now v = now s := hv ▸ rfl
    have he : effect .stallWaitEnd v = stallWaitEnd v := hv ▸ if_pos hst
    by_cases hlost : s.fc.reading = .lost
    · have hto : stallWaitEnd v = toFallbackOff v := if_pos (hvfc ▸ hlost)
      obtain ⟨t, hexec, l⟩ := exec_fridgeTo hv hrun rfl (he.trans hto) (.toFallbackOff v)
      refine ⟨t, hexec, fun _ hwait => ?_, fun hn => absurd hlost hn⟩
      have a := (fridgeIn_toFallbackOff (s := v) (by rw [hvnow, hvfc]; exact hwait)).leaves l
      rw [hvfc] at a
      exact ⟨a.state, a.phase (by simp [fridgeEnters])⟩
    · have hto : stallWaitEnd v = toWaitOff v := if_neg (hvfc ▸ hlost)
      obtain ⟨t, hexec, l⟩ := exec_fridgeTo hv hrun rfl (he.trans hto) (.toWaitOff v)
      refine ⟨t, hexec, fun hn => absurd hn hlost, fun _ hwait => ?_⟩
      have hend : minOffEnd v = s.fc.lastStop + 10 * s.cfg.fridgeSet.minOff := by rw [minOffEnd, hvfc, hvcfg]
      have a := (fridgeIn_toWaitOff (s := v) (by rw [hvnow, hend]; exact hwait)).leaves l
      rw [hvfc, hend] at a
      exact ⟨a.state, a.phase (by simp [fridgeEnters])⟩
  · obtain ⟨v, hv⟩ : ∃ v, v = startEvent .fallbackOnEnd s := ⟨_, rfl⟩
    have hvfc : v.fc = s.fc := hv ▸ rfl
    have hvcfg : v.cfg = s.cfg := hv ▸ rfl
    have hvnow : now v = now s := hv ▸ rfl
    have hvon : energized v .compressor = energized s .compressor := hv ▸ rfl
    have he : effect .fallbackOnEnd v = toFallbackOff (commandOff v) := hv ▸ if_pos hst
    obtain ⟨t, hexec, l⟩ := exec_fridgeTo hv hrun rfl he ((SameGate.commandOff v).trans (.toFallbackOff _))
    refine ⟨t, hexec, fun hon => ?_, fun hoff hpast => ?_⟩
    · have a := (fridgeIn_stopsFallback (s := v) (by rw [hvon, hon]; simp)).leaves l
      rw [hvon, hon, hvfc, hvnow] at a
      have hstop := a.lastStop
      rw [if_pos ⟨hon, rfl⟩] at hstop
      exact ⟨a.state, a.drive, hstop, a.phase (by simp [fridgeEnters]), a.asked⟩
    · have hover : (commandOff v).fc.lastStop + 12000 ≤ now (commandOff v) := by
        rw [commandOff_fc, commandOff_now, hvon, hoff, hvnow, hvfc]
        exact hpast
      rw [toFallbackOff_over hover] at l
      have a := (fridgeIn_toFallbackOn true (commandOff v)).leaves l
      rw [commandOff_now, hvnow] at a
      exact ⟨a.state, a.drive, a.phase (by simp [fridgeEnters])⟩
  · obtain ⟨v, hv⟩ : ∃ v, v = startEvent .fallbackOffEnd s := ⟨_, rfl⟩
    have hvcfg : v.cfg = s.cfg := hv ▸ rfl
    have hvnow : now v = now s := hv ▸ rfl
    have he : effect .fallbackOffEnd v = toFallbackOn true v := hv ▸ if_pos hst
    obtain ⟨t, hexec, l⟩ := exec_fridgeTo hv hrun rfl he (SameGate.enter .fallbackOn _ v : SameGate v (toFallbackOn true v))
    have a := (fridgeIn_toFallbackOn true v).leaves l
    rw [hvnow, hvcfg] at a
    exact ⟨t, hexec, a.state, a.drive, a.phase (by simp [fridgeEnters]), a.asked⟩
  · obtain ⟨t, u, hexec, a, hvalid, hf, l⟩ := exec_tfConversion hrun hn
    rw [fridgeTf_reading hvalid hf (a.fc ▸ hread)] at l
    have x := a.using
    have j := a.judged hf
    have huse := SameUse.thermostat (filteredAt s .tf code) (usingNow u)
    obtain ⟨y, hy⟩ : ∃ y, y = satisfying (filteredAt s .tf code) (usingNow u) := ⟨_, rfl⟩
    rw [← hy] at j
    refine ⟨t, hexec, l.reading.trans (huse.reading.trans rfl), l.used.trans (huse.used.trans x.used), fun hst => ?_, fun hst hp hd hlow => ?_,
      fun hst hno => ?_, fun hst hon hlow hen hmin => ?_, fun hst hno => ?_, fun hst => ?_⟩
    · rw [thermostat_idle (x.state.trans hst), x.upper, x.offEnd, x.gate.now, ← hy] at l
      refine ⟨fun hcool => ?_, fun hwarm hover => ?_, fun hwarm hwait => ?_⟩
      · rw [if_neg (by exact not_le.mpr hcool)] at l
        exact l.state.trans ((congrArg FridgeUnit.state j.fc :).trans hst)
      · rw [if_pos (by exact hwarm), if_pos hover] at l
        have b := (fridgeIn_toStart y).leaves l
        rw [j.latest, j.wanted, j.cfg] at b
        exact ⟨b.state, b.drive, b.wanted, b.asked⟩
      · rw [if_pos (by exact hwarm), if_neg (by omega)] at l
        have b := (fridgeIn_toWaitOff (s := y) (by rw [j.now, j.offEnd]; exact hwait)).leaves l
        rw [j.offEnd] at b
        exact ⟨b.state, b.phase (by simp [fridgeEnters])⟩
    · rw [thermostat_start (x.state.trans hst), x.lower, x.phase, x.drive, if_pos ⟨hlow, hp, hd⟩, ← hy] at l
      have b := (fridgeIn_toIdle (commandOff y)).leaves l
      rw [commandOff_fc] at b
      exact ⟨b.state, b.drive, b.asked⟩
    · rw [thermostat_start (x.state.trans hst), x.lower, x.phase, x.drive, if_neg, ← hy] at l
      · obtain ⟨h1, h2, -⟩ := j.updates l
        exact ⟨h1.trans hst, h2⟩
      · rintro ⟨h1, h2, -⟩
        obtain h | h := hno
        · simp [h2] at h
        · exact absurd h1 (not_le.mpr h)
    · rw [thermostat_run (x.state.trans hst), x.lower, if_pos ⟨hlow, x.onOver.mpr hon⟩, ← hy] at l
      have b := (fridgeIn_stops (s := y) (by rw [j.energized, hen, j.cfg]; simp; omega)).leaves l
      rw [j.energized, hen, j.now, j.cfg, j.fc] at b
      have hstop := b.lastStop
      rw [if_pos ⟨hen, rfl⟩] at hstop
      exact ⟨b.state, b.drive, hstop, b.phase (by simp [fridgeEnters]), b.asked⟩
    · rw [thermostat_run (x.state.trans hst), x.lower, if_neg, ← hy] at l
      · obtain ⟨h1, h2, h3, -, -, h4⟩ := j.updates l
        exact ⟨h1.trans hst, h2, h3, h4 hst⟩
      · rintro ⟨h1, hon⟩
        obtain ⟨o, ho, hover⟩ := x.onOver.mp hon
        obtain h | h := hno
        · exact absurd (h o ho) (by omega)
        · exact absurd h1 (not_le.mpr h)
    · obtain e | e := thermostat_others (tf := filteredAt s .tf code) (s := usingNow u) (by rw [x.state]; exact hst) <;> rw [e] at l
      · exact ⟨l.state.trans x.state, l.drive.trans x.drive⟩
      · exact ⟨l.state.trans x.state, l.drive.trans x.drive⟩

end Sys2Proof.Proofs
end

section
/-! PROOFS. Stalls, FAULT, and the fridge's sensor lost and regained. -/

namespace Sys2Proof.Machine

-- One proof after another: started together they wait for one another, each on a thread of its own.
set_option Elab.async false

variable {s t u v : State} {tf : Int} {f : FridgeUnit} {d : Demands}

/-! ### Stalls and FAULT (R100, R101) -/

/-- The fridge with a stall logged. -/
def stalledAt (time : Nat) (s : State) : State := withFc (fun f => { f with stallLog := f.stallLog ++ [time] }) s

theorem fridgeStall_idle (h : s.fc.state = .off ∨ s.fc.state = .fault) : fridgeStall s = s := by
  unfold fridgeStall
  obtain h | h := h <;> rw [h]

theorem fridgeStall_eq (h1 : s.fc.state ≠ .off) (h2 : s.fc.state ≠ .fault) : fridgeStall s
    = if 2 ≤ s.fc.stallLog.length then toFault (stalledAt (now s) s)
      else fridgeNotice .stall (enterFridge .stallWait (fun f => { f with phase := some (now s + 600) }) (commandOff (stalledAt (now s) s))) := by
  unfold fridgeStall
  have hlen : (3 ≤ (stalledAt (now s) s).fc.stallLog.length) = (2 ≤ s.fc.stallLog.length) := by
    simp [stalledAt, withFc]
  split
  · contradiction
  · contradiction
  · exact if_congr (iff_of_eq hlen) rfl rfl

theorem SameGate.notice (e : FridgeEvent) (s : State) : SameGate s (fridgeNotice e s) := ⟨rfl, rfl, rfl⟩

theorem SameGate.toFault (s : State) : SameGate s (toFault s) := by
  have h : SameGate (enterFridge .fault id (Machine.commandOff s)) (Machine.toFault s) := ⟨rfl, rfl, rfl⟩
  exact ((SameGate.commandOff s).trans (.enter _ _ _)).trans h

theorem SameGate.fridgeStall (s : State) : SameGate s (fridgeStall s) := by
  by_cases h : s.fc.state = .off ∨ s.fc.state = .fault
  · rw [fridgeStall_idle h]
    exact .refl s
  · rw [not_or] at h
    rw [fridgeStall_eq h.1 h.2]
    have hlog : SameGate s (stalledAt (Machine.now s) s) := ⟨rfl, rfl, rfl⟩
    split
    · exact hlog.trans (.toFault _)
    · exact ((hlog.trans (.commandOff _)).trans (.enter _ _ _)).trans (.notice _ _)

/-- The notice of a fridge's event names the state the event leaves. -/
theorem mem_fridgeNotice (e : FridgeEvent) (h : u.fc.state = f.state) (h' : u.fc.stallLog = f.stallLog) :
    .noticePost ⟨.fridge, .fc, fridgeSeverity e, false,
      [byte (fridgeEventCode e), byte (fridgeCode f.state), byte f.stallLog.length]⟩ ∈ (fridgeNotice e u).handed := by
  rw [← h, ← h']
  exact List.mem_append_right _ (List.mem_singleton_self _)

theorem fridgeClearFault_stays (h : s.fc.state ≠ .fault) : fridgeClearFault s = withFc (fun f => { f with stallLog := [] }) s :=
  if_neg h

theorem fridgeClearFault_fault (h : s.fc.state = .fault) : fridgeClearFault s
    = if s.cfg.fridgeSet.enable = false then enterFridge .off id (withFc (fun f => { f with stallLog := [] }) s)
      else if s.fc.reading = .lost then toFallbackOff (withFc (fun f => { f with stallLog := [] }) s)
      else toWaitOff (withFc (fun f => { f with stallLog := [] }) s) := by
  unfold fridgeClearFault
  rw [if_pos h]
  exact if_congr (by simp) rfl rfl

theorem SameGate.fridgeClearFault (s : State) : SameGate s (fridgeClearFault s) := by
  have hlog : SameGate s (withFc (fun f => { f with stallLog := [] }) s) := ⟨rfl, rfl, rfl⟩
  by_cases h : s.fc.state = .fault
  · rw [fridgeClearFault_fault h]
    split
    · exact hlog.trans (.enter _ _ _)
    · split
      · exact hlog.trans (.toFallbackOff _)
      · exact hlog.trans (.toWaitOff _)
  · rw [fridgeClearFault_stays h]
    exact hlog

/-! ### What the entries keep of the fridge -/

/-- A field that no entry of a fridge's state sets. -/
structure EntryKeeps {α : Type} (g : FridgeUnit → α) : Prop where
  enters : ∀ f new phase wanted effective drive,
    g { f with state := new, phase := phase, wanted := wanted, effective := effective, drive := drive } = g f
  drops : ∀ f time on, g (droppedAt time on f) = g f

theorem entryKeeps_stallLog : EntryKeeps (·.stallLog) := ⟨fun _ _ _ _ _ _ => rfl, fun _ _ _ => rfl⟩
theorem entryKeeps_reading : EntryKeeps (·.reading) := ⟨fun _ _ _ _ _ _ => rfl, fun _ _ _ => rfl⟩
theorem entryKeeps_satisfied : EntryKeeps (·.satisfied) := ⟨fun _ _ _ _ _ _ => rfl, fun _ _ _ => rfl⟩

namespace EntryKeeps

variable {α : Type} {g : FridgeUnit → α} (k : EntryKeeps g)
include k

theorem commandOff (s : State) : g (commandOff s).fc = g s.fc := by
  rw [commandOff_fc, k.drops]

theorem toIdle (s : State) : g (toIdle s).fc = g s.fc :=
  (congrArg g (fridgeIn_toIdle s).fc).trans (k.enters s.fc .idle none none none s.fc.drive)

theorem toStart (s : State) : g (toStart s).fc = g s.fc :=
  (congrArg g (fridgeIn_toStart s).fc).trans (k.enters s.fc .start none _ none true)

theorem toWaitOff (s : State) : g (toWaitOff s).fc = g s.fc := by
  unfold Machine.toWaitOff waitOffEnd
  split
  · split
    · exact k.toStart s
    · exact k.toIdle s
  · exact (congrArg g (fridgeIn_enter .waitOff (fun f => { f with phase := some (minOffEnd s) }) s).fc).trans
      (k.enters s.fc .waitOff _ none none s.fc.drive)

theorem toFallbackOn (drive : Bool) (s : State) : g (toFallbackOn drive s).fc = g s.fc :=
  (congrArg g (fridgeIn_toFallbackOn drive s).fc).trans (k.enters s.fc .fallbackOn _ none none drive)

theorem toFallbackOff (s : State) : g (toFallbackOff s).fc = g s.fc := by
  unfold Machine.toFallbackOff
  split
  · exact k.toFallbackOn true s
  · exact (congrArg g (fridgeIn_enter .fallbackOff (fun f => { f with phase := some (s.fc.lastStop + 12000) }) s).fc).trans
      (k.enters s.fc .fallbackOff _ none none s.fc.drive)

theorem resumeRun (tf : Int) (s : State) : g (resumeRun tf s).fc = g s.fc :=
  (congrArg g (fridgeIn_enter .run (fun f => { f with
    wanted := some (wantedSpeed s tf)
    effective := effectiveSpeed s (wantedSpeed s tf) }) s).fc).trans (k.enters s.fc .run none _ _ s.fc.drive)

end EntryKeeps

/-! ### The sensor lost (R93, R102) -/

theorem SameGate.tfLost (s : State) : SameGate s (tfLost s) := by
  have hread : SameGate s (withFc (fun f => { f with reading := .lost }) s) := ⟨rfl, rfl, rfl⟩
  have hstate : SameGate s (tfLostState (withFc (fun f => { f with reading := .lost }) s)) := by
    unfold tfLostState
    split
    · exact hread.trans (.toFallbackOff _)
    · exact hread.trans (.toFallbackOff _)
    · exact hread.trans (.enter _ _ _)
    · exact hread.trans (.enter _ _ _)
    · exact hread
  unfold Machine.tfLost
  dsimp only
  split
  · exact hstate.trans (.notice _ _)
  · exact hstate

/-- The fridge's state once its sensor is lost. -/
def lostState (s : State) : State := tfLostState (withFc (fun f => { f with reading := .lost }) s)

/-- What a lost sensor leaves. -/
structure TfLost (s t : State) : Prop where
  reading : t.fc.reading = .lost
  rests : s.fc.state = .idle ∨ s.fc.state = .waitOff → now s < s.fc.lastStop + 12000 →
    t.fc.state = .fallbackOff ∧ t.fc.phase = some (s.fc.lastStop + 12000)
  runs : s.fc.state = .start ∨ s.fc.state = .run → t.fc.state = .fallbackOn ∧ t.fc.drive = s.fc.drive
    ∧ t.fc.phase = some (now s + 6000) ∧ tget t.asked (consIx .fridge) = some (speedRequest s.cfg.demands 1)
  stays : s.fc.state = .stallWait ∨ s.fc.state = .fault ∨ s.fc.state = .off ∨ s.fc.state = .fallbackOn ∨ s.fc.state = .fallbackOff →
    t.fc.state = s.fc.state
  notice : s.cfg.fridgeSet.enable = true → .noticePost ⟨.fridge, .fc, .attention, false,
    [2, byte (fridgeCode t.fc.state), byte t.fc.stallLog.length]⟩ ∈ t.handed

theorem tfLost_left (a : FridgeFinds s u) (l : FridgeLeaves s (tfLost u) t) : TfLost s t := by
  obtain ⟨x, hx⟩ : ∃ x, x = withFc (fun f => { f with reading := .lost }) u := ⟨_, rfl⟩
  have hxfc : x.fc = { s.fc with reading := .lost } := by rw [hx, ← a.fc]; rfl
  have hxcfg : x.cfg = s.cfg := by rw [hx, ← a.cfg]; rfl
  have hxnow : now x = now s := by rw [hx, ← a.now]; rfl
  have hst : x.fc.state = s.fc.state := by rw [hxfc]
  have hpost : tfLost u = if s.cfg.fridgeSet.enable then fridgeNotice .fallback (tfLostState x) else tfLostState x := by
    rw [← a.cfg, hx]
    rfl
  rw [hpost] at l
  have hl : FridgeLeaves s (tfLostState x) t := by
    split at l
    · exact ⟨l.core, l.phase, l.lastStop, l.switchOn, l.same, l.asked, fun i hi => l.handed i (List.mem_append_left _ hi)⟩
    · exact l
  have hreading : (tfLostState x).fc.reading = .lost := by
    unfold tfLostState
    split
    · exact (entryKeeps_reading.toFallbackOff x).trans (by rw [hxfc])
    · exact (entryKeeps_reading.toFallbackOff x).trans (by rw [hxfc])
    · exact (entryKeeps_reading.toFallbackOn _ x).trans (by rw [hxfc])
    · exact (entryKeeps_reading.toFallbackOn _ x).trans (by rw [hxfc])
    · rw [hxfc]
  refine ⟨hl.reading.trans hreading, fun h hwait => ?_, fun h => ?_, fun h => ?_, fun h => ?_⟩
  · have he : tfLostState x = toFallbackOff x := by
      unfold tfLostState
      rw [hst]
      obtain h | h := h <;> rw [h]
    rw [he] at hl
    have b := (fridgeIn_toFallbackOff (s := x) (by rw [hxnow, hxfc]; exact hwait)).leaves hl
    rw [hxfc] at b
    exact ⟨b.state, b.phase (by simp [fridgeEnters])⟩
  · have he : tfLostState x = toFallbackOn x.fc.drive x := by
      unfold tfLostState
      rw [hst]
      obtain h | h := h <;> rw [h]
    rw [he] at hl
    have b := (fridgeIn_toFallbackOn x.fc.drive x).leaves hl
    rw [hxnow, hxcfg, hxfc] at b
    exact ⟨b.state, b.drive, b.phase (by simp [fridgeEnters]), b.asked⟩
  · have he : tfLostState x = x := by
      unfold tfLostState
      rw [hst]
      obtain h | h | h | h | h := h <;> rw [h]
    rw [he] at hl
    exact hl.state.trans hst
  · rw [h, if_pos rfl] at l
    exact l.handed _ (mem_fridgeNotice .fallback hl.state.symm hl.stallLog.symm)

/-! ### A host mark of TF (R9, R10) -/

theorem FridgeLeaves.of_same {w : State} (l : FridgeLeaves s w t) (hfc : w.fc = u.fc) (hasked : w.asked = u.asked)
    (hhanded : ∀ i ∈ u.handed, i ∈ w.handed) : FridgeLeaves s u t :=
  ⟨hfc ▸ l.core, hfc ▸ l.phase, hfc ▸ l.lastStop, hfc ▸ l.switchOn, hfc ▸ l.same, l.asked.trans hasked,
    fun i hi => l.handed i (hhanded i hi)⟩

/-- A mark that moves TF's status is a status report of TF at the FC. -/
theorem exec_tfMark {mark : Bool} {new : SampleStatus} (hrun : s.mc.supply = .running) (hnew : (markedEntry .tf mark s).status = new)
    (hne : statusOf s .tf ≠ new) : ∃ t u, exec (if mark then .suspectChannel 4 else .clearSuspect 4) s = .next t ∧ FridgeFinds s u
      ∧ statusOf u .tf = new ∧ (chanOf u .tf).filtered = (chanOf s .tf).filtered ∧ FridgeLeaves s (fridgeTf false u) t := by
  obtain ⟨v, hv⟩ : ∃ v, v = startEvent (if mark then .suspectChannel 4 else .clearSuspect 4) s := ⟨_, rfl⟩
  obtain ⟨w, hw⟩ : ∃ w, w = sensorNotice .tf (statusOf v .tf) (setChannel .tf { chanOf v .tf with hostMark := mark } v) := ⟨_, rfl⟩
  obtain ⟨x, hx⟩ : ∃ x, x = statusChange .tf (statusOf v .tf) w := ⟨_, rfl⟩
  have hmoves : Moves [.rawChan] v w := hw ▸ (moves_setChannel .tf _ v).step (moves_sensorNotice .tf _ _)
  have hwchan : chanOf w .tf = markedEntry .tf mark s := by
    have hmu : w.mu = (setChannel .tf { chanOf v .tf with hostMark := mark } v).mu := hw ▸ sensorNotice_mu _ _ _
    have hchan : chanOf w .tf = chanOf (setChannel .tf { chanOf v .tf with hostMark := mark } v) .tf :=
      congrArg (fun m : MeasureUnit => tget m.chan (chanIx .tf)) hmu
    rw [hchan, chanOf_setChannel, if_pos rfl, hv]
    rfl
  have hxmoves : Moves (.rawChan :: statusAreas) v x := hx ▸ hmoves.mono.step (moves_statusChange .tf _ w)
  have hxchan : chanOf x .tf = markedEntry .tf mark s := by
    have hch : x.mu.chan = w.mu.chan := by rw [hx]; exact (moves_statusChange .tf _ w).chan_eq
    exact (congrArg (fun m => tget m (chanIx .tf)) hch).trans hwchan
  have hold : statusOf v .tf = statusOf s .tf := hv ▸ rfl
  have hreport : statusReport .tf (statusOf v .tf) w = advance [3, 12, 14, 24] w (fridgeTf false x) := by
    have hstatus : statusOf w .tf = new := (congrArg ChanEntry.status hwchan).trans hnew
    unfold statusReport ownerEvent
    rw [if_neg (by rw [hstatus, hold]; exact hne.symm), hx]
    rfl
  have he : effect (if mark then .suspectChannel 4 else .clearSuspect 4) v = answer .ok [] (advance [3, 12, 14, 24] w (fridgeTf false x)) := by
    rw [effect_mark, setHostMark_eq (ch := .tf) rfl, ← hw, hreport]
  have hstart : SameGate s v := hv ▸ ⟨rfl, rfl, rfl⟩
  have hgate : SameGate s x := hstart.trans (.of_moves hxmoves)
  have hadvance : SameGate (fridgeTf false x) (answer .ok [] (advance [3, 12, 14, 24] w (fridgeTf false x))) := ⟨rfl, rfl, rfl⟩
  have hall : SameGate s (answer .ok [] (advance [3, 12, 14, 24] w (fridgeTf false x))) :=
    (hgate.trans (.of_moves (moves_fridgeTf false x))).trans hadvance
  refine ⟨close s (answer .ok [] (advance [3, 12, 14, 24] w (fridgeTf false x))), x, ?_, ⟨?_, ?_, hgate⟩, ?_, ?_,
    (fridgeLeaves_close hrun hall).of_same rfl rfl fun _ h => h⟩
  · rw [exec_running hrun (markReset 4 mark), ← hv, he]
  · rw [hxmoves.fc_eq, hv]; rfl
  · rw [hxmoves.cfg_eq, hv]; rfl
  · exact (congrArg ChanEntry.status hxchan).trans hnew
  · exact (congrArg ChanEntry.filtered hxchan :)

theorem fridgeTf_loses (hst : statusOf u .tf = .suspect) (hr : u.fc.reading ≠ .lost) : fridgeTf false u = tfLost u := by
  unfold fridgeTf
  cases hread : u.fc.reading
  · simp [hst, hread, readingAfter]
  · simp [hst, hread, readingAfter]
  · exact absurd hread hr

theorem fridgeTf_returns (hst : statusOf u .tf = .valid) (hr : u.fc.reading = .lost) : fridgeTf false u = tfRegained none u := by
  unfold fridgeTf
  simp [hst, hr, readingAfter]

/-! ### The sensor regained (R98, R102) -/

/-- RUN from FALLBACK_ON, with its speeds. -/
theorem fridgeIn_resumeRun (tf : Int) (s : State) : FridgeIn s.cfg.demands { fridgeEnters .run s.fc with
    wanted := some (wantedSpeed s tf), effective := effectiveSpeed s (wantedSpeed s tf) } (resumeRun tf s) :=
  fridgeIn_enter .run (fun f => { f with wanted := some (wantedSpeed s tf), effective := effectiveSpeed s (wantedSpeed s tf) }) s

/-- What is told of the fridge whose sensor is regained. -/
theorem tfRegained_notice (conv : Option Int) (l : FridgeLeaves s (tfRegained conv u) t) (hcfg : u.cfg = s.cfg) :
    FridgeLeaves s (tfRegainedState conv (withFc (fun f => { f with reading := .reading }) u)) t
      ∧ (s.cfg.fridgeSet.enable = true → .noticePost ⟨.fridge, .fc, .info, false,
          [3, byte (fridgeCode t.fc.state), byte t.fc.stallLog.length]⟩ ∈ t.handed) := by
  unfold tfRegained at l
  dsimp only at l
  rw [hcfg] at l
  cases h : s.cfg.fridgeSet.enable <;> rw [h] at l
  · exact ⟨l, nofun⟩
  · have hl : FridgeLeaves s (tfRegainedState conv (withFc (fun f => { f with reading := .reading }) u)) t :=
      l.of_same rfl rfl fun i hi => List.mem_append_left _ hi
    exact ⟨hl, fun _ => l.handed _ (mem_fridgeNotice .resumed hl.state.symm hl.stallLog.symm)⟩

/-- What a sensor regained by a status report leaves. -/
structure TfReturned (tf : Int) (s t : State) : Prop where
  reading : t.fc.reading = .reading
  satisfied : t.fc.satisfied = s.fc.satisfied
  resumes : s.fc.state = .fallbackOn → energized s .compressor = true → t.fc.state = .run ∧ t.fc.drive = s.fc.drive
    ∧ t.fc.switchOn = s.fc.switchOn ∧ t.fc.wanted = some (wantedSpeed s tf) ∧ t.fc.effective = effectiveSpeed s (wantedSpeed s tf)
    ∧ tget t.asked (consIx .fridge) = some (speedRequest s.cfg.demands (wantedSpeed s tf))
  idles : s.fc.state = .fallbackOn → energized s .compressor = false → t.fc.state = .idle ∧ t.fc.drive = false
    ∧ tget t.asked (consIx .fridge) = none
  waits : s.fc.state = .fallbackOff → now s < s.fc.lastStop + 10 * s.cfg.fridgeSet.minOff →
    t.fc.state = .waitOff ∧ t.fc.phase = some (s.fc.lastStop + 10 * s.cfg.fridgeSet.minOff)

theorem tfReturned_left (a : FridgeFinds s u) (hf : (chanOf u .tf).filtered = some tf)
    (l : FridgeLeaves s (tfRegainedState none (withFc (fun f => { f with reading := .reading }) u)) t) : TfReturned tf s t := by
  obtain ⟨x, hx⟩ : ∃ x, x = withFc (fun f => { f with reading := .reading }) u := ⟨_, rfl⟩
  have hxfc : x.fc = { s.fc with reading := .reading } := by rw [hx, ← a.fc]; rfl
  have hxcfg : x.cfg = s.cfg := by rw [hx, ← a.cfg]; rfl
  have hxgate : SameGate s x := hx ▸ a.gate.trans ⟨rfl, rfl, rfl⟩
  have hxon : energized x .compressor = energized s .compressor := hxgate.energized_eq (by rw [hxfc])
  have hlatest : latestTf x = tf := by
    have h : latestTf x = (chanOf u .tf).filtered.getD 0 := hx ▸ rfl
    rw [h, hf]
    rfl
  have hst : x.fc.state = s.fc.state := by rw [hxfc]
  have hwanted : wantedSpeed x tf = wantedSpeed s tf := by rw [wantedSpeed, hxfc]; rfl
  have heffective : effectiveSpeed x (wantedSpeed s tf) = effectiveSpeed s (wantedSpeed s tf) := by
    rw [effectiveSpeed, hxfc, hxcfg]
    rfl
  rw [← hx] at l
  have hon : s.fc.state = .fallbackOn → tfRegainedState none x
      = if energized s .compressor then resumeRun tf x else toIdle (commandOff x) := by
    intro h
    unfold tfRegainedState
    rw [hst, h, hxon]
    dsimp only
    rw [Option.getD_none, hlatest]
    rfl
  have hoff : s.fc.state = .fallbackOff → tfRegainedState none x = toWaitOff x := by
    intro h
    unfold tfRegainedState
    rw [hst, h]
  have hothers : s.fc.state ≠ .fallbackOn → s.fc.state ≠ .fallbackOff → tfRegainedState none x = x := by
    intro h1 h2
    unfold tfRegainedState judgeTf
    rw [hst]
    cases h : s.fc.state <;> simp_all
  have keeps : ∀ {α : Type} {g : FridgeUnit → α}, EntryKeeps g → g (tfRegainedState none x).fc = g x.fc := by
    intro α g k
    by_cases h1 : s.fc.state = .fallbackOn
    · rw [hon h1]
      split
      · exact k.resumeRun tf x
      · exact (k.toIdle _).trans (k.commandOff x)
    by_cases h2 : s.fc.state = .fallbackOff
    · rw [hoff h2]
      exact k.toWaitOff x
    · rw [hothers h1 h2]
  refine ⟨l.reading.trans ((keeps entryKeeps_reading).trans (by rw [hxfc])), l.satisfied.trans ((keeps entryKeeps_satisfied).trans (by rw [hxfc])),
    fun h hen => ?_, fun h hen => ?_, fun h hwait => ?_⟩
  · rw [hon h, hen, if_pos rfl] at l
    have b := (fridgeIn_resumeRun tf x).leaves l
    rw [hwanted, heffective, hxcfg, hxfc] at b
    have hfc := b.same rfl
    exact ⟨b.state, b.drive, (congrArg FridgeUnit.switchOn hfc :), b.wanted, b.effective, b.asked⟩
  · rw [hon h, hen, if_neg (by decide)] at l
    have b := (fridgeIn_toIdle (commandOff x)).leaves l
    rw [commandOff_fc] at b
    exact ⟨b.state, b.drive, b.asked⟩
  · rw [hoff h] at l
    have hend : minOffEnd x = s.fc.lastStop + 10 * s.cfg.fridgeSet.minOff := by rw [minOffEnd, hxfc, hxcfg]
    have b := (fridgeIn_toWaitOff (s := x) (by rw [hxgate.now, hend]; exact hwait)).leaves l
    rw [hend] at b
    exact ⟨b.state, b.phase (by simp [fridgeEnters])⟩

end Sys2Proof.Machine
end

section
/-! PROOFS. Stalls, FAULT and the lost sensor, and the fridge's grants and boost. -/

namespace Sys2Proof.Machine

-- One proof after another: started together they wait for one another, each on a thread of its own.
set_option Elab.async false

variable {s t u v : State} {tf : Int}

/-! ### A sensor regained by a conversion (R93, R102) -/

/-- The fridge as a regaining conversion finds it. -/
def regaining (u : State) : State := withFc (fun f => { f with reading := .reading }) (withFc (fun f => { f with used := useNow u }) u)

theorem FridgeFinds.regaining (a : FridgeFinds s u) : Using s (regaining u) := by
  refine ⟨?_, a.cfg, a.gate.trans ⟨rfl, rfl, rfl⟩⟩
  show { u.fc with used := useNow u, reading := .reading } = _
  rw [useNow_congr a.fc a.cfg, a.fc]

theorem SameUse.resumeRun (tf : Int) (x : State) : SameUse x (resumeRun tf x) := by
  have h := (fridgeIn_resumeRun tf x).fc
  exact ⟨(congrArg FridgeUnit.reading h :), (congrArg FridgeUnit.used h :)⟩

theorem SameUse.tfRegainedState (tf : Int) (x : State) : SameUse x (tfRegainedState (some tf) x) := by
  unfold Machine.tfRegainedState
  split
  · split
    · exact (SameUse.resumeRun tf x).trans (.thermostat tf _)
    · exact ((SameUse.commandOff x).trans (.toIdle _)).trans (.thermostat tf _)
  · exact (SameUse.satisfying tf x).trans (.toWaitOff _)
  · exact .thermostat tf x
  · exact .refl x

theorem FridgeIn.satisfying {d : Demands} {f : FridgeUnit} (tf : Int) (a : FridgeIn d f u) :
    FridgeIn d { f with satisfied := decide (tf ≤ usedLower f.used) } (satisfying tf u) := by
  obtain ⟨rfl, hasked⟩ := a
  exact ⟨rfl, hasked⟩

theorem updateWanted_same (h : s.fc.wanted = some (wantedSpeed s tf)) : updateWanted tf s = s := if_pos h

/-- The compressor that still ran goes on in RUN, for a conversion above the lower threshold. -/
theorem tfRegainedState_resumes (hst : s.fc.state = .fallbackOn) (hon : energized s .compressor = true) (hlow : usedLower s.fc.used < tf) :
    tfRegainedState (some tf) s = satisfying tf (resumeRun tf s) := by
  obtain ⟨y, hy⟩ : ∃ y, y = resumeRun tf s := ⟨_, rfl⟩
  have hfc : y.fc = { fridgeEnters .run s.fc with wanted := some (wantedSpeed s tf), effective := effectiveSpeed s (wantedSpeed s tf) } :=
    hy ▸ (fridgeIn_resumeRun tf s).fc
  have hrun : y.fc.state = .run := (congrArg FridgeUnit.state hfc :)
  have hused : y.fc.used = s.fc.used := (congrArg FridgeUnit.used hfc :)
  have hwanted : y.fc.wanted = some (wantedSpeed y tf) := by
    rw [wantedSpeed, hused]
    exact (congrArg FridgeUnit.wanted hfc :)
  have hjudge : thermostat tf y = satisfying tf y := by
    rw [thermostat_run hrun, hused, if_neg (fun h => absurd h.1 (not_le.mpr hlow))]
    exact updateWanted_same (s := satisfying tf y) hwanted
  unfold tfRegainedState
  rw [hst, hon, ← hy]
  exact (congrArg (thermostat tf) hy.symm).trans hjudge

/-- A compressor not switched on yet is dropped, for a conversion below the upper threshold. -/
theorem tfRegainedState_idles (hst : s.fc.state = .fallbackOn) (hon : energized s .compressor = false) (hup : tf < usedUpper s.fc.used) :
    tfRegainedState (some tf) s = satisfying tf (toIdle (commandOff s)) := by
  obtain ⟨y, hy⟩ : ∃ y, y = toIdle (commandOff s) := ⟨_, rfl⟩
  have hfc : y.fc = fridgeEnters .idle (droppedAt (now s) (energized s .compressor) s.fc) := by
    rw [hy, (fridgeIn_toIdle _).fc, commandOff_fc]
  have hidle : y.fc.state = .idle := (congrArg FridgeUnit.state hfc :)
  have hused : y.fc.used = s.fc.used := (congrArg FridgeUnit.used hfc :)
  have hjudge : thermostat tf y = satisfying tf y := by
    rw [thermostat_idle hidle, hused, if_neg (not_le.mpr hup)]
  unfold tfRegainedState
  rw [hst, hon, ← hy]
  exact hjudge

/-- A FALLBACK_OFF waits out the minimum off time. -/
theorem tfRegainedState_waits (hst : s.fc.state = .fallbackOff) :
    tfRegainedState (some tf) s = toWaitOff (satisfying tf s) := by
  unfold tfRegainedState
  rw [hst]
  rfl

end Sys2Proof.Machine

namespace Sys2Proof.Proofs

open Sys2Proof Sys2Proof.Machine

/-- Settles O40: stalls, FAULT and its clearing, and the compartment's sensor lost and regained. -/
theorem stallsFaultsAndLostSensor : Obligations.StallsFaultsAndLostSensor := by
  refine ⟨fun o s hrun => ?_, fun s hrun => ?_, fun s hrun => ?_, fun s hrun hread hstale => ?_, fun s hrun hno => ?_,
    fun s hrun hread hsus hconv hsome => ?_, fun tf s hrun hread hst hconv hsample hrange hf => ?_, fun code s hrun hn hread => ?_⟩
  · obtain ⟨v, hv⟩ : ∃ v, v = startEvent (.stall o) s := ⟨_, rfl⟩
    have hvfc : v.fc = s.fc := hv ▸ rfl
    have hvnow : now v = now s := hv ▸ rfl
    obtain ⟨t, hexec, l⟩ := exec_fridgeTo (i := .stall o) (u := fridgeStall v) hv hrun rfl rfl (.fridgeStall v)
    refine ⟨t, hexec, fun h => ?_, fun h1 h2 => ?_⟩
    · rw [fridgeStall_idle (hvfc ▸ h)] at l
      exact (l.same (by rw [hvfc])).trans hvfc
    · rw [fridgeStall_eq (hvfc ▸ h1) (hvfc ▸ h2), hvfc, hvnow] at l
      obtain ⟨w, hw⟩ : ∃ w, w = stalledAt (now s) v := ⟨_, rfl⟩
      have hwlog : (commandOff w).fc.stallLog = s.fc.stallLog ++ [now s] := by
        rw [entryKeeps_stallLog.commandOff w, hw, ← hvfc]
        rfl
      have hwdrive : (commandOff w).fc.drive = false := by rw [commandOff_fc]; rfl
      have hlen : (s.fc.stallLog ++ [now s]).length = s.fc.stallLog.length + 1 := by simp
      rw [← hw] at l
      by_cases h3 : 2 ≤ s.fc.stallLog.length
      · rw [if_pos h3] at l
        have b := fridgeIn_enter .fault id (commandOff w)
        have hl : FridgeLeaves s (fridgeNotice .fault (enterFridge .fault id (commandOff w))) t :=
          l.of_same rfl rfl fun i hi => List.mem_append_left _ hi
        have a := (b.posts .fault).leaves hl
        refine ⟨a.stallLog.trans hwlog, a.drive.trans hwdrive, a.asked, fun h => absurd h3 (not_le.mpr h), fun _ => ⟨a.state,
          l.handed _ (List.mem_append_right _ (List.mem_singleton_self _)), hl.handed _ ?_⟩⟩
        have hmem := mem_fridgeNotice .fault (congrArg FridgeUnit.state b.fc :) (congrArg FridgeUnit.stallLog b.fc :)
        rw [← hlen, ← hwlog]
        exact hmem
      · rw [if_neg h3] at l
        have b := fridgeIn_enter .stallWait (fun f => { f with phase := some (now s + 600) }) (commandOff w)
        have a := (b.posts .stall).leaves l
        refine ⟨a.stallLog.trans hwlog, a.drive.trans hwdrive, a.asked, fun _ => ⟨a.state, a.phase (by simp [fridgeEnters]),
          l.handed _ ?_⟩, fun h => absurd h h3⟩
        have hmem := mem_fridgeNotice .stall (congrArg FridgeUnit.state b.fc :) (congrArg FridgeUnit.stallLog b.fc :)
        rw [← hlen, ← hwlog]
        exact hmem
  · obtain ⟨t, hexec, l⟩ := exec_fridge (i := .stallLogExpiry) hrun rfl (moves_stallLogExpiry _)
    refine ⟨t, hexec, ?_⟩
    by_cases h : s.fc.state = .fault
    · have he : effect .stallLogExpiry (startEvent .stallLogExpiry s) = startEvent .stallLogExpiry s := if_pos h
      rw [he] at l
      rw [if_pos h]
      exact l.same rfl
    · have he : effect .stallLogExpiry (startEvent .stallLogExpiry s) = _ := if_neg h
      rw [he] at l
      rw [if_neg h]
      exact l.same rfl
  · obtain ⟨v, hv⟩ : ∃ v, v = startEvent .clearFault s := ⟨_, rfl⟩
    have hvfc : v.fc = s.fc := hv ▸ rfl
    have hvcfg : v.cfg = s.cfg := hv ▸ rfl
    have hvnow : now v = now s := hv ▸ rfl
    have he : effect .clearFault v = answer .ok [] (fridgeClearFault v) := rfl
    have hg : SameGate v (answer .ok [] (fridgeClearFault v)) := (SameGate.fridgeClearFault v).trans ⟨rfl, rfl, rfl⟩
    obtain ⟨t, hexec, la, hans⟩ := exec_fridgeAnswers hv hrun rfl he hg
    have l : FridgeLeaves s (fridgeClearFault v) t := la.of_same rfl rfl fun _ h => h
    obtain ⟨w, hw⟩ : ∃ w, w = withFc (fun f => { f with stallLog := [] }) v := ⟨_, rfl⟩
    have hwfc : w.fc = { s.fc with stallLog := [] } := by rw [hw, ← hvfc]; rfl
    have hwnow : now w = now s := by rw [hw, ← hvnow]; rfl
    have hwcfg : w.cfg = s.cfg := by rw [hw, ← hvcfg]; rfl
    have hwlog : w.fc.stallLog = [] := by rw [hwfc]
    refine ⟨t, hexec, hans, l.stallLog.trans ?_, fun h => ?_, fun h hen => ?_, fun h hen hlost hwait => ?_, fun h hen hread hwait => ?_⟩
    · by_cases h : v.fc.state = .fault
      · rw [fridgeClearFault_fault h, ← hw]
        split
        · exact (congrArg FridgeUnit.stallLog (fridgeIn_enter .off id w).fc :).trans hwlog
        · split
          · exact (entryKeeps_stallLog.toFallbackOff w).trans hwlog
          · exact (entryKeeps_stallLog.toWaitOff w).trans hwlog
      · rw [fridgeClearFault_stays h]
        rfl
    · rw [fridgeClearFault_stays (hvfc ▸ h), ← hw] at l
      exact (l.same (by rw [hwfc])).trans hwfc
    · rw [fridgeClearFault_fault (hvfc ▸ h), hvcfg, if_pos hen] at l
      exact ((fridgeIn_enter .off id _).leaves l).state
    · rw [fridgeClearFault_fault (hvfc ▸ h), hvcfg, if_neg (by simp [hen]), hvfc, if_pos hlost, ← hw] at l
      exact ((fridgeIn_toFallbackOff (s := w) (by rw [hwnow, hwfc]; exact hwait)).leaves l).state
    · rw [fridgeClearFault_fault (hvfc ▸ h), hvcfg, if_neg (by simp [hen]), hvfc, if_neg hread, ← hw] at l
      exact ((fridgeIn_toWaitOff (s := w) (by rw [hwnow, minOffEnd, hwfc, hwcfg]; exact hwait)).leaves l).state
  · obtain ⟨v, hv⟩ : ∃ v, v = startEvent .tfStaleExpiry s := ⟨_, rfl⟩
    have he : effect .tfStaleExpiry v = tfLost v := hv ▸ if_pos ⟨hread, hstale⟩
    obtain ⟨t, hexec, l⟩ := exec_fridgeTo hv hrun rfl he (.tfLost v)
    have a := tfLost_left ⟨hv ▸ rfl, hv ▸ rfl, hv ▸ ⟨rfl, rfl, rfl⟩⟩ l
    refine ⟨t, hexec, a.reading, a.rests, fun h => ?_, a.stays, a.notice⟩
    obtain ⟨h1, h2, -, h4⟩ := a.runs h
    exact ⟨h1, h2, h4⟩
  · have he : effect .tfStaleExpiry (startEvent .tfStaleExpiry s) = startEvent .tfStaleExpiry s := by
      refine if_neg fun h => ?_
      obtain h' | h' := hno
      · exact h' h.1
      · exact h' h.2
    obtain ⟨t, hexec, l⟩ := exec_fridgeTo rfl hrun rfl he (.refl _)
    exact ⟨t, hexec, l.same rfl⟩
  · have hnew : (markedEntry .tf true s).status = .suspect := by
      have hnot : ¬(isConverted s .tf = false ∨ ((chanOf s .tf).sample = none ∧ (chanOf s .tf).rangeMark = false)) := by
        rintro (h | ⟨h1, h2⟩)
        · exact absurd (hconv.symm.trans h) (by decide)
        · simp [h1, h2] at hsome
      rw [markedEntry_status, if_neg hnot, if_pos (.inr rfl)]
    obtain ⟨t, u, hexec, a, hst, -, l⟩ := exec_tfMark (mark := true) hrun hnew hsus
    rw [fridgeTf_loses hst (a.fc ▸ hread)] at l
    have b := tfLost_left a l
    exact ⟨t, hexec, b.reading, b.rests, b.runs, b.notice⟩
  · have hnew : (markedEntry .tf false s).status = .valid := by
      have hnot : ¬(isConverted s .tf = false ∨ ((chanOf s .tf).sample = none ∧ (chanOf s .tf).rangeMark = false)) := by
        rintro (h | ⟨h1, -⟩)
        · exact absurd (hconv.symm.trans h) (by decide)
        · simp [h1] at hsample
      rw [markedEntry_status, if_neg hnot, if_neg (by simp [hrange])]
    obtain ⟨t, u, hexec, a, hvalid, hfil, l⟩ := exec_tfMark (mark := false) hrun hnew hst
    rw [fridgeTf_returns hvalid (a.fc ▸ hread)] at l
    obtain ⟨hl, hnotice⟩ := tfRegained_notice none l a.cfg
    have b := tfReturned_left a (hfil.trans hf) hl
    exact ⟨t, hexec, b.reading, b.satisfied, b.resumes, b.idles, b.waits, hnotice⟩
  · obtain ⟨t, u, hexec, a, hvalid, hfil, l⟩ := exec_tfConversion hrun hn
    rw [fridgeTf_regains hvalid hfil (a.fc ▸ hread)] at l
    obtain ⟨hl, hnotice⟩ := tfRegained_notice (s := s) (some _) l a.cfg
    have x := a.regaining
    obtain ⟨w, hw⟩ : ∃ w, w = regaining u := ⟨_, rfl⟩
    rw [← hw] at x
    replace hl : FridgeLeaves s (tfRegainedState (some (filteredAt s .tf code)) w) t := hw ▸ hl
    have hon : energized w .compressor = energized s .compressor := x.gate.energized_eq x.drive
    have hread' : w.fc.reading = .reading := (congrArg FridgeUnit.reading x.fc :)
    refine ⟨t, hexec, hl.reading.trans ((SameUse.tfRegainedState _ w).reading.trans hread'), fun h hen hlow => ?_, fun h hen hup => ?_,
      fun h hwait => ?_, hnotice⟩
    · rw [tfRegainedState_resumes (x.state.trans h) (hon.trans hen) (by rw [x.lower]; exact hlow)] at hl
      have b := ((fridgeIn_resumeRun (filteredAt s .tf code) w).satisfying (filteredAt s .tf code)).leaves hl
      have hwanted : wantedSpeed w (filteredAt s .tf code) = speedAt (filteredAt s .tf code) s := by
        rw [wantedSpeed, x.used]
        rfl
      rw [hwanted, effectiveSpeed, x.cfg, x.fc] at b
      exact ⟨b.state, b.drive, b.wanted, b.effective, b.asked⟩
    · rw [tfRegainedState_idles (x.state.trans h) (hon.trans hen) (by rw [x.upper]; exact hup)] at hl
      have b := ((fridgeIn_toIdle (commandOff w)).satisfying (filteredAt s .tf code)).leaves hl
      rw [commandOff_fc] at b
      exact ⟨b.state, b.drive, b.asked⟩
    · rw [tfRegainedState_waits (x.state.trans h)] at hl
      have hend : minOffEnd (satisfying (filteredAt s .tf code) w) = s.fc.lastStop + 10 * s.cfg.fridgeSet.minOff := x.offEnd
      have hnow : now (satisfying (filteredAt s .tf code) w) = now s := x.gate.now
      have b := (fridgeIn_toWaitOff (s := satisfying (filteredAt s .tf code) w) (by rw [hnow, hend]; exact hwait)).leaves hl
      exact ⟨b.state, (b.phase (by simp [fridgeEnters])).trans (congrArg some hend)⟩

end Sys2Proof.Proofs
end

section
/-! PROOFS. The fridge's grants and its boost. -/

namespace Sys2Proof.Machine

-- One proof after another: started together they wait for one another, each on a thread of its own.
set_option Elab.async false

variable {s t u v : State} {tf : Int} {g : Nat}

/-! ### The fridge's grants (R97, R98, R102) -/

theorem speedDemand_one (d : Demands) : speedDemand d 1 = tget d.fridge 0 := by
  unfold speedDemand tget
  simp

/-- The fridge with its grant held. -/
def fridgeGranted (g : Nat) (s : State) : State := withFc (fun f => { f with grant := g }) s

theorem fridgeGrant_start (h : s.fc.state = .start) : fridgeGrant g s
    = if g = 0 ∧ (s.fc.phase.isSome ∨ s.fc.drive = false) then toWaitOff (commandOff (fridgeGranted g s)) else fridgeGranted g s := by
  have h' : (withFc (fun f => { f with grant := g }) s).fc.state = .start := h
  unfold fridgeGrant
  dsimp only
  rw [h']
  rfl

theorem fridgeGrant_run (h : s.fc.state = .run) : fridgeGrant g s
    = if g < tget s.cfg.demands.fridge 0 then toWaitOff (commandOff (fridgeGranted g s))
      else if s.fc.reading = .pending then fridgeGranted g s
      else withFc (fun f => { f with effective := effectiveSpeed (fridgeGranted g s) (s.fc.wanted.getD 1) }) (fridgeGranted g s) := by
  have h' : (withFc (fun f => { f with grant := g }) s).fc.state = .run := h
  rw [← speedDemand_one]
  unfold fridgeGrant
  dsimp only
  rw [h']
  rfl

theorem fridgeGrant_fallbackOn (h : s.fc.state = .fallbackOn) : fridgeGrant g s
    = if g = 0 ∧ (s.fc.switchOn.isSome ∨ s.fc.drive = false) then toFallbackOff (commandOff (fridgeGranted g s))
      else fridgeGranted g s := by
  have h' : (withFc (fun f => { f with grant := g }) s).fc.state = .fallbackOn := h
  unfold fridgeGrant
  dsimp only
  rw [h']
  rfl

theorem fridgeGrant_others (h1 : s.fc.state ≠ .start) (h2 : s.fc.state ≠ .run) (h3 : s.fc.state ≠ .fallbackOn) :
    fridgeGrant g s = fridgeGranted g s := by
  unfold fridgeGrant
  dsimp only
  split
  · contradiction
  · contradiction
  · contradiction
  · rfl

theorem SameGate.fridgeGrant (g : Nat) (s : State) : SameGate s (fridgeGrant g s) := by
  have hheld : SameGate s (fridgeGranted g s) := ⟨rfl, rfl, rfl⟩
  by_cases h1 : s.fc.state = .start
  · rw [fridgeGrant_start h1]
    split
    · exact (hheld.trans (.commandOff _)).trans (.toWaitOff _)
    · exact hheld
  by_cases h2 : s.fc.state = .run
  · rw [fridgeGrant_run h2]
    split
    · exact (hheld.trans (.commandOff _)).trans (.toWaitOff _)
    · split
      · exact hheld
      · exact hheld.trans ⟨rfl, rfl, rfl⟩
  by_cases h3 : s.fc.state = .fallbackOn
  · rw [fridgeGrant_fallbackOn h3]
    split
    · exact (hheld.trans (.commandOff _)).trans (.toFallbackOff _)
    · exact hheld
  · rw [fridgeGrant_others h1 h2 h3]
    exact hheld

theorem entryKeeps_grant : EntryKeeps (·.grant) := ⟨fun _ _ _ _ _ _ => rfl, fun _ _ _ => rfl⟩

theorem fridgeGrant_grant (g : Nat) (s : State) : (fridgeGrant g s).fc.grant = g := by
  have hstop : (toWaitOff (commandOff (fridgeGranted g s))).fc.grant = g :=
    (entryKeeps_grant.toWaitOff _).trans (entryKeeps_grant.commandOff _)
  by_cases h1 : s.fc.state = .start
  · rw [fridgeGrant_start h1]
    split
    · exact hstop
    · rfl
  by_cases h2 : s.fc.state = .run
  · rw [fridgeGrant_run h2]
    split
    · exact hstop
    · split <;> rfl
  by_cases h3 : s.fc.state = .fallbackOn
  · rw [fridgeGrant_fallbackOn h3]
    split
    · exact (entryKeeps_grant.toFallbackOff _).trans (entryKeeps_grant.commandOff _)
    · rfl
  · rw [fridgeGrant_others h1 h2 h3]
    rfl

/-- The compressor's last stop, were it commanded off now. -/
abbrev stopTime (s : State) : Nat := if energized s .compressor then now s else s.fc.lastStop

/-- A grant stops the compressor into WAIT_OFF. -/
theorem grantStops_left (hw : SameGate s v) (hfc : v.fc = { s.fc with grant := g }) (hcfg : v.cfg = s.cfg)
    (hwait : now s < stopTime s + 10 * s.cfg.fridgeSet.minOff) (l : FridgeLeaves s (toWaitOff (commandOff v)) t) :
    t.fc.state = .waitOff ∧ t.fc.drive = false ∧ t.fc.lastStop = stopTime s
      ∧ t.fc.phase = some (stopTime s + 10 * s.cfg.fridgeSet.minOff) ∧ tget t.asked (consIx .fridge) = none := by
  have hon : energized v .compressor = energized s .compressor := hw.energized_eq (by rw [hfc])
  have hstop : (if energized v .compressor then now v else v.fc.lastStop) = stopTime s := by rw [hon, hw.now, hfc]
  have b := (fridgeIn_stops (s := v) (by rw [hstop, hw.now, hcfg]; exact hwait)).leaves l
  rw [hon, hw.now, hcfg, hfc] at b
  refine ⟨b.state, b.drive, b.lastStop.trans ?_, b.phase (by simp [fridgeEnters]), b.asked⟩
  show (if energized s .compressor = true ∧ false = false then now s else stopTime s) = stopTime s
  cases h : energized s .compressor <;> simp [stopTime, h]

/-- A conversion in RUN above the lower threshold, the reading back from PENDING. -/
theorem speedReturns_left (a : FridgeFinds s u) (hst : s.fc.state = .run)
    (hlow : lowerThreshold s < tf) (l : FridgeLeaves s (thermostat tf (speedReturns (usingNow u))) t) :
    t.fc.reading = .reading ∧ t.fc.state = .run ∧ t.fc.wanted = some (speedAt tf s)
      ∧ t.fc.effective = someSpeed (speedWithin s.cfg.demands.fridge.toList (speedAt tf s) s.fc.grant) := by
  have x := a.using
  obtain ⟨w, hw⟩ : ∃ w, w = usingNow u := ⟨_, rfl⟩
  rw [← hw] at x l
  have hspeeds : ∀ n, effectiveSpeed w n = effectiveSpeed s n := fun n => by rw [effectiveSpeed, x.cfg, x.fc, effectiveSpeed]
  have hheld : w.fc.wanted = s.fc.wanted := (congrArg FridgeUnit.wanted x.fc :)
  obtain ⟨y, hy⟩ : ∃ y, y = satisfying tf (speedReturns w) := ⟨_, rfl⟩
  have hreturns : speedReturns w = withFc (fun f => { f with effective := effectiveSpeed s (s.fc.wanted.getD 1) }) w := by
    unfold speedReturns
    rw [if_pos (x.state.trans hst), hspeeds, hheld]
  have hyfc : y.fc = { s.fc with
      used := useNow s, reading := .reading, effective := effectiveSpeed s (s.fc.wanted.getD 1)
      satisfied := decide (tf ≤ lowerThreshold s) } := by
    rw [hy, hreturns, ← x.lower]
    show { w.fc with effective := effectiveSpeed s (s.fc.wanted.getD 1), satisfied := decide (tf ≤ usedLower w.fc.used) } = _
    rw [x.fc]
  have hrun : (speedReturns w).fc.state = .run := hreturns ▸ x.state.trans hst
  have hlower : usedLower (speedReturns w).fc.used = lowerThreshold s := hreturns ▸ x.lower
  rw [thermostat_run hrun, hlower, if_neg (fun h => absurd h.1 (not_le.mpr hlow)), ← hy] at l
  have hwanted : wantedSpeed y tf = speedAt tf s := by rw [wantedSpeed, hyfc]; rfl
  have hycfg : y.cfg = s.cfg := by rw [hy, hreturns, ← x.cfg]; rfl
  have hfc := updateWanted_fc tf y
  rw [hwanted, effectiveSpeed, hycfg, hyfc] at hfc
  refine ⟨l.reading.trans (congrArg FridgeUnit.reading hfc :), l.state.trans ((congrArg FridgeUnit.state hfc :).trans hst),
    l.wanted.trans (congrArg FridgeUnit.wanted hfc :), l.effective.trans ((congrArg FridgeUnit.effective hfc :).trans ?_)⟩
  by_cases h : s.fc.wanted = some (speedAt tf s)
  · exact (if_pos h).trans (by rw [h]; rfl)
  · exact (if_neg h).trans (if_pos hst)

end Sys2Proof.Machine

namespace Sys2Proof.Proofs

open Sys2Proof Sys2Proof.Machine

/-- Settles O41: what a grant does in each state of the fridge, and its boost. -/
theorem fridgeTakesGrantsAndBoost : Obligations.FridgeTakesGrantsAndBoost := by
  refine ⟨fun g st s hrun => ?_, fun on s hrun => ?_, fun s hrun e he => ?_, fun code s hrun hn hread hst hlow => ?_⟩
  · obtain ⟨v, hv⟩ : ∃ v, v = startEvent (.fridgeGrantReport g st) s := ⟨_, rfl⟩
    have hvfc : v.fc = s.fc := hv ▸ rfl
    have hvcfg : v.cfg = s.cfg := hv ▸ rfl
    obtain ⟨w, hw⟩ : ∃ w, w = fridgeGranted g v := ⟨_, rfl⟩
    have hwfc : w.fc = { s.fc with grant := g } := by rw [hw, ← hvfc]; rfl
    have hwcfg : w.cfg = s.cfg := by rw [hw, ← hvcfg]; rfl
    have hwgate : SameGate s w := by rw [hw, hv]; exact ⟨rfl, rfl, rfl⟩
    have hsame : ∀ {t}, FridgeLeaves s w t → t.fc = { s.fc with grant := g } := fun l => (l.same (by rw [hwfc])).trans hwfc
    obtain ⟨t, hexec, l⟩ := exec_fridgeTo (i := .fridgeGrantReport g st) (u := fridgeGrant g v) hv hrun rfl rfl (.fridgeGrant g v)
    have hstart : s.fc.state = .start → fridgeGrant g v = if g = 0 ∧ (s.fc.phase.isSome ∨ s.fc.drive = false)
        then toWaitOff (commandOff w) else w := fun h => by rw [fridgeGrant_start (hvfc ▸ h), hvfc, hw]
    have hon : s.fc.state = .run → fridgeGrant g v = if g < tget s.cfg.demands.fridge 0 then toWaitOff (commandOff w)
        else if s.fc.reading = .pending then w
        else withFc (fun f => { f with effective := effectiveSpeed w (s.fc.wanted.getD 1) }) w :=
      fun h => by rw [fridgeGrant_run (hvfc ▸ h), hvfc, hvcfg, hw]
    have hfall : s.fc.state = .fallbackOn → fridgeGrant g v = if g = 0 ∧ (s.fc.switchOn.isSome ∨ s.fc.drive = false)
        then toFallbackOff (commandOff w) else w := fun h => by rw [fridgeGrant_fallbackOn (hvfc ▸ h), hvfc, hw]
    have hothers : s.fc.state ≠ .start → s.fc.state ≠ .run → s.fc.state ≠ .fallbackOn → fridgeGrant g v = w :=
      fun h1 h2 h3 => by rw [fridgeGrant_others (hvfc ▸ h1) (hvfc ▸ h2) (hvfc ▸ h3), hw]
    refine ⟨t, hexec, l.grant.trans (fridgeGrant_grant g v), ?_, ?_, ?_, ?_, ?_, ?_, ?_⟩
    · rintro (⟨h1, h2, h3⟩ | ⟨h1, h2⟩) hwait
      · rw [hstart h1, if_pos ⟨h3, h2⟩] at l
        exact grantStops_left hwgate hwfc hwcfg hwait l
      · rw [hon h1, if_pos h2] at l
        exact grantStops_left hwgate hwfc hwcfg hwait l
    · intro h1 h2 h3
      rw [hon h1, if_neg (not_lt.mpr h2), if_pos h3] at l
      exact hsame l
    · intro h1 h2 h3 n hn
      have hspeed : effectiveSpeed w n = someSpeed (speedWithin s.cfg.demands.fridge.toList n g) := by rw [effectiveSpeed, hwcfg, hwfc]
      rw [hon h1, if_neg (not_lt.mpr h2), if_neg h3, hn, Option.getD_some, hspeed] at l
      have hfc : (withFc (fun f => { f with effective := someSpeed (speedWithin s.cfg.demands.fridge.toList n g) }) w).fc
          = { s.fc with grant := g, effective := someSpeed (speedWithin s.cfg.demands.fridge.toList n g) } := by
        show { w.fc with effective := someSpeed (speedWithin s.cfg.demands.fridge.toList n g) } = _
        rw [hwfc]
      exact (l.same (by rw [hfc])).trans hfc
    · intro h1 h2 h3 hwait
      rw [hfall h1, if_pos ⟨h2, h3⟩] at l
      have hrise : energized w .compressor = energized s .compressor := hwgate.energized_eq (by rw [hwfc])
      have hstop : (if energized w .compressor then now w else w.fc.lastStop) = stopTime s := by rw [hrise, hwgate.now, hwfc]
      have b := (fridgeIn_stopsFallback (s := w) (by rw [hstop, hwgate.now]; exact hwait)).leaves l
      exact ⟨b.state, b.drive, (b.phase (by simp [fridgeEnters])).trans (congrArg (fun n => some (n + 12000)) hstop)⟩
    · rintro (⟨h1, h2⟩ | ⟨h1, h2⟩) rfl hd
      · rw [hstart h1, if_neg (by simp [h2, hd])] at l
        exact hsame l
      · rw [hfall h1, if_neg (by simp [h2, hd])] at l
        exact hsame l
    · intro h1 h2 h3
      rw [hothers h1 h2 h3] at l
      exact hsame l
    · intro h1 h2
      by_cases h3 : s.fc.state = .start
      · rw [hstart h3, if_neg (by omega)] at l
        exact hsame l
      by_cases h4 : s.fc.state = .fallbackOn
      · rw [hfall h4, if_neg (by omega)] at l
        exact hsame l
      · rw [hothers h3 h2 h4] at l
        exact hsame l
  · obtain ⟨v, hv⟩ : ∃ v, v = startEvent (.fridgeBoost on) s := ⟨_, rfl⟩
    have hvfc : v.fc = s.fc := hv ▸ rfl
    have hvcfg : v.cfg = s.cfg := hv ▸ rfl
    have hvsu : v.su = s.su := hv ▸ rfl
    have hstart : boostStart v = if s.cfg.fridgeSet.enable
        then (withFc (fun f => { f with boostEnd := some (s.su.elapsed + 3600) }) v, .ok) else (v, .state) := by
      rw [boostStart, hvcfg, hvsu]
    cases on
    · obtain ⟨t, hexec, l, hans⟩ := exec_fridgeAnswers (i := .fridgeBoost false) (u := answer .ok [] (boostStop v)) hv hrun rfl rfl ⟨rfl, rfl, rfl⟩
      exact ⟨t, hexec, hans, (l.same (congrArg FridgeUnit.drive hvfc :)).trans (hvfc ▸ rfl)⟩
    · have he : effect (.fridgeBoost true) v = answer (boostStart v).2 [] (boostStart v).1 := rfl
      rw [hstart] at he
      cases hen : s.cfg.fridgeSet.enable
      · rw [hen, if_neg (by decide)] at he
        obtain ⟨t, hexec, l, hans⟩ := exec_fridgeAnswers hv hrun rfl he ⟨rfl, rfl, rfl⟩
        exact ⟨t, hexec, hans, (l.same (congrArg FridgeUnit.drive hvfc :)).trans hvfc⟩
      · rw [hen, if_pos rfl] at he
        obtain ⟨t, hexec, l, hans⟩ := exec_fridgeAnswers hv hrun rfl he ⟨rfl, rfl, rfl⟩
        exact ⟨t, hexec, hans, (l.same (congrArg FridgeUnit.drive hvfc :)).trans (hvfc ▸ rfl)⟩
  · obtain ⟨v, hv⟩ : ∃ v, v = startEvent .boostEnd s := ⟨_, rfl⟩
    have hvfc : v.fc = s.fc := hv ▸ rfl
    have hvsu : v.su = s.su := hv ▸ rfl
    have he' : effect .boostEnd v = if e ≤ s.su.elapsed then boostStop v else v := by
      show boostOver v = _
      rw [boostOver, hvfc, he, hvsu]
    by_cases hdue : e ≤ s.su.elapsed
    · rw [if_pos hdue] at he'
      obtain ⟨t, hexec, l⟩ := exec_fridgeTo hv hrun rfl he' ⟨rfl, rfl, rfl⟩
      refine ⟨t, hexec, ?_⟩
      rw [if_pos hdue]
      exact (l.same (congrArg FridgeUnit.drive hvfc :)).trans (hvfc ▸ rfl)
    · rw [if_neg hdue] at he'
      obtain ⟨t, hexec, l⟩ := exec_fridgeTo hv hrun rfl he' (.refl v)
      refine ⟨t, hexec, ?_⟩
      rw [if_neg hdue]
      exact (l.same (congrArg FridgeUnit.drive hvfc :)).trans hvfc
  · obtain ⟨t, u, hexec, a, hvalid, hf, l⟩ := exec_tfConversion hrun hn
    rw [fridgeTf_pending hvalid hf (a.fc ▸ hread)] at l
    exact ⟨t, hexec, speedReturns_left a hst hlow l⟩

end Sys2Proof.Proofs
end

section
/-! PROOFS. What a pass leaves in the table, and the wake it may cause. -/

namespace Sys2Proof.Machine

-- One proof after another: started together they wait for one another, each on a thread of its own.
set_option Elab.async false

variable {s t u v : State} {c d : Consumer}

/-! ### The entries after a pass (R52, R53) -/

/-- A consumer's entry as a pass on `s` leaves it. -/
def passedEntry (s : State) (c : Consumer) : ConsumerEntry := { entryOf s c with
  grant := tget (passShare s).grants (consIx c)
  state := stateAfterPass (tget s.cfg.masks (consIx c)) (entryOf s c) (tget (passShare s).grants (consIx c)) }

theorem concludeOne_entry (sh : Share) (s : State) (c d : Consumer) : entryOf (concludeOne sh s c) d = if c = d then
    { entryOf s c with
      grant := tget sh.grants (consIx c)
      state := stateAfterPass (tget s.cfg.masks (consIx c)) (entryOf s c) (tget sh.grants (consIx c)) } else entryOf s d := by
  have h := entryOf_withEntry c d (fun e => { e with
    grant := tget sh.grants (consIx c)
    state := stateAfterPass (tget s.cfg.masks (consIx c)) (entryOf s c) (tget sh.grants (consIx c)) }) s
  unfold concludeOne
  dsimp only
  split
  · exact h
  · split
    · exact h
    · exact h

theorem concludeOne_cfg (sh : Share) (s : State) (c : Consumer) : (concludeOne sh s c).cfg = s.cfg := by
  obtain ⟨st, h, e⟩ := concludeOne_eq sh s c
  rw [e]

theorem foldl_concludeOne_entry {sh : Share} {cs : List Consumer} (hcs : cs.Nodup) (s : State) (d : Consumer) :
    entryOf (cs.foldl (concludeOne sh) s) d = if d ∈ cs then { entryOf s d with
      grant := tget sh.grants (consIx d)
      state := stateAfterPass (tget s.cfg.masks (consIx d)) (entryOf s d) (tget sh.grants (consIx d)) } else entryOf s d := by
  induction cs generalizing s with
  | nil => simp
  | cons c cs ih =>
    obtain ⟨hc, hcs⟩ := List.nodup_cons.1 hcs
    rw [List.foldl_cons, ih hcs, concludeOne_cfg, concludeOne_entry]
    by_cases h : c = d
    · subst h
      rw [if_neg hc, if_pos rfl, if_pos List.mem_cons_self]
    · rw [if_neg h]
      exact if_congr (by simp [Ne.symm h]) rfl rfl

theorem entryOf_passTable (s : State) (c : Consumer) : entryOf (passTable s) c = passedEntry s c := by
  have h := foldl_concludeOne_entry (sh := passShare s) (cs := allConsumers) (by decide) s c
  rw [if_pos (mem_allConsumers c)] at h
  rw [passTable_fold]
  generalize allConsumers.foldl (concludeOne (passShare s)) s = x at h
  exact h

/-- A changed grant or state is reported to the consumer's owner (R54). -/
theorem mem_foldl_concludeOne {sh : Share} {cs : List Consumer} (hcs : cs.Nodup) {i : Instr} (hc : c ∈ cs)
    (hchanged : (entryOf s c).grant ≠ tget sh.grants (consIx c)
      ∨ (entryOf s c).state ≠ stateAfterPass (tget s.cfg.masks (consIx c)) (entryOf s c) (tget sh.grants (consIx c)))
    (hi : grantReport c (tget sh.grants (consIx c))
      (stateAfterPass (tget s.cfg.masks (consIx c)) (entryOf s c) (tget sh.grants (consIx c))) = some i) :
    i ∈ (cs.foldl (concludeOne sh) s).handed := by
  induction cs generalizing s with
  | nil => exact absurd hc (by simp)
  | cons d cs ih =>
    obtain ⟨hd, hcs⟩ := List.nodup_cons.1 hcs
    rw [List.foldl_cons]
    by_cases h : d = c
    · subst h
      have hnow : i ∈ (concludeOne sh s d).handed := by
        unfold concludeOne
        dsimp only
        rw [if_neg (by tauto), hi]
        exact List.mem_append_right _ (List.mem_singleton_self _)
      obtain ⟨w, l, e⟩ := (foldl_concludeOne_passStep sh cs (concludeOne sh s d)).eq
      rw [e]
      exact List.mem_append_left _ hnow
    · have hentry : entryOf (concludeOne sh s d) c = entryOf s c := by rw [concludeOne_entry, if_neg h]
      refine ih hcs (List.mem_of_ne_of_mem (Ne.symm h) hc) ?_ ?_
      · rw [hentry, concludeOne_cfg]
        exact hchanged
      · rw [hentry, concludeOne_cfg]
        exact hi

theorem mem_passTable_handed {i : Instr} (h : (passedEntry s c).grant ≠ (entryOf s c).grant ∨ (passedEntry s c).state ≠ (entryOf s c).state)
    (hi : grantReport c (passedEntry s c).grant (passedEntry s c).state = some i) : i ∈ (passTable s).handed := by
  have hmem := mem_foldl_concludeOne (sh := passShare s) (cs := allConsumers) (by decide) (mem_allConsumers c)
    (h.imp Ne.symm Ne.symm) hi
  rw [passTable_fold]
  generalize allConsumers.foldl (concludeOne (passShare s)) s = x at hmem
  exact hmem

theorem passTable_passes (s : State) : (passTable s).ga.passes = (s.ga.passes + 1) % 65536 := by
  obtain ⟨v, h, e⟩ := passTable_eq s
  rw [e]

/-! ### The wake with no CHIME held (R163, R189) -/

/-- The areas of a wake that takes nothing for PANEL. -/
def quietWakeAreas : List Area := [.setpoint, .hc, .asked, .mc, .lc, .pn, .fc, .su, .skip, .chan]

theorem panelBefore_eq {k : Fin 8} (h : holdsChime s k = false) : panelBefore s k = s := if_neg (by simp [h])

theorem holdsChime_congr {k : Fin 8} (h : slotOf t k = slotOf s k) : holdsChime t k = holdsChime s k := by
  unfold holdsChime
  rw [h]

/-- With no CHIME held the held entries fire as any others do. -/
theorem fireHeld_eq_fireAll (h : ∀ k ∈ dueSlots s, holdsChime s k = false) : fireHeld s = fireAll s := by
  have hfold : ∀ (ks : List (Fin 8)) (s : State), ks.Nodup → (∀ k ∈ ks, holdsChime s k = false) →
      ks.foldl (fun s k => fireEntry (panelBefore s k) k) s = ks.foldl fireEntry s := by
    intro ks
    induction ks with
    | nil => exact fun _ _ _ => rfl
    | cons k ks ih =>
      intro s hnodup hheld
      obtain ⟨hk, hks⟩ := List.nodup_cons.1 hnodup
      rw [List.foldl_cons, List.foldl_cons, panelBefore_eq (hheld k List.mem_cons_self)]
      refine ih _ hks fun j hj => ?_
      have hother := (fires_fireEntry s k).other j (by simpa using fun e : j = k => hk (e ▸ hj))
      exact (holdsChime_congr hother).trans (hheld j (List.mem_cons_of_mem _ hj))
  exact hfold _ s (dueSlots_nodup s) h

theorem moves_wakeQuiet (hmode : s.mc.mode = .standby) (hchime : ∀ k ∈ dueSlots s, holdsChime s k = false) :
    Moves quietWakeAreas s (wakeStandby s) := by
  have hlink : Moves [.skip, .mc, .chan, .pn, .asked] s { s with lk := { s.lk with rx := .skip } } :=
    .of_move (.skips s (by decide))
  have h1 := hlink.trans (Moves.mono (moves_wakeChannels (s := { s with lk := { s.lk with rx := .skip } }) hmode))
  have h2 := h1.trans (Moves.mono (moves_wakePanel _))
  obtain ⟨x, hx⟩ : ∃ x, x = ask .panel (some (panelRequest (ownerEvent [20] (withPn fun u => { u with standby := false })
      (ownerEvent [8] wakeChannels (enterAwake { s with lk := { s.lk with rx := .skip } }))).cfg.demands))
      (ownerEvent [20] (withPn fun u => { u with standby := false })
        (ownerEvent [8] wakeChannels (enterAwake { s with lk := { s.lk with rx := .skip } }))) := ⟨_, rfl⟩
  have hx' : Moves [.skip, .mc, .chan, .pn, .asked] s x := hx ▸ h2
  have hsu : x.su = s.su := hx'.su_eq
  have hheld : fireHeld x = fireAll x := by
    refine fireHeld_eq_fireAll fun k hk => ?_
    rw [dueSlots_congr hsu] at hk
    exact (holdsChime_congr (congrArg (fun u : ScheduleUnit => tget u.slots k) hsu)).trans (hchime k hk)
  have hfire : Moves quietWakeAreas x (ownerEvent [25] fireHeld x) :=
    moves_ownerEvent [25] (by decide) (hheld ▸ (moves_fireAll x).mono)
  have hwake : wakeStandby s = ownerEvent [25] fireHeld x := by rw [hx]; rfl
  rw [hwake]
  exact hx'.mono.trans hfire

theorem noChimeHeld_due (h : noChimeHeld s) (hmode : s.mc.mode = .standby) : ∀ k ∈ dueSlots s, holdsChime s k = false :=
  fun k hk => h hmode k (by fin_cases k <;> decide) ((mem_dueSlots s k).1 hk)

/-! ### The pass with the wake it may cause (R49, R189) -/

/-- What a pass that finds no CHIME held leaves. -/
structure Passed (s t : State) : Prop where
  ga : t.ga = (passTable s).ga
  handed : ∀ i ∈ (passTable s).handed, i ∈ t.handed

/-- The wake that follows a pass, where it is one (R49). -/
def wokenByPass (s0 x : State) : State :=
  if x.mc.mode = .standby ∧ anyLoadGranted x then wakeStandby (advance allRecords s0 x) else x

theorem pass_eq (s0 s : State) : pass s0 s = wokenByPass s0 (passTable s) := rfl

theorem wokenByPass_quiet {s0 x : State} (hmode : x.mc.mode = s0.mc.mode) (hsu : x.su = s0.su) (h : noChimeHeld s0) :
    (wokenByPass s0 x).ga = x.ga ∧ ∀ i ∈ x.handed, i ∈ (wokenByPass s0 x).handed := by
  unfold wokenByPass
  split
  · rename_i hwake
    obtain ⟨v, hv⟩ : ∃ v, advance allRecords s0 x = { x with rev := v } := ⟨_, rfl⟩
    rw [hv]
    obtain ⟨y, hyga, hysu, hymode, hyhanded, hy⟩ : ∃ y : State, y.ga = x.ga ∧ y.su = x.su ∧ y.mc = x.mc ∧ y.handed = x.handed
        ∧ y = { x with rev := v } := ⟨{ x with rev := v }, rfl, rfl, rfl, rfl, rfl⟩
    replace hysu := hysu.trans hsu
    have hmoves : Moves quietWakeAreas y (wakeStandby y) := by
      refine moves_wakeQuiet (hymode ▸ hwake.1) fun k hk => ?_
      rw [dueSlots_congr hysu] at hk
      exact (holdsChime_congr (congrArg (fun u : ScheduleUnit => tget u.slots k) hysu)).trans
        (noChimeHeld_due h (hmode.symm.trans hwake.1) k hk)
    rw [← hy]
    exact ⟨hmoves.ga_eq.trans hyga, fun i hi => (hmoves.handed_behind (by decide)).mem (hyhanded.symm ▸ hi)⟩
  · exact ⟨rfl, fun _ h => h⟩

theorem passed_pass {s0 : State} (hmode : s.mc.mode = s0.mc.mode) (hsu : s.su = s0.su) (h : noChimeHeld s0) : Passed s (pass s0 s) := by
  have hx : (passTable s).mc.mode = s0.mc.mode := by rw [passTable_mc, hmode]
  have hxsu : (passTable s).su = s0.su := by rw [passTable_su, hsu]
  obtain ⟨hga, hhanded⟩ := wokenByPass_quiet hx hxsu h
  rw [pass_eq]
  exact ⟨hga, hhanded⟩

end Sys2Proof.Machine
end

section
/-! PROOFS. The rounds of a pass: what each candidate is granted, and in which order (R50 to R52). -/

namespace Sys2Proof.Machine

-- One proof after another: started together they wait for one another, each on a thread of its own.
set_option Elab.async false

variable {s t : State} {sh : Share} {c d : Consumer} {q : Request}

/-! ### Requests and offers (R44, R52) -/

/-- What the rounds use of a well-formed request. -/
structure RequestFits (r : Request) : Prop where
  pos : 1 ≤ r.dmin
  le : r.dmin ≤ r.d
  min_mem : ∀ xs, r.steps = some xs → r.dmin ∈ xs
  max_mem : ∀ xs, r.steps = some xs → r.d ∈ xs

theorem requestFits_of_ok (h : q.ok = true) : RequestFits q := by
  unfold Request.ok at h
  simp only [Bool.and_eq_true, decide_eq_true_eq] at h
  obtain ⟨⟨⟨⟨-, -⟩, hpos⟩, hle⟩, hsteps⟩ := h
  have hmem : ∀ xs, q.steps = some xs → q.dmin ∈ xs ∧ q.d ∈ xs := by
    intro xs hxs
    rw [hxs] at hsteps
    simp only [Bool.and_eq_true, beq_iff_eq] at hsteps
    exact ⟨List.mem_of_mem_head? hsteps.1.2, List.mem_of_getLast? hsteps.2⟩
  exact ⟨hpos, hle, fun xs h => (hmem xs h).1, fun xs h => (hmem xs h).2⟩

theorem le_foldl_max (xs : List Nat) (a : Nat) : a ≤ xs.foldl max a := by
  induction xs generalizing a with
  | nil => exact le_rfl
  | cons x xs ih => exact (le_max_left a x).trans (ih _)

theorem le_foldl_max_of_mem {xs : List Nat} {x : Nat} (a : Nat) (hx : x ∈ xs) : x ≤ xs.foldl max a := by
  induction xs generalizing a with
  | nil => exact absurd hx (by simp)
  | cons y xs ih =>
    obtain rfl | hx := List.mem_cons.1 hx
    · exact (le_max_right a x).trans (le_foldl_max xs _)
    · exact ih _ hx

theorem foldl_max_mem (xs : List Nat) (a : Nat) : xs.foldl max a = a ∨ xs.foldl max a ∈ xs := by
  induction xs generalizing a with
  | nil => exact .inl rfl
  | cons x xs ih =>
    obtain h | h := ih (max a x)
    · rw [List.foldl_cons, h]
      obtain e | e := max_choice a x
      · exact .inl e
      · exact .inr (by simp [e])
    · exact .inr (List.mem_cons_of_mem _ h)

/-- What a candidate may hold between the rounds: nothing, or an amount that its request admits. -/
def admits (q : Request) (g : Nat) : Prop := q.dmin ≤ g ∧ g ≤ q.d ∧ ∀ xs, q.steps = some xs → g ∈ xs

theorem admits_dmin (f : RequestFits q) : admits q q.dmin := ⟨le_rfl, f.le, f.min_mem⟩

theorem takeOffer_admits {g left : Nat} (h : admits q g) : admits q (takeOffer q g (min q.d (g + left))) := by
  obtain ⟨hlo, hhi, hmem⟩ := h
  unfold takeOffer
  split
  · rename_i hnone
    exact ⟨by omega, by omega, fun xs hxs => absurd (hnone.symm.trans hxs) (by simp)⟩
  · rename_i xs hxs
    obtain e | e := foldl_max_mem (xs.filter fun x => decide (x ≤ min q.d (g + left))) g
    · rw [e]
      exact ⟨hlo, hhi, hmem⟩
    · have hge := le_foldl_max (xs.filter fun x => decide (x ≤ min q.d (g + left))) g
      obtain ⟨hin, hle⟩ := List.mem_filter.1 e
      rw [decide_eq_true_eq] at hle
      refine ⟨hlo.trans hge, hle.trans (min_le_left _ _), fun ys hys => ?_⟩
      rw [hxs, Option.some.injEq] at hys
      exact hys ▸ hin

theorem le_takeOffer {g left : Nat} (h : g ≤ q.d) : g ≤ takeOffer q g (min q.d (g + left)) := by
  unfold takeOffer
  split
  · omega
  · exact le_foldl_max _ g

/-- An offer of the whole demand is taken whole. -/
theorem takeOffer_whole (f : RequestFits q) {g left : Nat} (h : g ≤ q.d) (hleft : q.d - g ≤ left) :
    takeOffer q g (min q.d (g + left)) = q.d := by
  have hoffer : min q.d (g + left) = q.d := by omega
  have hle := takeOffer_le q g q.d
  rw [hoffer]
  refine le_antisymm (hle.trans (max_le h le_rfl)) ?_
  unfold takeOffer
  split
  · exact le_rfl
  · rename_i xs hxs
    exact le_foldl_max_of_mem g (List.mem_filter.2 ⟨f.max_mem xs hxs, by simp⟩)

/-- With nothing left nothing is taken. -/
theorem takeOffer_none {g : Nat} (h : g ≤ q.d) : takeOffer q g (min q.d (g + 0)) = g := by
  have hoffer : min q.d (g + 0) = g := by omega
  have hle := takeOffer_le q g g
  have hge := le_takeOffer (left := 0) h
  rw [hoffer] at hge ⊢
  omega

/-! ### One consumer in a round -/

theorem tget_tset_consIx (v : Vector Nat 8) (c d : Consumer) (n : Nat) :
    tget (tset v (consIx c) n) (consIx d) = if c = d then n else tget v (consIx d) := by
  rw [tget_tset]
  by_cases h : c = d
  · rw [if_pos h, if_pos (congrArg consIx h)]
  · rw [if_neg h, if_neg fun e => h (consIx_inj e)]

theorem floorStep_other (h : c ≠ d) : tget (floorStep s sh c).grants (consIx d) = tget sh.grants (consIx d) := by
  unfold floorStep
  split
  · split
    · exact (tget_tset_consIx _ _ _ _).trans (if_neg h)
    · rfl
  · rfl

theorem floorStep_served (hq : candidate s c = some q) (h : q.dmin ≤ sh.left) : floorStep s sh c = ⟨tset sh.grants (consIx c) q.dmin, sh.left - q.dmin⟩ := by
  unfold floorStep
  rw [hq]
  exact if_pos h

theorem floorStep_passed (hq : candidate s c = some q) (h : sh.left < q.dmin) : floorStep s sh c = sh := by
  unfold floorStep
  rw [hq]
  exact if_neg (not_le.mpr h)

theorem floorStep_none (hq : candidate s c = none) : floorStep s sh c = sh := by
  unfold floorStep
  rw [hq]

/-- What a candidate's request asks for, 0 for another. -/
def candidateOwes (s : State) (amount : Request → Nat) (c : Consumer) : Nat :=
  match candidate s c with
  | some q => amount q
  | none => 0

theorem candidateOwes_some (hq : candidate s c = some q) (amount : Request → Nat) : candidateOwes s amount c = amount q := by
  unfold candidateOwes
  rw [hq]

theorem floorStep_left (s : State) (sh : Share) (c : Consumer) :
    (floorStep s sh c).left ≤ sh.left ∧ sh.left ≤ (floorStep s sh c).left + candidateOwes s (·.dmin) c := by
  cases hq : candidate s c with
  | none =>
    rw [floorStep_none hq]
    omega
  | some q =>
    rw [candidateOwes_some hq]
    by_cases h : q.dmin ≤ sh.left
    · rw [floorStep_served hq h]
      dsimp only
      omega
    · rw [floorStep_passed hq (not_le.mp h)]
      omega

theorem topUpStep_other (h : c ≠ d) : tget (topUpStep s sh c).grants (consIx d) = tget sh.grants (consIx d) := by
  unfold topUpStep
  split
  · dsimp only
    split
    · rfl
    · exact (tget_tset_consIx _ _ _ _).trans (if_neg h)
  · rfl

theorem topUpStep_empty (h : tget sh.grants (consIx c) = 0) : topUpStep s sh c = sh := by
  unfold topUpStep
  split
  · exact if_pos h
  · rfl

theorem topUpStep_none (hq : candidate s c = none) : topUpStep s sh c = sh := by
  unfold topUpStep
  rw [hq]

/-- What a served candidate holds once it has been offered what is left. -/
def toppedUp (q : Request) (g left : Nat) : Nat := takeOffer q g (min q.d (g + left))

theorem topUpStep_served (hq : candidate s c = some q) (h : tget sh.grants (consIx c) ≠ 0) : topUpStep s sh c =
    ⟨tset sh.grants (consIx c) (toppedUp q (tget sh.grants (consIx c)) sh.left),
      sh.left - (toppedUp q (tget sh.grants (consIx c)) sh.left - tget sh.grants (consIx c))⟩ := by
  unfold topUpStep toppedUp
  rw [hq]
  exact if_neg h

/-! ### A whole round -/

section Fold

variable {f : Share → Consumer → Share}

/-- A round leaves the grants of those it does not come to. -/
theorem foldl_grant_other (hf : ∀ sh c d, c ≠ d → tget (f sh c).grants (consIx d) = tget sh.grants (consIx d)) {cs : List Consumer}
    (hd : d ∉ cs) (sh : Share) : tget (cs.foldl f sh).grants (consIx d) = tget sh.grants (consIx d) := by
  induction cs generalizing sh with
  | nil => rfl
  | cons c cs ih =>
    rw [List.mem_cons, not_or] at hd
    exact (ih hd.2 _).trans (hf sh c d (Ne.symm hd.1))

theorem foldl_keeps {P : Share → Prop} (hf : ∀ sh c, P sh → P (f sh c)) (cs : List Consumer) (h : P sh) : P (cs.foldl f sh) := by
  induction cs generalizing sh with
  | nil => exact h
  | cons c cs ih => exact ih (hf sh c h)

/-- What each consumer takes of what is left adds up. -/
theorem foldl_left {P : Share → Prop} (hf : ∀ sh c, P sh → P (f sh c)) (owes : Consumer → Nat)
    (hleft : ∀ sh c, P sh → sh.left ≤ (f sh c).left + owes c) (cs : List Consumer) (h : P sh) :
    sh.left ≤ (cs.foldl f sh).left + (cs.map owes).sum := by
  induction cs generalizing sh with
  | nil => simp
  | cons c cs ih =>
    have h1 := hleft sh c h
    have h2 := ih (hf sh c h)
    simp only [List.foldl_cons, List.map_cons, List.sum_cons]
    omega

end Fold

/-- Every candidate holds nothing or what its request admits. -/
def ShareFits (s : State) (sh : Share) : Prop :=
  ∀ c q, candidate s c = some q → tget sh.grants (consIx c) = 0 ∨ admits q (tget sh.grants (consIx c))

theorem candidate_request (hq : candidate s c = some q) : (entryOf s c).request = some q ∧ q.safety = false := by
  unfold candidate at hq
  dsimp only at hq
  split at hq
  · exact absurd hq (by simp)
  · rename_i r hr
    split at hq
    · exact absurd hq (by simp)
    · rename_i hcond
      rw [Option.some.injEq] at hq
      subst hq
      refine ⟨hr, ?_⟩
      simp only [Bool.or_eq_true, not_or] at hcond
      simpa using hcond.1.1.1.1

theorem safetyRound_grant (s : State) (c : Consumer) : tget (safetyRound s).grants (consIx c) = safetyDemand (entryOf s c) := by
  rw [safetyRound, tget_map, entryOf]

theorem safetyDemand_candidate (hq : candidate s c = some q) : safetyDemand (entryOf s c) = 0 := by
  obtain ⟨hr, hs⟩ := candidate_request hq
  unfold safetyDemand
  rw [hr]
  simp [hs]

theorem safetyRound_fits (s : State) : ShareFits s (safetyRound s) :=
  fun c _ hq => .inl ((safetyRound_grant s c).trans (safetyDemand_candidate hq))

theorem floorStep_fits (hfit : ∀ c q, candidate s c = some q → RequestFits q) (h : ShareFits s sh) (c : Consumer) :
    ShareFits s (floorStep s sh c) := by
  cases hq : candidate s c with
  | none =>
    rw [floorStep_none hq]
    exact h
  | some q =>
    by_cases hle : q.dmin ≤ sh.left
    · intro d r hr
      by_cases hcd : c = d
      · subst hcd
        rw [hq, Option.some.injEq] at hr
        subst hr
        rw [floorStep_served hq hle]
        dsimp only
        rw [tget_tset_consIx, if_pos rfl]
        exact .inr (admits_dmin (hfit c q hq))
      · rw [floorStep_other hcd]
        exact h d r hr
    · rw [floorStep_passed hq (not_le.mp hle)]
      exact h

theorem topUpStep_fits (h : ShareFits s sh) (c : Consumer) : ShareFits s (topUpStep s sh c) := by
  cases hq : candidate s c with
  | none =>
    rw [topUpStep_none hq]
    exact h
  | some q =>
    obtain h0 | hadmits := h c q hq
    · rw [topUpStep_empty h0]
      exact h
    · by_cases h0 : tget sh.grants (consIx c) = 0
      · rw [topUpStep_empty h0]
        exact h
      · intro d r hr
        by_cases hcd : c = d
        · subst hcd
          rw [hq, Option.some.injEq] at hr
          subst hr
          rw [topUpStep_served hq h0]
          dsimp only
          rw [tget_tset_consIx, if_pos rfl]
          exact .inr (takeOffer_admits hadmits)
        · rw [topUpStep_other hcd]
          exact h d r hr

/-- The share after the floor round. -/
def floorShare (s : State) : Share := (priorityOrder s).foldl (floorStep s) (safetyRound s)

theorem floorShare_fits (hfit : ∀ c q, candidate s c = some q → RequestFits q) : ShareFits s (floorShare s) :=
  foldl_keeps (P := ShareFits s) (fun _ c h => floorStep_fits hfit h c) _ (safetyRound_fits s)

theorem passShare_fits (hfit : ∀ c q, candidate s c = some q → RequestFits q) : ShareFits s (passShare s) :=
  foldl_keeps (P := ShareFits s) (fun _ c h => topUpStep_fits h c) _ (floorShare_fits hfit)

/-- One that is no candidate is granted its safety demand alone. -/
theorem passShare_others (hnone : candidate s c = none) : tget (passShare s).grants (consIx c) = safetyDemand (entryOf s c) := by
  have keeps : ∀ {f : Share → Consumer → Share}, (∀ sh, f sh c = sh)
      → (∀ sh c d, c ≠ d → tget (f sh c).grants (consIx d) = tget sh.grants (consIx d)) → ∀ cs sh,
      tget (List.foldl f sh cs).grants (consIx c) = tget sh.grants (consIx c) := fun hc hf cs sh =>
    foldl_keeps (P := fun x => tget x.grants (consIx c) = tget sh.grants (consIx c)) (fun x d h => by
      by_cases hdc : d = c
      · rw [hdc, hc]
        exact h
      · exact (hf x d c hdc).trans h) cs rfl
  exact (keeps (fun _ => topUpStep_none hnone) (fun _ _ _ => topUpStep_other) _ _).trans
    ((keeps (fun _ => floorStep_none hnone) (fun _ _ _ => floorStep_other) _ _).trans (safetyRound_grant s c))

/-- After the floor round a candidate holds nothing or its Dmin. -/
theorem floorShare_grant (hq : candidate s c = some q) :
    tget (floorShare s).grants (consIx c) = 0 ∨ tget (floorShare s).grants (consIx c) = q.dmin := by
  refine foldl_keeps (P := fun sh => tget sh.grants (consIx c) = 0 ∨ tget sh.grants (consIx c) = q.dmin) (fun sh d h => ?_) _
    (.inl ((safetyRound_grant s c).trans (safetyDemand_candidate hq)))
  by_cases hdc : d = c
  · subst hdc
    by_cases hle : q.dmin ≤ sh.left
    · rw [floorStep_served hq hle]
      dsimp only
      rw [tget_tset_consIx, if_pos rfl]
      exact .inr rfl
    · rw [floorStep_passed hq (not_le.mp hle)]
      exact h
  · rw [floorStep_other hdc]
    exact h

/-- A candidate whose Dmin alone does not fit beside the safety grants is granted 0. -/
theorem passShare_unfit (hq : candidate s c = some q) (h : s.ga.report.budget < safetyTotal s + q.dmin) :
    tget (passShare s).grants (consIx c) = 0 := by
  have hfloor : (floorShare s).left ≤ s.ga.report.budget - safetyTotal s ∧ tget (floorShare s).grants (consIx c) = 0 := by
    refine foldl_keeps (P := fun sh => sh.left ≤ s.ga.report.budget - safetyTotal s ∧ tget sh.grants (consIx c) = 0)
      (fun sh d hd => ?_) _ ⟨le_rfl, (safetyRound_grant s c).trans (safetyDemand_candidate hq)⟩
    refine ⟨(floorStep_left s sh d).1.trans hd.1, ?_⟩
    by_cases hdc : d = c
    · subst hdc
      by_cases hle : q.dmin ≤ sh.left
      · rw [floorStep_served hq hle]
        dsimp only
        rw [tget_tset_consIx, if_pos rfl]
        omega
      · rw [floorStep_passed hq (not_le.mp hle)]
        exact hd.2
    · rw [floorStep_other hdc]
      exact hd.2
  refine foldl_keeps (P := fun sh => tget sh.grants (consIx c) = 0) (fun sh d hd => ?_) _ hfloor.2
  by_cases hdc : d = c
  · subst hdc
    rw [topUpStep_empty hd]
    exact hd
  · rw [topUpStep_other hdc]
    exact hd

end Sys2Proof.Machine
end

section
/-! PROOFS. The order in which a pass serves, and what a budget report leaves (R36, R48 to R54). -/

namespace Sys2Proof.Machine

-- One proof after another: started together they wait for one another, each on a thread of its own.
set_option Elab.async false

variable {s t w : State} {sh : Share} {c d : Consumer} {q : Request} {r : BudgetReport}

/-! ### The order of service (R42, R51) -/

theorem servedBefore_same (h : effectiveClass s d = effectiveClass s c) : servedBefore s c d = match tget s.cfg.orders (effectiveClass s c) with
    | .fixed => decide ((consIx c).1 < (consIx d).1)
    | .rotating => decide ((tget s.ga.lists (effectiveClass s c)).idxOf c < (tget s.ga.lists (effectiveClass s c)).idxOf d) :=
  if_pos h

theorem servedBefore_other (h : effectiveClass s d ≠ effectiveClass s c) :
    servedBefore s c d = decide ((effectiveClass s c).1 < (effectiveClass s d).1) := if_neg h

theorem servedBefore_asymm (h : servedBefore s c d = true) : servedBefore s d c = false := by
  by_cases hcls : effectiveClass s d = effectiveClass s c
  · rw [servedBefore_same hcls] at h
    rw [servedBefore_same hcls.symm, hcls]
    cases hmode : tget s.cfg.orders (effectiveClass s c)
    all_goals
      rw [hmode] at h
      dsimp only at h ⊢
      rw [decide_eq_true_eq] at h
      rw [decide_eq_false_iff_not]
      omega
  · rw [servedBefore_other hcls, decide_eq_true_eq] at h
    rw [servedBefore_other (Ne.symm hcls), decide_eq_false_iff_not]
    omega

theorem mem_classOrder (hl : listsSound s) (k : Fin 8) : c ∈ classOrder s k ↔ effectiveClass s c = k := by
  unfold classOrder
  split
  · simp [mem_allConsumers]
  · exact (hl k).2 c

theorem pairwise_idxOf {xs : List Consumer} (h : xs.Nodup) : xs.Pairwise fun a b => xs.idxOf a < xs.idxOf b := by
  rw [List.pairwise_iff_getElem]
  intro i j hi hj hij
  rw [h.idxOf_getElem i hi, h.idxOf_getElem j hj]
  exact hij

theorem pairwise_classOrder (hl : listsSound s) (k : Fin 8) : (classOrder s k).Pairwise fun a b => servedBefore s a b = true := by
  have hk : ∀ a ∈ classOrder s k, effectiveClass s a = k := fun a ha => (mem_classOrder hl k).1 ha
  unfold classOrder at hk ⊢
  cases hmode : tget s.cfg.orders k
  · rw [hmode] at hk
    dsimp only at hk ⊢
    have hall : allConsumers.Pairwise fun a b => (consIx a).1 < (consIx b).1 := by decide
    refine (hall.filter _).imp_of_mem fun ha hb hlt => ?_
    rw [servedBefore_same ((hk _ hb).trans (hk _ ha).symm), hk _ ha, hmode]
    exact decide_eq_true hlt
  · rw [hmode] at hk
    dsimp only at hk ⊢
    refine (pairwise_idxOf (hl k).1).imp_of_mem fun ha hb hlt => ?_
    rw [servedBefore_same ((hk _ hb).trans (hk _ ha).symm), hk _ ha, hmode]
    exact decide_eq_true hlt

theorem pairwise_priorityOrder (hl : listsSound s) : (priorityOrder s).Pairwise fun a b => servedBefore s a b = true := by
  unfold priorityOrder
  rw [List.pairwise_flatMap]
  refine ⟨fun k _ => pairwise_classOrder hl k, ?_⟩
  have hall : allClasses.Pairwise (· < ·) := by decide
  refine hall.imp fun {j k} hjk a ha b hb => ?_
  rw [mem_classOrder hl] at ha hb
  rw [servedBefore_other (by rw [ha, hb]; exact hjk.ne'), ha, hb]
  exact decide_eq_true hjk

theorem mem_priorityOrder (hl : listsSound s) (c : Consumer) : c ∈ priorityOrder s := by
  unfold priorityOrder
  rw [List.mem_flatMap]
  refine ⟨effectiveClass s c, ?_, (mem_classOrder hl _).2 rfl⟩
  generalize effectiveClass s c = k
  fin_cases k <;> decide

theorem servedBefore_irrefl (s : State) (c : Consumer) : servedBefore s c c = false := by
  by_contra h
  rw [Bool.not_eq_false] at h
  exact absurd (servedBefore_asymm h) (by simp [h])

theorem priorityOrder_nodup (hl : listsSound s) : (priorityOrder s).Nodup :=
  (pairwise_priorityOrder hl).imp fun {a b} h e => by
    rw [e, servedBefore_irrefl] at h
    exact absurd h (by decide)

theorem priorityOrder_perm (hl : listsSound s) : (priorityOrder s).Perm allConsumers :=
  (List.perm_ext_iff_of_nodup (priorityOrder_nodup hl) (by decide)).2 fun c => iff_of_true (mem_priorityOrder hl c) (mem_allConsumers c)

/-- The order splits at a consumer into those served before it and those served after it. -/
theorem priorityOrder_split (hl : listsSound s) (c : Consumer) : ∃ before after, priorityOrder s = before ++ c :: after
    ∧ c ∉ before ∧ c ∉ after ∧ (∀ d ∈ before, servedBefore s d c = true) ∧ (∀ d ∈ after, servedBefore s c d = true)
    ∧ ∀ d, servedBefore s c d = true → d ∈ after := by
  obtain ⟨before, after, e⟩ := List.append_of_mem (mem_priorityOrder hl c)
  have hnodup := priorityOrder_nodup hl
  have hpair := pairwise_priorityOrder hl
  rw [e] at hnodup hpair
  rw [List.pairwise_append] at hpair
  obtain ⟨-, hpair2, hpair3⟩ := hpair
  have hbefore : ∀ d ∈ before, servedBefore s d c = true := fun d hd => hpair3 d hd c List.mem_cons_self
  refine ⟨before, after, e, fun h => ?_, (List.nodup_cons.1 (List.nodup_append.1 hnodup).2.1).1, hbefore,
    fun d hd => (List.pairwise_cons.1 hpair2).1 d hd, fun d hd => ?_⟩
  · exact absurd (hbefore c h) (by simp [servedBefore_irrefl])
  · have hmem := mem_priorityOrder hl d
    rw [e, List.mem_append, List.mem_cons] at hmem
    obtain h | rfl | h := hmem
    · exact absurd (servedBefore_asymm (hbefore d h)) (by simp [hd])
    · exact absurd hd (by simp [servedBefore_irrefl])
    · exact h

/-! ### What the order gives each candidate (R51, R52) -/

/-- What the candidates that `p` keeps ask for together. -/
def owedSum (s : State) (p : Consumer → Bool) (amount : Request → Nat) : Nat :=
  (allConsumers.map fun c => if p c then candidateOwes s amount c else 0).sum

theorem owedSum_order (hl : listsSound s) (p : Consumer → Bool) (amount : Request → Nat) :
    owedSum s p amount = ((priorityOrder s).map fun c => if p c then candidateOwes s amount c else 0).sum :=
  (((priorityOrder_perm hl).map _).sum_eq).symm

theorem foldl_floor_left (s : State) (cs : List Consumer) (sh : Share) :
    sh.left ≤ (cs.foldl (floorStep s) sh).left + (cs.map (candidateOwes s (·.dmin))).sum :=
  foldl_left (P := fun _ => True) (fun _ _ _ => trivial) _ (fun sh c _ => (floorStep_left s sh c).2) cs trivial

/-- A candidate whose Dmin fits beside those served before it is served in the floor round. -/
theorem floorShare_served (hl : listsSound s) (hq : candidate s c = some q)
    (h : safetyTotal s + owedSum s (fun d => d == c || servedBefore s d c) (·.dmin) ≤ s.ga.report.budget) :
    tget (floorShare s).grants (consIx c) = q.dmin := by
  obtain ⟨before, after, e, -, hafter, hbefore, -, -⟩ := priorityOrder_split hl c
  have hsum : (before.map (candidateOwes s (·.dmin))).sum + q.dmin ≤ owedSum s (fun d => d == c || servedBefore s d c) (·.dmin) := by
    have hmap : (before.map fun d => if (d == c || servedBefore s d c) = true then candidateOwes s (·.dmin) d else 0)
        = before.map (candidateOwes s (·.dmin)) :=
      List.map_congr_left fun d hd => if_pos (by simp [hbefore d hd])
    rw [owedSum_order hl, e, List.map_append, List.sum_append, hmap, List.map_cons, List.sum_cons, if_pos (by simp),
      candidateOwes_some hq]
    omega
  have hleft := foldl_floor_left s before (safetyRound s)
  have hbudget : (safetyRound s).left = s.ga.report.budget - safetyTotal s := rfl
  have hfits : q.dmin ≤ (before.foldl (floorStep s) (safetyRound s)).left := by omega
  unfold floorShare
  rw [e, List.foldl_append, List.foldl_cons, foldl_grant_other (fun _ _ _ => floorStep_other) hafter, floorStep_served hq hfits]
  exact (tget_tset_consIx _ _ _ _).trans (if_pos rfl)

theorem le_topUpStep (h : ShareFits s sh) (hq : candidate s c = some q) (d : Consumer) :
    tget sh.grants (consIx c) ≤ tget (topUpStep s sh d).grants (consIx c) := by
  by_cases hdc : d = c
  · subst hdc
    by_cases h0 : tget sh.grants (consIx d) = 0
    · rw [topUpStep_empty h0]
    · obtain ⟨-, hle, -⟩ := (h d q hq).resolve_left h0
      rw [topUpStep_served hq h0]
      exact (le_takeOffer hle).trans_eq ((tget_tset_consIx _ _ _ _).trans (if_pos rfl)).symm
  · rw [topUpStep_other hdc]

/-- A candidate whose Dmin fits beside those served before it is granted at least that. -/
theorem passShare_served (hl : listsSound s) (hfit : ∀ c q, candidate s c = some q → RequestFits q) (hq : candidate s c = some q)
    (h : safetyTotal s + owedSum s (fun d => d == c || servedBefore s d c) (·.dmin) ≤ s.ga.report.budget) :
    q.dmin ≤ tget (passShare s).grants (consIx c) := by
  have hfloor : q.dmin ≤ tget (floorShare s).grants (consIx c) := (floorShare_served hl hq h).ge
  exact (foldl_keeps (P := fun sh => ShareFits s sh ∧ q.dmin ≤ tget sh.grants (consIx c))
    (fun sh d hd => ⟨topUpStep_fits hd.1 d, hd.2.trans (le_topUpStep hd.1 hq d)⟩) _ ⟨floorShare_fits hfit, hfloor⟩).2

/-- No consumer takes more in the top-up round than its D beyond its Dmin. -/
theorem topUpStep_left (h : ShareFits s sh) (c : Consumer) :
    sh.left ≤ (topUpStep s sh c).left + candidateOwes s (fun q => q.d - q.dmin) c := by
  cases hq : candidate s c with
  | none =>
    rw [topUpStep_none hq]
    omega
  | some q =>
    rw [candidateOwes_some hq]
    by_cases h0 : tget sh.grants (consIx c) = 0
    · rw [topUpStep_empty h0]
      omega
    · obtain ⟨hlo, hhi, -⟩ := (h c q hq).resolve_left h0
      have hle := takeOffer_le q (tget sh.grants (consIx c)) (min q.d (tget sh.grants (consIx c) + sh.left))
      rw [topUpStep_served hq h0]
      unfold toppedUp
      dsimp only
      omega

/-- Where the budget holds every D, every candidate is granted its D. -/
theorem passShare_whole (hl : listsSound s) (hfit : ∀ c q, candidate s c = some q → RequestFits q) (hq : candidate s c = some q)
    (h : safetyTotal s + owedSum s (fun _ => true) (·.d) ≤ s.ga.report.budget) : tget (passShare s).grants (consIx c) = q.d := by
  have hle : ∀ d, candidateOwes s (·.dmin) d + candidateOwes s (fun q => q.d - q.dmin) d = candidateOwes s (·.d) d := by
    intro d
    cases hd : candidate s d with
    | none => simp [candidateOwes, hd]
    | some r =>
      have hr := (hfit d r hd).le
      rw [candidateOwes_some hd, candidateOwes_some hd, candidateOwes_some hd]
      omega
  have hsplit : ∀ cs : List Consumer, (cs.map (candidateOwes s (·.dmin))).sum + (cs.map (candidateOwes s fun q => q.d - q.dmin)).sum
      = (cs.map (candidateOwes s (·.d))).sum := by
    intro cs
    rw [← List.sum_map_add]
    exact congrArg List.sum (List.map_congr_left fun d _ => hle d)
  have hall : owedSum s (fun _ => true) (·.d) = ((priorityOrder s).map (candidateOwes s (·.d))).sum := owedSum_order hl _ _
  have hserved : tget (floorShare s).grants (consIx c) = q.dmin := by
    refine floorShare_served hl hq (le_trans (Nat.add_le_add_left ?_ _) h)
    unfold owedSum
    refine List.sum_le_sum fun d _ => ?_
    have hd := hle d
    split <;> simp only [if_true] <;> omega
  obtain ⟨before, after, e, hbefore, hafter, -⟩ := priorityOrder_split hl c
  have hfloor := foldl_floor_left s (priorityOrder s) (safetyRound s)
  have hbudget : (safetyRound s).left = s.ga.report.budget - safetyTotal s := rfl
  have hleft := foldl_left (P := ShareFits s) (fun _ c h => topUpStep_fits h c) _ (fun _ c h => topUpStep_left h c) before
    (floorShare_fits hfit)
  have hwhole := hsplit (priorityOrder s)
  have hgrant : tget (before.foldl (topUpStep s) (floorShare s)).grants (consIx c) = q.dmin :=
    (foldl_grant_other (fun _ _ _ => topUpStep_other) hbefore _).trans hserved
  have hf := hfit c q hq
  have henough : q.d - q.dmin ≤ (before.foldl (topUpStep s) (floorShare s)).left := by
    have hparts : ((priorityOrder s).map (candidateOwes s fun q => q.d - q.dmin)).sum
        = (before.map (candidateOwes s fun q => q.d - q.dmin)).sum + ((q.d - q.dmin)
          + (after.map (candidateOwes s fun q => q.d - q.dmin)).sum) := by
      rw [e, List.map_append, List.sum_append, List.map_cons, List.sum_cons, candidateOwes_some hq]
    have hsame : (floorShare s).left = ((priorityOrder s).foldl (floorStep s) (safetyRound s)).left := rfl
    omega
  unfold passShare
  rw [show (priorityOrder s).foldl (floorStep s) (safetyRound s) = floorShare s from rfl, e, List.foldl_append, List.foldl_cons,
    foldl_grant_other (fun _ _ _ => topUpStep_other) hafter,
    topUpStep_served hq (by rw [hgrant]; exact Nat.one_le_iff_ne_zero.1 hf.pos)]
  refine (tget_tset_consIx _ _ _ _).trans ((if_pos rfl).trans ?_)
  rw [hgrant]
  exact takeOffer_whole hf hf.le henough

/-- With nothing left the top-up round changes no grant. -/
theorem foldl_topUp_exhausted (cs : List Consumer) (h : ShareFits s sh) (hleft : sh.left = 0) : cs.foldl (topUpStep s) sh = sh := by
  induction cs with
  | nil => rfl
  | cons c cs ih =>
    suffices hstep : topUpStep s sh c = sh by rw [List.foldl_cons, hstep, ih]
    cases hq : candidate s c with
    | none => exact topUpStep_none hq
    | some q =>
      by_cases h0 : tget sh.grants (consIx c) = 0
      · exact topUpStep_empty h0
      · obtain ⟨-, hhi, -⟩ := (h c q hq).resolve_left h0
        rw [topUpStep_served hq h0, toppedUp, hleft, takeOffer_none hhi]
        obtain ⟨grants, left⟩ := sh
        simp only [Share.mk.injEq]
        exact ⟨by simp [tset, tget], by simpa using hleft.symm⟩

/-- Where a continuous candidate is left between its Dmin and its D, none served after it gets more than its Dmin. -/
theorem passShare_exhausted (hl : listsSound s) (hfit : ∀ c q, candidate s c = some q → RequestFits q) (hq : candidate s c = some q)
    (hsteps : q.steps = none) (hpos : 0 < tget (passShare s).grants (consIx c)) (hlt : tget (passShare s).grants (consIx c) < q.d)
    {q' : Request} (hq' : candidate s d = some q') (hd : servedBefore s c d = true) :
    tget (passShare s).grants (consIx d) ≤ q'.dmin := by
  obtain ⟨before, after, e, hbefore, hafter, hfirst, -, hlater⟩ := priorityOrder_split hl c
  obtain ⟨x, hx⟩ : ∃ x, x = before.foldl (topUpStep s) (floorShare s) := ⟨_, rfl⟩
  have hxfits : ShareFits s x := hx ▸ foldl_keeps (P := ShareFits s) (fun _ c h => topUpStep_fits h c) _ (floorShare_fits hfit)
  have hpass : passShare s = after.foldl (topUpStep s) (topUpStep s x c) := by
    unfold passShare
    rw [show (priorityOrder s).foldl (floorStep s) (safetyRound s) = floorShare s from rfl, e, List.foldl_append, List.foldl_cons, ← hx]
  have hgrant : tget (passShare s).grants (consIx c) = tget (topUpStep s x c).grants (consIx c) := by
    rw [hpass]
    exact foldl_grant_other (fun _ _ _ => topUpStep_other) hafter _
  rw [hgrant] at hpos hlt
  have h0 : tget x.grants (consIx c) ≠ 0 := by
    intro h0
    rw [topUpStep_empty h0, h0] at hpos
    exact absurd hpos (by decide)
  have htop := topUpStep_served hq h0
  have htake : toppedUp q (tget x.grants (consIx c)) x.left = min q.d (tget x.grants (consIx c) + x.left) := by
    unfold toppedUp takeOffer
    rw [hsteps]
  have hnew : tget (topUpStep s x c).grants (consIx c) = min q.d (tget x.grants (consIx c) + x.left) := by
    rw [htop, ← htake]
    exact (tget_tset_consIx _ _ _ _).trans (if_pos rfl)
  have hleft : (topUpStep s x c).left = 0 := by
    rw [hnew] at hlt
    rw [htop, htake]
    dsimp only
    omega
  have hdc : c ≠ d := fun h => by rw [h, servedBefore_irrefl] at hd; exact absurd hd (by decide)
  have hdbefore : d ∉ before := fun h => by
    have hearly := hfirst d h
    rw [servedBefore_asymm hd] at hearly
    exact absurd hearly (by decide)
  rw [hpass, foldl_topUp_exhausted after (topUpStep_fits hxfits c) hleft, topUpStep_other hdc, hx,
    foldl_grant_other (fun _ _ _ => topUpStep_other) hdbefore]
  obtain h | h := floorShare_grant hq' <;> rw [h]
  exact Nat.zero_le _

end Sys2Proof.Machine
end

section
/-! PROOFS. A budget report and the pass it starts (R36, R48 to R54). -/

namespace Sys2Proof.Machine

-- One proof after another: started together they wait for one another, each on a thread of its own.
set_option Elab.async false

variable {s t v w : State} {c : Consumer} {q : Request} {r : BudgetReport}

/-- The GA with a budget report taken. -/
def reported (r : BudgetReport) (s : State) : State := withGa (fun g => { g with report := r }) s

theorem candidate_reported (r : BudgetReport) (s : State) (c : Consumer) : candidate (reported r s) c = candidateUnder s r c := by
  unfold candidate candidateUnder
  have hentry : entryOf (reported r s) c = entryOf s c := rfl
  rw [hentry]
  dsimp only
  cases (entryOf s c).request with
  | none => rfl
  | some q =>
    refine if_congr ?_ rfl rfl
    have hcls : effectiveClass (reported r s) c = effectiveClass s c := rfl
    have hreport : (reported r s).ga.report.classes = r.classes := rfl
    have hcfg : (reported r s).cfg = s.cfg := rfl
    rw [hcls, hreport, hcfg]
    simp [or_assoc]

theorem candidateSum_reported (r : BudgetReport) (s : State) (p : Consumer → Bool) (amount : Request → Nat) :
    candidateSum s r p amount = owedSum (reported r s) p amount := by
  unfold candidateSum owedSum
  refine congrArg List.sum (List.map_congr_left fun c _ => ?_)
  unfold candidateOwes
  rw [candidate_reported]
  cases candidateUnder s r c <;> simp

theorem candidate_none_iff (s : State) (c : Consumer) : candidate s c = none ↔ ∀ q, (entryOf s c).request = some q →
    q.safety = true ∨ tget s.cfg.masks (consIx c) = true ∨ (entryOf s c).latched = true ∨ (entryOf s c).retry.isSome = true
      ∨ effectiveClass s c ∉ s.ga.report.classes := by
  unfold candidate
  dsimp only
  cases (entryOf s c).request with
  | none => simp
  | some q =>
    simp only [ite_eq_left_iff, Option.some.injEq, forall_eq']
    simp [or_iff_not_imp_left]

/-- A pass grants a safety request its D. -/
theorem passShare_safety (hq : (entryOf s c).request = some q)
    (hs : q.safety = true) : tget (passShare s).grants (consIx c) = q.d := by
  have hnone : candidate s c = none := (candidate_none_iff s c).2 fun r hr => by
    rw [hq, Option.some.injEq] at hr
    exact .inl (hr ▸ hs)
  rw [passShare_others hnone, safetyDemand, hq]
  exact if_pos hs

/-- A pass grants nothing to one that is neither a candidate nor placed for safety. -/
theorem passShare_idle (hnone : candidate s c = none)
    (hs : ∀ q, (entryOf s c).request = some q → q.safety = false) : tget (passShare s).grants (consIx c) = 0 := by
  rw [passShare_others hnone, safetyDemand]
  cases hq : (entryOf s c).request with
  | none => rfl
  | some q => exact if_neg (by simp [hs q hq])

end Sys2Proof.Machine

namespace Sys2Proof.Proofs

open Sys2Proof Sys2Proof.Machine

/-- Settles O28: what a budget report's pass grants, in which order, and what it reports. -/
theorem budgetReportStartsAPass : Obligations.BudgetReportStartsAPass := by
  intro r s hrun hchime hok
  obtain ⟨v, hv⟩ : ∃ v, v = startEvent (.budgetReport r) s := ⟨_, rfl⟩
  obtain ⟨w, hw⟩ : ∃ w, w = reported r v := ⟨_, rfl⟩
  have hwmode : w.mc.mode = v.mc.mode := hw ▸ rfl
  have hwsu : w.su = v.su := hw ▸ rfl
  have hvchime : noChimeHeld v := hv ▸ hchime
  have he : effect (.budgetReport r) v = pass v w := hw ▸ rfl
  have hp : Passed w (pass v w) := passed_pass hwmode hwsu hvchime
  have hga : (close s (pass v w)).ga = (passTable w).ga := (close_ga s _).trans hp.ga
  have hentry : ∀ c, entryOf (close s (pass v w)) c = passedEntry w c := fun c => by
    rw [← entryOf_passTable]
    exact congrArg (fun g : GrantUnit => tget g.entries (consIx c)) hga
  have hold : ∀ c, entryOf w c = entryOf s c := fun c => by rw [hw, hv]; rfl
  have hcand : ∀ c, candidate w c = candidateUnder s r c := fun c => by
    rw [hw, candidate_reported, hv]
    rfl
  have hfit : ∀ c q, candidate w c = some q → RequestFits q := fun c q hq => by
    have hreq := (candidate_request hq).1
    rw [hold] at hreq
    exact requestFits_of_ok (hok c q hreq)
  have hserved : ∀ c d, servedBefore w c d = servedBefore s c d := fun c d => by rw [hw, hv]; rfl
  have htotal : safetyTotal w = safetyTotal s := by rw [hw, hv]; rfl
  have hreport : w.ga.report = r := by rw [hw]; rfl
  have hcfg : w.cfg = s.cfg := by rw [hw, hv]; rfl
  have hcls : ∀ c, effectiveClass w c = effectiveClass s c := fun c => by rw [hw, hv]; rfl
  have hsum : ∀ p amount, candidateSum s r p amount = owedSum w p amount := fun p amount => by
    rw [candidateSum_reported, hw, hv]
    rfl
  have hgrant : ∀ c, (entryOf (close s (pass v w)) c).grant = tget (passShare w).grants (consIx c) := fun c => by rw [hentry]; rfl
  refine ⟨close s (pass v w), ?_, ?_, ?_, fun hlists c q hq => ?_, fun c => ?_⟩
  · rw [exec_running hrun rfl, ← hv, he]
  · rw [hga, passTable_report, hreport]
  · rw [hga, passTable_passes, hw, hv]
    rfl
  · have hwlists : listsSound w := by rw [hw, hv]; exact hlists
    rw [← hcand] at hq
    simp only [hgrant, hsum, ← htotal, ← hserved, ← hcand]
    refine ⟨fun h => passShare_served hwlists hfit hq (hreport ▸ h), fun h => passShare_unfit hq (hreport ▸ h),
      fun h => passShare_whole hwlists hfit hq (hreport ▸ h), fun hsteps hpos hlt d q' hq' hd => ?_⟩
    exact passShare_exhausted hwlists hfit hq hsteps hpos hlt hq' hd
  · rw [hgrant]
    refine ⟨?_, fun h => ?_, fun q hq hs => ?_, fun q hq hs hno => ?_, fun q hq hs => ?_, ?_, fun hchanged i hi => ?_⟩
    · rw [hentry, ← hold]
      rfl
    · rw [← hold] at h
      exact passShare_idle ((candidate_none_iff w c).2 fun q hq => by rw [h] at hq; simp at hq) fun q hq => by rw [h] at hq; simp at hq
    · exact passShare_safety ((hold c).symm ▸ hq) hs
    · have hnone : candidate w c = none := by
        refine (candidate_none_iff w c).2 fun q' hq' => .inr ?_
        rw [hcfg, hold, hcls, hreport, Option.isSome_iff_ne_none]
        exact hno
      refine passShare_idle hnone fun q' hq' => ?_
      rw [hold, hq, Option.some.injEq] at hq'
      exact hq' ▸ hs
    · cases hc : candidate w c with
      | none => exact .inl (passShare_idle hc fun q' hq' => by rw [hold, hq, Option.some.injEq] at hq'; exact hq' ▸ hs)
      | some q' =>
        have hsame := (candidate_request hc).1
        rw [hold, hq, Option.some.injEq] at hsame
        rw [hsame]
        exact passShare_fits hfit c q' hc
    · rw [hentry]
      show stateAfterPass (tget w.cfg.masks (consIx c)) (entryOf w c) (tget (passShare w).grants (consIx c)) = _
      rw [hold, hcfg]
      unfold stateAfterPass
      rfl
    · rw [hentry] at hchanged hi
      rw [← hold] at hchanged
      exact mem_close_of_mem (hp.handed i (mem_passTable_handed hchanged (by rw [← hgrant, hentry] at hi; exact hi)))

end Sys2Proof.Proofs
end

section
/-! PROOFS. Requests placed, changed and withdrawn, and HEAT's class override (R41, R42, R45). -/

namespace Sys2Proof.Machine

-- One proof after another: started together they wait for one another, each on a thread of its own.
set_option Elab.async false

variable {s t v w : State} {c : Consumer} {q : Request} {i : Instr}

/-- An event whose effect is a pass over a table changed in its course, no CHIME being held. -/
theorem exec_pass (hv : v = startEvent i s) (hrun : s.mc.supply = .running) (hreset : mayReset i = false) (hchime : noChimeHeld s)
    (hmode : w.mc.mode = s.mc.mode) (hsu : w.su = s.su) (he : effect i v = pass v w) :
    ∃ t, exec i s = .next t ∧ t.ga = (passTable w).ga ∧ ∀ j ∈ (passTable w).handed, j ∈ t.handed := by
  have hp : Passed w (pass v w) := passed_pass (by rw [hmode, hv]; rfl) (by rw [hsu, hv]; rfl) (hv ▸ hchime)
  refine ⟨close s (pass v w), ?_, (close_ga s _).trans hp.ga, fun j hj => mem_close_of_mem (hp.handed j hj)⟩
  rw [exec_running hrun hreset, ← hv, he]

theorem passed_entryOf (h : t.ga = (passTable w).ga) (c : Consumer) : entryOf t c = passedEntry w c :=
  (congrArg (fun g : GrantUnit => tget g.entries (consIx c)) h).trans (entryOf_passTable w c)

/-- HEAT's effective class, its override set or not. -/
theorem effectiveClass_boosted (on : Bool) (s : State) :
    effectiveClass (withEntry .heat (fun e => { e with boosted := on }) s) .heat = if on then 0 else tget s.cfg.classes 1 := by
  unfold effectiveClass
  rw [entryOf_withEntry, if_pos rfl]
  rfl

/-- A consumer moved from one class's list to the end of another's (R41). -/
theorem relist_lists {old new : Fin 8} (h : old ≠ new) (c : Consumer) (s : State) :
    tget (relist c old new s).ga.lists old = (tget s.ga.lists old).erase c
      ∧ tget (relist c old new s).ga.lists new = (tget s.ga.lists new).erase c ++ [c] := by
  unfold relist
  rw [if_neg h]
  have hlists : (moveToEnd c new (withGa (fun g => { g with lists := tset g.lists old ((tget g.lists old).erase c) }) s)).ga.lists
      = tset (tset s.ga.lists old ((tget s.ga.lists old).erase c)) new
        ((tget (tset s.ga.lists old ((tget s.ga.lists old).erase c)) new).erase c ++ [c]) := rfl
  rw [hlists]
  refine ⟨?_, ?_⟩
  · rw [tget_tset, if_neg h.symm, tget_tset, if_pos rfl]
  · rw [tget_tset, if_pos rfl, tget_tset, if_neg h]

theorem relist_entryOf (c d : Consumer) (old new : Fin 8) (s : State) : entryOf (relist c old new s) d = entryOf s d := by
  unfold relist
  split <;> rfl

theorem relist_mc (c : Consumer) (old new : Fin 8) (s : State) : (relist c old new s).mc = s.mc ∧ (relist c old new s).su = s.su := by
  unfold relist
  split <;> exact ⟨rfl, rfl⟩

end Sys2Proof.Machine

namespace Sys2Proof.Proofs

open Sys2Proof Sys2Proof.Machine

/-- Settles O29: the table after a request placed, changed or withdrawn, and after HEAT's override. -/
theorem requestsStandInTheTable : Obligations.RequestsStandInTheTable := by
  refine ⟨fun c r change s hrun hchime => ?_, fun c s hrun hchime => ?_, fun on s hrun hchime => ?_⟩
  · obtain ⟨i, hi⟩ : ∃ i, i = if change then Instr.changeRequest c r else .placeRequest c r := ⟨_, rfl⟩
    rw [← hi]
    obtain ⟨v, hv⟩ : ∃ v, v = startEvent i s := ⟨_, rfl⟩
    obtain ⟨w, hw⟩ : ∃ w, w = withEntry c (fun e => { e with request := some r }) v := ⟨_, rfl⟩
    have he : effect i v = pass v w := by
      rw [hw, hi]
      cases change <;> rfl
    have hreset : mayReset i = false := by
      rw [hi]
      cases change <;> rfl
    have hentry : ∀ d, entryOf w d = if c = d then { entryOf s c with request := some r } else entryOf s d := fun d => by
      rw [hw, entryOf_withEntry, hv]
      rfl
    obtain ⟨t, hexec, hga, -⟩ := exec_pass hv hrun hreset hchime (by rw [hw, hv]; rfl) (by rw [hw, hv]; rfl) he
    have hrequest : ∀ d, (entryOf t d).request = (entryOf w d).request := fun d => by
      rw [passed_entryOf hga]
      rfl
    refine ⟨t, hexec, ?_, fun d hd => ?_, fun hs => ?_, ?_, ?_, ?_⟩
    · rw [hrequest, hentry, if_pos rfl]
    · rw [hrequest, hentry, if_neg (Ne.symm hd)]
    · rw [passed_entryOf hga]
      exact passShare_safety (by rw [hentry, if_pos rfl]) hs
    · rw [hga, passTable_passes, hw, hv]
      rfl
    · rw [hga, passTable_lists, hw, hv]
      rfl
    · rw [hga, passTable_report, hw, hv]
      rfl
  · obtain ⟨v, hv⟩ : ∃ v, v = startEvent (.withdrawRequest c) s := ⟨_, rfl⟩
    obtain ⟨x, hx⟩ : ∃ x, x = if (entryOf v c).request.isSome && decide (0 < (entryOf v c).grant)
        && tget v.cfg.orders (effectiveClass v c) == .rotating then moveToEnd c (effectiveClass v c) v else v := ⟨_, rfl⟩
    obtain ⟨w, hw⟩ : ∃ w, w = withEntry c (fun e => { e with request := none }) x := ⟨_, rfl⟩
    have he : effect (.withdrawRequest c) v = pass v w := by rw [hw, hx]; rfl
    have hxkeeps : x.mc = v.mc ∧ x.su = v.su ∧ x.ga.entries = v.ga.entries := by
      rw [hx]
      split <;> exact ⟨rfl, rfl, rfl⟩
    have hentry : ∀ d, entryOf w d = if c = d then { entryOf s c with request := none } else entryOf s d := fun d => by
      have hsame : ∀ d, entryOf x d = entryOf s d := fun d =>
        (congrArg (fun es => tget es (consIx d)) hxkeeps.2.2).trans (by rw [hv]; rfl)
      rw [hw, entryOf_withEntry, hsame, hsame]
    have hwkeeps : w.mc = x.mc ∧ w.su = x.su ∧ w.ga.lists = x.ga.lists := hw ▸ ⟨rfl, rfl, rfl⟩
    obtain ⟨t, hexec, hga, -⟩ := exec_pass hv hrun rfl hchime (by rw [hwkeeps.1, hxkeeps.1, hv]; rfl)
      (by rw [hwkeeps.2.1, hxkeeps.2.1, hv]; rfl) he
    have hnone : (entryOf w c).request = none := by rw [hentry, if_pos rfl]
    have hrequest : ∀ d, (entryOf t d).request = (entryOf w d).request := fun d => by
      rw [passed_entryOf hga]
      rfl
    refine ⟨t, hexec, (hrequest c).trans hnone, ?_, fun d hd => ?_, ?_⟩
    · rw [passed_entryOf hga]
      exact passShare_idle ((candidate_none_iff w c).2 fun q hq => by rw [hnone] at hq; simp at hq)
        fun q hq => by rw [hnone] at hq; simp at hq
    · rw [hrequest, hentry, if_neg (Ne.symm hd)]
    · rw [hga, passTable_lists, hwkeeps.2.2, hx, hv]
      have hif : ∀ {p : Prop} [Decidable p] (a b : State), (if p then a else b).ga.lists = if p then a.ga.lists else b.ga.lists :=
        fun a b => by split <;> rfl
      refine (hif _ _).trans (if_congr ?_ rfl rfl)
      simp only [Bool.and_eq_true, beq_iff_eq, decide_eq_true_eq, and_assoc]
      exact Iff.rfl
  · obtain ⟨v, hv⟩ : ∃ v, v = startEvent (.classOverride on) s := ⟨_, rfl⟩
    obtain ⟨x, hx⟩ : ∃ x, x = withEntry .heat (fun e => { e with boosted := on }) v := ⟨_, rfl⟩
    obtain ⟨w, hw⟩ : ∃ w, w = relist .heat (effectiveClass v .heat) (effectiveClass x .heat) x := ⟨_, rfl⟩
    have he : effect (.classOverride on) v = pass v w := by rw [hw, hx]; rfl
    have hwmc := relist_mc .heat (effectiveClass v .heat) (effectiveClass x .heat) x
    rw [← hw] at hwmc
    have hxlists : x.ga.lists = s.ga.lists := by rw [hx, hv]; rfl
    have hentry : ∀ d, entryOf w d = if .heat = d then { entryOf s .heat with boosted := on } else entryOf s d := fun d => by
      rw [hw, relist_entryOf, hx, entryOf_withEntry, hv]
      rfl
    have hold : effectiveClass v .heat = effectiveClass s .heat := hv ▸ rfl
    have hnew : effectiveClass x .heat = if on then 0 else tget s.cfg.classes 1 := by
      rw [hx, effectiveClass_boosted, hv]
      rfl
    rw [hold, hnew] at hw
    obtain ⟨t, hexec, hga, -⟩ := exec_pass hv hrun rfl hchime (by rw [hwmc.1, hx, hv]; rfl) (by rw [hwmc.2, hx, hv]; rfl) he
    have hlists : t.ga.lists = w.ga.lists := by rw [hga, passTable_lists]
    refine ⟨t, hexec, ?_, fun d => ?_, fun h => ?_, fun h => ?_⟩
    · rw [passed_entryOf hga]
      show (entryOf w .heat).boosted = on
      rw [hentry, if_pos rfl]
    · rw [passed_entryOf hga]
      show (entryOf w d).request = _
      rw [hentry]
      split
      · rename_i h
        rw [← h]
      · rfl
    · rw [hlists, hw, relist, if_pos h]
      exact hxlists
    · rw [hlists, hw, ← hxlists]
      exact relist_lists h .heat x

end Sys2Proof.Proofs
end

section
/-! PROOFS. Trips at the Grant Arbiter (R56, R57). -/

namespace Sys2Proof.Machine

-- One proof after another: started together they wait for one another, each on a thread of its own.
set_option Elab.async false

variable {s t v w : State} {c d : Consumer} {i : Instr}

/-! ### What neither a pass nor a wake touches of the table (R57, R59) -/

/-- An entry less its request, its grant and its state. -/
def tripPart (e : ConsumerEntry) : ConsumerEntry := { e with request := none, grant := 0, state := .idle }

theorem tripPart_fields {e f : ConsumerEntry} (h : tripPart e = tripPart f) : e.holds = f.holds ∧ e.latched = f.latched
    ∧ e.tripCount = f.tripCount ∧ e.window = f.window ∧ e.retryStep = f.retryStep ∧ e.lastTrip = f.lastTrip ∧ e.retry = f.retry :=
  ⟨(congrArg ConsumerEntry.holds h :), (congrArg ConsumerEntry.latched h :), (congrArg ConsumerEntry.tripCount h :),
    (congrArg ConsumerEntry.window h :), (congrArg ConsumerEntry.retryStep h :), (congrArg ConsumerEntry.lastTrip h :),
    (congrArg ConsumerEntry.retry h :)⟩

/-- The consumers' holds, trips and latches stand. -/
def SameTrips (s t : State) : Prop := ∀ c, tripPart (entryOf t c) = tripPart (entryOf s c)

theorem SameTrips.refl (s : State) : SameTrips s s := fun _ => rfl

theorem SameTrips.trans (h : SameTrips s t) (k : SameTrips t v) : SameTrips s v := fun c => (k c).trans (h c)

theorem SameTrips.of_ga (h : t.ga = s.ga) : SameTrips s t := fun c => by rw [entryOf, entryOf, h]

theorem SameTrips.passTable (s : State) : SameTrips s (passTable s) := fun c => by
  rw [entryOf_passTable]
  rfl

/-! ### What a pass keeps, the wake it may cause included (R49, R189) -/

/-- The settings but those of HEATER_SET, which a held entry that fires may change. -/
def settingsCore (c : Settings) : Settings := { c with heaterSet := ⟨0, false, 0⟩ }

/-- None of the areas is a record's written fields. -/
def pokesNone (as : List Area) : Bool := as.all fun a => match a with | .poked _ => false | _ => true

theorem poked_not_mem {as : List Area} (h : pokesNone as = true) (r : Nat) : .poked r ∉ as := fun hm =>
  Bool.false_ne_true (List.all_eq_true.1 h _ hm)

theorem Move.settingsCore_eq {as : List Area} (h : Move as s t) (hav : ∀ r, .poked r ∉ as) :
    settingsCore t.cfg = settingsCore s.cfg := by
  cases h with
  | poke r _ _ ha => exact absurd ha (hav r)
  | setpoint h _ _ => rfl
  | _ => simp

/-- Without a write of a record, a run keeps the settings but HEATER_SET's. -/
theorem Moves.settingsCore_eq {as : List Area} (h : Moves as s t) (hav : pokesNone as = true := by decide) :
    settingsCore t.cfg = settingsCore s.cfg :=
  h.lift (R := fun s t => settingsCore t.cfg = settingsCore s.cfg) (fun _ => rfl) (fun _ _ _ h k => k.trans h)
    fun _ _ m => m.settingsCore_eq (poked_not_mem hav)

theorem settingsCore_fields {c d : Settings} (h : settingsCore c = settingsCore d) :
    c.masks = d.masks ∧ c.classes = d.classes ∧ c.orders = d.orders ∧ c.demands = d.demands :=
  ⟨(congrArg Settings.masks h :), (congrArg Settings.classes h :), (congrArg Settings.orders h :), (congrArg Settings.demands h :)⟩

/-- A relation that a pass keeps, and the wake that may follow it: it holds where the GA and the masks stand, over a pass of the
table, and where PANEL's request is taken. -/
structure PassKept (R : State → State → Prop) : Prop where
  trans : ∀ {s t u}, R s t → R t u → R s u
  same : ∀ {s t : State}, t.ga = s.ga → t.cfg.masks = s.cfg.masks → R s t
  passTable : ∀ s, R s (passTable s)
  panel : ∀ r s, R s (withEntry .panel (fun e => { e with request := r }) s)

namespace PassKept

variable {R : State → State → Prop} (k : PassKept R)

include k

theorem of_moves {as : List Area} (h : Moves as s t) (hga : .ga ∉ partsOf as ++ everyEvent := by decide)
    (hav : pokesNone as = true := by decide) : R s t :=
  k.same (h.ga_eq hga) (settingsCore_fields (h.settingsCore_eq hav)).1

theorem refl (s : State) : R s s := k.same rfl rfl

theorem grantPanel (s : State) : R s (grantPanel s) := by
  unfold Machine.grantPanel
  extract_lets s1 e report
  have h1 : R s s1 := by
    obtain ⟨x, hx⟩ : ∃ x, x = takeHanding (panelPlacing s) s := ⟨_, rfl⟩
    obtain ⟨y, hy⟩ : ∃ y, y = withEntry .panel (fun e => { e with request := some (panelRequest x.cfg.demands) }) x := ⟨_, rfl⟩
    obtain ⟨rev, hrev⟩ : ∃ rev, s1 = { Machine.passTable y with rev := rev } := ⟨_, by rw [hy, hx]; rfl⟩
    have htaken : R s x := k.same (by rw [hx]; rfl) (by rw [hx]; rfl)
    have hplaced : R x y := hy ▸ k.panel _ x
    have hpass : R y (Machine.passTable y) := k.passTable y
    rw [hrev]
    generalize Machine.passTable y = p at hpass
    have hadvanced : R p { p with rev := rev } := k.same rfl rfl
    exact k.trans (k.trans (k.trans htaken hplaced) hpass) hadvanced
  clear_value s1
  split
  · obtain ⟨rev, hrev⟩ : ∃ rev, ownerEvent [20, 22] (panelGrant e.grant) (takeHanding report s1)
        = { panelGrant e.grant (takeHanding report s1) with rev := rev } := ⟨_, rfl⟩
    have htaken : R s1 (takeHanding report s1) := k.same rfl rfl
    have hgrant : R (takeHanding report s1) (panelGrant e.grant (takeHanding report s1)) := k.of_moves (moves_panelGrant _ _)
    rw [hrev]
    exact k.trans (k.trans (k.trans h1 htaken) hgrant) (k.same rfl rfl)
  · exact h1

theorem panelBefore (s : State) (n : Fin 8) : R s (panelBefore s n) := by
  unfold Machine.panelBefore
  split
  · dsimp only
    have hcount : R s (countChoices 1 s) := k.same rfl rfl
    split
    · exact k.trans hcount (k.grantPanel (countChoices 1 s))
    · exact hcount
  · exact k.refl s

theorem fireHeld (s : State) : R s (fireHeld s) := by
  have hfold : ∀ (ns : List (Fin 8)) (s : State), R s (ns.foldl (fun s n => fireEntry (Machine.panelBefore s n) n) s) := by
    intro ns
    induction ns with
    | nil => exact k.refl
    | cons n ns ih => exact fun s => k.trans (k.trans (k.panelBefore s n) (k.of_moves (moves_fireEntry _ n))) (ih _)
  exact hfold _ s

theorem wake (hmode : s.mc.mode = .standby) : R s (wakeStandby s) := by
  obtain ⟨x, hx, hwake⟩ : ∃ x, Moves [.skip, .mc, .chan, .pn, .asked] s x ∧ wakeStandby s = ownerEvent [25] Machine.fireHeld x := by
    have hlink : Moves [.skip, .mc, .chan, .pn, .asked] s { s with lk := { s.lk with rx := .skip } } :=
      .of_move (.skips s (by decide))
    have h1 := hlink.trans (Moves.mono (moves_wakeChannels (s := { s with lk := { s.lk with rx := .skip } }) hmode))
    exact ⟨_, h1.trans (Moves.mono (moves_wakePanel _)), rfl⟩
  rw [hwake]
  exact k.trans (k.trans (k.of_moves hx) (k.fireHeld x)) (k.same rfl rfl)

theorem woken {s0 x : State} : R x (wokenByPass s0 x) := by
  unfold wokenByPass
  split
  · rename_i hwake
    obtain ⟨v, hv⟩ : ∃ v, advance allRecords s0 x = { x with rev := v } := ⟨_, rfl⟩
    have hstep : R x { x with rev := v } := k.same rfl rfl
    rw [hv]
    exact k.trans hstep (k.wake hwake.1)
  · exact k.refl x

theorem pass (s0 s : State) : R s (pass s0 s) := by
  rw [pass_eq]
  exact k.trans (k.passTable s) k.woken

end PassKept

theorem passKept_sameTrips : PassKept SameTrips where
  trans := SameTrips.trans
  same := fun h _ => .of_ga h
  passTable := SameTrips.passTable
  panel := fun r s d => by
    rw [entryOf_withEntry]
    split
    · rename_i h
      rw [← h]
      rfl
    · rfl

theorem SameTrips.pass (s0 s : State) : SameTrips s (pass s0 s) := passKept_sameTrips.pass s0 s

/-- An output held off is not energized (R56). -/
theorem energized_of_holds {o : Output} (h : o ∈ (entryOf s (consumerOf o)).holds) : energized s o = false := by
  have hgate : gateOpen s o = false := by
    unfold gateOpen
    simp [h]
  cases hsup : s.mc.supply with
  | held b => exact energized_of_held hsup o
  | running => rw [energized_of_running hsup, hgate, Bool.false_and]

/-! ### A free order (log entry 5) -/

theorem freeOrder_perm {α : Type} (fuel k : Nat) (xs : List α) : (freeOrder fuel k xs).Perm xs := by
  induction fuel generalizing k xs with
  | zero => exact .refl _
  | succ fuel ih =>
    match xs with
    | [] => exact .refl _
    | [x] => exact .refl _
    | x :: y :: rest =>
      unfold freeOrder
      dsimp only
      split
      · rename_i z hz
        obtain ⟨hlt, rfl⟩ := List.getElem?_eq_some_iff.1 hz
        exact ((ih _ _).cons _).trans (List.getElem_cons_eraseIdx_perm hlt)
      · exact (ih _ _).cons x

theorem anyOrder_perm {α : Type} (s : State) (xs : List α) : (anyOrder s xs).Perm xs := freeOrder_perm _ _ xs

/-! ### A trip at the consumers it names (R56, R57) -/

/-- A consumer's entry with the watched outputs held off. -/
def heldOff (cmp : Comparator) (c : Consumer) (e : ConsumerEntry) : ConsumerEntry :=
  { e with holds := e.holds ++ (outputsOf c).filter fun o => (watchedBy cmp).contains o && !(e.holds.contains o) }

/-- A consumer's entry after a trip that names it. -/
def trippedEntry (cmp : Comparator) (time : Nat) (c : Consumer) (e : ConsumerEntry) : ConsumerEntry :=
  if e.latched then heldOff cmp c e else countTrip time (heldOff cmp c e)

theorem tripOne_keeps (cmp : Comparator) (s : State) (c : Consumer) : (tripOne cmp s c).mc = s.mc ∧ (tripOne cmp s c).su = s.su
    ∧ (tripOne cmp s c).ga = (withEntry c (trippedEntry cmp (now s) c) s).ga := by
  unfold tripOne
  extract_lets e added e1 e2 o s1 s2
  have h2 : s2.mc = s.mc ∧ s2.su = s.su ∧ s2.ga = (withEntry c (trippedEntry cmp (now s) c) s).ga := by
    unfold s2
    split <;> exact ⟨rfl, rfl, rfl⟩
  split <;> exact h2

theorem foldl_tripOne (cmp : Comparator) {cs : List Consumer} (hcs : cs.Nodup) (s : State) :
    (cs.foldl (tripOne cmp) s).mc = s.mc ∧ (cs.foldl (tripOne cmp) s).su = s.su
      ∧ ∀ d, entryOf (cs.foldl (tripOne cmp) s) d = if d ∈ cs then trippedEntry cmp (now s) d (entryOf s d) else entryOf s d := by
  induction cs generalizing s with
  | nil => exact ⟨rfl, rfl, fun d => by simp⟩
  | cons c cs ih =>
    obtain ⟨hc, hcs⟩ := List.nodup_cons.1 hcs
    obtain ⟨hmc, hsu, hga⟩ := tripOne_keeps cmp s c
    have hentry : ∀ d, entryOf (tripOne cmp s c) d = if c = d then trippedEntry cmp (now s) c (entryOf s c) else entryOf s d :=
      fun d => (congrArg (fun g : GrantUnit => tget g.entries (consIx d)) hga).trans (entryOf_withEntry c d _ s)
    obtain ⟨h1, h2, h3⟩ := ih hcs (tripOne cmp s c)
    rw [List.foldl_cons]
    refine ⟨h1.trans hmc, h2.trans hsu, fun d => ?_⟩
    rw [h3, hentry, now_congr hsu]
    by_cases hcd : c = d
    · subst hcd
      rw [if_neg hc, if_pos rfl, if_pos List.mem_cons_self]
    · rw [if_neg hcd]
      exact if_congr (by simp [Ne.symm hcd]) rfl rfl

theorem mem_heldOff {cmp : Comparator} {o : Output} (ho : o ∈ watchedBy cmp) (e : ConsumerEntry) :
    o ∈ (heldOff cmp (consumerOf o) e).holds := by
  have hout : o ∈ outputsOf (consumerOf o) := by
    cases o with
    | light i => fin_cases i <;> decide
    | socket k => cases k <;> decide
    | _ => decide
  show o ∈ e.holds ++ _
  by_cases h : o ∈ e.holds
  · exact List.mem_append_left _ h
  · exact List.mem_append_right _ (List.mem_filter.2 ⟨hout, by simp [ho, h]⟩)

theorem mem_trippedEntry {cmp : Comparator} {o : Output} (ho : o ∈ watchedBy cmp) (time : Nat) (e : ConsumerEntry) :
    o ∈ (trippedEntry cmp time (consumerOf o) e).holds := by
  unfold trippedEntry
  split
  · exact mem_heldOff ho e
  · exact mem_heldOff ho e

theorem consumerOf_named {cmp : Comparator} {o : Output} (ho : o ∈ watchedBy cmp) : consumerOf o ∈ namedBy cmp := by
  have hall : ∀ o ∈ watchedBy cmp, consumerOf o ∈ namedBy cmp := by cases cmp <;> decide
  exact hall o ho

theorem namedBy_nodup (cmp : Comparator) : (namedBy cmp).Nodup := by cases cmp <;> decide

end Sys2Proof.Machine

namespace Sys2Proof.Proofs

open Sys2Proof Sys2Proof.Machine

/-- Settles O30: what a trip report leaves at the consumers it names. -/
theorem tripHoldsCountsAndLatches : Obligations.TripHoldsCountsAndLatches := by
  intro cmp time s hrun
  obtain ⟨v, hv⟩ : ∃ v, v = startEvent (.tripReport ⟨cmp, time⟩) s := ⟨_, rfl⟩
  obtain ⟨x, hx⟩ : ∃ x, x = if 2 ≤ (namedBy cmp).length then countChoices (namedBy cmp).length v else v := ⟨_, rfl⟩
  obtain ⟨w, hw⟩ : ∃ w, w = (anyOrder v (namedBy cmp)).foldl (tripOne cmp) x := ⟨_, rfl⟩
  have he : effect (.tripReport ⟨cmp, time⟩) v = pass v w := by rw [hw, hx]; rfl
  have hxkeeps : x.su = v.su ∧ x.ga = v.ga := by
    rw [hx]
    split <;> exact ⟨rfl, rfl⟩
  have hperm := anyOrder_perm v (namedBy cmp)
  obtain ⟨-, -, hentry⟩ := foldl_tripOne cmp (hperm.nodup_iff.2 (namedBy_nodup cmp)) x
  have hnow : now x = now s := (now_congr hxkeeps.1).trans (by rw [hv]; rfl)
  have hold : ∀ c, entryOf x c = entryOf s c := fun c => by
    rw [entryOf, hxkeeps.2, hv]
    rfl
  have hleft : ∀ c ∈ namedBy cmp, tripPart (entryOf (close s (pass v w)) c) = tripPart (trippedEntry cmp (now s) c (entryOf s c)) := by
    intro c hc
    have hclose : entryOf (close s (pass v w)) c = entryOf (pass v w) c := by rw [entryOf, close_ga]; rfl
    rw [hclose, SameTrips.pass v w c, hw, hentry, if_pos (hperm.mem_iff.2 hc), hnow, hold]
  have hexec : exec (.tripReport ⟨cmp, time⟩) s = .next (close s (pass v w)) := by rw [exec_running hrun rfl, ← hv, he]
  generalize close s (pass v w) = t at hleft hexec
  refine ⟨t, hexec, fun o ho => ?_, fun c hc => ?_⟩
  · obtain ⟨hholds, -⟩ := tripPart_fields (hleft _ (consumerOf_named ho))
    refine energized_of_holds ?_
    rw [hholds]
    exact mem_trippedEntry ho (now s) _
  obtain ⟨hholds, hlatch, hcount, hwindow, hstep, hlast, hretry⟩ := tripPart_fields (hleft c hc)
  refine ⟨fun o ho hoc => ?_, fun h => ?_, fun h => ?_⟩
  · rw [hholds, ← hoc]
    exact mem_trippedEntry ho (now s) _
  · rw [hlatch, hcount, hstep, trippedEntry, if_pos h]
    exact ⟨h, rfl, rfl⟩
  · rw [hlatch, hcount, hwindow, hstep, hlast, hretry, trippedEntry, if_neg (by simp [h])]
    refine ⟨?_, ?_, rfl, rfl, rfl, rfl⟩
    · show (match (entryOf s c).window with | some _ => min 3 ((entryOf s c).tripCount + 1) | none => 1) = _
      cases (entryOf s c).window <;> rfl
    · show (match (entryOf s c).window with | some w => some w | none => some (now s)) = _
      cases (entryOf s c).window <;> rfl

end Sys2Proof.Proofs
end

section
/-! PROOFS. The expiries of retry timers, trip windows and run limits, and CLEAR TRIP (R47, R57 to R59). -/

namespace Sys2Proof.Machine

-- One proof after another: started together they wait for one another, each on a thread of its own.
set_option Elab.async false

variable {s t v w : State} {c : Consumer} {i : Instr}

/-- As `exec_pass`, for an effect that answers behind its pass. -/
theorem exec_passAnswers {st : Status} {d : List Byte} (hv : v = startEvent i s) (hrun : s.mc.supply = .running)
    (hreset : mayReset i = false) (hchime : noChimeHeld s) (hmode : w.mc.mode = s.mc.mode) (hsu : w.su = s.su)
    (he : effect i v = answer st d (pass v w)) : ∃ t, exec i s = .next t ∧ t.answer = some ⟨st, d⟩ ∧ t.ga = (passTable w).ga := by
  have hp : Passed w (pass v w) := passed_pass (by rw [hmode, hv]; rfl) (by rw [hsu, hv]; rfl) (hv ▸ hchime)
  generalize pass v w = p at hp he
  refine ⟨close s (answer st d p), ?_, close_answer _ _, (close_ga s _).trans hp.ga⟩
  rw [exec_running hrun hreset, ← hv, he]

/-- No consumer without a running retry timer is TRIPPED after a pass (R53). -/
theorem stateAfterPass_ne_tripped (mask : Bool) (e : ConsumerEntry) (g : Nat) (h : e.retry = none) : stateAfterPass mask e g ≠ .tripped := by
  unfold stateAfterPass
  rw [h]
  split
  · decide
  · split
    · rename_i hsome
      exact absurd hsome (by decide)
    · split
      · split
        · decide
        · split
          · decide
          · split
            · decide
            · split <;> decide
      · split <;> decide

/-- A consumer's entry after an accepted CLEAR TRIP (R59). -/
def clearedEntry (e : ConsumerEntry) : ConsumerEntry := { e with
  retry := none
  holds := []
  latched := false
  tripCount := 0
  retryStep := 0
  window := none
  lastTrip := none }

theorem tripCleared_keeps (c : Consumer) (s : State) :
    (tripCleared c s).ga = s.ga ∧ (tripCleared c s).mc = s.mc ∧ (tripCleared c s).su = s.su := by
  cases c <;> exact ⟨rfl, rfl, rfl⟩

theorem consumerById_consIx (c : Consumer) : consumerById (consIx c).1 = some c := by cases c <;> rfl

theorem consumerById_above {n : Nat} (h : 7 < n) : consumerById n = none := List.getElem?_eq_none (by exact h)

end Sys2Proof.Machine

namespace Sys2Proof.Proofs

open Sys2Proof Sys2Proof.Machine

/-- Settles O31: the expiries of retry timers, trip windows and run limits, and CLEAR TRIP. -/
theorem tripsAndSocketsExpireOrClear : Obligations.TripsAndSocketsExpireOrClear := by
  refine ⟨⟨fun c s hrun hchime hretry => ?_, fun c s hrun hwindow => ?_⟩, ⟨fun c s hrun hchime => ?_, fun id s hrun hid => ?_⟩,
    fun k s hrun e he hdue => ?_⟩
  · obtain ⟨v, hv⟩ : ∃ v, v = startEvent (.retryTimerExpiry c) s := ⟨_, rfl⟩
    obtain ⟨w, hw⟩ : ∃ w, w = withEntry c (fun e => { e with retry := none, holds := [] }) v := ⟨_, rfl⟩
    have he : effect (.retryTimerExpiry c) v = pass v w := by
      rw [hw]
      exact if_pos (hv ▸ hretry)
    have hentry : entryOf w c = { entryOf s c with retry := none, holds := [] } := by
      rw [hw, entryOf_withEntry, if_pos rfl, hv]
      rfl
    obtain ⟨t, hexec, hga, -⟩ := exec_pass hv hrun rfl hchime (by rw [hw, hv]; rfl) (by rw [hw, hv]; rfl) he
    have hleft := passed_entryOf hga c
    have hpasses : t.ga.passes = (s.ga.passes + 1) % 65536 := by
      rw [hga, passTable_passes, hw, hv]
      rfl
    refine ⟨t, hexec, ?_, ?_, ?_, ?_, hpasses⟩
    · rw [hleft, passedEntry, hentry]
    · rw [hleft, passedEntry, hentry]
    · rw [hleft, passedEntry, hentry]
    · rw [hleft]
      exact stateAfterPass_ne_tripped _ _ _ (by rw [hentry])
  · obtain ⟨v, hv⟩ : ∃ v, v = startEvent (.tripWindowExpiry c) s := ⟨_, rfl⟩
    have he : effect (.tripWindowExpiry c) v = withEntry c (fun e => { e with tripCount := 0, window := none }) v :=
      if_pos (hv ▸ hwindow)
    have hentry : ∀ d, entryOf (close s (effect (.tripWindowExpiry c) v)) d
        = if c = d then { entryOf s c with tripCount := 0, window := none } else entryOf s d := fun d => by
      have hclose : ∀ u, entryOf (close s u) d = entryOf u d := fun u => by rw [entryOf, close_ga]; rfl
      rw [hclose, he, entryOf_withEntry, hv]
      rfl
    have hpasses : (close s (effect (.tripWindowExpiry c) v)).ga.passes = s.ga.passes := by
      rw [close_ga, he, hv]
      rfl
    refine ⟨_, hv ▸ exec_running hrun rfl, ?_, fun d hd => ?_, hpasses⟩
    · rw [hentry, if_pos rfl]
    · rw [hentry, if_neg (Ne.symm hd)]
  · obtain ⟨v, hv⟩ : ∃ v, v = startEvent (.clearTrip (consIx c).1) s := ⟨_, rfl⟩
    obtain ⟨x, hx⟩ : ∃ x, x = withEntry c clearedEntry v := ⟨_, rfl⟩
    obtain ⟨w, hw⟩ : ∃ w, w = tripCleared c x := ⟨_, rfl⟩
    obtain ⟨hwga, hwmc, hwsu⟩ := tripCleared_keeps c x
    rw [← hw] at hwga hwmc hwsu
    have he : effect (.clearTrip (consIx c).1) v = answer .ok [] (pass v w) := by
      show clearTrip (consIx c).1 v = _
      rw [clearTrip, consumerById_consIx, hw, hx]
      rfl
    have hentry : entryOf w c = clearedEntry (entryOf s c) := by
      rw [entryOf, hwga, hx]
      refine (entryOf_withEntry c c clearedEntry v).trans ((if_pos rfl).trans ?_)
      rw [hv]
      rfl
    obtain ⟨t, hexec, hans, hga⟩ := exec_passAnswers hv hrun rfl hchime (by rw [hwmc, hx, hv]; rfl) (by rw [hwsu, hx, hv]; rfl) he
    have hleft : ∀ {α : Type} (g : ConsumerEntry → α), g (entryOf t c) = g (passedEntry w c) := fun g => by rw [passed_entryOf hga c]
    have hpasses : t.ga.passes = (s.ga.passes + 1) % 65536 := by
      rw [hga, passTable_passes, hwga, hx, hv]
      rfl
    have hwas : ∀ {α : Type} (g : ConsumerEntry → α), (∀ e x st, g { e with grant := x, state := st } = g e) →
        g (entryOf t c) = g (clearedEntry (entryOf s c)) := fun g hg => by
      rw [hleft g, ← hentry]
      exact hg _ _ _
    exact ⟨t, hexec, hans, hwas (·.retry) fun _ _ _ => rfl, hwas (·.holds) fun _ _ _ => rfl, hwas (·.latched) fun _ _ _ => rfl,
      hwas (·.tripCount) fun _ _ _ => rfl, hwas (·.retryStep) fun _ _ _ => rfl, hwas (·.window) fun _ _ _ => rfl,
      hwas (·.lastTrip) fun _ _ _ => rfl, hwas (·.request) fun _ _ _ => rfl, hpasses⟩
  · refine exec_answers hrun rfl ?_
    show clearTrip id _ = _
    rw [clearTrip, consumerById_above hid]
  · obtain ⟨v, hv⟩ : ∃ v, v = startEvent (.socketRunLimitExpiry k) s := ⟨_, rfl⟩
    obtain ⟨x, hx⟩ : ∃ x, x = withSocket k (fun _ => ⟨false, none⟩) v := ⟨_, rfl⟩
    have hasked : x.asked = s.asked := by rw [hx, hv]; rfl
    have hefx : effect (.socketRunLimitExpiry k) v
        = post .socket .ga .info [byte (socketIx k).1, 0] (ask (socketConsumer k) none x) := by
      have hend : (tget v.ga.sockets (socketIx k)).runEnd = some e := hv ▸ he
      have hover : ¬v.su.elapsed < e := by
        rw [hv]
        exact not_lt.mpr hdue
      show socketRunOut k v = _
      rw [socketRunOut, hend, hx]
      exact if_neg hover
    obtain ⟨u, hu⟩ : ∃ u, u = effect (.socketRunLimitExpiry k) v := ⟨_, rfl⟩
    have hsocket : tget u.ga.sockets (socketIx k) = ⟨false, none⟩ := by
      have hga : u.ga = x.ga := by rw [hu, hefx]; exact ask_ga _ _ _
      have htable : x.ga.sockets = tset v.ga.sockets (socketIx k) ⟨false, none⟩ := hx ▸ rfl
      rw [hga, htable, tget_tset, if_pos rfl]
    refine ⟨close s u, ?_, ?_, ?_, ?_, fun h => mem_close_of_mem ?_, mem_close_of_mem ?_⟩
    · rw [exec_running hrun rfl, ← hv, ← hu]
    · rw [close_ga]
      exact hsocket
    · rw [energized_close]
      cases hsup : u.mc.supply with
      | held b => exact energized_of_held hsup _
      | running =>
        have hcommand : commanded u (.socket k) = false := by
          show (tget u.ga.sockets (socketIx k)).on = false
          rw [hsocket]
        rw [energized_of_running hsup, hcommand, Bool.and_false]
    · rw [close_asked, hu, hefx]
      exact ask_asked_same _ _ _
    · rw [hu, hefx]
      exact List.mem_append_left _ (mem_ask_withdraw _ _ (by rw [hasked]; exact h))
    · rw [hu, hefx]
      exact List.mem_append_right _ (List.mem_singleton_self _)

end Sys2Proof.Proofs
end

section
/-! PROOFS. What a wake out of STANDBY leaves: the mode, the silence time and the panel (R131, R187, R189). -/

namespace Sys2Proof.Machine

-- One proof after another: started together they wait for one another, each on a thread of its own.
set_option Elab.async false

variable {s t u v : State} {as : List Area}

/-! ### The mode and the silence time after a wake (R187, R189) -/

/-- The part is AWAKE with the silence time 0, as right after a wake. -/
def justWoken (m : ModeUnit) : Prop := m.mode = .awake ∧ m.silence = 0

theorem Move.justWoken (h : Move as s t) (hd : .doze ∉ as) (hs : .sleep ∉ as) : justWoken s.mc → justWoken t.mc := by
  cases h with
  | awake _ hsil => exact fun _ => ⟨rfl, hsil⟩
  | doze _ ha _ => exact absurd ha hd
  | sleep _ ha => exact absurd ha hs
  | mc m _ ha hmode _ hsil =>
    intro ⟨hm, h0⟩
    refine ⟨hmode.trans hm, ?_⟩
    obtain e | e | e := hsil
    · exact e.trans h0
    · exact e
    · exact absurd e.1 hd
  | _ => simp [Machine.justWoken]

theorem Moves.justWoken (h : Moves as s t) (hs : justWoken s.mc) (hd : .doze ∉ as := by decide) (hsl : .sleep ∉ as := by decide) :
    justWoken t.mc :=
  h.lift (R := fun s t => Machine.justWoken s.mc → Machine.justWoken t.mc) (fun _ h => h) (fun _ _ _ f g h => g (f h))
    (fun _ _ m => m.justWoken hd hsl) hs

theorem justWoken_enterAwake (s : State) : justWoken (enterAwake s).mc := by
  unfold enterAwake
  obtain ⟨v, hv⟩ : ∃ v, ownerEvent [0] (fun s => setMode .awake { s with mc := { s.mc with silence := 0 } }) s
      = { setMode .awake { s with mc := { s.mc with silence := 0 } } with rev := v } := ⟨_, rfl⟩
  rw [hv]
  show justWoken (setMode .awake { s with mc := { s.mc with silence := 0 } }).mc
  rw [setMode_mc]
  exact ⟨rfl, rfl⟩

/-- The part right after its wake, before the held entries fire. -/
theorem wakeStandby_fires (hmode : s.mc.mode = .standby) : ∃ x, Moves [.skip, .mc, .chan, .pn, .asked] s x ∧ justWoken x.mc
    ∧ x.pn = { s.pn with standby := false } ∧ wakeStandby s = ownerEvent [25] fireHeld x := by
  have hlink : Moves [.skip, .mc, .chan, .pn, .asked] s { s with lk := { s.lk with rx := .skip } } :=
    .of_move (.skips s (by decide))
  obtain ⟨y, hy⟩ : ∃ y, y = ownerEvent [8] wakeChannels (enterAwake { s with lk := { s.lk with rx := .skip } }) := ⟨_, rfl⟩
  have hymoves : Moves [.mc, .chan] { s with lk := { s.lk with rx := .skip } } y := hy ▸ moves_wakeChannels hmode
  have hywoken : justWoken y.mc := by
    rw [hy]
    exact justWoken_enterAwake { s with lk := { s.lk with rx := .skip } }
  have hypn : y.pn = s.pn := hymoves.pn_eq
  obtain ⟨z, hz⟩ : ∃ z, z = ownerEvent [20] (withPn fun u => { u with standby := false }) y := ⟨_, rfl⟩
  have hzpn : z.pn = { y.pn with standby := false } := by rw [hz]; rfl
  have hwake : wakeStandby s = ownerEvent [25] fireHeld (ask .panel (some (panelRequest z.cfg.demands)) z) := by rw [hz, hy]; rfl
  have hmoves : Moves [.pn, .asked] y (ask .panel (some (panelRequest z.cfg.demands)) z) := by
    rw [hz]
    exact moves_wakePanel y
  refine ⟨_, (hlink.trans hymoves.mono).trans hmoves.mono, hmoves.justWoken hywoken, ?_, hwake⟩
  rw [ask_pn, hzpn, hypn]

theorem justWoken_wakeStandby (hmode : s.mc.mode = .standby) : justWoken (wakeStandby s).mc := by
  obtain ⟨x, -, hwoken, -, e⟩ := wakeStandby_fires hmode
  rw [e]
  exact (moves_fireHeld x).justWoken hwoken

/-! ### The panel at a firing and at a wake (R126, R128) -/

/-- The PI less its chimes and its grant. -/
def panelFixed (u : PanelUnit) : PanelUnit := { u with chimes := [], arrivals := 0, player := none, grant := 0, standby := false }

/-- Of the PI nothing but its chimes, its grant and its standby mark moves. -/
def SamePanel (s t : State) : Prop := panelFixed t.pn = panelFixed s.pn

theorem SamePanel.refl (s : State) : SamePanel s s := rfl

theorem SamePanel.trans (h : SamePanel s t) (k : SamePanel t u) : SamePanel s u := Eq.trans k h

theorem SamePanel.of_pn (h : t.pn = s.pn) : SamePanel s t := congrArg panelFixed h

theorem SamePanel.contactOf (h : SamePanel s t) (c : Contact) : contactOf t c = contactOf s c :=
  (congrArg (fun u : PanelUnit => tget u.contacts (contactIx c)) h :)

theorem SamePanel.startNext (s : State) : SamePanel s (startNext s) := by
  unfold Machine.startNext
  split <;> rfl

theorem SamePanel.judgeChime (p : Fin 10) (s : State) : SamePanel s (judgeChime p s).1 := by
  have hadmit : ∀ queue, SamePanel s (admitChime p queue s) := by
    intro queue
    unfold admitChime afterInsertion
    dsimp only
    split
    · exact SamePanel.trans (rfl : SamePanel s (withPn (fun u => { u with
        chimes := insertChime ⟨p, (patternOf s.cfg p).priority, s.pn.arrivals⟩ queue, arrivals := u.arrivals + 1 }) s)) (.startNext _)
    · split
      · split
        · rfl
        · exact SamePanel.trans (rfl : SamePanel s (withPn (fun u => { u with
            chimes := insertChime ⟨p, (patternOf s.cfg p).priority, s.pn.arrivals⟩ queue, arrivals := u.arrivals + 1 }) s)) (.startNext _)
      · rfl
  unfold Machine.judgeChime
  dsimp only
  split
  · rfl
  split
  · rfl
  split
  · rfl
  split
  · exact hadmit _
  split
  · rfl
  · exact hadmit _

theorem SamePanel.ownerEvent {f : State → State} {rs : List (Fin 26)} (h : SamePanel s (f s)) : SamePanel s (ownerEvent rs f s) := h

theorem SamePanel.runAction (a : Action) (s : State) : SamePanel s (runAction a s).1 := by
  unfold Machine.runAction
  split
  · exact .of_pn (moves_heaterStart _ _ s).pn_eq
  · exact .of_pn (moves_heaterStop s).pn_eq
  · exact .of_pn (moves_sceneRequest _ s).pn_eq
  · rename_i n
    show SamePanel s (chimeStatus n s).1
    unfold chimeStatus
    split
    · exact .judgeChime _ s
    · rfl
  · exact .of_pn (moves_boostStart s).pn_eq
  · split
    · rfl
    · exact .of_pn (moves_writeVentSpeed _ s).pn_eq

theorem SamePanel.fireEntry (s : State) (k : Fin 8) : SamePanel s (fireEntry s k) := by
  unfold Machine.fireEntry
  split
  · rfl
  · rename_i e _
    exact (SamePanel.runAction e.action s).trans rfl

theorem SamePanel.foldl {α : Type} {f : State → α → State} (h : ∀ s a, SamePanel s (f s a)) (xs : List α) (s : State) :
    SamePanel s (xs.foldl f s) := by
  induction xs generalizing s with
  | nil => rfl
  | cons x xs ih => exact (h s x).trans (ih _)

theorem SamePanel.panelGrant (g : Nat) (s : State) : SamePanel s (panelGrant g s) := by
  unfold Machine.panelGrant
  dsimp only
  split <;> rfl

theorem SamePanel.grantPanel (s : State) : SamePanel s (grantPanel s) := by
  unfold Machine.grantPanel
  extract_lets s1 e report
  have h1 : SamePanel s s1 := by
    have hpass := moves_passEntry .panel (fun e => { e with
      request := some (panelRequest (takeHanding (panelPlacing s) s).cfg.demands) }) (fun _ => rfl) (takeHanding (panelPlacing s) s)
    exact .ownerEvent (f := fun s => passTable (withEntry .panel (fun e => { e with
      request := some (panelRequest s.cfg.demands) }) s)) (s := takeHanding (panelPlacing s) s) (.of_pn hpass.pn_eq)
  clear_value s1
  split
  · refine h1.trans ?_
    have htake : SamePanel s1 (takeHanding report s1) := rfl
    exact htake.trans (.ownerEvent (.panelGrant _ _))
  · exact h1

theorem SamePanel.panelBefore (s : State) (k : Fin 8) : SamePanel s (panelBefore s k) := by
  unfold Machine.panelBefore
  split
  · dsimp only
    split
    · exact SamePanel.trans (rfl : SamePanel s (countChoices 1 s)) (.grantPanel _)
    · rfl
  · rfl

theorem SamePanel.fireHeld (s : State) : SamePanel s (fireHeld s) :=
  .foldl (fun s k => (SamePanel.panelBefore s k).trans (.fireEntry _ k)) _ s

theorem SamePanel.wakeStandby (hmode : s.mc.mode = .standby) : SamePanel s (wakeStandby s) := by
  obtain ⟨x, -, -, hpn, e⟩ := wakeStandby_fires hmode
  rw [e]
  exact SamePanel.trans (by rw [SamePanel, hpn]; rfl : SamePanel s x) (.ownerEvent (.fireHeld x))

theorem SamePanel.wakePart (s : State) : SamePanel s (wakePart s) := by
  unfold Machine.wakePart
  split
  · exact .of_pn (moves_wakeFromDoze s).pn_eq
  · exact .of_pn (moves_wakeFromDoze s).pn_eq
  · rename_i hmode
    exact .wakeStandby hmode

/-! ### The close of an event without a wake (R187) -/

theorem close_silence_unwoken (h : u.mc.woken = false) : (close s u).mc.silence = u.mc.silence := by
  unfold close
  rw [advance_mc, ownerEvent_mc]
  have hwoken : (settle s u).mc.woken = false := by rw [settle_mc, h]
  obtain ⟨-, e⟩ | ⟨hready, e⟩ | ⟨-, e⟩ := dozeCheck_cases (settle s u)
  · rw [e, settle_mc]
  · exact absurd (hready.2.symm.trans hwoken) (by decide)
  · rw [e, setMode_mc, settle_mc]

/-- A wake source in AWAKE keeps the part there, and where it could enter DOZE makes its silence time 0 (R187). -/
theorem close_woken (hmode : u.mc.mode = .awake) (hwoken : u.mc.woken = true) : (close s u).mc.mode = .awake
    ∧ (dozeAllowed { close s u with mc := u.mc } → (close s u).mc.silence = 0) := by
  have hmc : (close s u).mc = (dozeCheck (settle s u)).mc := by
    unfold close
    rw [advance_mc, ownerEvent_mc]
  have hsettled : (settle s u).mc = u.mc := settle_mc s u
  rw [hmc]
  obtain ⟨hready, e⟩ | ⟨-, e⟩ | ⟨hready, -⟩ := dozeCheck_cases (settle s u)
  · rw [e]
    refine ⟨(congrArg ModeUnit.mode hsettled).trans hmode, fun hall => ?_⟩
    obtain ⟨hsil, hstart, hfade, hplayer, hchimes⟩ := hall
    have hhc : (close s u).hc = (settle s u).hc := close_hc s u
    have hfades : anyFade (settle s u) = false := by
      rw [← hfade]
      unfold anyFade lightOf
      rw [settle_lc, close_lc]
    have hpn : (close s u).pn = (settle s u).pn := by rw [close_pn, settle_pn]
    have hall : dozeReady (settle s u) = true := by
      unfold dozeReady
      rw [hsettled, hmode, hfades, ← hhc, ← hpn, show startSequence (close s u).hc.state = false from hstart,
        show (close s u).pn.player = none from hplayer, show (close s u).pn.chimes = [] from hchimes]
      simpa using hsil
    exact absurd (hready.symm.trans hall) (by decide)
  · rw [e]
    exact ⟨(congrArg ModeUnit.mode hsettled).trans hmode, fun _ => rfl⟩
  · exact absurd (hready.2.symm.trans ((congrArg ModeUnit.woken hsettled).trans hwoken)) (by decide)

end Sys2Proof.Machine
end

section
/-! PROOFS. The contacts (R128, R129). -/

namespace Sys2Proof.Machine

-- One proof after another: started together they wait for one another, each on a thread of its own.
set_option Elab.async false

variable {s t u v : State} {c : Contact}

/-! ### A contact's handing (R129) -/

/-- What a handed contact adds to the handings, before any wake. -/
theorem handContact_eq (c : Contact) (initial : Bool) (s : State) : ∃ x, x = { s with handed := x.handed }
    ∧ (∀ i, contactHanding c (contactOf s c).state = some i → i ∈ x.handed)
    ∧ ((tget s.cfg.contacts (contactIx c)).report = true → .noticePost ⟨.contact, .pi, .info, false,
        [byte (contactIx c).1, byte (contactCode (contactOf s c).state), byte (if initial then 0 else 1)]⟩ ∈ x.handed)
    ∧ handContact c initial s = if (tget s.cfg.contacts (contactIx c)).wake && !initial then wakePart x else x := by
  unfold handContact
  extract_lets st set s1 s2
  have h1 : s1 = { s with handed := s1.handed } ∧ ∀ i, contactHanding c st = some i → i ∈ s1.handed := by
    unfold s1
    split
    · rename_i j hj
      refine ⟨rfl, fun i hi => ?_⟩
      rw [hj, Option.some.injEq] at hi
      exact hi ▸ List.mem_append_right _ (List.mem_singleton_self _)
    · rename_i hj
      exact ⟨rfl, fun i hi => absurd (hj.symm.trans hi) (by simp)⟩
  refine ⟨s2, ?_, fun i hi => ?_, fun h => ?_, rfl⟩
  · unfold s2
    rw [h1.1]
    split <;> rfl
  · unfold s2
    split
    · exact List.mem_append_left _ (h1.2 i hi)
    · exact h1.2 i hi
  · unfold s2
    rw [if_pos h]
    exact List.mem_append_right _ (List.mem_singleton_self _)

/-- A wake leaves in flight what is no handing of PANEL's. -/
theorem mem_wakePart {i : Instr} (hi : i ∈ s.handed) (hp : notPanels i = true) : i ∈ (wakePart s).handed := by
  have hmoves : Moves wakeAreas s (wakePart s) := moves_wakePart (by decide) fun _ => List.Subset.refl _
  obtain ⟨new, e⟩ := hmoves.handed_notPanels
  have hmem : i ∈ (wakePart s).handed.filter notPanels := by
    rw [e]
    exact List.mem_append_left _ (List.mem_filter.2 ⟨hi, hp⟩)
  exact (List.mem_filter.1 hmem).1

/-- A wake source leaves the part AWAKE once its event is closed, with the silence time 0 where it was not so before (R187). -/
theorem wakePart_closed (x : State) : (close s (wakePart x)).mc.mode = .awake
    ∧ (x.mc.mode ≠ .awake → (close s (wakePart x)).mc.silence = 0)
    ∧ (dozeAllowed { close s (wakePart x) with mc := x.mc } → (close s (wakePart x)).mc.silence = 0) := by
  have hfresh : justWoken (wakePart x).mc → _ ∧ (x.mc.mode ≠ .awake → _) ∧ (dozeAllowed { close s (wakePart x) with mc := x.mc } → _) :=
    fun h => by
      have hmc := (close_awake (s := s) h.2).1
      exact ⟨(congrArg ModeUnit.mode hmc).trans h.1, fun _ => (congrArg ModeUnit.silence hmc).trans h.2,
        fun _ => (congrArg ModeUnit.silence hmc).trans h.2⟩
  cases hmode : x.mc.mode with
  | awake =>
    have e : wakePart x = { x with mc := { x.mc with woken := true } } := by
      unfold wakePart wakeFromDoze
      rw [hmode]
    rw [e]
    obtain ⟨h1, h2⟩ := close_woken (s := s) (u := { x with mc := { x.mc with woken := true } }) hmode rfl
    exact ⟨h1, fun h => absurd rfl h, h2⟩
  | doze =>
    have e : wakePart x = enterAwake x := by
      unfold wakePart wakeFromDoze
      rw [hmode]
    rw [hmode] at hfresh
    exact hfresh (e ▸ justWoken_enterAwake x)
  | standby =>
    have e : wakePart x = wakeStandby x := by
      unfold wakePart
      rw [hmode]
    rw [hmode] at hfresh
    exact hfresh (e ▸ justWoken_wakeStandby hmode)

/-! ### The debounce (R128) -/

theorem contactOf_close (s u : State) (c : Contact) : contactOf (close s u) c = contactOf u c := by
  unfold contactOf
  rw [close_pn]

theorem contactInput_same {l : LineLevel} (h : l = (contactOf s c).pin) : contactInput c l s = s := if_pos h.symm

theorem contactInput_change {l : LineLevel} (h : l ≠ (contactOf s c).pin) : contactInput c l s = withContact c (fun x => { x with
    pin := l
    timer := if (contactOf s c).level = some l then none else some (tget s.cfg.contacts (contactIx c)).debounce }) s :=
  if_neg (Ne.symm h)

theorem debounceOver_idle (h : (contactOf s c).timer = none) : debounceOver c s = s := by
  unfold debounceOver
  dsimp only
  rw [h]

/-- A contact's judged level. -/
def contactJudged (c : Contact) (s : State) : State := withContact c (fun x => { x with
  level := some x.pin
  state := judgeContact (tget s.cfg.contacts (contactIx c)).activeLevel (contactOf s c).pin
  timer := none }) s

theorem debounceOver_eq (h : (contactOf s c).timer.isSome = true) : debounceOver c s
    = if (contactOf s c).state = judgeContact (tget s.cfg.contacts (contactIx c)).activeLevel (contactOf s c).pin then contactJudged c s
      else handContact c (decide ((contactOf s c).state = .unknown)) (contactJudged c s) := by
  obtain ⟨e, he⟩ := Option.isSome_iff_exists.1 h
  have hknown : judgeContact (tget s.cfg.contacts (contactIx c)).activeLevel (contactOf s c).pin ≠ .unknown := by
    unfold judgeContact
    split <;> decide
  unfold debounceOver
  dsimp only
  rw [he]
  by_cases hu : (contactOf s c).state = .unknown
  · have hne : ¬(contactOf s c).state = judgeContact (tget s.cfg.contacts (contactIx c)).activeLevel (contactOf s c).pin :=
      fun h => hknown (h.symm.trans hu)
    exact (if_pos hu).trans ((if_neg hne).trans (by rw [decide_eq_true hu]; rfl)).symm
  · rw [decide_eq_false hu]
    exact if_neg hu

theorem contactOf_judged (c : Contact) (s : State) : contactOf (contactJudged c s) c = ⟨(contactOf s c).pin, some (contactOf s c).pin,
    judgeContact (tget s.cfg.contacts (contactIx c)).activeLevel (contactOf s c).pin, none⟩ := contactOf_withContact_same c _ s

theorem contactOf_judged_other {d : Contact} (h : d ≠ c) : contactOf (contactJudged c s) d = contactOf s d :=
  contactOf_withContact_of_ne _ s h

/-- A reset leaves a contact UNKNOWN with its debounce timer running (R128, R190). -/
theorem contactOf_resetPart (kind : ResetKind) (m : ModeUnit) (cc : Settings → ChargeUnit) (offset : Int) (unset : Bool) (s : State)
    (c : Contact) : contactOf (resetPart kind m cc offset unset s) c = ⟨(contactOf s c).pin, none, .unknown,
      some (tget (resetPart kind m cc offset unset s).cfg.contacts (contactIx c)).debounce⟩ := by
  obtain ⟨cfg, hcfg⟩ : ∃ cfg, (resetPart kind m cc offset unset s).cfg = cfg := ⟨_, rfl⟩
  have hpn : (resetPart kind m cc offset unset s).pn = panelReset cfg (s.pn.contacts.map (·.pin)) := hcfg ▸ rfl
  have hcell : ∀ pins : Vector LineLevel 6, tget (panelReset cfg pins).contacts (contactIx c)
      = contactReset (tget pins (contactIx c)) (tget cfg.contacts (contactIx c)) := fun pins => by cases c <;> rfl
  unfold contactOf
  rw [hpn, hcfg, hcell, tget_map]
  rfl

/-- What the handing of a judged contact leaves, once its event is closed. -/
structure ContactHanded (c : Contact) (first : Bool) (s t : State) : Prop where
  panel : ∀ d, contactOf t d = contactOf s d
  owner : ∀ i, contactHanding c (contactOf s c).state = some i → i ∈ t.handed
  report : (tget s.cfg.contacts (contactIx c)).report = true → .noticePost ⟨.contact, .pi, .info, false,
    [byte (contactIx c).1, byte (contactCode (contactOf s c).state), byte (if first then 0 else 1)]⟩ ∈ t.handed
  wake : (tget s.cfg.contacts (contactIx c)).wake = true → first = false → t.mc.mode = .awake
    ∧ (s.mc.mode ≠ .awake → t.mc.silence = 0) ∧ (dozeAllowed { t with mc := s.mc } → t.mc.silence = 0)

theorem notPanels_contactHanding {st : ContactState} {i : Instr} (h : contactHanding c st = some i) : notPanels i = true := by
  cases c with
  | aux1 => exact absurd h (by simp [contactHanding])
  | aux2 => exact absurd h (by simp [contactHanding])
  | _ =>
    rw [contactHanding, Option.some.injEq] at h
    exact h ▸ rfl

theorem contactHanded_closed (s0 : State) (first : Bool) (s : State) : ContactHanded c first s (close s0 (handContact c first s)) := by
  obtain ⟨x, hx, howner, hreport, e⟩ := handContact_eq c first s
  have hxpn : x.pn = s.pn := by rw [hx]
  have hxmc : x.mc = s.mc := by rw [hx]
  by_cases hwake : ((tget s.cfg.contacts (contactIx c)).wake && !first) = true
  · rw [if_pos hwake] at e
    have hpanel : SamePanel s (handContact c first s) := by
      rw [e]
      exact SamePanel.trans (.of_pn hxpn) (.wakePart x)
    refine ⟨fun d => (contactOf_close _ _ d).trans (hpanel.contactOf d), fun i hi => mem_close_of_mem ?_, fun h => mem_close_of_mem ?_,
      fun _ _ => ?_⟩
    · rw [e]
      exact mem_wakePart (howner i hi) (notPanels_contactHanding hi)
    · rw [e]
      exact mem_wakePart (hreport h) rfl
    · rw [e, ← hxmc]
      exact wakePart_closed x
  · rw [if_neg hwake] at e
    rw [e]
    refine ⟨fun d => (contactOf_close _ _ d).trans (congrArg (fun u : PanelUnit => tget u.contacts (contactIx d)) hxpn),
      fun i hi => mem_close_of_mem (howner i hi), fun h => mem_close_of_mem (hreport h), fun h1 h2 => absurd ?_ hwake⟩
    rw [h1, h2]
    rfl

end Sys2Proof.Machine

namespace Sys2Proof.Proofs

open Sys2Proof Sys2Proof.Machine

/-- Settles O47: the inputs' changes, the reset's contacts and what a debounce timer's end leaves. -/
theorem contactsAreDebouncedAndHanded : Obligations.ContactsAreDebouncedAndHanded := by
  refine ⟨fun c l s hrun => ?_, fun s hsup => ?_, fun c l s hheld => ?_, fun c s hrun htimer => ?_, fun c s hrun hnone => ?_⟩
  · have hchange : exec (.contactInputChange c l) s = .next (close s (contactInput c l (startEvent (.contactInputChange c l) s))) :=
      exec_running hrun rfl
    obtain ⟨v, hv⟩ : ∃ v, v = startEvent (.contactInputChange c l) s := ⟨_, rfl⟩
    have hold : ∀ d, contactOf v d = contactOf s d := fun d => hv ▸ rfl
    have hcfg : v.cfg = s.cfg := hv ▸ rfl
    rw [← hv] at hchange
    refine ⟨_, hchange, fun h => ?_, fun h => ?_, fun d hd => ?_⟩
    · rw [close_pn, contactInput_same (by rw [hold]; exact h), hv]
      rfl
    · rw [contactOf_close, contactInput_change (by rw [hold]; exact h), contactOf_withContact_same, hold, hcfg]
    · rw [contactOf_close]
      by_cases h : l = (contactOf s c).pin
      · rw [contactInput_same (by rw [hold]; exact h), hold]
      · rw [contactInput_change (by rw [hold]; exact h), contactOf_withContact_of_ne _ _ hd, hold]
  · refine ⟨_, exec_powerOnReset s, fun c => ?_⟩
    rw [powerOn_eq hsup]
    exact contactOf_resetPart _ _ _ _ _ s c
  · obtain ⟨x, hx⟩ : ∃ x, x = pinInReset c l s := ⟨_, rfl⟩
    have hxpin : (contactOf x c).pin = l := by
      rw [hx]
      exact congrArg ContactCell.pin (contactOf_withContact_same c _ s)
    have hxsup : x.mc.supply ≠ .held false := by
      have h : x.mc.supply = s.mc.supply := hx ▸ rfl
      rw [h, hheld]
      decide
    obtain ⟨u, hu⟩ : ∃ u, u = powerOn x := ⟨_, rfl⟩
    have hurun : u.mc.supply = .running := by
      rw [hu, powerOn_eq hxsup]
      rfl
    have hcell : contactOf u c = ⟨l, none, .unknown, some (tget u.cfg.contacts (contactIx c)).debounce⟩ := by
      rw [hu, powerOn_eq hxsup, ← hxpin]
      exact contactOf_resetPart _ _ _ _ _ x c
    obtain ⟨v, hv⟩ : ∃ v, v = startEvent (.debounceExpiry c) u := ⟨_, rfl⟩
    have hvcell : contactOf v c = contactOf u c := hv ▸ rfl
    have hvcfg : v.cfg = u.cfg := hv ▸ rfl
    have he : effect (.debounceExpiry c) v = handContact c true (contactJudged c v) := by
      have hne : ¬(contactOf v c).state = judgeContact (tget v.cfg.contacts (contactIx c)).activeLevel (contactOf v c).pin := by
        rw [hvcell, hcell]
        unfold judgeContact
        split <;> simp
      have hfirst : decide ((contactOf v c).state = .unknown) = true := by
        rw [hvcell, hcell]
        rfl
      show debounceOver c v = _
      rw [debounceOver_eq (by rw [hvcell, hcell]; rfl), if_neg hne, hfirst]
    have hleft := contactHanded_closed (c := c) u true (contactJudged c v)
    refine ⟨x, u, close u (handContact c true (contactJudged c v)), ?_, ?_, ?_, ?_⟩
    · rw [exec_contactInputChange_held c l hheld, hx]
    · rw [exec_powerOnReset, hu]
    · rw [exec_running hurun rfl, ← hv, he]
    · rw [hleft.panel, contactOf_judged, hvcell, hcell, hvcfg]
      rfl
  · intro set st first
    obtain ⟨v, hv⟩ : ∃ v, v = startEvent (.debounceExpiry c) s := ⟨_, rfl⟩
    have hold : ∀ d, contactOf v d = contactOf s d := fun d => hv ▸ rfl
    have hcfg : v.cfg = s.cfg := hv ▸ rfl
    have he : effect (.debounceExpiry c) v = if (contactOf s c).state = st then contactJudged c v
        else handContact c (decide first) (contactJudged c v) := by
      show debounceOver c v = _
      rw [debounceOver_eq (by rw [hold]; exact htimer), hold, hcfg]
      rfl
    have hjudged : contactOf (contactJudged c v) c = ⟨(contactOf s c).pin, some (contactOf s c).pin, st, none⟩ := by
      rw [contactOf_judged, hold, hcfg]
      rfl
    have hexec : exec (.debounceExpiry c) s = .next (close s (effect (.debounceExpiry c) v)) := by rw [exec_running hrun rfl, hv]
    by_cases h : (contactOf s c).state = st
    · rw [he, if_pos h] at hexec
      refine ⟨_, hexec, ?_, fun hne => absurd h hne, fun _ => ⟨?_, ?_⟩, fun d hd => ?_⟩
      · rw [contactOf_close, hjudged]
      · rw [close_silence_unwoken (by rw [hv]; rfl), hv]
        rfl
      · rw [close_su, hv]
        rfl
      · rw [contactOf_close, contactOf_judged_other hd, hold]
    · rw [he, if_neg h] at hexec
      have hleft := contactHanded_closed (c := c) s (decide first) (contactJudged c v)
      have hset : tget (contactJudged c v).cfg.contacts (contactIx c) = set := hcfg ▸ rfl
      have hstate : (contactOf (contactJudged c v) c).state = st := by rw [hjudged]
      have howner : ∀ i, contactHanding c st = some i → i ∈ _ := fun i hi => hleft.owner i (by rw [hstate]; exact hi)
      refine ⟨_, hexec, (hleft.panel c).trans hjudged, fun _ => ⟨fun hc => ?_, fun hc => ?_, fun hc => ?_, fun hc => ?_, fun hrep => ?_,
        fun hwake hnot => ?_⟩, fun h' => absurd h' h, fun d hd => ?_⟩
      · exact howner _ (by rw [hc]; rfl)
      · exact howner _ (by rw [hc]; rfl)
      · exact howner _ (by rw [hc]; rfl)
      · exact howner _ (by rw [hc]; rfl)
      · have hmem := hleft.report (by rw [hset]; exact hrep)
        rw [hstate] at hmem
        have hbyte : byte (if decide first = true then 0 else 1) = if first then 0 else 1 := by
          by_cases hf : first
          · rw [if_pos hf, decide_eq_true hf]
            rfl
          · rw [if_neg hf, decide_eq_false hf]
            rfl
        rw [hbyte] at hmem
        exact hmem
      · have hmc : (contactJudged c v).mc.mode = s.mc.mode ∧ (contactJudged c v).mc.silence = s.mc.silence := hv ▸ ⟨rfl, rfl⟩
        obtain ⟨h1, h2, h3⟩ := hleft.wake (by rw [hset]; exact hwake) (decide_eq_false hnot)
        refine ⟨h1, fun hm => h2 (by rw [hmc.1]; exact hm), fun hall => h3 ?_⟩
        obtain ⟨hsil, hrest⟩ := hall
        exact ⟨hsil.trans_eq hmc.2.symm, hrest⟩
      · exact (hleft.panel d).trans ((contactOf_judged_other hd).trans (hold d))
  · have he : effect (.debounceExpiry c) (startEvent (.debounceExpiry c) s) = startEvent (.debounceExpiry c) s :=
      debounceOver_idle (s := startEvent (.debounceExpiry c) s) hnone
    refine ⟨_, exec_running hrun rfl, ?_⟩
    rw [close_pn, he]
    rfl

end Sys2Proof.Proofs
end

section
/-! PROOFS. The requests of the link: each is served by its target, which answers, and leaves the queue, the request in hand and the
waiting RESTART as they are. -/

namespace Sys2Proof.Machine

-- One proof after another: started together they wait for one another, each on a thread of its own.
set_option Elab.async false

variable {s t u : State} {as : List Area}

/-! ### What a run leaves at the link and at the MC -/

/-- The receive queue and the request in hand are the same (R179). -/
def SameRequests (s t : State) : Prop := t.lk.queue = s.lk.queue ∧ t.lk.inHand = s.lk.inHand

theorem SameRequests.trans (h : SameRequests s t) (k : SameRequests t u) : SameRequests s u := ⟨k.1.trans h.1, k.2.trans h.2⟩

theorem Move.sameRequests (h : Move as s t) (hav : .lk ∉ as) : SameRequests s t := by
  cases h with
  | link l _ ha => exact absurd ha hav
  | _ => simp [SameRequests]

theorem Moves.sameRequests (h : Moves as s t) (hav : .lk ∉ as := by decide) : SameRequests s t :=
  h.lift (fun _ => ⟨rfl, rfl⟩) (fun _ _ _ => SameRequests.trans) fun _ _ m => m.sameRequests hav

/-- No reset of a RESTART is due in `t` that was not in `s` (R193). -/
def NoNewRestart (s t : State) : Prop := t.mc.restart = .store → s.mc.restart = .store

theorem Move.noNewRestart (h : Move as s t) (hav : .restart ∉ as) : NoNewRestart s t := by
  cases h with
  | mc m _ _ _ _ _ _ hdue => exact fun h => (hdue h).resolve_right hav
  | _ => simp [NoNewRestart]

theorem Moves.noNewRestart (h : Moves as s t) (hav : .restart ∉ as := by decide) : NoNewRestart s t :=
  h.lift (fun _ h => h) (fun _ _ _ f g h => f (g h)) fun _ _ m => m.noNewRestart hav

theorem part_of_answer {a : Area} (h : .answer ∈ a.parts) : a = .answer := by
  unfold Area.parts at h
  split at h <;> first | rfl | exact absurd h (by decide)

/-- Moves that do not answer keep the answer. -/
theorem Moves.keepsAnswer (h : Moves as s t) (hav : .answer ∉ as := by decide) : t.answer = s.answer := by
  refine h.answer_eq fun hm => ?_
  rcases List.mem_append.1 hm with hm | hm
  · obtain ⟨a, ha, hp⟩ := List.mem_flatMap.1 hm
    exact hav (part_of_answer hp ▸ ha)
  · exact absurd hm (by decide)

/-! ### A request served -/

/-- The target has answered, and the queue, the request in hand and the waiting RESTART stand as they did. -/
structure Served (s t : State) : Prop where
  answered : t.answer.isSome = true
  same : SameRequests s t
  waits : NoNewRestart s t

theorem served_answer (st : Status) (d : List Byte) (s : State) : Served s (answer st d s) := ⟨rfl, ⟨rfl, rfl⟩, fun h => h⟩

theorem served_of_moves (h : Moves as s t) (ha : t.answer.isSome = true) (hlk : .lk ∉ as := by decide) (hre : .restart ∉ as := by decide) :
    Served s t := ⟨ha, h.sameRequests hlk, h.noNewRestart hre⟩

/-- A command's effect serves the request that stands for it, where it answers and touches neither the link nor a RESTART. -/
theorem served_effect (i : Instr) (ha : (effect i s).answer.isSome = true) (hreset : mayReset i = false := by rfl)
    (hlk : .lk ∉ areasOf i := by simp only [areasOf]; decide) (hre : .restart ∉ areasOf i := by simp only [areasOf]; decide) :
    Served s (effect i s) :=
  served_of_moves (moves_effect i hreset s) ha (not_mem_cmdAreas hlk (by decide)) (not_mem_cmdAreas hre (by decide))

/-! ### Record operations answer -/

/-- What an owner may move at a change of record `r`, the wake included. -/
def takingAreas (r : Nat) : List Area := .poked r :: (ownerAreas r ++ wakeAreas)

theorem takingAreas_plain (r : Nat) : .answer ∉ takingAreas r ∧ .lk ∉ takingAreas r ∧ .restart ∉ takingAreas r
    ∧ .sleep ∉ takingAreas r ∧ .clock ∉ takingAreas r := by
  have howner : ∀ a ∈ [Area.answer, .lk, .restart, .sleep, .clock], a ∉ ownerAreas r := by
    unfold ownerAreas
    split <;> decide
  simp only [List.forall_mem_cons] at howner
  obtain ⟨h1, h2, h3, h4, h5, -⟩ := howner
  simp only [takingAreas, List.mem_cons, List.mem_append, h1, h2, h3, h4, h5, reduceCtorEq, false_or]
  decide

theorem ownerWakes_taking (r : Nat) (s : State) : OwnerWakes (takingAreas r) s r := by
  obtain ⟨-, -, -, hsleep, hclock⟩ := takingAreas_plain r
  exact {
    owner := fun _ m => List.mem_cons_of_mem _ (List.mem_append_left _ m)
    capacity := by
      rintro rfl
      exact List.mem_cons_self ..
    wake := fun _ _ _ m => List.mem_cons_of_mem _ (List.mem_append_right _ m)
    awake := hsleep
    clock := hclock }

/-- The part with an operation's fields written and its revision advanced, before the owner takes the change. -/
abbrev poked (r : Nat) (ws : List FieldWrite) (s : State) : State := operateRecord r (pokeAll r ws) s

theorem moves_poked {r : Nat} (ws : List FieldWrite) (hr : r ≠ 2) (s : State) : Moves (takingAreas r) s (poked r ws s) :=
  moves_operateRecord hr (.of_move (.poke r ws s (List.mem_cons_self ..)))

/-- After its answer, an accepted write is its owner's taking of the change alone. -/
theorem moves_acceptTaken {r : Nat} (ws : List FieldWrite) (st : Status) (data : List Byte) (hr : r ≠ 2) (s : State) :
    Moves (takingAreas r) (answer st (revByte (poked r ws s) r :: data) (poked r ws s)) (accept r ws st data s) := by
  unfold accept
  dsimp only
  split
  · exact .refl
  · exact moves_ownerTakes hr (moves_ownerEffect s ws (ownerWakes_taking r _))

/-- What an accepted write answers. -/
theorem accept_answer {r : Nat} (ws : List FieldWrite) (st : Status) (data : List Byte) (hr : r ≠ 2) (s : State) :
    (accept r ws st data s).answer = some ⟨st, revByte (poked r ws s) r :: data⟩ :=
  (moves_acceptTaken ws st data hr s).keepsAnswer (takingAreas_plain r).1

theorem served_accept {r : Nat} (ws : List FieldWrite) (st : Status) (data : List Byte) (hr : r ≠ 2) (s : State) :
    Served s (accept r ws st data s) := by
  obtain ⟨-, hlk, hrestart, -, -⟩ := takingAreas_plain r
  have h1 := moves_poked ws hr s
  have h2 := moves_acceptTaken ws st data hr s
  refine ⟨by rw [accept_answer ws st data hr]; rfl, ?_, fun h => h1.noNewRestart hrestart (h2.noNewRestart hrestart h)⟩
  exact (h1.sameRequests hlk).trans (h2.sameRequests hlk)

/-- What a restore may move after its answer. -/
def restoreAreas : List Area := .rm :: (fireAreas ++ wakeAreas)

theorem restWakes_restore (s : State) : RestWakes restoreAreas s := ⟨⟨by decide, fun _ => by decide, by decide⟩, by decide⟩

theorem moves_restorePut (drive acc : Nat) (log : List RestSpan) (hlog : log.length ≤ 8) (s : State) :
    ∃ x v, Moves restoreAreas s x ∧ Moves restoreAreas { x with answer := some ⟨.ok, v⟩ } (restored drive acc log s) := by
  obtain ⟨x, hx⟩ : ∃ x, x = operate 24 (restoreContent drive acc log) s := ⟨_, rfl⟩
  have h1 : Moves restoreAreas s x :=
    hx ▸ (moves_operate 24 (by decide) (moves_restoreContent drive acc log s hlog)).mono (restWakes_restore s).sub
  refine ⟨x, [revByte x 25], h1, ?_⟩
  unfold restored
  rw [← hx]
  exact moves_operate 24 (by decide) (moves_restoreEffect (restWakes_restore _))

theorem restoreRefusal_length {drive acc : Nat} {log : List RestSpan} (hok : restoreRefusal s drive acc log = none) : log.length ≤ 8 := by
  unfold restoreRefusal at hok
  split at hok
  · split at hok
    · exact restoreOk_length ‹_›
    · exact absurd hok (by simp)
  · split at hok
    · exact restoreOk_length ‹_›
    · exact absurd hok (by simp)
  · exact absurd hok (by simp)

theorem served_outcome {r : Nat} (h : RecordOutcome r s t) : Served s t := by
  cases h with
  | answers st data => exact served_answer st data s
  | writes ws st data hr => exact served_accept ws st data (writable_ne_clock hr) s
  | restores drive acc log hr hok =>
    obtain ⟨x, v, h1, h2⟩ := moves_restorePut drive acc log (restoreRefusal_length hok) s
    exact ⟨by rw [h2.answer_eq]; rfl, h1.sameRequests.trans h2.sameRequests, fun h => h1.noNewRestart (by decide) (h2.noNewRestart (by decide) h)⟩

theorem served_request (h : ∃ r, RecordOutcome r s t) : Served s t := h.elim fun _ h => served_outcome h

/-! ### Every kind of request -/

theorem served_bare {f : State → State} (p : List Byte) (h : Served s (f s)) : Served s (bare p f s) := by
  unfold bare
  split
  · exact h
  · exact served_answer _ _ s

theorem served_oneByte {f : Nat → State → State} (p : List Byte) (h : ∀ n, Served s (f n s)) : Served s (oneByte p f s) := by
  unfold oneByte
  split
  · exact h _
  · exact served_answer _ _ s

theorem served_onOff {f : Bool → State → State} (n : Nat) (h : ∀ b, Served s (f b s)) : Served s (onOff f n s) := by
  unfold onOff
  split
  · exact h _
  split
  · exact h _
  · exact served_answer _ _ s

theorem addEntry_answered (time rep state : Nat) (a : Option Action) (s : State) : (addEntry time rep state a s).answer.isSome = true := by
  have hfires : ∀ x : State, (fireDue x).answer = x.answer := fun x =>
    (moves_fireDue (as := fireAreas ++ wakeAreas) ⟨by decide, fun _ => by decide, by decide⟩).keepsAnswer
  unfold addEntry
  split
  · rfl
  split
  · rfl
  split
  · rfl
  split
  · rfl
  · rw [hfires]
    rfl

theorem served_serveAddEntry (p : List Byte) (s : State) : Served s (serveAddEntry p s) :=
  serveAddEntry_cases p s (fun time rep state a => served_effect (.addEntry time rep state a) (addEntry_answered ..))
    (served_answer _ _ s)

theorem served_fetch (s : State) : Served s (fetch s) := ⟨rfl, ⟨rfl, rfl⟩, fun h => h⟩

theorem served_readKeys (s : State) : Served s (readKeys s) := by
  refine served_effect .readKeys ?_
  change (readKeys s).answer.isSome = true
  unfold readKeys
  split <;> rfl

theorem served_setHostMark (n : Nat) (mark : Bool) (s : State) : Served s (setHostMark n mark s) := by
  refine served_of_moves (moves_setHostMark n mark s) ?_
  unfold setHostMark
  split <;> rfl

theorem served_clearTrip (id : Nat) (s : State) : Served s (clearTrip id s) := by
  refine served_effect (.clearTrip id) ?_
  change (clearTrip id s).answer.isSome = true
  unfold clearTrip
  split <;> rfl

theorem served_heatVent (on : Bool) (s : State) : Served s (heatVent on s) := by
  refine served_effect (.heatVent on) ?_
  change (heatVent on s).answer.isSome = true
  unfold heatVent
  split <;> rfl

theorem served_clearLockout (s : State) : Served s (clearLockout s) := by
  refine served_effect .clearLockout ?_
  change (clearLockout s).answer.isSome = true
  unfold clearLockout
  split <;> rfl

theorem served_boostRequest (on : Bool) (s : State) : Served s (boostRequest on s) := by
  refine served_effect (.fridgeBoost on) ?_
  change (boostRequest on s).answer.isSome = true
  unfold boostRequest
  split <;> rfl

theorem served_setClock (time : Nat) (s : State) : Served s (setClock time s) := by
  refine served_effect (.setClock time) ?_
  change (setClock time s).answer.isSome = true
  unfold setClock
  split <;> rfl

theorem served_removeEntry (n : Nat) (s : State) : Served s (removeEntry n s) := by
  refine served_effect (.removeEntry n) ?_
  change (removeEntry n s).answer.isSome = true
  unfold removeEntry
  split
  · split
    · rfl
    · split <;> rfl
  · rfl

theorem served_standby (s : State) : Served s (standby s) := by
  refine served_effect .standby ?_
  change (standby s).answer.isSome = true
  unfold standby
  split
  · rfl
  · split <;> rfl

theorem served_restart_answered (s : State) : Served s (restart false s) := by
  refine served_of_moves (moves_restart_answered s) ?_
  unfold restart
  split <;> rfl

/-- A request is served, SAVE SETTINGS and a quiet RESTART apart (R179, R192, R193). -/
theorem served_serve (quiet : Bool) (kind : Nat) (p : List Byte) (s : State) (hsave : kind ≠ 0x62) (hrestart : quiet = false ∨ kind ≠ 0x61) :
    Served s (serve quiet kind p s) := by
  unfold serve
  split
  · split
    · obtain ⟨st, data, e⟩ := getOp_answers _ _ _ _ s
      rw [e]
      exact served_answer _ _ s
    · exact served_answer _ _ s
  · exact served_request (servePut_outcome p s)
  · exact served_request (serveFieldWrite_outcome p s)
  · exact served_request (serveAdjust_outcome p s)
  · exact served_request (serveOneField_outcome _ p s)
  · exact served_request (serveOneField_outcome _ p s)
  · exact served_bare p (served_fetch s)
  · exact served_bare p (served_readKeys s)
  · exact served_bare p (served_effect .clearKeys rfl)
  · exact served_oneByte p fun n => served_setHostMark n true s
  · exact served_oneByte p fun n => served_setHostMark n false s
  · exact served_oneByte p fun n => served_clearTrip n s
  · split
    · exact served_effect (.heatStart _ _) rfl
    · exact served_answer _ _ s
  · exact served_bare p (served_effect .heatStop rfl)
  · exact served_oneByte p fun n => served_onOff n fun b => served_heatVent b s
  · exact served_bare p (served_clearLockout s)
  · exact served_oneByte p fun n => served_onOff n fun b => served_boostRequest b s
  · exact served_bare p (served_effect .clearFault rfl)
  · exact served_oneByte p fun n => served_effect (.lightScene n) rfl
  · exact served_oneByte p fun n => served_effect (.playChime n) rfl
  · exact served_bare p (served_effect .silenceChime rfl)
  · exact served_bare p (served_effect .declareRest rfl)
  · exact served_bare p (served_effect .endRest rfl)
  · split
    · exact served_setClock _ s
    · exact served_answer _ _ s
  · exact served_serveAddEntry p s
  · exact served_oneByte p fun n => served_removeEntry n s
  · exact served_bare p (served_standby s)
  · obtain rfl : quiet = false := hrestart.resolve_right fun h => h rfl
    exact served_bare p (served_restart_answered s)
  · exact absurd rfl hsave
  · exact served_answer _ _ s

end Sys2Proof.Machine
end

section
/-! PROOFS. The taking of a request, its answer and the end of its reply. -/

namespace Sys2Proof.Machine

-- One proof after another: started together they wait for one another, each on a thread of its own.
set_option Elab.async false

variable {s t u : State} {as : List Area}

/-! ### The answer delivered (R179, R180) -/

/-- Where the request is to be replied to, its answer becomes its reply. -/
theorem deliver_replies {tag kind : Byte} {quiet : Bool} {a : Answer} (hhand : s.lk.inHand = some ⟨tag, kind, quiet, none⟩)
    (ha : s.answer = some a) (hloud : (quiet && !(alwaysAnswered kind)) = false) :
    deliver s = withLk (fun l => { l with inHand := some ⟨tag, kind, quiet, some (replyFrame tag kind a)⟩ }) s := by
  unfold deliver
  rw [hhand, ha]
  dsimp only
  rw [if_neg (by simp), if_neg (by simp [hloud])]

/-- A quiet request that its target accepts ends without a word. -/
theorem deliver_accepted {tag kind : Byte} {a : Answer} (hhand : s.lk.inHand = some ⟨tag, kind, true, none⟩) (ha : s.answer = some a)
    (hsilent : alwaysAnswered kind = false) (hok : accepted a.status = true) : deliver s = endRequest s := by
  unfold deliver
  rw [hhand, ha]
  dsimp only
  rw [if_neg (by simp), if_pos (by simp [hsilent]), if_pos hok]

/-- A quiet request that its target refuses ends with QUIET_ERROR. -/
theorem deliver_refused {tag kind : Byte} {a : Answer} (hhand : s.lk.inHand = some ⟨tag, kind, true, none⟩) (ha : s.answer = some a)
    (hsilent : alwaysAnswered kind = false) (hno : accepted a.status = false) :
    deliver s = endRequest (post .quietError .lk .attention [kind, byte (statusCode a.status)] s) := by
  unfold deliver
  rw [hhand, ha]
  dsimp only
  rw [if_neg (by simp), if_pos (by simp [hsilent]), if_neg (by simp [hno])]

theorem accepted_iff (st : Status) : accepted st = true ↔ st = .ok ∨ st = .clamped := by cases st <;> decide

theorem endRequest_lk (s : State) : (endRequest s).lk = { s.lk with inHand := none } := by
  unfold endRequest
  rw [nextRequest_lk]
  rfl

theorem endRequest_answer (s : State) : (endRequest s).answer = s.answer := (moves_endRequest s).answer_eq

theorem mem_endRequest_of_mem {i : Instr} (h : i ∈ s.handed) : i ∈ (endRequest s).handed :=
  ((moves_endRequest s).handed_behind (by decide)).mem h

/-- With a frame queued, the end of a request hands the next one's taking. -/
theorem mem_endRequest (h : s.lk.queue ≠ []) : .requestTake ∈ (endRequest s).handed :=
  mem_nextRequest (s := withLk (fun l => { l with inHand := none }) s) rfl h

theorem nextRequest_handed_cases (s : State) {i : Instr} (h : i ∈ (nextRequest s).handed) : i ∈ s.handed ∨ i = .requestTake := by
  unfold nextRequest raise at h
  split at h
  · split at h
    · exact .inl h
    · simpa [hand] using h
  · exact .inl h

/-! ### The taking of the oldest frame -/

/-- The part with the oldest frame taken and in hand. -/
def requestTaken (quiet : Bool) (tag kind : Byte) (rest : List (List Byte)) (s : State) : State :=
  { startEvent .requestTake s with
    lk := { s.lk with queue := rest, inHand := some ⟨tag, kind, quiet, none⟩ }
    answer := none }

/-- What the taking leaves before its event closes. -/
def requestServed (ctrl tag kind : Byte) (payload : List Byte) (rest : List (List Byte)) (s : State) : State :=
  serve (ctrl.getLsbD 0 && !(alwaysAnswered kind)) kind.toNat payload (requestTaken (ctrl.getLsbD 0) tag kind rest s)

section Taking

variable {ctrl tag kind : Byte} {payload : List Byte} {rest : List (List Byte)}

/-- The taking of a request that its target serves and that makes no reset due. -/
theorem exec_requestTake (hrun : s.mc.supply = .running) (hnone : s.mc.restart = .none) (hhand : s.lk.inHand = none)
    (hserved : Served (requestTaken (ctrl.getLsbD 0) tag kind rest s) (requestServed ctrl tag kind payload rest s)) :
    ∃ s0, exec .requestTake { s with lk := { s.lk with queue := (ctrl :: tag :: kind :: payload) :: rest } }
      = .next (close s0 (deliver (requestServed ctrl tag kind payload rest s))) := by
  obtain ⟨s0, hs0⟩ : ∃ x, x = { s with lk := { s.lk with queue := (ctrl :: tag :: kind :: payload) :: rest } } := ⟨_, rfl⟩
  have heffect : effect .requestTake (startEvent .requestTake s0) = deliver (requestServed ctrl tag kind payload rest s) := by
    change takeRequest (startEvent .requestTake s0) = _
    have hlk : (startEvent .requestTake s0).lk = { s.lk with queue := (ctrl :: tag :: kind :: payload) :: rest } := by
      rw [startEvent_lk, hs0]
    unfold takeRequest
    rw [hlk]
    dsimp only
    rw [hhand, hs0]
    rfl
  refine ⟨s0, ?_⟩
  rw [← hs0, exec_restarting (by rw [hs0]; exact hrun) rfl, heffect, restartDue_of_waits (.inl ?_)]
  rw [close_restart]
  intro hstore
  have htaken : s.mc.restart = .store := hserved.waits ((moves_deliver _).noNewRestart (by decide) hstore)
  exact absurd (hnone.symm.trans htaken) (by decide)

end Taking

/-- An unknown kind is refused (R179). -/
theorem serve_unknown (quiet : Bool) {kind : Nat} (p : List Byte) (h : 0x62 < kind ∨ kind = 0) (s : State) :
    serve quiet kind p s = answer .unknownKind [] s := by
  unfold serve
  split <;> first | omega | rfl

/-- What the close of an event hands is the next scan's start alone. -/
theorem mem_close {i : Instr} (h : i ∈ (close s t).handed) : i ∈ t.handed ∨ i = .scanStart := by
  simp only [close, advance_handed, ownerEvent_handed] at h
  obtain ⟨-, e⟩ | ⟨-, e⟩ | ⟨-, e⟩ := dozeCheck_cases (settle s t) <;> rw [e] at h
  · exact .inl (by simpa using h)
  · exact .inl (by simpa using h)
  · obtain ⟨b, e' | e'⟩ := setMode_cases .doze (settle s t) <;> rw [e'] at h
    · exact .inl (by simpa using h)
    · simpa [hand] using h

theorem not_alwaysAnswered_of_unknown {kind : Byte} (h : 0x62 < kind.toNat ∨ kind.toNat = 0) : alwaysAnswered kind = false := by
  simp only [alwaysAnswered, Bool.or_eq_false_iff, beq_eq_false_iff_ne, ne_eq]
  refine ⟨⟨?_, ?_⟩, ?_⟩ <;> rintro rfl <;> simp at h

/-- CLEAR KEYS and SILENCE answer OK, change the panel alone and hand nothing (R125, R131). -/
theorem serve_quietPanel {kind : Byte} (h : kind = 0x12 ∨ kind = 0x49) (quiet : Bool) (s : State) :
    ∃ p, serve quiet kind.toNat [] s = answer .ok [] { s with pn := p } := by
  obtain rfl | rfl := h
  · exact ⟨_, rfl⟩
  · exact ⟨_, rfl⟩

/-! ### The end of a reply -/

theorem nextRequest_mc (s : State) : (nextRequest s).mc = s.mc := by
  unfold nextRequest raise
  split
  · split <;> rfl
  · rfl

theorem replyEnded_mc (s : State) : (replyEnded s).mc = s.mc := by
  unfold replyEnded
  split
  · split
    · unfold endRequest
      rw [nextRequest_mc]
      split <;> rfl
    · rfl
  · rfl

/-- A sent reply ends its request, and begins ATTN's release where it was FETCH NOTICES (R179, R183). -/
theorem replyEnded_replied {h : InHand} (hhand : s.lk.inHand = some h) (hreply : h.reply.isSome) :
    replyEnded s = endRequest (withLk (fun l => { l with pulse := l.pulse || h.kind == 0x10 }) s) := by
  unfold replyEnded
  rw [hhand]
  dsimp only
  rw [if_pos hreply]
  split
  · rename_i hkind
    simp only [hkind, beq_self_eq_true, Bool.or_true]
  · rename_i hkind
    simp only [beq_false_of_ne hkind, Bool.or_false]
    rfl

end Sys2Proof.Machine

namespace Sys2Proof.Proofs

open Sys2Proof Sys2Proof.Machine

/-- Settles O54: each request is served with the link's requests kept, and then its answer is delivered. -/
theorem requestsAreTakenAndAnswered : Obligations.RequestsAreTakenAndAnswered := by
  refine ⟨?_, ?_, ?_, ?_, ?_, ?_⟩
  · intro ctrl tag kind payload rest s hrun hnone hhand hsave hloud
    have hsaveNat : kind.toNat ≠ 0x62 := fun e => hsave (BitVec.eq_of_toNat_eq e)
    have hq : (ctrl.getLsbD 0 && !(alwaysAnswered kind)) = false := by
      obtain h | h := hloud <;> simp only [h, Bool.false_and, Bool.not_true, Bool.and_false]
    have hserved : Served (requestTaken (ctrl.getLsbD 0) tag kind rest s) (requestServed ctrl tag kind payload rest s) :=
      served_serve _ _ _ _ hsaveNat (.inl hq)
    obtain ⟨s0, hexec⟩ := exec_requestTake hrun hnone hhand hserved
    obtain ⟨a, ha⟩ := Option.isSome_iff_exists.1 hserved.answered
    rw [deliver_replies hserved.same.2 ha hq] at hexec
    refine ⟨_, hexec, ?_, ?_, fun b hb => ?_⟩
    · rw [close_lk]
      exact hserved.same.1
    · rw [close_answer]
      exact hserved.answered
    · rw [close_answer] at hb
      obtain rfl : a = b := Option.some.inj (ha.symm.trans hb)
      rw [close_lk]
      rfl
  · intro tag kind payload rest s hrun hnone hhand hkind
    have hserve : requestServed 0 tag kind payload rest s = answer .unknownKind [] (requestTaken false tag kind rest s) :=
      serve_unknown _ _ hkind _
    obtain ⟨s0, hexec⟩ := exec_requestTake hrun hnone hhand (by rw [hserve]; exact served_answer _ _ _)
    rw [hserve, deliver_replies (tag := tag) (kind := kind) (quiet := false) rfl rfl rfl] at hexec
    refine ⟨_, hexec, ?_, ?_⟩
    · rw [close_answer]
      rfl
    · rw [close_lk]
      rfl
  · intro tag kind payload rest s hrun hnone hhand hkind
    have hserve : requestServed 1 tag kind payload rest s = answer .unknownKind [] (requestTaken true tag kind rest s) :=
      serve_unknown _ _ hkind _
    obtain ⟨s0, hexec⟩ := exec_requestTake hrun hnone hhand (by rw [hserve]; exact served_answer _ _ _)
    have hsilent : alwaysAnswered kind = false := not_alwaysAnswered_of_unknown hkind
    rw [hserve, deliver_refused (tag := tag) (kind := kind) rfl rfl hsilent rfl] at hexec
    refine ⟨_, hexec, ?_, ?_, fun hrest => ?_⟩
    · rw [close_lk, endRequest_lk]
      rfl
    · exact mem_close_of_mem (mem_endRequest_of_mem (List.mem_append_right _ (List.mem_singleton_self _)))
    · exact mem_close_of_mem (mem_endRequest hrest)
  · intro tag kind payload rest s hrun hnone hhand hrestart hsave hsilent
    have hsaveNat : kind.toNat ≠ 0x62 := fun e => hsave (BitVec.eq_of_toNat_eq e)
    have hrestartNat : kind.toNat ≠ 0x61 := fun e => hrestart (BitVec.eq_of_toNat_eq e)
    have hserved : Served (requestTaken true tag kind rest s) (requestServed 1 tag kind payload rest s) :=
      served_serve _ _ _ _ hsaveNat (.inr hrestartNat)
    obtain ⟨s0, hexec⟩ := exec_requestTake (ctrl := 1) hrun hnone hhand hserved
    obtain ⟨a, ha⟩ := Option.isSome_iff_exists.1 hserved.answered
    obtain hok | hno := Bool.eq_false_or_eq_true (accepted a.status)
    · rw [deliver_accepted hserved.same.2 ha hsilent hok] at hexec
      refine ⟨_, a, hexec, ?_, ?_, ?_, fun h1 h2 => absurd ((accepted_iff _).1 hok) (not_or.2 ⟨h1, h2⟩)⟩
      · rw [close_answer, endRequest_answer, ha]
      · rw [close_lk, endRequest_lk]
        exact hserved.same.1
      · rw [close_lk, endRequest_lk]
    · rw [deliver_refused hserved.same.2 ha hsilent hno] at hexec
      refine ⟨_, a, hexec, ?_, ?_, ?_, fun _ _ => mem_close_of_mem (mem_endRequest_of_mem (List.mem_append_right _ (List.mem_singleton_self _)))⟩
      · rw [close_answer, endRequest_answer]
        exact ha
      · rw [close_lk, endRequest_lk]
        exact hserved.same.1
      · rw [close_lk, endRequest_lk]
  · intro tag kind rest s hrun hnone hhand hkind
    have hsilent : alwaysAnswered kind = false := by obtain rfl | rfl := hkind <;> rfl
    obtain ⟨p, hserve⟩ : ∃ p, requestServed 1 tag kind [] rest s = answer .ok [] { requestTaken true tag kind rest s with pn := p } :=
      serve_quietPanel hkind _ _
    obtain ⟨s0, hexec⟩ := exec_requestTake (ctrl := 1) (tag := tag) (kind := kind) (payload := []) (rest := rest) hrun hnone hhand (by
      rw [hserve]
      exact ⟨rfl, ⟨rfl, rfl⟩, fun h => h⟩)
    rw [hserve, deliver_accepted (tag := tag) (kind := kind) rfl rfl hsilent rfl] at hexec
    refine ⟨_, hexec, ?_, ?_, fun p hp => ?_⟩
    · rw [close_answer, endRequest_answer]
      rfl
    · rw [close_lk, endRequest_lk]
      rfl
    · obtain hp | hp := mem_close hp
      · obtain hp | hp := nextRequest_handed_cases _ hp
        · exact List.mem_of_mem_erase hp
        · exact absurd hp (by simp)
      · exact absurd hp (by simp)
  · intro s hrun hnone
    obtain ⟨z, hz, hlk, hmc⟩ : ∃ z, z = (withMc (fun m => { m with
        silence := 0
        restart := if m.restart = .reply then .store else m.restart }) (startEvent .replySent s))
        ∧ z.lk = s.lk ∧ z.mc = { s.mc with woken := false, silence := 0 } := by
      refine ⟨_, rfl, startEvent_lk s .replySent, ?_⟩
      simp [withMc, hnone, startEvent_mc]
    have hended : (replyEnded z).mc = z.mc := replyEnded_mc z
    have heffect : effect .replySent (startEvent .replySent s) = replyEnded z := by rw [hz]; rfl
    refine ⟨_, exec_restarting hrun rfl, ?_⟩
    rw [heffect, restartDue_of_waits (.inl (by rw [close_restart, hended, hmc, hnone]; decide))]
    refine ⟨?_, fun h hhand hreply => ?_⟩
    · obtain e | e | e := close_mc_cases s (replyEnded z) <;> rw [e]
      all_goals rw [hended, hmc]
    · have hend := replyEnded_replied (s := z) (hlk ▸ hhand) hreply
      refine ⟨?_, fun hqueue => ?_⟩
      · rw [close_lk, hend, endRequest_lk, ← hlk]
        rfl
      · rw [hend]
        refine mem_close_of_mem (mem_endRequest ?_)
        change z.lk.queue ≠ []
        rw [hlk]
        exact hqueue

end Sys2Proof.Proofs
end

section
/-! PROOFS. How a record operation finds its fields, what it refuses, and what an accepted one-field write comes to. -/

namespace Sys2Proof.Machine

-- One proof after another: started together they wait for one another, each on a thread of its own.
set_option Elab.async false

variable {s t u : State} {r : Nat}

/-! ### The revision byte of a reply -/

theorem revByte_eq (s : State) {r : Nat} (i : Fin 26) (h : r = i.1 + 1) : revByte s r = byte (tget s.rev i) := by
  subst h
  unfold revByte tget
  rw [if_neg (by omega)]
  simp

/-! ### Fields in lists (R165) -/

/-- Whether a slot has a field id and an element. -/
abbrev hasPlace (field : Nat) (elem : Option Nat) (x : Slot) : Bool := x.id == field && x.elem == elem

theorem find_rowSlots (e id : Nat) (row : List Field) (n : Nat) {f : Field} (h : row[n]? = some f) :
    (rowSlots e id row).find? (hasPlace (id + n) (some e)) = some ⟨id + n, some e, f⟩ := by
  induction row generalizing id n with
  | nil => simp at h
  | cons g row ih =>
    cases n with
    | zero =>
      obtain rfl : g = f := by simpa using h
      simp [rowSlots]
    | succ n =>
      have := ih (id + 1) n (by simpa using h)
      rw [rowSlots, List.find?_cons_of_neg (by simp)]
      rw [show id + (n + 1) = id + 1 + n by omega]
      exact this

theorem find_rowSlots_other (e k id : Nat) (row : List Field) (field : Nat) (h : e ≠ k) :
    (rowSlots k id row).find? (hasPlace field (some e)) = none := by
  induction row generalizing id with
  | nil => rfl
  | cons g row ih =>
    rw [rowSlots, List.find?_cons_of_neg (by simp [Ne.symm h])]
    exact ih _

/-- The field of an entry of a fixed list. -/
theorem find_groupSlots (id k : Nat) (rows : List (List Field)) (e n : Nat) {row : List Field} {f : Field} (hrow : rows[e]? = some row)
    (hf : row[n]? = some f) : (groupSlots id k rows).find? (hasPlace (id + n) (some (k + e))) = some ⟨id + n, some (k + e), f⟩ := by
  induction rows generalizing k e with
  | nil => simp at hrow
  | cons row0 rows ih =>
    rw [groupSlots, List.find?_append]
    cases e with
    | zero =>
      obtain rfl : row0 = row := by simpa using hrow
      rw [Nat.add_zero, find_rowSlots k id row0 n hf]
      rfl
    | succ e =>
      rw [find_rowSlots_other _ _ _ _ _ (by omega), Option.none_or]
      rw [show k + (e + 1) = k + 1 + e by omega]
      exact ih (k + 1) e (by simpa using hrow)

/-- A record whose items begin with a fixed list, addressed in that list. -/
theorem slotAt_group {rows : List (List Field)} {rest : List Item} (hview : recordView s r = some (.group rows :: rest)) {e n : Nat}
    {row : List Field} {f : Field} (hrow : rows[e]? = some row) (hf : row[n]? = some f) :
    slotAt s r (1 + n) (some e) = some ⟨1 + n, some e, f⟩ := by
  have h := find_groupSlots 1 0 rows e n hrow hf
  rw [Nat.zero_add] at h
  unfold slotAt recordSlots
  rw [hview]
  simp only [slotsFrom, List.find?_append]
  rw [h]
  rfl

/-- No field of a fixed list is addressed without an element. -/
theorem find_groupSlots_plain (id k : Nat) (rows : List (List Field)) (field : Nat) :
    (groupSlots id k rows).find? (hasPlace field none) = none := by
  have hrow : ∀ (e id : Nat) (row : List Field), (rowSlots e id row).find? (hasPlace field none) = none := by
    intro e id row
    induction row generalizing id with
    | nil => rfl
    | cons g row ih =>
      rw [rowSlots, List.find?_cons_of_neg (by simp)]
      exact ih _
  induction rows generalizing k with
  | nil => rfl
  | cons row rows ih => rw [groupSlots, List.find?_append, hrow, Option.none_or, ih]

/-- The fields of an entry of a table's list. -/
theorem rowWidth_table {α : Type} {n : Nat} (v : Vector α (n + 1)) (f : α → List Field) (w : Nat) (hf : ∀ a, (f a).length = w) :
    rowWidth (v.toList.map f) = w := by
  obtain ⟨a, as, h⟩ := List.exists_cons_of_length_pos (l := v.toList) (by simp)
  rw [h]
  exact hf a

/-! ### Places (R168) -/

theorem slotAt_of_unknown (h : recordView s r = none) (field : Nat) (elem : Option Nat) : slotAt s r field elem = none := by
  unfold slotAt recordSlots
  rw [h]
  rfl

theorem recordView_of_unknown (s : State) (h : r = 0 ∨ 26 < r) : recordView s r = none := by
  unfold recordView
  split <;> first | omega | rfl

theorem placeRefusal_of_unknown (h : recordView s r = none) (ws : List FieldWrite) : placeRefusal s r ws = some .unknownRecord := by
  rw [placeRefusal, h]
  rfl

/-- A field that the record does not have (R168). -/
theorem placeRefusal_of_noField {w : FieldWrite} (hview : (recordView s r).isNone = false) (h : slotAt s r w.field w.elem = none) :
    placeRefusal s r [w] = some .range := by
  unfold placeRefusal
  rw [hview]
  simp [h]

/-- A field of a read-only record (R168). -/
theorem placeRefusal_of_readOnly {w : FieldWrite} {x : Slot} (hview : (recordView s r).isNone = false)
    (h : slotAt s r w.field w.elem = some x) (hr : readOnlyRecords.contains r = true) : placeRefusal s r [w] = some .readOnly := by
  have hne : r ≠ 26 := by
    rintro rfl
    exact absurd hr (by decide)
  unfold placeRefusal
  rw [hview, if_neg hne]
  simp only [List.map_cons, List.map_nil, h]
  rw [if_neg (by simp), if_neg (by simp [namedTwice]), hr]
  rfl

theorem writable_of (h : (recordView .reset r).isSome = true ∧ readOnlyRecords.contains r = false ∧ r ≠ 25 := by decide) : writable r := h

/-- Fields that the record has and that may be written, none named twice. -/
theorem placeRefusal_none {ws : List FieldWrite} (hr : writable r) (hne : r ≠ 26) (htwice : namedTwice ws = false)
    (h : ∀ w ∈ ws, ∃ x, slotAt s r w.field w.elem = some x ∧ x.field.wr = true) : placeRefusal s r ws = none := by
  obtain ⟨hknown, hopen, h25⟩ := hr
  have hview : (recordView s r).isNone = false := by
    rw [recordView_isNone s .reset, ← Option.not_isSome, hknown]
    rfl
  have hslots : (ws.map fun w => slotAt s r w.field w.elem).any (·.isNone) = false := by
    rw [List.any_eq_false]
    intro o ho
    obtain ⟨w, hw, rfl⟩ := List.mem_map.1 ho
    obtain ⟨x, hx, -⟩ := h w hw
    rw [hx]
    simp
  have hwr : ((ws.map fun w => slotAt s r w.field w.elem).filterMap id).any (fun x => !x.field.wr) = false := by
    rw [List.any_eq_false]
    intro x hx
    obtain ⟨o, ho, hox⟩ := List.mem_filterMap.1 hx
    obtain ⟨w, hw, rfl⟩ := List.mem_map.1 ho
    obtain ⟨y, hy, hwr⟩ := h w hw
    obtain rfl : y = x := Option.some.inj (hy.symm.trans hox)
    simp [hwr]
  unfold placeRefusal
  dsimp only
  rw [hview, hslots, htwice, if_neg hne, hopen, hwr, beq_false_of_ne h25]
  rfl

theorem placeRefusal_one {w : FieldWrite} {x : Slot} (hr : writable r) (hne : r ≠ 26) (h : slotAt s r w.field w.elem = some x)
    (hwr : x.field.wr = true) : placeRefusal s r [w] = none :=
  placeRefusal_none hr hne rfl fun v hv => by
    obtain rfl := List.mem_singleton.1 hv
    exact ⟨x, h, hwr⟩

/-! ### Values (R166, R168) -/

theorem judgeOne_take {ws : List FieldWrite} {c c' : Bool} {w : FieldWrite} {x : Slot} {val : Option Int}
    (h : slotAt s r w.field w.elem = some x) (hj : judgeSlot r x w.value = some (val, c')) :
    judgeOne s r (.take ws c) w = .take (ws ++ [{ w with value := val }]) (c || c') := by
  unfold judgeOne
  dsimp only
  rw [h, Option.bind_some, hj]

theorem judgeOne_refuse {ws : List FieldWrite} {c : Bool} {w : FieldWrite} {x : Slot}
    (h : slotAt s r w.field w.elem = some x) (hj : judgeSlot r x w.value = none) : judgeOne s r (.take ws c) w = .refuse .range := by
  unfold judgeOne
  dsimp only
  rw [h, Option.bind_some, hj]

/-- One field's value as taken, with the record's conditions met. -/
theorem judgeValues_one {w : FieldWrite} {x : Slot} {val : Option Int} {c : Bool} (h : slotAt s r w.field w.elem = some x)
    (hj : judgeSlot r x w.value = some (val, c)) (hmet : conditionsMet r (pokeAll r [{ w with value := val }] s) = true) :
    judgeValues s r [w] = .take [{ w with value := val }] c := by
  unfold judgeValues
  rw [List.foldl_cons, List.foldl_nil, judgeOne_take h hj]
  dsimp only [List.nil_append]
  rw [if_pos hmet, Bool.false_or]

/-- Two fields' values as taken, judged against the record's conditions as they would leave it. -/
theorem judgeValues_two {w v : FieldWrite} {x y : Slot} {val val' : Option Int} {c c' : Bool}
    (hx : slotAt s r w.field w.elem = some x) (hj : judgeSlot r x w.value = some (val, c))
    (hy : slotAt s r v.field v.elem = some y) (hj' : judgeSlot r y v.value = some (val', c')) :
    judgeValues s r [w, v] = if conditionsMet r (pokeAll r [{ w with value := val }, { v with value := val' }] s)
      then .take [{ w with value := val }, { v with value := val' }] (c || c') else .refuse .range := by
  unfold judgeValues
  rw [List.foldl_cons, List.foldl_cons, List.foldl_nil, judgeOne_take hx hj, judgeOne_take hy hj']
  simp

/-- An accepted FIELD WRITE of one field (R170). -/
theorem fieldWriteOp_one {w : FieldWrite} {x : Slot} {val : Option Int} {c : Bool} (hr : writable r) (hne : r ≠ 26)
    (h : slotAt s r w.field w.elem = some x) (hwr : x.field.wr = true) (hj : judgeSlot r x w.value = some (val, c))
    (hmet : conditionsMet r (pokeAll r [{ w with value := val }] s) = true) :
    fieldWriteOp r [w] s = accept r [{ w with value := val }] (acceptedStatus c) [] s := by
  unfold fieldWriteOp
  rw [placeRefusal_one hr hne h hwr]
  dsimp only
  rw [judgeValues_one h hj hmet]

/-- The fields that a PUT's values are for. -/
def putWrites (s : State) (r : Nat) (elem : Option Nat) (values : List (Option Int)) : List FieldWrite :=
  List.zipWith (fun (x : Slot) v => ⟨x.id, x.elem, v⟩) (putSlots s r elem) values

section Put

variable {elem expected : Option Nat} {values : List (Option Int)} {taken : List FieldWrite} {c : Bool}

/-- A PUT at another revision than the one it expects (R169). -/
theorem putOp_mismatch (hr : writable r) (hok : putElementOk s r elem = true) (hlen : values.length = (putSlots s r elem).length)
    (hplace : placeRefusal s r (putWrites s r elem values) = none) (hmissed : revisionMissed s r expected = true) :
    putOp r elem expected values s = refuse r .mismatch s := by
  obtain ⟨hknown, hopen, h25⟩ := hr
  have hview : (recordView s r).isNone = false := by rw [recordView_isNone s .reset, ← Option.not_isSome, hknown]; rfl
  unfold putWrites at hplace
  unfold putOp
  rw [hview, hok, hopen, if_neg (by decide), if_neg (by decide), if_neg (by decide), if_neg h25]
  dsimp only
  rw [if_neg (by simp [hlen]), hplace]
  dsimp only
  rw [if_pos hmissed]

/-- An accepted PUT (R169). -/
theorem putOp_accepted (hr : writable r) (hok : putElementOk s r elem = true) (hlen : values.length = (putSlots s r elem).length)
    (hplace : placeRefusal s r (putWrites s r elem values) = none) (hrev : revisionMissed s r expected = false)
    (hj : judgeValues s r (putWrites s r elem values) = .take taken c) :
    putOp r elem expected values s = accept r taken (acceptedStatus c) [] s := by
  obtain ⟨hknown, hopen, h25⟩ := hr
  have hview : (recordView s r).isNone = false := by rw [recordView_isNone s .reset, ← Option.not_isSome, hknown]; rfl
  unfold putWrites at hplace hj
  unfold putOp
  rw [hview, hok, hopen, if_neg (by decide), if_neg (by decide), if_neg (by decide), if_neg h25]
  dsimp only
  rw [if_neg (by simp [hlen]), hplace]
  dsimp only
  rw [hrev, if_neg (by decide), hj]

end Put

theorem fieldWriteOp_refused {ws : List FieldWrite} {st : Status} (h : placeRefusal s r ws = some st) :
    fieldWriteOp r ws s = refuse r st s := by
  unfold fieldWriteOp
  rw [h]

theorem exchangeOp_refused {f : Nat} {e : Option Nat} {v : Option Int} {st : Status} (h : placeRefusal s r [⟨f, e, v⟩] = some st) :
    exchangeOp r f e v s = refuse r st s := by
  unfold exchangeOp
  dsimp only
  rw [h]

theorem compareOp_refused {f : Nat} {e : Option Nat} {v w : Option Int} {st : Status} (h : placeRefusal s r [⟨f, e, w⟩] = some st) :
    compareOp r f e v w s = refuse r st s := by
  unfold compareOp
  dsimp only
  rw [h]

theorem adjustOp_noField {f : Nat} {e : Option Nat} {d : Int} (h : slotAt s r f e = none) :
    adjustOp r f e d s = refuse r (if (recordView s r).isNone then .unknownRecord else .range) s := by
  unfold adjustOp
  rw [h]

end Sys2Proof.Machine
end

section
/-! PROOFS. What the record operations refuse. -/

namespace Sys2Proof.Machine

-- One proof after another: started together they wait for one another, each on a thread of its own.
set_option Elab.async false

variable {s t u : State} {r : Nat}

/-- A refused operation is answered with its status and the record's revision, and changes nothing (R168). -/
theorem exec_refused {i : Instr} {st : Status} (hrun : s.mc.supply = .running) (hreset : mayReset i = false)
    (he : effect i (startEvent i s) = refuse r st (startEvent i s)) :
    ∃ t, exec i s = .next t ∧ t.answer = some ⟨st, [revByte s r]⟩ ∧ changesOnly (.answer :: everyEvent) s t := by
  obtain ⟨t, hexec, hanswer, honly⟩ := exec_answers hrun hreset he
  exact ⟨t, hexec, hanswer, honly⟩

/-- The six operations on an unknown record (R168). -/
theorem effect_unknownRecord (h : r = 0 ∨ 26 < r) (e x : Option Nat) (f l n : Nat) (v w : Option Int) (d : Int) (vs : List (Option Int))
    (ws : List FieldWrite) (s : State) {i : Instr}
    (hi : i ∈ [Instr.get r l n f, .put r e x vs, .fieldWrite r ws, .adjust (.host r) f e d, .exchange r f e v, .compareWrite r f e v w]) :
    mayReset i = false ∧ effect i s = refuse r .unknownRecord s := by
  have hview := recordView_of_unknown s h
  simp only [List.mem_cons, List.not_mem_nil, or_false] at hi
  obtain rfl | rfl | rfl | rfl | rfl | rfl := hi
  · refine ⟨rfl, ?_⟩
    change getOp r l n f s = _
    rw [getOp, hview]
  · refine ⟨rfl, ?_⟩
    change putOp r e x vs s = _
    rw [putOp, hview]
    rfl
  · exact ⟨rfl, fieldWriteOp_refused (placeRefusal_of_unknown hview ws)⟩
  · refine ⟨rfl, ?_⟩
    change adjustOp r f e d s = _
    rw [adjustOp_noField (slotAt_of_unknown hview f e), hview]
    rfl
  · exact ⟨rfl, exchangeOp_refused (placeRefusal_of_unknown hview _)⟩
  · exact ⟨rfl, compareOp_refused (placeRefusal_of_unknown hview _)⟩

/-- A read-only record whose first field stands outside lists. -/
theorem slotAt_first (hr : r ∈ [1, 2, 4, 13, 15]) (s : State) : ∃ x, slotAt s r 1 none = some x := by
  fin_cases hr <;> exact ⟨_, rfl⟩

/-- The operations that name a field of a read-only record, and a PUT of it (R168). -/
theorem effect_readOnly (hr : r ∈ [1, 2, 4, 13, 15]) (v w : Option Int) (vs : List (Option Int)) (s : State) {i : Instr}
    (hi : i ∈ [Instr.put r none none vs, .fieldWrite r [⟨1, none, v⟩], .exchange r 1 none v, .compareWrite r 1 none v w]) :
    mayReset i = false ∧ effect i s = refuse r .readOnly s := by
  obtain ⟨x, hx⟩ := slotAt_first hr s
  have hread : readOnlyRecords.contains r = true := (by decide : ∀ r ∈ [1, 2, 4, 13, 15], readOnlyRecords.contains r = true) r hr
  have helem : elementRecords.contains r = false := (by decide : ∀ r ∈ [1, 2, 4, 13, 15], elementRecords.contains r = false) r hr
  have hview : (recordView s r).isNone = false := by fin_cases hr <;> rfl
  have hplace : ∀ v, placeRefusal s r [⟨1, none, v⟩] = some .readOnly := fun v => placeRefusal_of_readOnly hview hx hread
  simp only [List.mem_cons, List.not_mem_nil, or_false] at hi
  obtain rfl | rfl | rfl | rfl := hi
  · refine ⟨rfl, ?_⟩
    change putOp r none none vs s = _
    have hok : putElementOk s r none = true := by
      unfold putElementOk
      rw [helem, hread]
      rfl
    unfold putOp
    rw [hview, hok, if_neg (by decide), if_neg (by decide), if_pos hread]
  · exact ⟨rfl, fieldWriteOp_refused (hplace v)⟩
  · exact ⟨rfl, exchangeOp_refused (hplace v)⟩
  · exact ⟨rfl, compareOp_refused (hplace w)⟩

/-- A PUT of SAMPLES names an element within its list, or none that it has (R168). -/
theorem putOp_samples (n : Nat) (x : Option Nat) (vs : List (Option Int)) (s : State) :
    putOp 9 (some n) x vs s = refuse 9 (if n < 7 then .readOnly else .range) s := by
  have hok : putElementOk s 9 (some n) = decide (n < 7) := by
    unfold putElementOk
    rw [if_neg (by decide), if_pos (by decide)]
    change ([7].any fun len => decide (n < len)) = _
    simp
  have hview : (recordView s 9).isNone = false := rfl
  unfold putOp
  rw [hview, hok, if_neg (by decide)]
  by_cases hn : n < 7
  · rw [if_neg (by simp [hn]), if_pos (by decide), if_pos hn]
  · rw [if_pos (by simp [hn]), if_neg hn]

/-! ### HEATER_SET -/

theorem slotAt_heaterSet_none (s : State) {f : Nat} (h : f = 0 ∨ 3 < f) (e : Option Nat) : slotAt s 11 f e = none := by
  unfold slotAt
  rw [List.find?_eq_none]
  intro x hx
  have hid : x.id = 1 ∨ x.id = 2 ∨ x.id = 3 := by
    simp only [recordSlots, recordView, viewHeaterSet, slotsFrom, List.mem_cons, List.not_mem_nil, or_false] at hx
    obtain rfl | rfl | rfl := hx <;> simp
  simp only [Bool.and_eq_true, beq_iff_eq, not_and]
  intro he
  omega

theorem effect_heaterSet_noField {f : Nat} (h : f = 0 ∨ 3 < f) (v w : Option Int) (d : Int) (s : State) {i : Instr}
    (hi : i ∈ [Instr.fieldWrite 11 [⟨f, none, v⟩], .adjust (.host 11) f none d, .exchange 11 f none v, .compareWrite 11 f none v w]) :
    mayReset i = false ∧ effect i s = refuse 11 .range s := by
  have hslot := slotAt_heaterSet_none s h none
  have hplace : ∀ v, placeRefusal s 11 [⟨f, none, v⟩] = some .range := fun v => placeRefusal_of_noField rfl hslot
  simp only [List.mem_cons, List.not_mem_nil, or_false] at hi
  obtain rfl | rfl | rfl | rfl := hi
  · exact ⟨rfl, fieldWriteOp_refused (hplace v)⟩
  · refine ⟨rfl, ?_⟩
    change adjustOp 11 f none d s = _
    rw [adjustOp_noField hslot]
    rfl
  · exact ⟨rfl, exchangeOp_refused (hplace v)⟩
  · exact ⟨rfl, compareOp_refused (hplace w)⟩

/-- The fields of a PUT of HEATER_SET are named once each, stand in the record and may be written. -/
theorem placeRefusal_heaterSet (a b c : Option Int) (s : State) :
    placeRefusal s 11 [⟨1, none, a⟩, ⟨2, none, b⟩, ⟨3, none, c⟩] = none := by
  refine placeRefusal_none writable_of (by decide) rfl ?_
  simp only [List.forall_mem_cons, List.not_mem_nil, false_implies, implies_true, and_true]
  exact ⟨⟨_, rfl, rfl⟩, ⟨_, rfl, rfl⟩, ⟨_, rfl, rfl⟩⟩

/-- A PUT of HEATER_SET at another revision than the one it expects (R169). -/
theorem putOp_heaterSet_mismatch {e : Nat} (h : e ≠ tget s.rev 10) (a b c : Option Int) :
    putOp 11 none (some e) [a, b, c] s = refuse 11 .mismatch s := by
  have hmissed : revisionMissed s 11 (some e) = true := by
    simp only [revisionMissed, bne_iff_ne, ne_eq]
    simpa [tget] using h
  exact putOp_mismatch writable_of rfl rfl (placeRefusal_heaterSet a b c s) hmissed

/-! ### STRICT fields beside clamped ones (R166, R170) -/

/-- A FIELD WRITE of two fields of which the first is taken and the second is not. -/
theorem fieldWriteOp_second {w v : FieldWrite} {x y : Slot} {val : Option Int} {c : Bool} (hr : writable r) (hne : r ≠ 26)
    (htwice : namedTwice [w, v] = false) (hx : slotAt s r w.field w.elem = some x) (hxw : x.field.wr = true)
    (hy : slotAt s r v.field v.elem = some y) (hyw : y.field.wr = true) (hj : judgeSlot r x w.value = some (val, c))
    (hno : judgeSlot r y v.value = none) : fieldWriteOp r [w, v] s = refuse r .range s := by
  have hplace : placeRefusal s r [w, v] = none := by
    refine placeRefusal_none hr hne htwice ?_
    simp only [List.forall_mem_cons, List.not_mem_nil, false_implies, implies_true, and_true]
    exact ⟨⟨x, hx, hxw⟩, ⟨y, hy, hyw⟩⟩
  unfold fieldWriteOp judgeValues
  rw [hplace]
  dsimp only
  rw [List.foldl_cons, List.foldl_cons, List.foldl_nil, judgeOne_take hx hj, judgeOne_refuse hy hno]

/-- A clamped field takes a value within its range, whatever is sent. -/
theorem judgeValue_clamp (lo hi n : Int) : ∃ m c, judgeValue (.int lo hi true) (some n) = some (some m, c) := by
  unfold judgeValue
  dsimp only
  split
  · exact ⟨_, _, rfl⟩
  · exact ⟨_, _, rfl⟩

/-- A field takes a value within its range as it is. -/
theorem judgeValue_within {lo hi n : Int} {c : Bool} (hlo : lo ≤ n) (hhi : n ≤ hi) :
    judgeValue (.int lo hi c) (some n) = some (some n, false) := if_pos ⟨hlo, hhi⟩

/-- A STRICT field refuses a number above its range. -/
theorem judgeValue_strict {lo hi n : Int} (h : hi < n) : judgeValue (.int lo hi false) (some n) = none := by
  unfold judgeValue
  dsimp only
  rw [if_neg (by omega)]
  rfl

/-- A user pattern's tone and on time in CHIMES. -/
theorem slotAt_chimes (k : Fin 2) (s : State) :
    slotAt s 23 (1 + 5 * k.1) none = some ⟨1 + 5 * k.1, none, strictF 0 7 (tget s.cfg.user k).tone⟩
      ∧ slotAt s 23 (2 + 5 * k.1) none = some ⟨2 + 5 * k.1, none, clampF 10 1000 (tget s.cfg.user k).onTime⟩ := by
  fin_cases k <;> exact ⟨rfl, rfl⟩

theorem chimes_refused (k : Fin 2) (n : Int) {tone : Nat} (h : 7 < tone) (s : State) :
    fieldWriteOp 23 [⟨2 + 5 * k.1, none, some n⟩, ⟨1 + 5 * k.1, none, some (tone : Int)⟩] s = refuse 23 .range s := by
  obtain ⟨htone, hon⟩ := slotAt_chimes k s
  obtain ⟨m, c, hj⟩ := judgeValue_clamp 10 1000 n
  exact fieldWriteOp_second writable_of (by decide) (by simp [namedTwice]) hon rfl htone rfl hj (judgeValue_strict (by omega))

/-- V_cut stands behind the OCV table in BATTERY. -/
theorem slotAt_vCut (s : State) : slotAt s 3 10 none = some ⟨10, none, strictF 0 7 s.cfg.battery.vCut⟩ := by
  have hwidth := rowWidth_table s.cfg.battery.ocv (fun v => [strictF 0 40000 (v : Int)]) 1 fun _ => rfl
  simp only [slotAt, recordSlots, recordView, viewBattery, slotsFrom, hwidth]
  rw [List.find?_cons_of_neg (by simp), List.find?_cons_of_neg (by simp), List.find?_cons_of_neg (by simp),
    List.find?_cons_of_neg (by simp), List.find?_append, find_groupSlots_plain]
  rfl

/-- V_cut at or above V_low: as a number above its range, or by the record's condition (R21). -/
theorem battery_refused (eta : Int) {cut : Nat} (h : s.cfg.battery.vLow ≤ cut) :
    fieldWriteOp 3 [⟨2, none, some eta⟩, ⟨10, none, some (cut : Int)⟩] s = refuse 3 .range s := by
  have heta : slotAt s 3 2 none = some ⟨2, none, clampF 80 100 s.cfg.battery.eta⟩ := rfl
  have hcut : slotAt s 3 10 none = some ⟨10, none, strictF 0 7 s.cfg.battery.vCut⟩ := slotAt_vCut s
  obtain ⟨m, c, hj⟩ : ∃ m c, judgeSlot 3 ⟨2, none, clampF 80 100 s.cfg.battery.eta⟩ (some eta) = some (some m, c) :=
    judgeValue_clamp 80 100 eta
  by_cases hhigh : 7 < cut
  · exact fieldWriteOp_second writable_of (by decide) rfl heta rfl hcut rfl hj (judgeValue_strict (by omega))
  · have htake : judgeSlot 3 ⟨10, none, strictF 0 7 s.cfg.battery.vCut⟩ (some (cut : Int)) = some (some (cut : Int), false) :=
      judgeValue_within (by omega) (by omega)
    have hplace : placeRefusal s 3 [⟨2, none, some eta⟩, ⟨10, none, some (cut : Int)⟩] = none := by
      refine placeRefusal_none writable_of (by decide) rfl ?_
      simp only [List.forall_mem_cons, List.not_mem_nil, false_implies, implies_true, and_true]
      exact ⟨⟨_, heta, rfl⟩, ⟨_, hcut, rfl⟩⟩
    have hunmet : conditionsMet 3 (pokeAll 3 [⟨2, none, some m⟩, ⟨10, none, some (cut : Int)⟩] s) = false := by
      change (risesStrictly s.cfg.battery.ocv.toList && decide ((cut : Int).toNat < s.cfg.battery.vLow)) = false
      rw [Int.toNat_natCast, decide_eq_false (by omega), Bool.and_false]
    unfold fieldWriteOp
    rw [hplace]
    dsimp only
    rw [judgeValues_two heta hj hcut htake, hunmet]
    rfl

end Sys2Proof.Machine

namespace Sys2Proof.Proofs

open Sys2Proof Sys2Proof.Machine

/-- Settles O56: each refusal is the operation's own, with nothing changed. -/
theorem recordOperationsRefuseByCheck : Obligations.RecordOperationsRefuseByCheck := by
  refine ⟨?_, ?_, ?_, ?_, ?_, ?_, ?_⟩
  · intro r e x f l n v w d vs ws s hrun hr i hi
    obtain ⟨hreset, he⟩ := effect_unknownRecord hr e x f l n v w d vs ws (startEvent i s) hi
    obtain ⟨t, hexec, hanswer, honly⟩ := exec_refused hrun hreset he
    exact ⟨t, hexec, by rw [hanswer]; rfl, honly⟩
  · intro r v w vs s hrun hr i hi
    obtain ⟨hreset, he⟩ := effect_readOnly hr v w vs (startEvent i s) hi
    obtain ⟨t, hexec, hanswer, honly⟩ := exec_refused hrun hreset he
    have hrev : r = (r - 1) % 26 + 1 := (by decide : ∀ r ∈ [1, 2, 4, 13, 15], r = (r - 1) % 26 + 1) r hr
    exact ⟨t, hexec, by rw [hanswer, revByte_eq s ⟨(r - 1) % 26, by omega⟩ hrev], honly⟩
  · intro n x vs s hrun
    obtain ⟨t, hexec, hanswer, honly⟩ := exec_refused (i := .put 9 (some n) x vs) hrun rfl (putOp_samples n x vs _)
    exact ⟨t, hexec, by rw [hanswer, revByte_eq (r := 9) s 8 rfl], honly⟩
  · intro f v w d s hrun hf i hi
    obtain ⟨hreset, he⟩ := effect_heaterSet_noField hf v w d (startEvent i s) hi
    obtain ⟨t, hexec, hanswer, honly⟩ := exec_refused hrun hreset he
    exact ⟨t, hexec, by rw [hanswer, revByte_eq (r := 11) s 10 rfl], honly⟩
  · intro e a b c s hrun he
    obtain ⟨t, hexec, hanswer, honly⟩ := exec_refused (i := .put 11 none (some e) [a, b, c]) hrun rfl
      (putOp_heaterSet_mismatch (s := startEvent (.put 11 none (some e) [a, b, c]) s) he a b c)
    exact ⟨t, hexec, by rw [hanswer, revByte_eq (r := 11) s 10 rfl], honly⟩
  · intro k n tone s hrun htone
    have he : fieldWriteOp 23 [⟨2 + 5 * k.1, none, some n⟩, ⟨1 + 5 * k.1, none, some (tone : Int)⟩] = refuse 23 .range :=
      funext fun s => chimes_refused k n htone s
    obtain ⟨t, hexec, hanswer, honly⟩ := exec_refused
      (i := .fieldWrite 23 [⟨2 + 5 * k.1, none, some n⟩, ⟨1 + 5 * k.1, none, some (tone : Int)⟩]) hrun rfl (congrFun he _)
    exact ⟨t, hexec, by rw [hanswer, revByte_eq (r := 23) s 22 rfl], honly⟩
  · intro eta cut s hrun hcut
    obtain ⟨t, hexec, hanswer, honly⟩ := exec_refused (s := s)
      (i := .fieldWrite 3 [⟨2, none, some eta⟩, ⟨10, none, some (cut : Int)⟩]) hrun rfl (battery_refused eta hcut)
    exact ⟨t, hexec, by rw [hanswer, revByte_eq (r := 3) s 2 rfl], honly⟩

end Sys2Proof.Proofs
end

section
/-! PROOFS. The six record operations on HEATER_SET. -/

namespace Sys2Proof.Machine

-- One proof after another: started together they wait for one another, each on a thread of its own.
set_option Elab.async false

variable {s t u : State} {r : Nat}

/-! ### The revision after an accepted write (R174) -/

/-- An operation on a record leaves its revision where the content stays, and advances it by one otherwise. -/
theorem tget_rev_operate (i : Fin 26) (f : State → State) (hrev : (f s).rev = s.rev) :
    tget (operate i f s).rev i =
      if revisionView s (i.1 + 1) = revisionView (f s) (i.1 + 1) then tget s.rev i else (tget s.rev i + 1) % 256 := by
  unfold operate
  dsimp only
  split
  · rw [hrev]
  · rw [hrev, tget_tset_same]

/-- The same for the record of an id. -/
theorem tget_rev_poked (i : Fin 26) (ws : List FieldWrite) (s : State) : tget (poked (i.1 + 1) ws s).rev i =
    if revisionView s (i.1 + 1) = revisionView (pokeAll (i.1 + 1) ws s) (i.1 + 1) then tget s.rev i else (tget s.rev i + 1) % 256 := by
  have e : poked (i.1 + 1) ws s = operate i (pokeAll (i.1 + 1) ws) s := dif_pos ⟨by omega, by omega⟩
  rw [e]
  exact tget_rev_operate i _ (pokeAll_rev _ _ _)

/-! ### The content of HEATER_SET -/

theorem viewHeaterSet_inj {h k : HeaterSet} : viewHeaterSet h = viewHeaterSet k ↔ h = k := by
  refine ⟨fun e => ?_, fun e => e ▸ rfl⟩
  simp only [viewHeaterSet, clampF, rw, List.cons.injEq, Item.one.injEq, Field.mk.injEq, Option.some.injEq, true_and, and_true] at e
  obtain ⟨h1, h2, h3⟩ := e
  cases h
  cases k
  simp only [HeaterSet.mk.injEq]
  exact ⟨h1, flagVal_inj h2, h3⟩

/-- The revision of HEATER_SET after fields were written. -/
theorem revByte_heaterSet {ws : List FieldWrite} {new : HeaterSet} (hnew : (pokeAll 11 ws s).cfg.heaterSet = new) :
    revByte (poked 11 ws s) 11 = byte (if new = s.cfg.heaterSet then tget s.rev 10 else (tget s.rev 10 + 1) % 256) := by
  have hview : revisionView s 11 = revisionView (pokeAll 11 ws s) 11 ↔ new = s.cfg.heaterSet := by
    change some (viewHeaterSet s.cfg.heaterSet) = some (viewHeaterSet (pokeAll 11 ws s).cfg.heaterSet) ↔ _
    rw [Option.some.injEq, viewHeaterSet_inj, hnew]
    exact eq_comm
  rw [revByte_eq (r := 11) _ 10 rfl]
  exact congrArg byte ((tget_rev_poked 10 ws s).trans (if_congr hview rfl rfl))

/-- An accepted write of HEATER_SET leaves the settings it wrote. -/
theorem accept_heaterSet_cfg (ws : List FieldWrite) (st : Status) (data : List Byte) (s : State) :
    (accept 11 ws st data s).cfg = (pokeAll 11 ws s).cfg := by
  refine accept_keeps (I := fun t => t.cfg = (pokeAll 11 ws s).cfg) (fun _ _ h => h) (fun _ _ _ => rfl) fun v a => ?_
  change (if names 3 ws then _ else _ : State).cfg = _
  split <;> rfl

/-! ### The setpoint -/

/-- A setpoint as HEATER_SET takes it: within 5.0 to 30.0 C (R64). -/
def heldSetpoint (v : Int) : Int := max 50 (min 300 v)

/-- The setpoint's field. -/
abbrev setpointSlot (s : State) : Slot := ⟨1, none, clampF 50 300 s.cfg.heaterSet.setpoint⟩

theorem slotAt_setpoint (s : State) : slotAt s 11 1 none = some (setpointSlot s) := rfl

theorem judgeSlot_setpoint (v : Int) (s : State) :
    judgeSlot 11 (setpointSlot s) (some v) = some (some (heldSetpoint v), decide (heldSetpoint v ≠ v)) := by
  change judgeValue (.int 50 300 true) (some v) = _
  unfold judgeValue heldSetpoint
  dsimp only
  split
  · rw [decide_eq_false (by omega), show max 50 (min 300 v) = v by omega]
  · rw [if_pos rfl, decide_eq_true (by omega)]
    rfl

theorem acceptedStatus_held (v : Int) :
    acceptedStatus (decide (heldSetpoint v ≠ v)) = if heldSetpoint v = v then .ok else .clamped := by
  unfold acceptedStatus
  by_cases h : heldSetpoint v = v <;> simp [h]

/-- The flag byte of a clamped value. -/
theorem bit_held (v : Int) : byte (bit (decide (heldSetpoint v ≠ v)) 0) = if heldSetpoint v = v then 0 else 1 := by
  by_cases h : heldSetpoint v = v <;> simp [h, bit, byte]

/-- The flags byte of COMPARE-WRITE, bit 1 telling that it wrote. -/
theorem bit_held_written (v : Int) : byte (bit (decide (heldSetpoint v ≠ v)) 0 + 2) = if heldSetpoint v = v then 2 else 3 := by
  by_cases h : heldSetpoint v = v <;> simp [h, bit, byte]

theorem placeRefusal_setpoint (v : Option Int) (s : State) : placeRefusal s 11 [⟨1, none, v⟩] = none :=
  placeRefusal_one writable_of (by decide) (slotAt_setpoint s) rfl

theorem judgeValues_setpoint (v : Int) (s : State) : judgeValues s 11 [⟨1, none, some v⟩]
    = .take [⟨1, none, some (heldSetpoint v)⟩] (decide (heldSetpoint v ≠ v)) :=
  judgeValues_one (slotAt_setpoint s) (judgeSlot_setpoint v s) rfl

theorem pokeAll_setpoint (v : Int) (s : State) : (pokeAll 11 [⟨1, none, some v⟩] s).cfg.heaterSet = { s.cfg.heaterSet with setpoint := v } := rfl

theorem fieldWriteOp_setpoint (v : Int) (s : State) : fieldWriteOp 11 [⟨1, none, some v⟩] s
    = accept 11 [⟨1, none, some (heldSetpoint v)⟩] (acceptedStatus (decide (heldSetpoint v ≠ v))) [] s :=
  fieldWriteOp_one writable_of (by decide) (slotAt_setpoint s) rfl (judgeSlot_setpoint v s) rfl

theorem exchangeOp_setpoint (v : Int) (s : State) : exchangeOp 11 1 none (some v) s
    = accept 11 [⟨1, none, some (heldSetpoint v)⟩] (acceptedStatus (decide (heldSetpoint v ≠ v)))
        (leBytes 2 s.cfg.heaterSet.setpoint) s := by
  unfold exchangeOp
  dsimp only
  rw [placeRefusal_setpoint, slotAt_setpoint]
  dsimp only
  rw [judgeValues_setpoint]
  rfl

/-- COMPARE-WRITE writes at the expected value alone (R172). -/
theorem compareOp_setpoint (v : Int) (s : State) : compareOp 11 1 none (some s.cfg.heaterSet.setpoint) (some v) s
    = accept 11 [⟨1, none, some (heldSetpoint v)⟩] (acceptedStatus (decide (heldSetpoint v ≠ v)))
        (leBytes 2 s.cfg.heaterSet.setpoint ++ [byte (bit (decide (heldSetpoint v ≠ v)) 0 + 2)]) s := by
  unfold compareOp
  dsimp only
  rw [placeRefusal_setpoint, slotAt_setpoint]
  dsimp only
  rw [if_pos (by rfl), judgeValues_setpoint]
  rfl

theorem compareOp_setpoint_other (v : Int) {d : Int} {s : State} (h : d ≠ s.cfg.heaterSet.setpoint) :
    compareOp 11 1 none (some d) (some v) s = answer .ok (revByte s 11 :: (leBytes 2 s.cfg.heaterSet.setpoint ++ [0])) s := by
  have hval : (setpointSlot s).field.val ≠ some d := fun e => h (Option.some.inj e).symm
  unfold compareOp
  dsimp only
  rw [placeRefusal_setpoint, slotAt_setpoint]
  dsimp only at hval ⊢
  rw [if_neg hval]
  rfl

/-- ADJUST moves the setpoint within its range, and writes nothing where it stays (R171). -/
theorem adjustOp_setpoint {d : Int} (hlo : -32768 ≤ d) (hhi : d ≤ 32767) (s : State) :
    let old := s.cfg.heaterSet.setpoint
    let new := heldSetpoint (old + d)
    adjustOp 11 1 none d s = accept 11 (if new = old then [] else [⟨1, none, some new⟩]) (acceptedStatus (decide (new ≠ old + d)))
      (leBytes 2 old ++ leBytes 2 new ++ [byte (bit (decide (new ≠ old + d)) 0)]) s := by
  intro old new
  unfold adjustOp
  rw [slotAt_setpoint]
  dsimp only
  rw [if_neg (by simp [adjustable, clampF, rw]; omega), placeRefusal_setpoint]
  dsimp only
  rw [show (setpointSlot s).field.val.getD 0 = old from rfl, judgeValues_setpoint]
  rfl

/-! ### The whole record -/

theorem judgeSlot_frost (b : Bool) (s : State) : judgeSlot 11 ⟨2, none, rw .flag (flagVal s.cfg.heaterSet.frost)⟩
    (some (if b then 1 else 0)) = some (some (if b then 1 else 0), false) := by cases b <;> rfl

theorem judgeValues_heaterSet (v : Int) (b : Bool) {th : Nat} (hlo : 20 ≤ th) (hhi : th ≤ 100) (s : State) :
    judgeValues s 11 [⟨1, none, some v⟩, ⟨2, none, some (if b then 1 else 0)⟩, ⟨3, none, some (th : Int)⟩]
      = .take [⟨1, none, some (heldSetpoint v)⟩, ⟨2, none, some (if b then 1 else 0)⟩, ⟨3, none, some (th : Int)⟩]
          (decide (heldSetpoint v ≠ v)) := by
  have hthreshold : judgeSlot 11 ⟨3, none, clampF 20 100 s.cfg.heaterSet.threshold⟩ (some (th : Int)) = some (some (th : Int), false) :=
    judgeValue_within (by omega) (by omega)
  unfold judgeValues
  rw [List.foldl_cons, List.foldl_cons, List.foldl_cons, List.foldl_nil,
    judgeOne_take (slotAt_setpoint s) (judgeSlot_setpoint v s), judgeOne_take (x := ⟨2, none, _⟩) rfl (judgeSlot_frost b s),
    judgeOne_take (x := ⟨3, none, _⟩) rfl hthreshold]
  simp [conditionsMet]

theorem putOp_heaterSet (v : Int) (b : Bool) {th : Nat} (hlo : 20 ≤ th) (hhi : th ≤ 100) (s : State) :
    putOp 11 none none [some v, some (if b then 1 else 0), some (th : Int)] s
      = accept 11 [⟨1, none, some (heldSetpoint v)⟩, ⟨2, none, some (if b then 1 else 0)⟩, ⟨3, none, some (th : Int)⟩]
          (acceptedStatus (decide (heldSetpoint v ≠ v))) [] s :=
  putOp_accepted writable_of rfl rfl (placeRefusal_heaterSet _ _ _ s) rfl (judgeValues_heaterSet v b hlo hhi s)

theorem getOp_heaterSet (s : State) : getOp 11 0 0 0 s = answer .ok (revByte s 11 :: (leBytes 2 s.cfg.heaterSet.setpoint
    ++ [if s.cfg.heaterSet.frost then 1 else 0] ++ leBytes 1 s.cfg.heaterSet.threshold)) s := by
  change answer .ok (revByte s 11 :: singleBytes 11 (viewHeaterSet s.cfg.heaterSet)) s = _
  have hfrost : leBytes 1 (flagVal s.cfg.heaterSet.frost) = [if s.cfg.heaterSet.frost then 1 else 0] := by
    cases s.cfg.heaterSet.frost <;> rfl
  rw [← hfrost]
  rfl

/-! ### An accepted operation as an event -/

/-- An accepted write of HEATER_SET: the settings it leaves, and its answer with the revision. -/
theorem exec_heaterSet {i : Instr} {ws : List FieldWrite} {st : Status} {data : List Byte} {new : HeaterSet} (hrun : s.mc.supply = .running)
    (hreset : mayReset i = false) (he : effect i (startEvent i s) = accept 11 ws st data (startEvent i s))
    (hnew : (pokeAll 11 ws (startEvent i s)).cfg = { s.cfg with heaterSet := new }) :
    ∃ t, exec i s = .next t ∧ t.cfg = { s.cfg with heaterSet := new } ∧ t.answer = some ⟨st,
      byte (if new = s.cfg.heaterSet then tget s.rev 10 else (tget s.rev 10 + 1) % 256) :: data⟩ := by
  refine ⟨_, exec_running hrun hreset, ?_, ?_⟩
  · rw [close_cfg, he, accept_heaterSet_cfg, hnew]
  · rw [close_answer, he, accept_answer _ _ _ (by decide), revByte_heaterSet (congrArg Settings.heaterSet hnew)]
    rfl

end Sys2Proof.Machine

namespace Sys2Proof.Proofs

open Sys2Proof Sys2Proof.Machine

/-- Settles O57: each operation is an accepted write of the held setpoint, or of what it holds. -/
theorem oneFieldOperationsOnHeaterSet : Obligations.OneFieldOperationsOnHeaterSet := by
  intro v d fr th s hrun hthlo hthhi hlo hhi hdlo hdhi old held status rev set
  have hstatus : ∀ x, acceptedStatus (decide (heldSetpoint x ≠ x)) = status x := acceptedStatus_held
  have hflag : ∀ x (a b : Byte), (if status x = .ok then a else b) = if heldSetpoint x = x then a else b := fun x a b => by
    by_cases h : heldSetpoint x = x
    · have hok : status x = .ok := if_pos h
      simp only [hok, h, if_true]
    · have hclamped : status x = .clamped := if_neg h
      simp only [hclamped, h, reduceCtorEq, if_false]
  refine ⟨?_, ?_, ?_, ?_, ?_, ?_, ?_⟩
  · refine ⟨_, exec_running (i := .get 11 0 0 0) hrun rfl, ?_⟩
    rw [close_answer]
    change (getOp 11 0 0 0 (startEvent (.get 11 0 0 0) s)).answer = _
    rw [getOp_heaterSet, revByte_eq (r := 11) _ 10 rfl]
    rfl
  · obtain ⟨t, hexec, hcfg, hanswer⟩ := exec_heaterSet (i := .fieldWrite 11 [⟨1, none, some v⟩]) (new := set v) hrun rfl
      (fieldWriteOp_setpoint v _) rfl
    exact ⟨t, hexec, hcfg, by rw [hanswer, hstatus]⟩
  · obtain ⟨t, hexec, hcfg, hanswer⟩ := exec_heaterSet (i := .put 11 none none [some v, some (if fr then 1 else 0), some (th : Int)])
      (new := ⟨held v, fr, th⟩) hrun rfl (putOp_heaterSet v fr hthlo hthhi _) (by cases fr <;> rfl)
    exact ⟨t, hexec, hcfg, by rw [hanswer, hstatus]⟩
  · have hsame : heldSetpoint (old.setpoint + d) = old.setpoint → set (old.setpoint + d) = old := fun e => by
      change { old with setpoint := heldSetpoint (old.setpoint + d) } = old
      rw [e]
    obtain ⟨t, hexec, hcfg, hanswer⟩ := exec_heaterSet (s := s) (i := .adjust (.host 11) 1 none d) (new := set (old.setpoint + d)) hrun rfl
      (adjustOp_setpoint hdlo hdhi _) (by
        split
        · rename_i e
          rw [hsame e]
          rfl
        · rfl)
    refine ⟨t, hexec, hcfg, ?_⟩
    rw [hanswer, hstatus, bit_held, hflag]
    rfl
  · obtain ⟨t, hexec, hcfg, hanswer⟩ := exec_heaterSet (s := s) (i := .exchange 11 1 none (some v)) (new := set v) hrun rfl
      (exchangeOp_setpoint v _) rfl
    exact ⟨t, hexec, hcfg, by rw [hanswer, hstatus]; rfl⟩
  · obtain ⟨t, hexec, hcfg, hanswer⟩ := exec_heaterSet (s := s) (i := .compareWrite 11 1 none (some old.setpoint) (some v)) (new := set v) hrun rfl
      (compareOp_setpoint v _) rfl
    refine ⟨t, hexec, hcfg, ?_⟩
    rw [hanswer, hstatus, bit_held_written, hflag]
    rfl
  · intro hd
    refine ⟨_, exec_running (i := .compareWrite 11 1 none (some d) (some v)) hrun rfl, ?_⟩
    have he : effect (.compareWrite 11 1 none (some d) (some v)) (startEvent (.compareWrite 11 1 none (some d) (some v)) s) = _ :=
      compareOp_setpoint_other v (s := startEvent (.compareWrite 11 1 none (some d) (some v)) s) hd
    rw [close_cfg, close_answer, he, revByte_eq (r := 11) _ 10 rfl]
    exact ⟨rfl, rfl⟩

end Sys2Proof.Proofs
end

section
/-! PROOFS. Writes of one field: what an accepted one leaves, and what its owner does. -/

namespace Sys2Proof.Machine

-- One proof after another: started together they wait for one another, each on a thread of its own.
set_option Elab.async false

variable {s t u : State} {r : Nat} {as : List Area}

/-! ### Tables -/

theorem getElem?_table {α β : Type} {n : Nat} (v : Vector α n) (f : α → β) (i : Fin n) : (v.toList.map f)[i.1]? = some (f (tget v i)) := by
  simp [tget]

theorem setElem_some {α : Type} {n : Nat} (v : Vector α n) (i : Fin n) (f : α → α) : setElem v (some i.1) f = tset v i (f (tget v i)) :=
  dif_pos i.2

theorem all_table {α : Type} {n : Nat} (v : Vector α n) (p : α → Bool) : v.toList.all p = true ↔ ∀ i, p (tget v i) = true := by
  rw [List.all_eq_true]
  refine ⟨fun h i => h _ ?_, fun h a ha => ?_⟩
  · rw [Vector.mem_toList_iff]
    exact Vector.getElem_mem _
  · obtain ⟨i, hi, rfl⟩ := Vector.mem_iff_getElem.1 (Vector.mem_toList_iff.1 ha)
    exact h ⟨i, hi⟩

theorem getElem?_consumers {β : Type} (f : Consumer → β) (c : Consumer) : (allConsumers.map f)[(consIx c).1]? = some (f c) := by
  cases c <;> rfl

theorem getElem?_comparators {β : Type} (f : Comparator → β) (c : Comparator) : (allComparators.map f)[(compIx c).1]? = some (f c) := by
  cases c <;> rfl

/-! ### The settings after an accepted write -/

theorem batteryEffect_cfg (old : Battery) (s : State) : (batteryEffect old s).cfg = s.cfg := by
  rw [batteryEffect_eq]
  refine (moves_batteryFollows _ _ _).cfg_eq.trans ?_
  unfold rescaleCharge
  split
  · split <;> rfl
  · rfl

/-- An owner whose taking of the change wakes nothing leaves the settings, those of the rest profile and the schedule apart. -/
theorem ownerEffect_cfg (old : State) (ws : List FieldWrite) (hr : r ≠ 24 ∧ r ≠ 26) (hw : wakingRecord r = true → s.mc.mode ≠ .standby) :
    (ownerEffect r old ws s).cfg = s.cfg := by
  by_cases h3 : r = 3
  · subst h3
    exact batteryEffect_cfg _ s
  · have hareas : .cfg ∉ partsOf (ownerAreas r) ++ everyEvent ∧ .sleep ∉ ownerAreas r ∧ .clock ∉ ownerAreas r := by
      unfold ownerAreas
      split <;> first | decide | omega
    have w : OwnerWakes (ownerAreas r) s r :=
      ⟨fun _ m => m, fun h => absurd h h3, fun hr hm => absurd hm (hw hr), hareas.2.1, hareas.2.2⟩
    exact (moves_ownerEffect old ws w).cfg_eq hareas.1

theorem accept_cfg (ws : List FieldWrite) (st : Status) (data : List Byte) (hr : r ≠ 24 ∧ r ≠ 26)
    (hw : wakingRecord r = true → s.mc.mode ≠ .standby) : (accept r ws st data s).cfg = (pokeAll r ws s).cfg := by
  refine accept_keeps (I := fun t => t.cfg = (pokeAll r ws s).cfg) (fun _ _ h => h) (fun _ _ _ => rfl) fun v a => ?_
  have hmode : wakingRecord r = true → (written r ws v a s).mc.mode ≠ .standby := fun h hm =>
    hw h ((congrArg ModeUnit.mode (pokeAll_mc r ws s)).symm.trans hm)
  have hcfg : (written r ws v a s).cfg = (pokeAll r ws s).cfg := rfl
  generalize written r ws v a s = w at hmode hcfg
  exact (ownerEffect_cfg s ws hr hmode).trans hcfg

/-- The owner of another record than BATTERY leaves the settings, HEATER_SET apart, which a held entry may change. -/
theorem ownerEffect_settingsCore (old : State) (ws : List FieldWrite) (hr : r ≠ 3) :
    settingsCore (ownerEffect r old ws s).cfg = settingsCore s.cfg := by
  have hareas : pokesNone (ownerAreas r ++ wakeAreas) = true ∧ .sleep ∉ ownerAreas r ++ wakeAreas
      ∧ .clock ∉ ownerAreas r ++ wakeAreas := by
    unfold ownerAreas
    split <;> decide
  obtain ⟨hpokes, hsleep, hclock⟩ := hareas
  have w : OwnerWakes (ownerAreas r ++ wakeAreas) s r :=
    ⟨List.subset_append_left _ _, fun h => absurd h hr, fun _ _ => List.subset_append_right _ _, hsleep, hclock⟩
  exact (moves_ownerEffect old ws w).settingsCore_eq hpokes

theorem accept_settingsCore (ws : List FieldWrite) (st : Status) (data : List Byte) (hr : r ≠ 3) :
    settingsCore (accept r ws st data s).cfg = settingsCore (pokeAll r ws s).cfg := by
  refine accept_keeps (I := fun t => settingsCore t.cfg = settingsCore (pokeAll r ws s).cfg) (fun _ _ h => h) (fun _ _ _ => rfl)
    fun v a => ?_
  have hcfg : (written r ws v a s).cfg = (pokeAll r ws s).cfg := rfl
  generalize written r ws v a s = w at hcfg
  exact (ownerEffect_settingsCore s ws hr).trans (congrArg settingsCore hcfg)

/-! ### A write of one field as an event -/

theorem judgeSlot_plain (h : r ≠ 26) (x : Slot) (v : Option Int) : judgeSlot r x v = judgeValue x.field.ty v := by
  unfold judgeSlot
  rw [if_neg fun e => h e.1, if_neg fun e => h e.1]

/-- A write of one field that its record takes as it is, and that its conditions admit. -/
structure TakenWrite (s : State) (r : Nat) (w : FieldWrite) : Prop where
  record : writable r
  plain : r ≠ 26
  slot : ∃ x, slotAt s r w.field w.elem = some x ∧ x.field.wr = true ∧ judgeSlot r x w.value = some (w.value, false)
  met : conditionsMet r (pokeAll r [w] s) = true

namespace TakenWrite

variable {f : Nat} {e : Option Nat} {old n : Int} {lo hi : Int} {c : Bool}

/-- A number within its field's range. -/
theorem int (hx : slotAt s r f e = some ⟨f, e, rw (.int lo hi c) old⟩) (hlo : lo ≤ n) (hhi : n ≤ hi)
    (hmet : conditionsMet r (pokeAll r [⟨f, e, some n⟩] s) = true) (hr : writable r := by exact writable_of) (hp : r ≠ 26 := by decide) :
    TakenWrite s r ⟨f, e, some n⟩ where
  record := hr
  plain := hp
  slot := ⟨_, hx, rfl, by rw [judgeSlot_plain hp]; exact judgeValue_within hlo hhi⟩
  met := hmet

/-- A code of an enumeration. -/
theorem enum {k : Nat} (hx : slotAt s r f e = some ⟨f, e, rw (.enum k) old⟩) (hlo : 0 ≤ n) (hhi : n < k)
    (hmet : conditionsMet r (pokeAll r [⟨f, e, some n⟩] s) = true) (hr : writable r := by exact writable_of) (hp : r ≠ 26 := by decide) :
    TakenWrite s r ⟨f, e, some n⟩ where
  record := hr
  plain := hp
  slot := ⟨_, hx, rfl, by rw [judgeSlot_plain hp]; exact if_pos ⟨hlo, hhi⟩⟩
  met := hmet

/-- A flag. -/
theorem flag {b : Bool} (hx : slotAt s r f e = some ⟨f, e, rw .flag old⟩)
    (hmet : conditionsMet r (pokeAll r [⟨f, e, some (if b then 1 else 0)⟩] s) = true) (hr : writable r := by exact writable_of)
    (hp : r ≠ 26 := by decide) : TakenWrite s r ⟨f, e, some (if b then 1 else 0)⟩ where
  record := hr
  plain := hp
  slot := ⟨_, hx, rfl, by rw [judgeSlot_plain hp]; cases b <;> rfl⟩
  met := hmet

end TakenWrite

theorem TakenWrite.accepted {w : FieldWrite} (h : TakenWrite s r w) : fieldWriteOp r [w] s = accept r [w] .ok [] s := by
  obtain ⟨hr, hp, ⟨x, hx, hwr, hj⟩, hmet⟩ := h
  obtain ⟨f, e, v⟩ := w
  rw [fieldWriteOp_one (c := false) hr hp hx hwr hj hmet]
  rfl

/-- A command that writes one field is answered OK, and leaves what the accepted write leaves. -/
theorem exec_oneField {i : Instr} {w : FieldWrite} (hrun : s.mc.supply = .running) (hreset : mayReset i = false)
    (he : effect i (startEvent i s) = fieldWriteOp r [w] (startEvent i s)) (h : TakenWrite (startEvent i s) r w) :
    exec i s = .next (close s (accept r [w] .ok [] (startEvent i s)))
      ∧ (close s (accept r [w] .ok [] (startEvent i s))).answer.map (·.status) = some .ok := by
  refine ⟨by rw [exec_running hrun hreset, he, h.accepted], ?_⟩
  rw [close_answer, accept_answer _ _ _ (writable_ne_clock h.record)]
  rfl

/-- The settings it leaves. -/
theorem exec_oneField_cfg {i : Instr} {w : FieldWrite} (hrun : s.mc.supply = .running) (hreset : mayReset i = false)
    (he : effect i (startEvent i s) = fieldWriteOp r [w] (startEvent i s)) (h : TakenWrite (startEvent i s) r w) (hr : r ≠ 24)
    (hw : wakingRecord r = false) :
    ∃ t, exec i s = .next t ∧ t.answer.map (·.status) = some .ok ∧ t.cfg = (pokeAll r [w] (startEvent i s)).cfg := by
  obtain ⟨hexec, hok⟩ := exec_oneField hrun hreset he h
  refine ⟨_, hexec, hok, ?_⟩
  rw [close_cfg, accept_cfg _ _ _ ⟨hr, h.plain⟩ (by simp [hw])]

/-! ### Fields of lists -/

theorem slotAt_channels (ch : Channel) (s : State) :
    slotAt s 8 1 (some (chanIx ch).1) = some ⟨1, some (chanIx ch).1, rw .flag (flagVal (tget s.cfg.chan (chanIx ch)).enabled)⟩
      ∧ slotAt s 8 2 (some (chanIx ch).1) = some ⟨2, some (chanIx ch).1, strictF 0 7 (tget s.cfg.chan (chanIx ch)).k⟩ :=
  ⟨slotAt_group rfl (n := 0) (getElem?_table _ _ _) rfl, slotAt_group rfl (n := 1) (getElem?_table _ _ _) rfl⟩

theorem pokeAll_channels_k (i : Fin 7) (k : Nat) (s : State) : (pokeAll 8 [⟨2, some i.1, some (k : Int)⟩] s).cfg
    = { s.cfg with chan := tset s.cfg.chan i { tget s.cfg.chan i with k := k } } := by
  change { s.cfg with chan := setElem s.cfg.chan (some i.1) fun c => { c with k := k } } = _
  rw [setElem_some]

theorem pokeAll_channels_off (i : Fin 7) (s : State) : (pokeAll 8 [⟨1, some i.1, some 0⟩] s).cfg
    = { s.cfg with chan := tset s.cfg.chan i { tget s.cfg.chan i with enabled := false } } := by
  change { s.cfg with chan := setElem s.cfg.chan (some i.1) fun c => { c with enabled := false } } = _
  rw [setElem_some]

theorem slotAt_trips (c : Comparator) (s : State) : slotAt s 10 1 (some (compIx c).1)
    = some ⟨1, some (compIx c).1, strictF 0 15 ((tget s.cfg.thresholds (compIx c) : Nat) : Int)⟩ :=
  slotAt_group rfl (n := 0) (getElem?_comparators _ c) rfl

theorem pokeAll_trips (i : Fin 6) (n : Nat) (s : State) : (pokeAll 10 [⟨1, some i.1, some (n : Int)⟩] s).cfg
    = { s.cfg with thresholds := tset s.cfg.thresholds i n } := by
  change { s.cfg with thresholds := setElem s.cfg.thresholds (some i.1) fun _ => n } = _
  rw [setElem_some]

theorem slotAt_masks {c : Consumer} (hc : c ≠ .panel) (s : State) : slotAt s 5 2 (some (consIx c).1)
    = some ⟨2, some (consIx c).1, rw .flag (flagVal (tget s.cfg.masks (consIx c)))⟩ := by
  have h := slotAt_group (s := s) (r := 5) rfl (n := 1) (getElem?_consumers _ c) rfl
  rwa [if_neg hc] at h

theorem pokeAll_masks (i : Fin 8) (m : Bool) (s : State) : (pokeAll 5 [⟨2, some i.1, some (if m then 1 else 0)⟩] s).cfg
    = { s.cfg with masks := tset s.cfg.masks i m } := by
  have hm : (natOf (some (if m then 1 else 0)) != 0) = m := by cases m <;> rfl
  change { s.cfg with masks := setElem s.cfg.masks (some i.1) fun _ => natOf (some (if m then 1 else 0)) != 0 } = _
  rw [setElem_some, hm]

theorem slotAt_sceneFade (k : Fin 8) (s : State) :
    slotAt s 19 7 (some k.1) = some ⟨7, some k.1, clampF 0 255 (tget s.cfg.scenes k).fade⟩ := by
  refine slotAt_group rfl (n := 6) (getElem?_table _ _ k) ?_
  rw [List.getElem?_append_right (by simp)]
  simp

theorem pokeAll_sceneFade (k : Fin 8) (n : Nat) (s : State) : (pokeAll 19 [⟨7, some k.1, some (n : Int)⟩] s).cfg
    = { s.cfg with scenes := tset s.cfg.scenes k { tget s.cfg.scenes k with fade := n } } := by
  change { s.cfg with scenes := setElem s.cfg.scenes (some k.1) (pokeScene 7 (some (n : Int))) } = _
  rw [setElem_some]
  rfl

theorem slotAt_keyReport (k : Fin 16) (s : State) :
    slotAt s 20 3 (some k.1) = some ⟨3, some k.1, rw (.enum 8) (tget s.cfg.keymap k).report.toNat⟩ :=
  slotAt_group rfl (n := 2) (getElem?_table _ _ k) rfl

theorem pokeAll_keyReport (k : Fin 16) (n : Nat) (s : State) : (pokeAll 20 [⟨3, some k.1, some (n : Int)⟩] s).cfg
    = { s.cfg with keymap := tset s.cfg.keymap k { tget s.cfg.keymap k with report := BitVec.ofNat 3 n } } := by
  change { s.cfg with keymap := setElem s.cfg.keymap (some k.1) (pokeKey 3 n) } = _
  rw [setElem_some]
  rfl

/-- A key's report set leaves its action's parameter in its set. -/
theorem keymap_met (k : Fin 16) (n : Nat) (h : ∀ j, keyEntryOk (tget s.cfg.keymap j) = true) :
    conditionsMet 20 (pokeAll 20 [⟨3, some k.1, some (n : Int)⟩] s) = true := by
  change (pokeAll 20 [⟨3, some k.1, some (n : Int)⟩] s).cfg.keymap.toList.all keyEntryOk = true
  rw [pokeAll_keyReport, all_table]
  intro j
  rw [tget_tset]
  split
  · exact h k
  · exact h j

theorem mem_allKeys (k : Fin 16) : k ∈ allKeys := by
  revert k
  decide

theorem pokeAll_userTone (k : Fin 2) (n : Nat) (s : State) : (pokeAll 23 [⟨1 + 5 * k.1, none, some (n : Int)⟩] s).cfg
    = { s.cfg with user := tset s.cfg.user k { tget s.cfg.user k with tone := n } } := by
  fin_cases k <;> rfl

/-! ### CHANNELS: a channel disabled (R3, R12) -/

theorem statusOf_close (s u : State) (ch : Channel) : statusOf (close s u) ch = statusOf u ch := statusOf_congr (close_mu_chan s u) ch

theorem statusOf_channelsEffect {old : Vector ChanSet 7} {ch : Channel} (hold : (tget old (chanIx ch)).enabled = true)
    (hnew : (tget s.cfg.chan (chanIx ch)).enabled = false) : statusOf (channelsEffect old s) ch = .stale := by
  unfold channelsEffect
  extract_lets on stopped started
  have hmem : ch ∈ stopped := List.mem_filter.2 ⟨by cases ch <;> decide, by simp [on, hold, hnew]⟩
  have hreports : (stopChannels stopped (discardChannels started s)).mu.chan
      = (discardChannels stopped (discardChannels started s)).mu.chan :=
    (moves_foldl (as := .fc :: statusAreas) (f := fun s' ch => statusReport ch (statusOf (discardChannels started s) ch) s')
      (fun s' ch => moves_statusReport ch _ s') stopped _).chan_eq
  have hscan := leaveScan_chan stopped (stopChannels stopped (discardChannels started s))
  rw [statusOf_congr (hscan.trans hreports), statusOf_discardChannels, if_pos hmem]

theorem accept_channels_off {ch : Channel} (hon : (tget s.cfg.chan (chanIx ch)).enabled = true) {st : Status} {data : List Byte} :
    statusOf (accept 8 [⟨1, some (chanIx ch).1, some 0⟩] st data s) ch = .stale := by
  have hoff : (tget (pokeAll 8 [⟨1, some (chanIx ch).1, some 0⟩] s).cfg.chan (chanIx ch)).enabled = false := by
    rw [pokeAll_channels_off, tget_tset_same]
  refine accept_keeps (I := fun t => statusOf t ch = .stale) (fun _ _ h => h) (fun v a hview => ?_) fun v a => ?_
  · have hsame := viewChannels_enabled (Option.some.inj hview) (chanIx ch)
    exact absurd (hsame.symm.trans hon) (by rw [hoff]; decide)
  · exact statusOf_channelsEffect hon hoff

/-! ### TRIPS: a comparator disabled (R14) -/

theorem compAfter_disabled {s u : State} {c : Comparator} {e : CompEntry} (h : e.state = .disabled) : (compAfter s u c e).state = .disabled := by
  unfold compAfter
  split
  · split
    · split
      · rw [compFurtherOn, h]
        exact h
      · exact h
    · rw [compSwitchOff, h]
  · split
    · rw [compSwitchOn, h]
      exact h
    · exact h

/-- One comparator's taking of the thresholds (R14). -/
def rewriteComp (old : Vector Nat 6) (s : State) (c : Comparator) : State :=
  let n := tget s.cfg.thresholds (compIx c)
  if tget old (compIx c) = n then s
  else withComp c (fun e => { e with state := compRewritten (watchedOn s c) (currentAbove s c) n e.state }) s

theorem rewriteComp_cfg (old : Vector Nat 6) (s : State) (c : Comparator) : (rewriteComp old s c).cfg = s.cfg := by
  unfold rewriteComp
  dsimp only
  split <;> rfl

theorem rewriteComp_disabled {old : Vector Nat 6} {c : Comparator} (hold : tget old (compIx c) ≠ 0)
    (hnew : tget s.cfg.thresholds (compIx c) = 0) : (compOf (rewriteComp old s c) c).state = .disabled := by
  unfold rewriteComp
  dsimp only
  rw [hnew, if_neg hold, compOf_withComp, if_pos rfl]
  rfl

theorem compOf_rewriteComp_other {old : Vector Nat 6} {c d : Comparator} (h : d ≠ c) : compOf (rewriteComp old s d) c = compOf s c := by
  unfold rewriteComp
  dsimp only
  split
  · rfl
  · rw [compOf_withComp, if_neg h]

theorem compOf_tripsEffect {old : Vector Nat 6} {c : Comparator} (hold : tget old (compIx c) ≠ 0)
    (hnew : tget s.cfg.thresholds (compIx c) = 0) : (compOf (tripsEffect old s) c).state = .disabled := by
  have hfold : ∀ (cs : List Comparator) (u : State), tget u.cfg.thresholds (compIx c) = 0 →
      c ∈ cs ∨ (compOf u c).state = .disabled → (compOf (cs.foldl (rewriteComp old) u) c).state = .disabled := by
    intro cs
    induction cs with
    | nil => exact fun u _ h => h.resolve_left (List.not_mem_nil)
    | cons d cs ih =>
      intro u hu h
      refine ih _ (by rw [rewriteComp_cfg, hu]) ?_
      obtain rfl | hne := eq_or_ne d c
      · exact .inr (rewriteComp_disabled hold hu)
      · rw [compOf_rewriteComp_other hne]
        exact h.imp_left fun hm => (List.mem_cons.1 hm).resolve_left hne.symm
  exact hfold allComparators s hnew (.inl (by cases c <;> decide))

theorem viewTrips_threshold (h : viewTrips s = viewTrips t) (c : Comparator) :
    tget t.cfg.thresholds (compIx c) = tget s.cfg.thresholds (compIx c) := by
  simp only [viewTrips, List.cons.injEq, Item.group.injEq, and_true] at h
  have hrow := congrArg (fun rows => rows[(compIx c).1]?) h
  simp only [getElem?_comparators, Option.some.injEq, List.cons.injEq] at hrow
  have hval : some ((tget s.cfg.thresholds (compIx c) : Nat) : Int) = some ((tget t.cfg.thresholds (compIx c) : Nat) : Int) :=
    congrArg Field.val hrow.1
  exact (Int.ofNat.inj (Option.some.inj hval)).symm

theorem accept_trips_off {c : Comparator} (hon : tget s.cfg.thresholds (compIx c) ≠ 0) {st : Status} {data : List Byte} :
    (compOf (accept 10 [⟨1, some (compIx c).1, some ((0 : Nat) : Int)⟩] st data s) c).state = .disabled := by
  have hoff : tget (pokeAll 10 [⟨1, some (compIx c).1, some ((0 : Nat) : Int)⟩] s).cfg.thresholds (compIx c) = 0 := by
    rw [pokeAll_trips, tget_tset_same]
  refine accept_keeps (I := fun t => (compOf t c).state = .disabled) (fun _ _ h => h) (fun v a hview => ?_) fun v a => ?_
  · have hsame := viewTrips_threshold (Option.some.inj hview) c
    exact absurd (hsame.symm.trans hoff) hon
  · exact compOf_tripsEffect hon hoff

/-! ### CONSUMERS: a consumer masked (R43, R50) -/

/-- A consumer that is masked and has no safety request. -/
def Masked (c : Consumer) (s : State) : Prop :=
  tget s.cfg.masks (consIx c) = true ∧ ((entryOf s c).request.all fun q => !q.safety) = true

/-- A masked consumer with no safety request is granted nothing by a pass. -/
theorem passTable_masked {c : Consumer} (h : Masked c s) : Masked c (passTable s) ∧ (entryOf (passTable s) c).grant = 0 := by
  obtain ⟨hmask, hsafe⟩ := h
  have hno : ∀ q, (entryOf s c).request = some q → q.safety = false := fun q hq => by simpa [hq] using hsafe
  refine ⟨⟨?_, ?_⟩, ?_⟩
  · rw [passTable_cfg]
    exact hmask
  · rw [entryOf_passTable]
    exact hsafe
  · rw [entryOf_passTable]
    exact passShare_idle ((candidate_none_iff s c).2 fun _ _ => .inr (.inl hmask)) hno

theorem passKept_masked {c : Consumer} (hc : c ≠ .panel) :
    PassKept fun s t => Masked c s ∧ (entryOf s c).grant = 0 → Masked c t ∧ (entryOf t c).grant = 0 where
  trans := fun f g h => g (f h)
  same := fun {s t} hga hmasks ⟨⟨hmask, hsafe⟩, hgrant⟩ => by
    have hentry : entryOf t c = entryOf s c := by rw [entryOf, entryOf, hga]
    exact ⟨⟨hmasks ▸ hmask, hentry ▸ hsafe⟩, hentry ▸ hgrant⟩
  passTable := fun _ h => passTable_masked h.1
  panel := fun r s ⟨⟨hmask, hsafe⟩, hgrant⟩ => by
    have hentry : entryOf (withEntry .panel (fun e => { e with request := r }) s) c = entryOf s c := by
      rw [entryOf_withEntry, if_neg hc.symm]
    exact ⟨⟨hmask, hentry ▸ hsafe⟩, hentry ▸ hgrant⟩

theorem pass_masked {c : Consumer} (hc : c ≠ .panel) {s0 : State} (h : Masked c s) : (entryOf (pass s0 s) c).grant = 0 := by
  rw [pass_eq]
  exact ((passKept_masked hc).woken (passTable_masked h)).2

theorem viewConsumers_masks {c d : Settings} (h : viewConsumers c = viewConsumers d) (k : Consumer) :
    tget c.masks (consIx k) = tget d.masks (consIx k) := by
  simp only [viewConsumers, List.cons.injEq, Item.group.injEq, and_true] at h
  have hrow := congrArg (fun rows => rows[(consIx k).1]?) h.1
  simp only [getElem?_consumers, Option.some.injEq, List.cons.injEq] at hrow
  exact flagVal_inj (Option.some.inj (congrArg Field.val hrow.2.1))

theorem accept_masked {c : Consumer} (hc : c ≠ .panel) (hno : tget s.cfg.masks (consIx c) = false)
    (hsafe : ((entryOf s c).request.all fun q => !q.safety) = true) {st : Status} {data : List Byte} :
    (entryOf (accept 5 [⟨2, some (consIx c).1, some (if true then 1 else 0)⟩] st data s) c).grant = 0 := by
  have hon : tget (pokeAll 5 [⟨2, some (consIx c).1, some (if true then 1 else 0)⟩] s).cfg.masks (consIx c) = true := by
    rw [pokeAll_masks, tget_tset_same]
  refine accept_keeps (I := fun t => (entryOf t c).grant = 0) (fun _ _ h => h) (fun v a hview => ?_) fun v a => ?_
  · have hsame := viewConsumers_masks (Option.some.inj hview) c
    exact absurd (hno.symm.trans (hsame.trans hon)) (by decide)
  · have hw : Masked c (written 5 [⟨2, some (consIx c).1, some (if true then 1 else 0)⟩] v a s) := ⟨hon, hsafe⟩
    change (entryOf (consumersEffect s.cfg (written 5 _ v a s)) c).grant = 0
    generalize written 5 [⟨2, some (consIx c).1, some (if true then 1 else 0)⟩] v a s = w at hw
    obtain ⟨v1, e1⟩ := reclass_eq s.cfg.classes allConsumers w
    obtain ⟨v2, e2⟩ := remode_eq s.cfg.orders allClasses { w with ga := { w.ga with lists := v1 } }
    unfold consumersEffect reclass remode
    rw [e1, e2]
    exact pass_masked hc hw

end Sys2Proof.Machine

namespace Sys2Proof.Proofs

open Sys2Proof Sys2Proof.Machine

/-- Settles O58: each write is taken as it is, and its owner leaves the settings. -/
theorem settingsWritesSetTheirField : Obligations.SettingsWritesSetTheirField := by
  refine ⟨?_, ?_, ?_, ?_, ?_, ?_, ?_, ?_, ?_, ?_⟩
  · intro n s hrun hlo hhi hrises hcut
    exact exec_oneField_cfg (r := 3) (w := ⟨2, none, some (n : Int)⟩) (i := .batteryWrite [⟨2, none, some (n : Int)⟩]) hrun rfl rfl
      (.int (n := n) (lo := 80) (hi := 100) rfl (by omega) (by omega) (by
        change (risesStrictly s.cfg.battery.ocv.toList && decide (s.cfg.battery.vCut < s.cfg.battery.vLow)) = true
        rw [hrises, decide_eq_true hcut, Bool.true_and])) (by decide) rfl
  · intro ch k s hrun hk
    obtain ⟨t, hexec, hok, hcfg⟩ := exec_oneField_cfg (r := 8) (s := s) (w := ⟨2, some (chanIx ch).1, some (k : Int)⟩)
      (i := .channelsWrite [⟨2, some (chanIx ch).1, some (k : Int)⟩]) hrun rfl rfl
      (.int (n := k) (lo := 0) (hi := 7) (slotAt_channels ch _).2 (by omega) (by omega) rfl) (by decide) rfl
    exact ⟨t, hexec, hok, hcfg.trans (pokeAll_channels_k _ _ _)⟩
  · intro ch s hrun hon
    obtain ⟨hexec, hok⟩ := exec_oneField (r := 8) (s := s) (w := ⟨1, some (chanIx ch).1, some 0⟩)
      (i := .channelsWrite [⟨1, some (chanIx ch).1, some 0⟩]) hrun rfl rfl (.flag (b := false) (slotAt_channels ch _).1 rfl)
    refine ⟨_, hexec, hok, ?_, ?_⟩
    · rw [close_cfg, accept_cfg _ _ _ (by decide) (fun h => absurd h (by decide))]
      exact pokeAll_channels_off _ _
    · rw [statusOf_close]
      exact accept_channels_off (s := startEvent _ s) hon
  · intro c n s hrun hn
    obtain ⟨hexec, hok⟩ := exec_oneField (r := 10) (s := s) (w := ⟨1, some (compIx c).1, some (n : Int)⟩)
      (i := .tripsWrite [⟨1, some (compIx c).1, some (n : Int)⟩]) hrun rfl rfl
      (.int (n := n) (lo := 0) (hi := 15) (slotAt_trips c _) (by omega) (by omega) rfl)
    refine ⟨_, hexec, hok, ?_, fun h0 hne => ?_⟩
    · rw [close_cfg, accept_cfg _ _ _ (by decide) (fun h => absurd h (by decide))]
      exact pokeAll_trips _ _ _
    · subst h0
      rw [compOf_close]
      exact compAfter_disabled (accept_trips_off (s := startEvent _ s) hne)
  · intro c m s hrun hc
    obtain ⟨hexec, hok⟩ := exec_oneField (r := 5) (s := s) (w := ⟨2, some (consIx c).1, some (if m then 1 else 0)⟩)
      (i := .consumersWrite [⟨2, some (consIx c).1, some (if m then 1 else 0)⟩]) hrun rfl rfl (.flag (slotAt_masks hc _) rfl)
    have hpoke := pokeAll_masks (consIx c) m (startEvent (.consumersWrite [⟨2, some (consIx c).1, some (if m then 1 else 0)⟩]) s)
    have hcore := accept_settingsCore (s := startEvent (.consumersWrite [⟨2, some (consIx c).1, some (if m then 1 else 0)⟩]) s)
      (r := 5) [⟨2, some (consIx c).1, some (if m then 1 else 0)⟩] .ok [] (by decide)
    obtain ⟨hmasks, hclasses, horders, -⟩ := settingsCore_fields hcore
    rw [hpoke] at hmasks hclasses horders
    refine ⟨_, hexec, hok, ?_, ?_, ?_, fun hmode => ?_, fun hm hno hsafe => ?_⟩
    · rw [close_cfg, hmasks]
      rfl
    · rw [close_cfg, hclasses]
      rfl
    · rw [close_cfg, horders]
      rfl
    · rw [close_cfg, accept_cfg (s := startEvent _ s) _ _ _ (by decide) (fun _ => hmode), hpoke]
      rfl
    · subst hm
      rw [entryOf, close_ga]
      exact accept_masked (s := startEvent _ s) hc hno hsafe
  · intro n s hrun hlo hhi hord
    obtain ⟨hexec, hok⟩ := exec_oneField (r := 7) (s := s) (w := ⟨1, none, some (n : Int)⟩)
      (i := .demandsWrite [⟨1, none, some (n : Int)⟩]) hrun rfl rfl
      (.int (n := n) (lo := 1) (hi := 400) rfl (by omega) (by omega) hord)
    have hcore := accept_settingsCore (s := startEvent (.demandsWrite [⟨1, none, some (n : Int)⟩]) s)
      (r := 7) [⟨1, none, some (n : Int)⟩] .ok [] (by decide)
    obtain ⟨-, -, -, hdemands⟩ := settingsCore_fields hcore
    refine ⟨_, hexec, hok, ?_, fun hmode => ?_⟩
    · rw [close_cfg, hdemands]
      rfl
    · rw [close_cfg, accept_cfg (s := startEvent _ s) _ _ _ (by decide) (fun _ => hmode)]
      rfl
  · intro n s hrun hlo hhi
    exact exec_oneField_cfg (r := 12) (w := ⟨1, none, some (n : Int)⟩) (i := .recordWrite .heaterTune [⟨1, none, some (n : Int)⟩]) hrun rfl rfl
      (.int (n := n) (lo := 20) (hi := 120) rfl (by omega) (by omega) rfl) (by decide) rfl
  · intro k n s hrun hn
    obtain ⟨t, hexec, hok, hcfg⟩ := exec_oneField_cfg (r := 19) (s := s) (w := ⟨7, some k.1, some (n : Int)⟩)
      (i := .recordWrite .scenes [⟨7, some k.1, some (n : Int)⟩]) hrun rfl rfl
      (.int (n := n) (lo := 0) (hi := 255) (slotAt_sceneFade k _) (by omega) (by omega) rfl) (by decide) rfl
    exact ⟨t, hexec, hok, hcfg.trans (pokeAll_sceneFade _ _ _)⟩
  · intro k n s hrun hkeys
    obtain ⟨t, hexec, hok, hcfg⟩ := exec_oneField_cfg (r := 20) (s := s) (w := ⟨3, some k.1, some (n.1 : Int)⟩)
      (i := .recordWrite .keymap [⟨3, some k.1, some (n.1 : Int)⟩]) hrun rfl rfl
      (.enum (n := n.1) (slotAt_keyReport k _) (by omega) (by omega) (keymap_met k n.1 fun j => hkeys j (mem_allKeys j))) (by decide) rfl
    exact ⟨t, hexec, hok, hcfg.trans (pokeAll_keyReport _ _ _)⟩
  · intro k n s hrun hn
    obtain ⟨t, hexec, hok, hcfg⟩ := exec_oneField_cfg (r := 23) (s := s) (w := ⟨1 + 5 * k.1, none, some (n : Int)⟩)
      (i := .recordWrite .chimes [⟨1 + 5 * k.1, none, some (n : Int)⟩]) hrun rfl rfl
      (.int (n := n) (lo := 0) (hi := 7) (slotAt_chimes k _).1 (by omega) (by omega) rfl) (by decide) rfl
    exact ⟨t, hexec, hok, hcfg.trans (pokeAll_userTone _ _ _)⟩

end Sys2Proof.Proofs
end

section
/-! PROOFS. Writes of one field that act at their owner at once. -/

namespace Sys2Proof.Machine

-- One proof after another: started together they wait for one another, each on a thread of its own.
set_option Elab.async false

variable {s t u w : State} {r : Nat} {as : List Area}

/-! ### What an accepted write moves -/

theorem moves_acceptPlain {ws : List FieldWrite} {st : Status} {data : List Byte} (hr : writable r) (hw : wakingRecord r = false) :
    Moves (.answer :: .poked r :: ownerAreas r) s (accept r ws st data s) := by
  have howner : .sleep ∉ ownerAreas r ∧ .clock ∉ ownerAreas r := by
    unfold ownerAreas
    split <;> decide
  exact moves_accept ws st data (writable_ne_clock hr) {
    owner := fun _ m => List.mem_cons_of_mem _ (List.mem_cons_of_mem _ m)
    capacity := by
      rintro rfl
      exact List.mem_cons_of_mem _ (List.mem_cons_self ..)
    wake := fun h => absurd h (by simp [hw])
    awake := by simp [howner.1]
    clock := by simp [howner.2]
    poked := List.mem_cons_of_mem _ (List.mem_cons_self ..)
    answer := List.mem_cons_self .. }

/-! ### SOCKETS (R47) -/

theorem slotAt_sockets (k : Socket) (s : State) : slotAt s 17 1 (some (socketIx k).1)
    = some ⟨1, some (socketIx k).1, rw .flag (flagVal (tget s.ga.sockets (socketIx k)).on)⟩ := by
  cases k <;> rfl

theorem socketEffect_same {k : Socket} {wasOn : Bool} {limit : Nat} (hon : (tget s.ga.sockets (socketIx k)).on = wasOn)
    (hlimit : limit = tget s.cfg.socketLimit (socketIx k)) : socketEffect k wasOn limit s = s := by
  unfold socketEffect
  dsimp only
  rw [hon, hlimit]
  cases wasOn <;> simp

/-- A socket that was switched: its request and its run end follow. -/
theorem socketEffect_switched {k : Socket} {on : Bool} {limit : Nat} (hon : (tget s.ga.sockets (socketIx k)).on = on) :
    socketEffect k (!on) limit s = ask (socketConsumer k) (if on then some (socketRequest s.cfg.demands k) else none)
      (withSocket k (fun e => { e with runEnd := if on then socketRunFrom s k else none }) s) := by
  unfold socketEffect
  dsimp only
  rw [hon]
  cases on <;> rfl

/-- The part with a socket's switch written. -/
def switched (k : Socket) (on : Bool) (s : State) : State := withSocket k (fun e => { e with on := on }) s

theorem pokeAll_sockets (k : Socket) (on : Bool) (s : State) :
    pokeAll 17 [⟨1, some (socketIx k).1, some (if on then 1 else 0)⟩] s = switched k on s := by
  have hon : (natOf (some (if on then 1 else 0)) != 0) = on := by cases on <;> rfl
  change withGa (fun g => { g with sockets := setElem g.sockets (some (socketIx k).1) fun e => { e with
    on := natOf (some (if on then 1 else 0)) != 0 } }) s = _
  simp only [hon, setElem_some]
  rfl

theorem socketIx_eq {k j : Socket} : socketIx k = socketIx j ↔ k = j := by
  cases k <;> cases j <;> decide

/-- What the switching of one socket leaves of it, and of its owner's request. -/
structure SocketSwitched (k : Socket) (on : Bool) (s t : State) : Prop where
  entry : tget t.ga.sockets (socketIx k) = ⟨on, if on then socketRunFrom s k else none⟩
  asked : tget t.asked (consIx (socketConsumer k)) = if on then some (socketRequest s.cfg.demands k) else none

theorem socketSwitched_effect {k : Socket} {on : Bool} {limit : Nat} (hon : (tget s.ga.sockets (socketIx k)).on = on) :
    SocketSwitched k on s (socketEffect k (!on) limit s) := by
  rw [socketEffect_switched hon]
  constructor
  · rw [ask_ga]
    refine (tget_tset_same _ _ _).trans ?_
    dsimp only
    rw [hon]
  · exact ask_asked_same ..

theorem socketSwitched_taken {k : Socket} {on : Bool} {ws : List FieldWrite} (hwas : (tget s.ga.sockets (socketIx k)).on = !on)
    (hga : u.ga = (switched k on s).ga) (hcfg : u.cfg = s.cfg) : SocketSwitched k on u (ownerEffect 17 s ws u) := by
  have hsockets : u.ga.sockets = tset s.ga.sockets (socketIx k) { tget s.ga.sockets (socketIx k) with on := on } := by rw [hga]; rfl
  have hon : (tget u.ga.sockets (socketIx k)).on = on := by rw [hsockets, tget_tset_same]
  have hother : ∀ j, j ≠ k → tget u.ga.sockets (socketIx j) = tget s.ga.sockets (socketIx j) := fun j hj => by
    rw [hsockets, tget_tset, if_neg (mt socketIx_eq.1 hj.symm)]
  change SocketSwitched k on u (socketEffect .b (tget s.ga.sockets (socketIx .b)).on (tget s.cfg.socketLimit (socketIx .b))
    (socketEffect .a (tget s.ga.sockets (socketIx .a)).on (tget s.cfg.socketLimit (socketIx .a)) u))
  cases k with
  | a =>
    have ha : SocketSwitched .a on u (socketEffect .a (!on) (tget s.cfg.socketLimit (socketIx .a)) u) := socketSwitched_effect hon
    have hb : (tget (socketEffect .a (!on) (tget s.cfg.socketLimit (socketIx .a)) u).ga.sockets (socketIx .b)).on
        = (tget s.ga.sockets (socketIx .b)).on := by
      rw [socketEffect_switched hon, ask_ga]
      exact congrArg SocketEntry.on ((tget_tset_of_ne _ _ (by decide)).trans (hother .b (by decide)))
    have hlimit : tget s.cfg.socketLimit (socketIx .b)
        = tget (socketEffect .a (!on) (tget s.cfg.socketLimit (socketIx .a)) u).cfg.socketLimit (socketIx .b) := by
      rw [socketEffect_switched hon, ask_cfg, ← hcfg]
      rfl
    rw [hwas, socketEffect_same hb hlimit]
    exact ha
  | b =>
    rw [socketEffect_same (k := .a) (congrArg SocketEntry.on (hother .a (by decide))) (by rw [hcfg]), hwas]
    exact socketSwitched_effect hon

theorem accept_socket {k : Socket} {on : Bool} (hwas : (tget s.ga.sockets (socketIx k)).on = !on) {st : Status} {data : List Byte} :
    SocketSwitched k on s (accept 17 [⟨1, some (socketIx k).1, some (if on then 1 else 0)⟩] st data s) := by
  refine accept_keeps (I := SocketSwitched k on s) (fun _ _ h => ⟨h.entry, h.asked⟩) (fun v a hview => ?_) fun v a => ?_
  · have hsame := viewSockets_on (Option.some.inj hview) (socketIx k)
    have hon : (tget (switched k on s).ga.sockets (socketIx k)).on = on := congrArg SocketEntry.on (tget_tset_same _ _ _)
    rw [pokeAll_sockets] at hsame
    have hboth : (!on) = on := hwas.symm.trans (hsame.trans hon)
    exact absurd hboth (by cases on <;> decide)
  · have hw : written 17 [⟨1, some (socketIx k).1, some (if on then 1 else 0)⟩] v a s
        = { switched k on s with rev := v, answer := a } := by
      unfold written
      rw [pokeAll_sockets]
    rw [hw]
    have htaken := socketSwitched_taken (u := { switched k on s with rev := v, answer := a }) (ws :=
      [⟨1, some (socketIx k).1, some (if on then 1 else 0)⟩]) hwas rfl rfl
    exact ⟨htaken.entry, htaken.asked⟩

/-! ### Writes whose owner does nothing more -/

/-- A write whose owner does nothing more leaves its fields written, the revision and the answer apart. -/
theorem accept_untaken {ws : List FieldWrite} {st : Status} {data : List Byte}
    (h : ∀ v a, ownerEffect r s ws (written r ws v a s) = written r ws v a s) :
    ∃ v a, accept r ws st data s = written r ws v a s := by
  refine accept_keeps (I := fun t => ∃ v a, t = written r ws v a s) ?_ (fun v a _ => ⟨v, a, rfl⟩) fun v a => ⟨v, a, h v a⟩
  rintro _ v ⟨_, a, rfl⟩
  exact ⟨v, a, rfl⟩

theorem untaken_setpoint (x : Int) (s : State) (v : Vector Nat 26) (a : Option Answer) :
    ownerEffect 14 s [⟨2, none, some x⟩] (written 14 [⟨2, none, some x⟩] v a s) = written 14 [⟨2, none, some x⟩] v a s := by
  change fridgeSetEffect s.cfg.fridgeSet { s.cfg.fridgeSet with setpoint := x } _ = _
  unfold fridgeSetEffect
  cases s.cfg.fridgeSet.enable <;> simp

theorem untaken_backlight (n : Nat) (s : State) (v : Vector Nat 26) (a : Option Answer) :
    ownerEffect 21 s [⟨3, none, some (n : Int)⟩] (written 21 [⟨3, none, some (n : Int)⟩] v a s)
      = written 21 [⟨3, none, some (n : Int)⟩] v a s := if_pos rfl

theorem untaken_stopConfirm (n : Nat) (s : State) (v : Vector Nat 26) (a : Option Answer) :
    ownerEffect 24 s [⟨5, none, some (n : Int)⟩] (written 24 [⟨5, none, some (n : Int)⟩] v a s)
      = written 24 [⟨5, none, some (n : Int)⟩] v a s := by
  have hprofile : (written 24 [⟨5, none, some (n : Int)⟩] v a s).cfg.profile = { s.cfg.profile with stopConfirm := n } := rfl
  change profileEffect s.cfg.profile (written 24 [⟨5, none, some (n : Int)⟩] v a s) = _
  generalize written 24 [⟨5, none, some (n : Int)⟩] v a s = w at hprofile
  unfold profileEffect
  rw [hprofile]
  cases h : s.cfg.profile.prewarm <;> simp [h]

/-! ### CONTACTS (R129) -/

theorem slotAt_contactReport (c : Contact) (s : State) : slotAt s 22 3 (some (contactIx c).1)
    = some ⟨3, some (contactIx c).1, rw .flag (flagVal (tget s.cfg.contacts (contactIx c)).report)⟩ := by
  cases c <;> rfl

theorem pokeAll_contactReport (i : Fin 6) (b : Bool) (s : State) : (pokeAll 22 [⟨3, some i.1, some (if b then 1 else 0)⟩] s).cfg
    = { s.cfg with contacts := tset s.cfg.contacts i { tget s.cfg.contacts i with report := b } } := by
  have hpoke : pokeContact 3 (natOf (some (if b then 1 else 0))) = fun c => { c with report := b } := by
    funext c
    cases b <;> rfl
  change { s.cfg with contacts := setElem s.cfg.contacts (some i.1) (pokeContact 3 (natOf (some (if b then 1 else 0)))) } = _
  rw [hpoke, setElem_some]

theorem rejudgeContact_same {old : Vector ContactSet 6} {c : Contact}
    (h : (tget old (contactIx c)).activeLevel = (tget s.cfg.contacts (contactIx c)).activeLevel) : rejudgeContact old s c = s := if_pos (.inl h)

theorem untaken_contactReport (i : Fin 6) (b : Bool) (s : State) (v : Vector Nat 26) (a : Option Answer) :
    ownerEffect 22 s [⟨3, some i.1, some (if b then 1 else 0)⟩] (written 22 [⟨3, some i.1, some (if b then 1 else 0)⟩] v a s)
      = written 22 [⟨3, some i.1, some (if b then 1 else 0)⟩] v a s := by
  have hcfg : (written 22 [⟨3, some i.1, some (if b then 1 else 0)⟩] v a s).cfg = _ := pokeAll_contactReport i b s
  change contactsEffect s.cfg.contacts _ = _
  generalize written 22 [⟨3, some i.1, some (if b then 1 else 0)⟩] v a s = w at hcfg
  refine List.foldlRecOn (motive := fun t => t = w) allContacts _ rfl fun t ht c _ => ?_
  rw [ht, rejudgeContact_same]
  rw [hcfg, tget_tset]
  split
  · rename_i h
    rw [h]
  · rfl

/-! ### HEATER_SET and FRIDGE_SET (R64, R87, R91, R96) -/

theorem accept_threshold {n : Nat} (hne : s.cfg.heaterSet.threshold ≠ n) {st : Status} {data : List Byte} :
    (accept 11 [⟨3, none, some (n : Int)⟩] st data s).hc.frostHold = none := by
  refine accept_keeps (I := fun t => t.hc.frostHold = none) (fun _ _ h => h) (fun v a hview => ?_) fun v a => rfl
  exact absurd (congrArg HeaterSet.threshold (viewHeaterSet_inj.1 (Option.some.inj hview))) hne

theorem blowerAfter_frostHold (s u : State) : (blowerAfter s u).frostHold = u.hc.frostHold := by
  unfold blowerAfter
  dsimp only
  split
  · split <;> rfl
  · rfl

/-- The fridge switched off by its enable. -/
structure FridgeDisabled (t : State) : Prop where
  state : t.fc.state = .off
  drive : t.fc.drive = false
  boostEnd : t.fc.boostEnd = none
  doorTimer : t.fc.doorTimer = none
  alerts : t.fc.alerts = 0
  asked : tget t.asked (consIx .fridge) = none

theorem fridgeDisabled_of_on (hfault : s.fc.state ≠ .fault) (hoff : s.fc.state ≠ .off) : FridgeDisabled (fridgeDisable s) := by
  obtain ⟨f, hf, hdrive, -⟩ := commandOff_eq s
  have hgoes : fridgeDisable s
      = enterFridge .off (fun f => { f with boostEnd := none, doorTimer := none, alerts := 0 }) (commandOff s) := by
    unfold fridgeDisable
    split
    · exact absurd ‹s.fc.state = .off› hoff
    · exact absurd ‹s.fc.state = .fault› hfault
    · rfl
  rw [hgoes, hf]
  constructor
  case asked =>
    rw [enterFridge_asked]
    rfl
  all_goals rw [enterFridge_fc]
  exact hdrive

theorem viewFridgeSet_enable {f g : FridgeSet} (h : viewFridgeSet f = viewFridgeSet g) : f.enable = g.enable := by
  simp only [viewFridgeSet, List.cons.injEq, Item.one.injEq] at h
  exact flagVal_inj (Option.some.inj (congrArg Field.val h.1))

theorem accept_fridgeDisabled (hon : s.cfg.fridgeSet.enable = true) (hfault : s.fc.state ≠ .fault) (hoff : s.fc.state ≠ .off)
    {st : Status} {data : List Byte} : FridgeDisabled (accept 14 [⟨1, none, some 0⟩] st data s) := by
  refine accept_keeps (I := FridgeDisabled) (fun _ _ h => ⟨h.state, h.drive, h.boostEnd, h.doorTimer, h.alerts, h.asked⟩)
    (fun v a hview => ?_) fun v a => ?_
  · have hsame : s.cfg.fridgeSet.enable = false := viewFridgeSet_enable (Option.some.inj hview)
    exact absurd (hon.symm.trans hsame) (by decide)
  · change FridgeDisabled (fridgeSetEffect s.cfg.fridgeSet { s.cfg.fridgeSet with enable := false } (written 14 _ v a s))
    unfold fridgeSetEffect
    dsimp only
    rw [hon, if_pos (by decide)]
    exact fridgeDisabled_of_on (s := written 14 _ v a s) hfault hoff

/-- What the end of an event leaves of the fridge an accepted write has. -/
theorem fridgeLeaves_accept {i : Instr} {ws : List FieldWrite} {st : Status} {data : List Byte} (hrun : s.mc.supply = .running)
    (hr : writable r) (hw : wakingRecord r = false) (hga : .ga ∉ partsOf (.answer :: .poked r :: ownerAreas r) ++ everyEvent)
    (hsu : .su ∉ partsOf (.answer :: .poked r :: ownerAreas r) ++ everyEvent) :
    FridgeLeaves s (accept r ws st data (startEvent i s)) (close s (accept r ws st data (startEvent i s))) :=
  have hstart : SameGate s (startEvent i s) := ⟨rfl, rfl, rfl⟩
  fridgeLeaves_close hrun (hstart.trans (.of_moves (moves_acceptPlain hr hw) hga hsu))

/-! ### VENT (R104) -/

/-- What a change of the vent's speed leaves. -/
structure VentRunsAt (n : Nat) (s t : State) : Prop where
  speed : t.fc.ventSpeed = n
  runEnd : t.fc.ventRunEnd = if n = 0 then none else if s.fc.ventSpeed = 0 then ventRunFrom s else s.fc.ventRunEnd
  asked : tget t.asked (consIx .vent) = ventRequest s.cfg.demands n

theorem accept_vent {n : Nat} (hne : n ≠ s.fc.ventSpeed) {st : Status} {data : List Byte} :
    VentRunsAt n s (accept 16 [⟨1, none, some (n : Int)⟩] st data s) := by
  refine accept_keeps (I := VentRunsAt n s) (fun _ _ h => ⟨h.speed, h.runEnd, h.asked⟩) (fun v a hview => ?_) fun v a => ?_
  · have h := Option.some.inj hview
    simp only [viewVent, List.cons.injEq, Item.one.injEq] at h
    have hsame : ((s.fc.ventSpeed : Nat) : Int) = (n : Int) := Option.some.inj (congrArg Field.val h.1)
    exact absurd (Int.ofNat.inj hsame).symm hne
  · change VentRunsAt n s (ventEffect s.fc.ventSpeed (written 16 [⟨1, none, some (n : Int)⟩] v a s))
    rw [ventEffect_eq, if_neg (by exact hne.symm)]
    exact ⟨by rw [ask_fc]; rfl, by rw [ask_fc]; rfl, ask_asked_same ..⟩

/-! ### LIGHTS (R108, R109) -/

theorem slotAt_target (i : Fin 6) (s : State) :
    slotAt s 18 1 (some i.1) = some ⟨1, some i.1, clampF 0 1000 (lightOf s i).target⟩ := by
  fin_cases i <;> rfl

theorem lightOf_targetEvent (old : Vector Nat 6) (n : Nat) (own : Bool) (s : State) (i : Fin 6) :
    lightOf (targetEvent old n own s) i = { if tget old i = (lightOf s i).target then lightOf s i
      else startFade n { lightOf s i with saved := if own then (lightOf s i).saved else none } with
        applied := appliedLevel (targetEvent old n own s) i } := by
  rw [targetEvent_eq, appliedLevel_lightsFollow, lightOf_entrySettles, fadesStarted, lightOf_mapLights]

theorem startFade_target (n : Nat) (c : LightChan) : (startFade n c).target = c.target := by
  unfold startFade
  split
  · rfl
  · split <;> rfl

theorem lightOf_pokeTarget (i j : Fin 6) (v : Nat) (s : State) : lightOf (pokeAll 18 [⟨1, some i.1, some (v : Int)⟩] s) j
    = if i = j then { lightOf s i with target := v } else lightOf s j := by
  change tget (setElem s.lc.chan (some i.1) fun c => { c with target := v }) j = _
  rw [setElem_some, tget_tset]
  rfl

/-- What a write of one channel's target leaves. -/
structure TargetWritten (i : Fin 6) (v : Nat) (s t : State) : Prop where
  target : (lightOf t i).target = v
  others : ∀ j, j ≠ i → (lightOf t j).target = (lightOf s j).target
  atOnce : s.cfg.lights.fade = 0 → (lightOf t i).faded = v ∧ (lightOf t i).fade = none

theorem accept_target {i : Fin 6} {v : Nat} (hne : (lightOf s i).target ≠ v) {st : Status} {data : List Byte} :
    TargetWritten i v s (accept 18 [⟨1, some i.1, some (v : Int)⟩] st data s) := by
  refine accept_keeps (I := TargetWritten i v s) (fun _ _ h => ⟨h.target, h.others, h.atOnce⟩) (fun rev a hview => ?_) fun rev a => ?_
  · have hsame := (viewLights_same (Option.some.inj hview)).1 i
    have hpoke : (lightOf (pokeAll 18 [⟨1, some i.1, some (v : Int)⟩] s) i).target = v := by rw [lightOf_pokeTarget, if_pos rfl]
    exact absurd (hsame.trans hpoke) hne
  · have hlight : ∀ j, lightOf (written 18 [⟨1, some i.1, some (v : Int)⟩] rev a s) j = _ := fun j => lightOf_pokeTarget i j v s
    have hfade : (written 18 [⟨1, some i.1, some (v : Int)⟩] rev a s).cfg.lights.fade = s.cfg.lights.fade := rfl
    change TargetWritten i v s (lightsWritten (targetsOf s) _)
    generalize written 18 [⟨1, some i.1, some (v : Int)⟩] rev a s = w at hlight hfade
    have hi : tget (targetsOf s) i ≠ (lightOf w i).target := by
      rw [tget_targetsOf, hlight, if_pos rfl]
      exact hne
    unfold lightsWritten
    rw [hfade]
    refine ⟨?_, fun j hj => ?_, fun h0 => ?_⟩
    · rw [lightOf_targetEvent, if_neg hi]
      dsimp only
      rw [startFade_target, hlight, if_pos rfl]
    · have hj' : lightOf w j = lightOf s j := by rw [hlight, if_neg hj.symm]
      rw [lightOf_targetEvent, if_pos (by rw [tget_targetsOf, hj']), hj']
    · rw [lightOf_targetEvent, if_neg hi, h0, hlight, if_pos rfl]
      exact ⟨rfl, rfl⟩

end Sys2Proof.Machine

namespace Sys2Proof.Proofs

open Sys2Proof Sys2Proof.Machine

/-- Settles O59: each write is taken as it is, and what its owner does follows. -/
theorem ownerWritesActAtOnce : Obligations.OwnerWritesActAtOnce := by
  refine ⟨?_, ?_, ?_, ?_, ?_, ?_, ?_, ?_, ?_⟩
  · intro k on s hrun hwas
    obtain ⟨hexec, hok⟩ := exec_oneField (r := 17) (s := s) (w := ⟨1, some (socketIx k).1, some (if on then 1 else 0)⟩)
      (i := .socketsWrite [⟨1, some (socketIx k).1, some (if on then 1 else 0)⟩]) hrun rfl rfl (.flag (slotAt_sockets k _) rfl)
    obtain ⟨hentry, hasked⟩ := accept_socket (s := startEvent (.socketsWrite [⟨1, some (socketIx k).1, some (if on then 1 else 0)⟩]) s)
      (st := .ok) (data := []) hwas
    refine ⟨_, hexec, hok, ?_, ?_, ?_⟩
    · rw [close_cfg, accept_cfg (s := startEvent _ s) _ _ _ (by decide) (fun h => absurd h (by decide)), pokeAll_sockets]
      rfl
    · rw [close_ga, hentry]
      unfold socketRunFrom
      by_cases hlimit : tget s.cfg.socketLimit (socketIx k) = 0 <;> cases on <;> simp [hlimit, startEvent]
    · rw [close_asked, hasked]
      rfl
  · intro n s hrun hlo hhi
    obtain ⟨hexec, hok⟩ := exec_oneField (r := 11) (s := s) (w := ⟨3, none, some (n : Int)⟩)
      (i := .heaterSetWrite [⟨3, none, some (n : Int)⟩]) hrun rfl rfl
      (.int (n := n) (lo := 20) (hi := 100) rfl (by omega) (by omega) rfl)
    refine ⟨_, hexec, hok, ?_, fun hne => ?_⟩
    · rw [close_cfg, accept_cfg (s := startEvent _ s) _ _ _ (by decide) (fun h => absurd h (by decide))]
      rfl
    · rw [close_hc_blower, blowerAfter_frostHold]
      exact accept_threshold (s := startEvent _ s) hne
  · intro v s hrun hlo hhi
    obtain ⟨hexec, hok⟩ := exec_oneField (r := 14) (s := s) (w := ⟨2, none, some v⟩)
      (i := .fridgeSetWrite [⟨2, none, some v⟩]) hrun rfl rfl (.int (n := v) (lo := -180) (hi := 100) rfl hlo hhi rfl)
    obtain ⟨rev, a, haccept⟩ := accept_untaken (st := .ok) (data := []) (untaken_setpoint v (startEvent (.fridgeSetWrite [⟨2, none, some v⟩]) s))
    rw [haccept] at hexec hok
    refine ⟨_, hexec, hok, close_cfg .., ?_⟩
    exact (fridgeLeaves_close (u := written 14 [⟨2, none, some v⟩] rev a (startEvent (.fridgeSetWrite [⟨2, none, some v⟩]) s)) hrun
      ⟨rfl, rfl, rfl⟩).same rfl
  · intro s hrun hon hfault hoff
    obtain ⟨hexec, hok⟩ := exec_oneField (r := 14) (s := s) (w := ⟨1, none, some 0⟩)
      (i := .fridgeSetWrite [⟨1, none, some 0⟩]) hrun rfl rfl (.flag (b := false) rfl rfl)
    have h := accept_fridgeDisabled (s := startEvent (.fridgeSetWrite [⟨1, none, some 0⟩]) s) (st := .ok) (data := []) hon hfault hoff
    have hcfg := accept_cfg (s := startEvent (.fridgeSetWrite [⟨1, none, some 0⟩]) s) (r := 14) [⟨1, none, some 0⟩] .ok [] (by decide)
      (fun h => absurd h (by decide))
    have l := fridgeLeaves_accept (i := .fridgeSetWrite [⟨1, none, some 0⟩]) (ws := [⟨1, none, some 0⟩]) (st := .ok) (data := []) hrun (r := 14) writable_of rfl
      (by decide) (by decide)
    refine ⟨_, hexec, ?_, hok, ?_, l.state.trans h.state, l.drive.trans h.drive, ?_, ?_, ?_, ?_⟩
    · rw [close_cfg, hcfg]
      rfl
    · rw [close_cfg, hcfg]
      rfl
    · exact (congrArg FridgeUnit.boostEnd l.core :).trans h.boostEnd
    · exact (congrArg FridgeUnit.doorTimer l.core :).trans h.doorTimer
    · exact (congrArg FridgeUnit.alerts l.core :).trans h.alerts
    · rw [l.asked, h.asked]
  · intro n s hrun hne
    obtain ⟨hexec, hok⟩ := exec_oneField (r := 16) (s := s) (w := ⟨1, none, some (n.1 : Int)⟩)
      (i := .ventWrite [⟨1, none, some (n.1 : Int)⟩]) hrun rfl rfl
      (.enum (n := n.1) rfl (by omega) (by omega) rfl)
    have h := accept_vent (s := startEvent (.ventWrite [⟨1, none, some (n.1 : Int)⟩]) s) (st := .ok) (data := []) hne
    have hcfg := accept_cfg (s := startEvent (.ventWrite [⟨1, none, some (n.1 : Int)⟩]) s) (r := 16) [⟨1, none, some (n.1 : Int)⟩] .ok []
      (by decide) (fun h => absurd h (by decide))
    have l := fridgeLeaves_accept (i := .ventWrite [⟨1, none, some (n.1 : Int)⟩]) (ws := [⟨1, none, some (n.1 : Int)⟩]) (st := .ok) (data := []) hrun (r := 16) writable_of rfl
      (by decide) (by decide)
    have hend := (congrArg FridgeUnit.ventRunEnd l.core :).trans h.runEnd
    refine ⟨_, hexec, hok, ?_, (congrArg FridgeUnit.ventSpeed l.core :).trans h.speed, ?_, fun h0 => ?_, fun hn h0 => ?_⟩
    · rw [close_cfg, hcfg]
      rfl
    · rw [l.asked, h.asked]
      rfl
    · exact hend.trans (if_pos h0)
    · exact hend.trans ((if_neg hn).trans (if_pos h0))
  · intro i v s hrun hv hne
    obtain ⟨hexec, hok⟩ := exec_oneField (r := 18) (s := s) (w := ⟨1, some i.1, some (v : Int)⟩)
      (i := .lightsWrite [⟨1, some i.1, some (v : Int)⟩]) hrun rfl rfl
      (.int (n := v) (lo := 0) (hi := 1000) (slotAt_target i _) (by omega) (by omega) rfl)
    have h := accept_target (s := startEvent (.lightsWrite [⟨1, some i.1, some (v : Int)⟩]) s) (st := .ok) (data := []) hne
    refine ⟨_, hexec, hok, ?_, ?_, ?_, ?_⟩
    · rw [close_cfg, accept_cfg (s := startEvent _ s) _ _ _ (by decide) (fun h => absurd h (by decide))]
      rfl
    · rw [lightOf, close_lc]
      exact h.target
    · intro j hj
      rw [lightOf, close_lc]
      exact h.others j hj
    · intro h0
      rw [lightOf, close_lc]
      exact h.atOnce h0
  · intro n s hrun hn
    obtain ⟨hexec, hok⟩ := exec_oneField (r := 21) (s := s) (w := ⟨3, none, some (n : Int)⟩)
      (i := .panelWrite [⟨3, none, some (n : Int)⟩]) hrun rfl rfl
      (.int (n := n) (lo := 0) (hi := 1000) rfl (by omega) (by omega) rfl)
    obtain ⟨rev, a, haccept⟩ := accept_untaken (st := .ok) (data := []) (untaken_backlight n (startEvent (.panelWrite [⟨3, none, some (n : Int)⟩]) s))
    rw [haccept] at hexec hok
    exact ⟨_, hexec, hok, close_cfg .., close_pn ..⟩
  · intro c b s hrun
    obtain ⟨hexec, hok⟩ := exec_oneField (r := 22) (s := s) (w := ⟨3, some (contactIx c).1, some (if b then 1 else 0)⟩)
      (i := .contactsWrite [⟨3, some (contactIx c).1, some (if b then 1 else 0)⟩]) hrun rfl rfl (.flag (slotAt_contactReport c _) rfl)
    obtain ⟨rev, a, haccept⟩ := accept_untaken (st := .ok) (data := []) (untaken_contactReport (contactIx c) b
      (startEvent (.contactsWrite [⟨3, some (contactIx c).1, some (if b then 1 else 0)⟩]) s))
    rw [haccept] at hexec hok
    refine ⟨_, hexec, hok, ?_, ?_⟩
    · rw [close_pn]
      exact pokeAll_pn ..
    · rw [close_cfg]
      exact pokeAll_contactReport ..
  · intro n s hrun hlo hhi
    obtain ⟨hexec, hok⟩ := exec_oneField (r := 24) (s := s) (w := ⟨5, none, some (n : Int)⟩)
      (i := .restProfileWrite [⟨5, none, some (n : Int)⟩]) hrun rfl rfl
      (.int (n := n) (lo := 10) (hi := 600) rfl (by omega) (by omega) rfl)
    obtain ⟨rev, a, haccept⟩ := accept_untaken (st := .ok) (data := []) (untaken_stopConfirm n (startEvent (.restProfileWrite [⟨5, none, some (n : Int)⟩]) s))
    rw [haccept] at hexec hok
    exact ⟨_, hexec, hok, close_rm .., close_cfg ..⟩

end Sys2Proof.Proofs
end

section
/-! PROOFS. Writes to a slot of the schedule, and the revision of a record at an event's close. -/

namespace Sys2Proof.Machine

-- One proof after another: started together they wait for one another, each on a thread of its own.
set_option Elab.async false

variable {s t u : State} {k : Fin 8} {time : Nat}

/-! ### The revisions at an event's close (R174) -/

theorem tget_rev_advance (rs : List (Fin 26)) (s t : State) (i : Fin 26) :
    tget (advance rs s t).rev i = if i ∈ rs then revisionAfter s t i else tget t.rev i := by
  have hfold : ∀ (rs : List (Fin 26)) (v : Vector Nat 26), tget (rs.foldl (fun v i => tset v i (revisionAfter s t i)) v) i
      = if i ∈ rs then revisionAfter s t i else tget v i := by
    intro rs
    induction rs with
    | nil => exact fun v => rfl
    | cons j rs ih =>
      intro v
      rw [List.foldl_cons, ih, tget_tset]
      obtain rfl | hne := eq_or_ne j i
      · simp
      · simp [hne, hne.symm]
  exact hfold rs t.rev

theorem mem_allRecords (i : Fin 26) : i ∈ allRecords := by
  revert i
  decide

/-- A record whose content an event leaves keeps its revision. -/
theorem revisionAfter_same {i : Fin 26} (hrev : tget t.rev i = tget s.rev i) (hview : revisionView s (i.1 + 1) = revisionView t (i.1 + 1)) :
    revisionAfter s t i = tget s.rev i := by
  unfold revisionAfter
  dsimp only
  rw [if_neg (by simp [hrev]), if_pos hview, hrev]

/-- The content of REST_STATE that its revision counts is the Rest Monitor's, with its profile and the clock. -/
theorem revisionView_rest (hrm : t.rm = s.rm) (hcfg : t.cfg = s.cfg) (hsu : t.su = s.su) : revisionView s 25 = revisionView t 25 := by
  have hcab : cabTime t = cabTime s := cabTime_congr hsu
  change some (roMay max32 ((openSegment s.rm).map fun g => cabTime s - g.1) :: viewRestState s)
    = some (roMay max32 ((openSegment t.rm).map fun g => cabTime t - g.1) :: viewRestState t)
  unfold viewRestState
  rw [hrm, hcfg, hcab]

/-- An event that leaves the Rest Monitor, its profile and the clock leaves REST_STATE's revision. -/
theorem close_rev_rest (hrev : tget u.rev 24 = tget s.rev 24) (hrm : u.rm = s.rm) (hcfg : u.cfg = s.cfg) (hsu : u.su = s.su) :
    tget (close s u).rev 24 = tget s.rev 24 := by
  obtain ⟨v, hv⟩ : ∃ v, v = ownerEvent [0] dozeCheck (settle s u) := ⟨_, rfl⟩
  have hvrev : tget v.rev 24 = tget u.rev 24 := by
    rw [hv, ownerEvent, tget_rev_advance, if_neg (by decide), dozeCheck_rev]
    rfl
  have hvrm : v.rm = u.rm := by rw [hv, ownerEvent_rm, dozeCheck_rm]; rfl
  have hvcfg : v.cfg = u.cfg := by rw [hv, ownerEvent_cfg, dozeCheck_cfg]; rfl
  have hvsu : v.su = u.su := by rw [hv, ownerEvent_su, dozeCheck_su]; rfl
  unfold close
  rw [← hv, tget_rev_advance, if_pos (mem_allRecords 24)]
  exact revisionAfter_same (hvrev.trans hrev) (revisionView_rest (hvrm.trans hrm) (hvcfg.trans hcfg) (hvsu.trans hsu))

/-! ### A slot's time written (R158) -/

theorem slotAt_slotTime (k : Fin 8) (s : State) : ∃ v, slotAt s 26 2 (some k.1) = some ⟨2, some k.1, rw (.raw 4) v⟩ := by
  cases h : slotOf s k with
  | none =>
    refine ⟨0, slotAt_group rfl (n := 1) (getElem?_table _ _ k) ?_⟩
    change (viewSlot (slotOf s k))[1]? = _
    rw [h]
    rfl
  | some e =>
    refine ⟨e.time, slotAt_group rfl (n := 1) (getElem?_table _ _ k) ?_⟩
    change (viewSlot (slotOf s k))[1]? = _
    rw [h]
    rfl

/-- The checks on one named slot: not free, and not the Rest Monitor's. -/
def slotRefusal : Option SchedEntry → Option Status
  | none => some .range
  | some e => if e.rest then some .owned else none

theorem scheduleRefusal_one (k : Fin 8) (v : Option Int) (s : State) : scheduleRefusal s [⟨2, some k.1, v⟩] = slotRefusal (slotOf s k) := by
  have hnamed : slotsNamed [⟨2, some k.1, v⟩] = [k.1] := rfl
  have hslot : (s.su.slots.toList[k.1]?).join = slotOf s k := by
    have h := getElem?_table s.su.slots id k
    rw [List.map_id] at h
    rw [h]
    rfl
  unfold scheduleRefusal
  rw [hnamed]
  dsimp only
  rw [hslot]
  cases slotOf s k <;> rfl

theorem placeRefusal_slotTime (k : Fin 8) (v : Option Int) (s : State) :
    placeRefusal s 26 [⟨2, some k.1, v⟩] = slotRefusal (slotOf s k) := by
  obtain ⟨x, hx⟩ := slotAt_slotTime k s
  have hview : (recordView s 26).isNone = false := rfl
  unfold placeRefusal
  simp only [List.map_cons, List.map_nil]
  rw [hview, if_neg (by decide), hx, if_neg (by simp [namedTwice]), if_pos trivial, scheduleRefusal_one]
  cases slotOf s k with
  | none => rfl
  | some e => cases h : e.rest <;> simp [h, slotRefusal, readOnlyRecords, rw]

/-- An entry with its time written. -/
def retimed (time : Nat) (e : SchedEntry) : SchedEntry :=
  { e with time := time, state := if e.state = .done ∨ e.state = .skipped then .armed else e.state }

theorem slotOf_pokeTime (k : Fin 8) (time : Nat) (s : State) :
    slotOf (pokeAll 26 [⟨2, some k.1, some (time : Int)⟩] s) k = (slotOf s k).map (retimed time) := by
  have hpoke : pokeEntry ⟨2, some k.1, some (time : Int)⟩ = fun e => { e with time := time } := rfl
  change tget (setElem (setElem s.su.slots (some k.1) (Option.map (pokeEntry _))) (some k.1) (Option.map (rearm _))) k = _
  rw [setElem_some, setElem_some, tget_tset_same, tget_tset_same, hpoke, Option.map_map, slotOf]
  refine congrArg (fun f => Option.map f (tget s.su.slots k)) (funext fun e => ?_)
  unfold retimed rearm
  by_cases h : e.state = .done ∨ e.state = .skipped <;> simp [h, names]

theorem pokeTime_clock (k : Fin 8) (time : Nat) (s : State) :
    (pokeAll 26 [⟨2, some k.1, some (time : Int)⟩] s).su.unset = s.su.unset
      ∧ cabTime (pokeAll 26 [⟨2, some k.1, some (time : Int)⟩] s) = cabTime s := ⟨rfl, rfl⟩

theorem accept_slotTime {e : SchedEntry} (he : slotOf s k = some e) (hahead : s.su.unset = true ∨ cabTime s < time) {st : Status}
    {data : List Byte} : slotOf (accept 26 [⟨2, some k.1, some (time : Int)⟩] st data s) k = some (retimed time e) := by
  have hpoke := slotOf_pokeTime k time s
  rw [he] at hpoke
  refine accept_keeps (I := fun t => slotOf t k = some (retimed time e)) (fun _ _ h => h) (fun _ _ _ => hpoke) fun v a => ?_
  have hslot : slotOf (written 26 [⟨2, some k.1, some (time : Int)⟩] v a s) k = some (retimed time e) := hpoke
  change slotOf (fireDue (written 26 _ v a s)) k = _
  rw [slotOf_fireDue, hslot]
  exact isDue_ahead hslot hahead

theorem fieldWriteOp_slotTime {e : SchedEntry} (he : slotOf s k = some e) (hhost : e.rest = false) (htime : time ≤ 4294967295) :
    fieldWriteOp 26 [⟨2, some k.1, some (time : Int)⟩] s = accept 26 [⟨2, some k.1, some (time : Int)⟩] .ok [] s := by
  obtain ⟨x, hx⟩ := slotAt_slotTime k s
  have hj : judgeSlot 26 ⟨2, some k.1, rw (.raw 4) x⟩ (some (time : Int)) = some (some (time : Int), false) := by
    have hwide : ((256 ^ 4 : Nat) : Int) = 4294967296 := by norm_num
    unfold judgeSlot judgeValue
    rw [if_neg (by simp), if_neg (by simp)]
    dsimp only [rw]
    rw [if_pos ⟨by omega, by rw [hwide]; omega⟩]
  have hplace := placeRefusal_slotTime k (some (time : Int)) s
  have hfree : slotRefusal (some e) = none := if_neg (by simp [hhost])
  rw [he, hfree] at hplace
  unfold fieldWriteOp
  rw [hplace]
  dsimp only
  have hmet : conditionsMet 26 (pokeAll 26 [⟨2, some k.1, some (time : Int)⟩] s) = true := rfl
  have hjudged : judgeValues s 26 [⟨2, some k.1, some (time : Int)⟩] = .take [⟨2, some k.1, some (time : Int)⟩] false :=
    judgeValues_one (w := ⟨2, some k.1, some (time : Int)⟩) hx hj hmet
  rw [hjudged]
  rfl

end Sys2Proof.Machine
end

section
/-! PROOFS. The restore of REST_STATE. -/

namespace Sys2Proof.Machine

-- One proof after another: started together they wait for one another, each on a thread of its own.
set_option Elab.async false

variable {s t u : State} {drive acc : Nat} {log : List RestSpan}

/-! ### What a restore admits (R151) -/

theorem spansInOrder_iff (log : List RestSpan) :
    spansInOrder log = true ↔ ∀ ab ∈ log.zip log.tail, ab.1.stop.any (fun e => decide (e ≤ ab.2.start)) = true := by
  induction log with
  | nil => simp [spansInOrder]
  | cons a log ih =>
    cases log with
    | nil => simp [spansInOrder]
    | cons b rest =>
      have hstep : spansInOrder (a :: b :: rest) = (a.stop.any (fun e => decide (e ≤ b.start)) && spansInOrder (b :: rest)) := by
        cases h : a.stop <;> simp [spansInOrder, h]
      rw [hstep, Bool.and_eq_true, ih]
      simp

theorem restoreOk_iff : restoreOk s drive acc log = true ↔ restoreAdmitted s drive acc log := by
  unfold restoreOk
  simp only [Bool.and_eq_true, decide_eq_true_eq, List.all_eq_true, spansInOrder_iff, and_assoc]
  refine and_congr_right fun _ => and_congr_right fun _ => and_congr_right fun _ => and_congr_left fun _ => forall₂_congr fun g _ => ?_
  cases g.stop <;> simp

/-! ### The two forms of a restore (R151, R169) -/

theorem spansOf_flatMap (log : List RestSpan) : spansOf (log.flatMap fun g => [some g.start, g.stop]) = some log := by
  induction log with
  | nil => rfl
  | cons g log ih => simp [spansOf, ih]

theorem putOp_rest (x : Option Nat) : putOp 25 none x (some (drive : Int) :: some (acc : Int) :: log.flatMap fun g => [some g.start, g.stop]) s
    = restPut x drive acc log s := by
  have hview : (recordView s 25).isNone = false := rfl
  have hplace : putElementOk s 25 none = true := rfl
  unfold putOp
  rw [hview, hplace, if_neg (by decide), if_neg (by decide), if_neg (by decide), if_pos rfl]
  unfold restPutValues
  dsimp only
  rw [spansOf_flatMap]
  dsimp only
  rw [if_neg (by omega)]
  rfl

theorem effect_restore {x : Option Nat} {i : Instr} (hi : i ∈ restoresOf drive acc log x) (s : State) :
    mayReset i = false ∧ effect i s = restPut x drive acc log s := by
  unfold restoresOf at hi
  obtain rfl | hi := List.mem_cons.1 hi
  · exact ⟨rfl, putOp_rest x⟩
  · split at hi
    · rename_i hx
      obtain rfl := List.mem_singleton.1 hi
      exact ⟨rfl, by rw [hx]; rfl⟩
    · exact absurd hi (List.not_mem_nil)

theorem revisionMissed_rest (s : State) (x : Option Nat) : revisionMissed s 25 x = x.any (· != tget s.rev 24) := by
  have h := getElem?_table s.rev id 24
  rw [List.map_id] at h
  unfold revisionMissed
  cases x with
  | none => rfl
  | some e => exact congrArg (fun o => e != Option.getD o 0) h

theorem revByte_rest (s : State) : revByte s 25 = byte (tget s.rev 24) := revByte_eq s 24 rfl

/-- A restore outside UNKNOWN and STOPPED (R151). -/
theorem restPut_state {x : Option Nat} (h1 : s.rm.state ≠ .unknown) (h2 : s.rm.state ≠ .stopped) :
    restPut x drive acc log s = refuse 25 .state s := by
  have h : restoreRefusal s drive acc log = some .state := by
    unfold restoreRefusal
    split
    · exact absurd ‹_› h1
    · exact absurd ‹_› h2
    · rfl
  unfold restPut
  rw [h]

theorem restoreRefusal_restorable (h : s.rm.state = .unknown ∨ s.rm.state = .stopped) :
    restoreRefusal s drive acc log = if restoreOk s drive acc log then none else some .range := by
  unfold restoreRefusal
  obtain h | h := h <;> rw [h]

theorem restPut_mismatch {x : Option Nat} (h : s.rm.state = .unknown ∨ s.rm.state = .stopped) (hx : revisionMissed s 25 x = true) :
    restPut x drive acc log s = refuse 25 .mismatch s := by
  unfold restPut
  rw [restoreRefusal_restorable h, hx]
  split <;> rename_i hr
  · split at hr <;> simp at hr
  · rfl
  · rfl

theorem restPut_range {x : Option Nat} (h : s.rm.state = .unknown ∨ s.rm.state = .stopped) (hx : revisionMissed s 25 x = false)
    (hno : ¬restoreAdmitted s drive acc log) : restPut x drive acc log s = refuse 25 .range s := by
  unfold restPut
  rw [restoreRefusal_restorable h, hx, if_neg (mt restoreOk_iff.1 hno)]
  rfl

theorem restPut_accepted {x : Option Nat} (h : s.rm.state = .unknown ∨ s.rm.state = .stopped) (hx : revisionMissed s 25 x = false)
    (hok : restoreAdmitted s drive acc log) : restPut x drive acc log s = restored drive acc log s := by
  unfold restPut
  rw [restoreRefusal_restorable h, hx, if_pos (restoreOk_iff.2 hok)]
  rfl

/-! ### What an accepted restore leaves of the Rest Monitor (R151) -/

/-- The Rest Monitor with a restore's counters and log. -/
def restContent (p : RestProfile) (drive acc : Nat) (log : List RestSpan) (r : RestUnit) : RestUnit :=
  { r with drive := drive, acc := acc, log := restoredLog p.tS1 log }

/-- The Rest Monitor with its flags as a restore sets them. -/
def restFlags (p : RestProfile) (r : RestUnit) : RestUnit := { r with
  uncertain := false
  done := false
  soon := decide ((p.driveLimit - p.wDrive) * 60 ≤ r.drive)
  limit := decide (p.driveLimit * 60 ≤ r.drive) }

theorem restoreContent_eq : restoreContent drive acc log s = { s with rm := restContent s.cfg.profile drive acc log s.rm } := rfl

/-- With no segment open, a restore enters STOPPED. -/
theorem restoreEffect_closed (h : openStart s.rm = none) : restoreEffect s = restNotice s.rm.state .restore 0 { s with
    rm := { restFlags s.cfg.profile s.rm with
      state := .stopped, stopSeg := if s.rm.state = .stopped then s.rm.stopSeg else some ⟨cabTime s, false⟩ } } := by
  have hclosed : ¬(openStart (restFlags s.cfg.profile s.rm)).isSome = true := by
    rw [show openStart (restFlags s.cfg.profile s.rm) = none from h]
    simp
  exact if_neg hclosed

/-- The state in which a restore's open segment is opened as a rest. -/
def restReopened (s : State) : State := { s with rm := { restFlags s.cfg.profile s.rm with state := .resting, stopSeg := none } }

theorem cabTime_placePrewarm (s : State) : cabTime (placePrewarm s) = cabTime s := by
  unfold placePrewarm
  dsimp only
  split
  · unfold prewarmPlace
    split
    · rfl
    · exact (fires_fireDue _).cabTime.trans (cabTime_placed _ _ _)
  · rfl

theorem cabTime_restOpened (old : RestState) (cause : RestCause) (n : Nat) (s : State) : cabTime (restOpened old cause n s) = cabTime s := by
  unfold restOpened
  extract_lets start s1 s2
  have h2 : s2.su = s.su := (moves_handResting true _).su_eq
  have h3 : (handHorizon s2).su = s.su := (moves_handHorizon s2).su_eq.trans h2
  exact (cabTime_placePrewarm (handHorizon s2)).trans (cabTime_congr h3)

/-- With a segment open, a restore opens it as a rest, whose end may have been reached. -/
theorem restoreEffect_open {start : Nat} (h : openStart s.rm = some start) : restoreEffect s =
    if plannedFor s start ≤ cabTime s then plannedReached (restOpened s.rm.state .restore 0 (restReopened s))
      else restOpened s.rm.state .restore 0 (restReopened s) := by
  have hopen : openStart (restReopened s).rm = some start := h
  obtain ⟨e, k, hrm⟩ := restOpened_rm s.rm.state .restore 0 (restReopened s)
  have hplanned : (restOpened s.rm.state .restore 0 (restReopened s)).rm.plannedEnd = some (plannedFor s start) := by
    rw [hrm, hopen]
    rfl
  have hcab : cabTime (restOpened s.rm.state .restore 0 (restReopened s)) = cabTime s := cabTime_restOpened ..
  have hgoes : restoreEffect s = match (restOpened s.rm.state .restore 0 (restReopened s)).rm.plannedEnd with
      | some e => if e ≤ cabTime (restOpened s.rm.state .restore 0 (restReopened s))
          then plannedReached (restOpened s.rm.state .restore 0 (restReopened s)) else restOpened s.rm.state .restore 0 (restReopened s)
      | none => restOpened s.rm.state .restore 0 (restReopened s) := by
    have hsome : (openStart (restFlags s.cfg.profile s.rm)).isSome = true := congrArg Option.isSome h
    exact if_pos hsome
  rw [hgoes, hplanned, hcab]

/-! ### A restored log -/

/-- A segment as a restore holds it. -/
def heldSegment (split : Nat) (g : RestSpan) : RestSeg :=
  ⟨g.start.toNat, g.stop.map Int.toNat, g.stop.any (fun e => decide (((split * 60 : Nat) : Int) ≤ e - g.start)), false⟩

theorem restoredLog_eq (split : Nat) (log : List RestSpan) : restoredLog split log = log.map (heldSegment split) := by
  unfold restoredLog
  refine List.map_congr_left fun g _ => ?_
  unfold heldSegment
  cases g.stop <;> rfl

theorem openStart_held {split : Nat} {r : RestUnit} (hlog : r.log = log.map (heldSegment split)) :
    openStart r = log.getLast?.bind fun g => if g.stop = none then some g.start.toNat else none := by
  unfold openStart
  rw [hlog, List.getLast?_map]
  cases log.getLast? with
  | none => rfl
  | some g => cases h : g.stop <;> simp [heldSegment, h]

/-- A log in order has an open segment at its end alone. -/
theorem openLast_of_spansInOrder (h : spansInOrder log = true) {g : RestSpan} (hg : g ∈ log) (hopen : g.stop = none) :
    ∃ l, log.getLast? = some l ∧ l.stop = none := by
  induction log with
  | nil => exact absurd hg (List.not_mem_nil)
  | cons a log ih =>
    cases log with
    | nil => exact ⟨g, by rw [List.mem_singleton.1 hg]; rfl, hopen⟩
    | cons b rest =>
      have hstep : (a.stop.any fun e => decide (e ≤ b.start)) = true ∧ spansInOrder (b :: rest) = true := by
        rw [spansInOrder_iff] at h ⊢
        simpa using h
      obtain rfl | hg := List.mem_cons.1 hg
      · rw [hopen] at hstep
        exact absurd hstep.1 (by simp)
      · exact ih hstep.2 hg

/-- What every accepted restore leaves of the Rest Monitor. -/
structure Restored (p : RestProfile) (drive acc : Nat) (held : List RestSeg) (r : RestUnit) : Prop where
  drove : r.drive = drive
  banked : r.acc = acc
  segments : r.log = held
  uncertain : r.uncertain = false
  soon : r.soon = true ↔ (p.driveLimit - p.wDrive) * 60 ≤ drive
  limit : r.limit = true ↔ p.driveLimit * 60 ≤ drive

theorem restored_flags (p : RestProfile) (drive acc : Nat) (log : List RestSpan) (r : RestUnit) :
    Restored p drive acc (restoredLog p.tS1 log) (restFlags p (restContent p drive acc log r)) :=
  ⟨rfl, rfl, rfl, rfl, decide_eq_true_iff, decide_eq_true_iff⟩

/-- The same values in another Rest Monitor. -/
theorem Restored.of_eq {p : RestProfile} {held : List RestSeg} {r q : RestUnit} (h : Restored p drive acc held r) (h1 : q.drive = r.drive)
    (h2 : q.acc = r.acc) (h3 : q.log = r.log) (h4 : q.uncertain = r.uncertain) (h5 : q.soon = r.soon) (h6 : q.limit = r.limit) :
    Restored p drive acc held q :=
  ⟨h1.trans h.drove, h2.trans h.banked, h3.trans h.segments, h4.trans h.uncertain, by rw [h5]; exact h.soon, by rw [h6]; exact h.limit⟩

/-- The state once a restore's contents are replaced and its answer is formed. -/
def replaced (drive acc : Nat) (log : List RestSpan) (s : State) : State :=
  let x := operate 24 (restoreContent drive acc log) s
  answer .ok [byte (tget x.rev 24)] x

theorem restored_eq : restored drive acc log s = operate 24 restoreEffect (replaced drive acc log s) := by
  unfold restored replaced
  dsimp only
  rw [revByte_rest]

theorem replaced_rm : (replaced drive acc log s).rm = restContent s.cfg.profile drive acc log s.rm := operate_rm 24 _ s

theorem replaced_cfg : (replaced drive acc log s).cfg = s.cfg := operate_cfg 24 _ s

theorem replaced_su : (replaced drive acc log s).su = s.su := operate_su 24 _ s

theorem replaced_answer : (replaced drive acc log s).answer = some ⟨.ok, [byte (tget (replaced drive acc log s).rev 24)]⟩ := rfl

/-- A restore whose values equal those held advances no revision at its replacement (R169). -/
theorem replaced_rev (h : restContent s.cfg.profile drive acc log s.rm = s.rm) : tget (replaced drive acc log s).rev 24 = tget s.rev 24 := by
  have hview := revisionView_rest (s := s) (t := restoreContent drive acc log s) h rfl rfl
  change tget (operate 24 (restoreContent drive acc log) s).rev 24 = _
  rw [tget_rev_operate 24 _ rfl]
  exact if_pos hview

theorem restContent_same {p : RestProfile} {r : RestUnit} (h1 : r.drive = drive) (h2 : r.acc = acc) (h3 : r.log = restoredLog p.tS1 log) :
    restContent p drive acc log r = r := by
  unfold restContent
  rw [← h1, ← h2, ← h3]

theorem restored_answer (drive acc : Nat) (log : List RestSpan) (s : State) :
    (restored drive acc log s).answer = some ⟨.ok, [byte (tget (replaced drive acc log s).rev 24)]⟩ := by
  rw [restored_eq]
  exact (moves_operate 24 (by decide) (moves_restoreEffect (restWakes_restore _))).answer_eq

/-- With no segment open. -/
theorem restored_closed (h : ∀ g ∈ log, g.stop.isSome) (s : State) :
    (restored drive acc log s).rm = { restFlags s.cfg.profile (restContent s.cfg.profile drive acc log s.rm) with
        state := .stopped, stopSeg := if s.rm.state = .stopped then s.rm.stopSeg else some ⟨cabTime s, false⟩ }
      ∧ .noticePost ⟨.restChange, .rm, .info, false, [byte (2 + 16 * restCode s.rm.state), 5, 0]⟩ ∈ (restored drive acc log s).handed
      ∧ ((restored drive acc log s).rm = s.rm → tget (restored drive acc log s).rev 24 = tget s.rev 24)
      ∧ (restored drive acc log s).cfg = s.cfg ∧ (restored drive acc log s).su = s.su := by
  have hclosed : openStart (replaced drive acc log s).rm = none := by
    rw [openStart_held (by rw [replaced_rm]; exact restoredLog_eq ..)]
    cases hlast : log.getLast? with
    | none => rfl
    | some g =>
      have hsome := h g (List.mem_of_getLast? hlast)
      exact if_neg (fun hnone => by simp [hnone] at hsome)
  have heffect := restoreEffect_closed hclosed
  rw [replaced_cfg, replaced_rm, cabTime_congr replaced_su] at heffect
  rw [restored_eq]
  have hrm : (restoreEffect (replaced drive acc log s)).rm = { restFlags s.cfg.profile (restContent s.cfg.profile drive acc log s.rm) with
      state := .stopped, stopSeg := if s.rm.state = .stopped then s.rm.stopSeg else some ⟨cabTime s, false⟩ } := by
    rw [heffect]
    rfl
  have hcfg : (restoreEffect (replaced drive acc log s)).cfg = s.cfg := by
    rw [heffect]
    rfl
  have hsu : (restoreEffect (replaced drive acc log s)).su = s.su := by
    rw [heffect]
    exact replaced_su
  refine ⟨by rw [operate_rm, hrm], ?_, fun hsame => ?_, by rw [operate_cfg, hcfg], by rw [operate_su, hsu]⟩
  · rw [operate_handed, heffect]
    exact List.mem_append_right _ (List.mem_singleton_self _)
  · rw [operate_rm, hrm] at hsame
    have hcontent : restContent s.cfg.profile drive acc log s.rm = s.rm :=
      restContent_same (congrArg RestUnit.drive hsame :).symm (congrArg RestUnit.acc hsame :).symm (congrArg RestUnit.log hsame :).symm
    have hrev : (restoreEffect (replaced drive acc log s)).rev = (replaced drive acc log s).rev := by
      rw [heffect]
      rfl
    have hview := revisionView_rest (s := replaced drive acc log s) (t := restoreEffect (replaced drive acc log s))
      (by rw [hrm, hsame, replaced_rm, hcontent]) (by rw [hcfg, replaced_cfg]) (by rw [hsu, replaced_su])
    rw [tget_rev_operate 24 _ hrev]
    exact (if_pos hview).trans (replaced_rev hcontent)

/-- With the last segment open. -/
theorem restored_open {g : RestSpan} (hlast : log.getLast? = some g) (hopen : g.stop = none) (s : State) :
    let p := s.cfg.profile
    let e := g.start.toNat + 60 * (if (log.map (heldSegment p.tS1)).any (fun h => h.stop.isSome && h.split) then min p.tRest p.tS2 else p.tRest)
    let t := restored drive acc log s
    Restored p drive acc (restoredLog p.tS1 log) t.rm ∧ t.rm.stopSeg = none ∧ t.rm.plannedEnd = some e
      ∧ .noticePost ⟨.restChange, .rm, .info, false, [byte (3 + 16 * restCode s.rm.state), 5, 0]⟩ ∈ t.handed
      ∧ (cabTime s < e → t.rm.state = .resting ∧ t.lc.resting = true ∧ t.pn.resting = true ∧ t.rm.done = false)
      ∧ (e ≤ cabTime s → t.rm.state = .rested ∧ t.lc.resting = false ∧ t.pn.resting = false ∧ t.rm.done = true) := by
  intro p e t
  have hlog : (replaced drive acc log s).rm.log = log.map (heldSegment s.cfg.profile.tS1) := by
    rw [replaced_rm]
    exact restoredLog_eq ..
  have hstart : openStart (replaced drive acc log s).rm = some g.start.toNat := by
    rw [openStart_held hlog, hlast]
    exact if_pos hopen
  have hplanned : plannedFor (replaced drive acc log s) g.start.toNat = e := by
    have hsplit : anySplit (replaced drive acc log s).rm = (log.map (heldSegment p.tS1)).any (fun h => h.stop.isSome && h.split) := by
      rw [anySplit, hlog]
    unfold plannedFor
    rw [hsplit, replaced_cfg]
    unfold e p
    dsimp only
    split <;> omega
  obtain ⟨w, hw⟩ : ∃ w, w = restOpened (replaced drive acc log s).rm.state .restore 0 (restReopened (replaced drive acc log s)) := ⟨_, rfl⟩
  have heffect := restoreEffect_open hstart
  rw [← hw, hplanned, cabTime_congr replaced_su] at heffect
  obtain ⟨x, k, hrm⟩ := restOpened_rm (replaced drive acc log s).rm.state .restore 0 (restReopened (replaced drive acc log s))
  have hopened : openStart (restReopened (replaced drive acc log s)).rm = some g.start.toNat := hstart
  have hplanned' : plannedFor (restReopened (replaced drive acc log s)) g.start.toNat = e := hplanned
  rw [← hw, hopened, Option.getD_some, hplanned'] at hrm
  obtain ⟨hlc, hpn⟩ := restOpened_resting (replaced drive acc log s).rm.state .restore 0 (restReopened (replaced drive acc log s))
  rw [← hw] at hlc hpn
  have hnotice : .noticePost ⟨.restChange, .rm, .info, false, [byte (3 + 16 * restCode s.rm.state), 5, 0]⟩ ∈ w.handed := by
    rw [hw]
    refine List.mem_append_right _ (List.mem_singleton.2 ?_)
    rw [placePrewarm_rm, handHorizon_rm, handResting_rm, replaced_rm]
    rfl
  have hflags := restored_flags p drive acc log s.rm
  have hrm' : w.rm = { restFlags p (restContent p drive acc log s.rm) with
      state := .resting, stopSeg := none, plannedEnd := some e, endSoon := x, endSoonRaised := false, startRisk := false
      starterHold := none, horizon := k, placed := s.rm.placed || p.prewarm } := by
    rw [hrm]
    change { restFlags (replaced drive acc log s).cfg.profile (replaced drive acc log s).rm with
      state := .resting, stopSeg := none, plannedEnd := some e, endSoon := x, endSoonRaised := false, startRisk := false
      starterHold := none, horizon := k, placed := (replaced drive acc log s).rm.placed || (replaced drive acc log s).cfg.profile.prewarm } = _
    rw [replaced_rm, replaced_cfg]
    rfl
  change Restored _ _ _ _ (restored drive acc log s).rm ∧ (restored drive acc log s).rm.stopSeg = none
    ∧ (restored drive acc log s).rm.plannedEnd = some e ∧ _ ∈ (restored drive acc log s).handed
    ∧ (_ → (restored drive acc log s).rm.state = _ ∧ (restored drive acc log s).lc.resting = _ ∧ (restored drive acc log s).pn.resting = _
      ∧ (restored drive acc log s).rm.done = _)
    ∧ (_ → (restored drive acc log s).rm.state = _ ∧ (restored drive acc log s).lc.resting = _ ∧ (restored drive acc log s).pn.resting = _
      ∧ (restored drive acc log s).rm.done = _)
  rw [restored_eq, operate_rm, operate_lc, operate_pn, operate_handed, heffect]
  by_cases hreached : e ≤ cabTime s
  · obtain ⟨hrm2, hlc2, hpn2, -⟩ := plannedReached_spec w
    rw [hrm'] at hrm2
    rw [if_pos hreached, hrm2, hlc2, hpn2]
    exact ⟨hflags.of_eq rfl rfl rfl rfl rfl rfl, rfl, rfl, ((moves_plannedReached w).handed_behind (by decide)).mem hnotice,
      fun h => absurd h (by omega), fun _ => ⟨rfl, rfl, rfl, rfl⟩⟩
  · rw [if_neg hreached, hlc, hpn, hrm']
    exact ⟨hflags.of_eq rfl rfl rfl rfl rfl rfl, rfl, rfl, hnotice, fun _ => ⟨rfl, rfl, rfl, rfl⟩, fun h => absurd h hreached⟩

/-- A refused restore is answered with its status and the revision, and leaves the Rest Monitor. -/
theorem exec_restoreRefused {x : Option Nat} {i : Instr} {st : Status} (hrun : s.mc.supply = .running) (hi : i ∈ restoresOf drive acc log x)
    (he : restPut x drive acc log (startEvent i s) = refuse 25 st (startEvent i s)) :
    ∃ t, exec i s = .next t ∧ t.answer = some ⟨st, [byte (tget s.rev 24)]⟩ ∧ t.rm = s.rm := by
  obtain ⟨hreset, heff⟩ := effect_restore hi (startEvent i s)
  obtain ⟨t, hexec, hanswer, honly⟩ := exec_refused (r := 25) hrun hreset (heff.trans he)
  exact ⟨t, hexec, hanswer.trans (by rw [revByte_rest]), honly .rm (by decide)⟩

end Sys2Proof.Machine

namespace Sys2Proof.Proofs

open Sys2Proof Sys2Proof.Machine

/-- Settles O60: the slot's checks and its time written, and the restore by its refusals and by what an accepted one leaves. -/
theorem scheduleAndRestAreRestored : Obligations.ScheduleAndRestAreRestored := by
  refine ⟨fun k time s hrun htime => ?_, fun drive acc log x i s hrun hi => ?_⟩
  · obtain ⟨v, hv⟩ : ∃ v, v = startEvent (.scheduleWrite [⟨2, some k.1, some (time : Int)⟩]) s := ⟨_, rfl⟩
    have hslot : slotOf v k = slotOf s k := by rw [hv]; rfl
    have hexec : exec (.scheduleWrite [⟨2, some k.1, some (time : Int)⟩]) s
        = .next (close s (fieldWriteOp 26 [⟨2, some k.1, some (time : Int)⟩] v)) := by
      rw [hv]
      exact exec_running hrun rfl
    have hrefused : ∀ st, slotRefusal (slotOf s k) = some st →
        (close s (fieldWriteOp 26 [⟨2, some k.1, some (time : Int)⟩] v)).answer = some ⟨st, [byte (tget s.rev 25)]⟩
          ∧ (close s (fieldWriteOp 26 [⟨2, some k.1, some (time : Int)⟩] v)).su = s.su := fun st hst => by
      rw [fieldWriteOp_refused (st := st) (by rw [placeRefusal_slotTime, hslot, hst]), close_answer, close_su, refuse,
        revByte_eq (r := 26) v 25 rfl, hv]
      exact ⟨rfl, rfl⟩
    refine ⟨_, hexec, fun hfree => hrefused .range (by rw [hfree]; rfl), fun hrest => ?_, fun e he hhost hahead => ?_⟩
    · cases h : slotOf s k with
      | none => simp [h] at hrest
      | some e => exact hrefused .owned (by rw [h]; exact if_pos (by simpa [h] using hrest))
    · rw [fieldWriteOp_slotTime (hslot.trans he) hhost htime, close_answer, slotOf, close_su, accept_answer _ _ _ (by decide)]
      refine ⟨rfl, accept_slotTime (hslot.trans he) ?_⟩
      rw [hv]
      exact hahead
  · have hmissed : revisionMissed (startEvent i s) 25 x = x.any (· != tget s.rev 24) := revisionMissed_rest (startEvent i s) x
    have hmet : x.all (· == tget s.rev 24) = true → revisionMissed (startEvent i s) 25 x = false := fun h => by
      rw [hmissed]
      cases x <;> simp_all
    obtain ⟨hreset, heff⟩ := effect_restore hi (startEvent i s)
    obtain ⟨t, hexec, ht⟩ := exec_leaves (s := s) hrun hreset
    have hclose : exec i s = .next (close s (effect i (startEvent i s))) := exec_running hrun hreset
    refine ⟨t, hexec, fun h1 h2 => ?_, fun hst => ⟨fun hx => ?_, fun hx hno => ?_, fun hx hok => ?_⟩⟩
    · obtain ⟨u, hu, hanswer, hrm⟩ := exec_restoreRefused hrun hi (restPut_state (s := startEvent i s) h1 h2)
      obtain rfl : t = u := Host.Outcome.next.inj (hexec.symm.trans hu)
      exact ⟨hanswer, hrm⟩
    · obtain ⟨u, hu, hanswer, hrm⟩ := exec_restoreRefused hrun hi (restPut_mismatch (s := startEvent i s) hst (hmissed.trans hx))
      obtain rfl : t = u := Host.Outcome.next.inj (hexec.symm.trans hu)
      exact ⟨hanswer, hrm⟩
    · obtain ⟨u, hu, hanswer, hrm⟩ := exec_restoreRefused hrun hi (restPut_range (s := startEvent i s) hst (hmet hx) hno)
      obtain rfl : t = u := Host.Outcome.next.inj (hexec.symm.trans hu)
      exact ⟨hanswer, hrm⟩
    · obtain rfl : t = close s (effect i (startEvent i s)) := Host.Outcome.next.inj (hexec.symm.trans hclose)
      rw [heff, restPut_accepted (s := startEvent i s) hst (hmet hx) hok] at ht ⊢
      have hheld : (log.map fun g => (⟨g.start.toNat, g.stop.map Int.toNat,
          g.stop.any (fun e => decide (((s.cfg.profile.tS1 * 60 : Nat) : Int) ≤ e - g.start)), false⟩ : RestSeg))
          = restoredLog s.cfg.profile.tS1 log := (restoredLog_eq ..).symm
      have hlog := restoredLog_eq s.cfg.profile.tS1 log
      have hanswer := ht.answer.trans (restored_answer drive acc log (startEvent i s))
      have hfields : Restored s.cfg.profile drive acc (restoredLog s.cfg.profile.tS1 log) (restored drive acc log (startEvent i s)).rm := by
        by_cases hclosed : ∀ g ∈ log, g.stop.isSome
        · obtain ⟨hrm, -⟩ := restored_closed (drive := drive) (acc := acc) hclosed (startEvent i s)
          rw [hrm]
          exact (restored_flags s.cfg.profile drive acc log s.rm).of_eq rfl rfl rfl rfl rfl rfl
        · obtain ⟨g, hg, hopen⟩ : ∃ g ∈ log, g.stop = none := by simpa using hclosed
          obtain ⟨-, -, -, -, horder⟩ := hok
          obtain ⟨l, hlast, hl⟩ := openLast_of_spansInOrder ((spansInOrder_iff log).2 horder) hg hopen
          exact (restored_open (drive := drive) (acc := acc) hlast hl (startEvent i s)).1
      rw [hheld]
      have hrm := ht.rm
      refine ⟨by rw [hanswer]; rfl, by rw [hrm, hfields.drove], by rw [hrm, hfields.banked], by rw [hrm, hfields.segments],
        by rw [hrm, hfields.uncertain], by rw [hrm]; exact hfields.soon, by rw [hrm]; exact hfields.limit, fun h1 h2 h3 => ?_,
        fun hclosed => ?_, fun g hlast hopen => ?_⟩
      · rw [hanswer, replaced_rev (s := startEvent i s) (restContent_same h1 h2 h3)]
        rfl
      · obtain ⟨hr, hnotice, hrev, hcfg, hsu⟩ := restored_closed (drive := drive) (acc := acc) hclosed (startEvent i s)
        refine ⟨by rw [hrm, hr], by rw [hrm, hr]; rfl, fun hst' => ?_, fun hst' => ?_, ht.handed _ hnotice, fun hsame => ?_⟩
        · rw [hrm, hr]
          exact if_neg (by rw [startEvent_rm, hst']; decide)
        · rw [hrm, hr]
          exact if_pos hst'
        · exact close_rev_rest (hrev (hrm.symm.trans hsame)) (hrm.symm.trans hsame) hcfg hsu
      · obtain ⟨-, hseg, hplanned, hnotice, hahead, hreached⟩ := restored_open (drive := drive) (acc := acc) hlast hopen (startEvent i s)
        rw [hrm, ht.lc, ht.pn, hlog]
        exact ⟨hseg, hplanned, ht.handed _ hnotice, hahead, hreached⟩

end Sys2Proof.Proofs
end

section
/-! PROOFS. The charge counted, estimated and synchronised at conversions. -/

namespace Sys2Proof.Machine

-- One proof after another: started together they wait for one another, each on a thread of its own.
set_option Elab.async false

variable {s t u : State} {ch : Channel} {code : Nat}

/-! ### What an evaluation leaves of the charge (R30 to R38) -/

/-- The charge counter less what its evaluations form. -/
def chargeCore (u : ChargeUnit) : ChargeUnit :=
  { u with iavg := none, endurance := none, countTarget := .normal, level := .normal, relief := 0, ceiling := none, budget := 0 }

/-- An evaluation leaves the charge counter's other fields, and hands on behind what was handed. -/
structure Evaluated (s t : State) : Prop where
  core : chargeCore t.cc = chargeCore s.cc
  moves : Moves [.cc] s t

namespace Evaluated

theorem refl (s : State) : Evaluated s s := ⟨rfl, .refl⟩

theorem trans (h : Evaluated s t) (k : Evaluated t u) : Evaluated s u := ⟨k.core.trans h.core, h.moves.trans k.moves⟩

theorem updateBudget (s : State) : Evaluated s (updateBudget s) := by
  refine ⟨?_, moves_updateBudget s⟩
  obtain ⟨b, e⟩ := updateBudget_cc s
  rw [e]
  rfl

theorem raiseNow (s : State) : Evaluated s (raiseNow s) := by
  refine ⟨?_, moves_raiseNow s⟩
  unfold Machine.raiseNow
  dsimp only
  obtain ⟨b, e⟩ := moveLevel_cc (combinedTarget s.cc) (raiseCause s.cc (combinedTarget s.cc))
    (withCc (fun c => { c with relief := 0, ceiling := none }) s)
  rw [e]
  rfl

theorem raiseCheck (s : State) : Evaluated s (raiseCheck s) := by
  unfold Machine.raiseCheck
  split
  · exact raiseNow s
  · exact refl s

theorem reckon (s : State) : Evaluated s (reckon s) := ⟨rfl, moves_reckon s⟩

theorem evaluateRaise (s : State) : Evaluated s (evaluateRaise s) := by
  unfold Machine.evaluateRaise
  dsimp only
  split
  · exact (reckon s).trans (raiseNow _)
  · exact (reckon s).trans (updateBudget _)

variable (h : Evaluated s t)
include h

theorem c : t.cc.c = s.cc.c := (congrArg ChargeUnit.c h.core :)
theorem residue : t.cc.residue = s.cc.residue := (congrArg ChargeUnit.residue h.core :)
theorem source : t.cc.source = s.cc.source := (congrArg ChargeUnit.source h.core :)
theorem estimated : t.cc.estimated = s.cc.estimated := (congrArg ChargeUnit.estimated h.core :)
theorem starting : t.cc.starting = s.cc.starting := (congrArg ChargeUnit.starting h.core :)
theorem fullHold : t.cc.fullHold = s.cc.fullHold := (congrArg ChargeUnit.fullHold h.core :)
theorem restHold : t.cc.restHold = s.cc.restHold := (congrArg ChargeUnit.restHold h.core :)
theorem sensorHold : t.cc.sensorHold = s.cc.sensorHold := (congrArg ChargeUnit.sensorHold h.core :)
theorem window : t.cc.window = s.cc.window := (congrArg ChargeUnit.window h.core :)
theorem horizon : t.cc.horizon = s.cc.horizon := (congrArg ChargeUnit.horizon h.core :)
theorem low : t.cc.low = s.cc.low := (congrArg ChargeUnit.low h.core :)
theorem cut : t.cc.cut = s.cc.cut := (congrArg ChargeUnit.cut h.core :)
theorem accSum : t.cc.accSum = s.cc.accSum := (congrArg ChargeUnit.accSum h.core :)
theorem accCount : t.cc.accCount = s.cc.accCount := (congrArg ChargeUnit.accCount h.core :)
theorem cfg : t.cfg = s.cfg := h.moves.cfg_eq
theorem su : t.su = s.su := h.moves.su_eq
theorem chan : t.mu.chan = s.mu.chan := h.moves.chan_eq

end Evaluated

/-! ### A VALID conversion at the CC -/

/-- What the CC finds at a VALID conversion: everything as it was, a sensor hold apart, which the channel's return to VALID has
ended, and the new sample and filtered value. -/
structure ChargeFinds (ch : Channel) (code : Nat) (s u : State) : Prop where
  cc : u.cc = { s.cc with sensorHold := if statusOf s ch = .valid then s.cc.sensorHold else false }
  cfg : u.cfg = s.cfg
  su : u.su = s.su
  scanMode : u.mu.scanMode = s.mu.scanMode
  valid : isValid u ch = true
  sample : (chanOf u ch).sample = some (scaled ch code)
  filtered : (chanOf u ch).filtered = some (filteredAt s ch code)
  other : ∀ d, ch ≠ d → validFiltered u d = validFiltered s d

/-- A VALID conversion of one of the CC's channels is a conversion at the CC, which the other users leave. -/
theorem exec_chargeConversion (hch : ch = .vh ∨ ch = .ih) (hrun : s.mc.supply = .running) (h : validNext s ch code) :
    ∃ t u, exec (.conversion ch code) s = .next t ∧ ChargeFinds ch code s u ∧ t.cc = (chargeConversion ch u).cc
      ∧ (∀ d, chanOf t d = chanOf u d) ∧ ∀ i ∈ (chargeConversion ch u).handed, i ∈ t.handed := by
  obtain ⟨v, hv⟩ : ∃ v, v = startEvent (.conversion ch code) s := ⟨_, rfl⟩
  have hnext : validNext v ch code := hv ▸ h
  have he : effect (.conversion ch code) v = _ := convert_next (s := v) code hnext.1
  obtain ⟨w, hw⟩ : ∃ w, w = sensorNotice ch (statusOf v ch) (converted ch code v) := ⟨_, rfl⟩
  have hmoves : Moves [.rawChan] v w := hw ▸ (moves_setChannel ch _ v).step (moves_sensorNotice ch _ _)
  have hwmu : w.mu = (converted ch code v).mu := hw ▸ sensorNotice_mu _ _ _
  have hvalid : statusOf w ch = .valid := (congrArg (fun m : MeasureUnit => (tget m.chan (chanIx ch)).status) hwmu :).trans
    (statusOf_converted hnext)
  obtain ⟨x, hx⟩ : ∃ x, x = statusChange ch (statusOf v ch) w := ⟨_, rfl⟩
  have hxmoves : Moves [.rawChan, .cc] v x := by
    refine hmoves.mono.trans ?_
    rw [hx]
    obtain e | e := statusChange_valid (old := statusOf v ch) hvalid <;> rw [e]
    · exact .refl
    · exact (moves_chargeRegained ch w).mono
  have hxmu : x.mu = (converted ch code v).mu := by
    rw [hx, ← hwmu]
    obtain e | e := statusChange_valid (old := statusOf v ch) hvalid <;> rw [e]
    exact chargeRegained_mu w ch
  have hxcc : x.cc = { s.cc with sensorHold := if statusOf s ch = .valid then s.cc.sensorHold else false } := by
    have hwcc : w.cc = s.cc := by rw [hmoves.cc_eq, hv]; rfl
    have hold : statusOf v ch = statusOf s ch := by rw [hv]; rfl
    rw [hx, hold]
    unfold statusChange
    dsimp only
    rw [hvalid, if_neg (by simp)]
    by_cases hst : statusOf s ch = .valid
    · rw [if_neg (by simp [hst]), if_pos hst, hwcc]
    · rw [if_pos ⟨hst, rfl⟩, if_neg hst, ← hwcc]
      obtain rfl | rfl := hch <;> rfl
  have hsample : sampleTaken ch x = heaterConversion ch (chargeConversion ch x) := by
    obtain rfl | rfl := hch <;> rfl
  rw [← hw, ← hx, hsample] at he
  obtain ⟨y, hy⟩ : ∃ y, y = chargeConversion ch x := ⟨_, rfl⟩
  have hheater := moves_heaterConversion ch y
  have hscan := Leaves.of_leaveScan [ch] (heaterConversion ch y)
  refine ⟨_, x, exec_running hrun rfl, ⟨hxcc, ?_, ?_, ?_, ?_, ?_, ?_, fun d hd => ?_⟩, ?_, fun d => ?_, fun i hi => ?_⟩
  · rw [hxmoves.cfg_eq, hv]; rfl
  · rw [hxmoves.su_eq, hv]; rfl
  · rw [hxmu, hv]; rfl
  · rw [isValid, statusOf, chanOf, hxmu]
    exact beq_iff_eq.2 (chanOf_converted hnext).1
  · rw [chanOf, hxmu]
    change (chanOf (converted ch code v) ch).sample = _
    obtain ⟨-, hlo, hhi, -⟩ := hnext
    rw [converted, chanOf_setChannel, if_pos rfl, convertEntry_inRange _ _ _ (rangeKindOf_inRange hlo hhi)]
  · rw [chanOf, hxmu]
    have hfiltered := (chanOf_converted hnext).2
    rw [hv] at hfiltered ⊢
    exact hfiltered
  · have hread : validFiltered x d = validFiltered (converted ch code v) d := by
      unfold validFiltered isValid statusOf chanOf
      rw [hxmu]
    rw [hread, validFiltered_converted_of_ne code hd, hv]
    rfl
  · rw [← hv, he, ← hy, close_cc, hscan.cc, hheater.cc_eq]
  · have hchan : (chargeConversion ch x).mu.chan = x.mu.chan := congrArg MeasureUnit.chan (chargeConversion_mu x ch)
    rw [← hv, he, ← hy, chanOf, close_mu_chan, leaveScan_chan, hheater.chan_eq, hy, hchan]
    rfl
  · rw [← hv, he, ← hy]
    exact mem_close_of_mem (hscan.handed _ ((hheater.handed_behind (by decide)).mem (hy ▸ hi)))

/-! ### Counting (R23, R24) -/

/-- Whole mAh moved out of a residue: exactly, or held at Cap or at 0 with residue 0. -/
theorem moveCharge_exact {cap c : Nat} {r total : Int} (hc : c ≤ cap) (htotal : total = (c : Int) * 360000 + r) :
    (((moveCharge cap c r).1 : Int) * 360000 + (moveCharge cap c r).2 = total ∧ (moveCharge cap c r).1 ≤ cap
      ∧ -360000 < (moveCharge cap c r).2 ∧ (moveCharge cap c r).2 < 360000)
      ∨ ((cap : Int) * 360000 + 360000 ≤ total ∧ moveCharge cap c r = (cap, 0))
      ∨ (total ≤ -360000 ∧ moveCharge cap c r = (0, 0)) := by
  obtain ⟨hcap, hlow, hhigh⟩ := moveCharge_bounds cap c r
  have hdiv : Int.tdiv r 360000 * 360000 + Int.tmod r 360000 = r := Int.tdiv_mul_add_tmod r 360000
  have hlt : Int.tmod r 360000 < 360000 := Int.tmod_lt_of_pos r (by decide)
  have hgt : -360000 < Int.tmod r 360000 := Int.lt_tmod_of_pos r (by decide)
  have hpos : 0 ≤ r → 0 ≤ Int.tmod r 360000 := fun h => Int.tmod_nonneg _ h
  have hneg : r ≤ 0 → Int.tmod r 360000 ≤ 0 := fun h => by
    have := Int.tmod_nonneg 360000 (show 0 ≤ -r by omega)
    rw [Int.neg_tmod] at this
    omega
  unfold moveCharge at hcap hlow hhigh ⊢
  dsimp only at hcap hlow hhigh ⊢
  split_ifs with hover hunder
  · refine .inr (.inl ⟨?_, rfl⟩)
    have := hpos (by omega)
    omega
  · refine .inr (.inr ⟨?_, rfl⟩)
    have := hneg (by omega)
    omega
  · rw [if_neg hover, if_neg hunder] at hcap hlow hhigh
    exact .inl ⟨by omega, hcap, hlow, hhigh⟩

/-- The charge with a sample of the current counted, before the raise it may call for. -/
def counted (i : Int) (c : Nat) (s : State) : State :=
  let m := moveCharge s.cfg.battery.cap c (s.cc.residue + contribution s.cfg.battery.eta (intervalFactor s.mu.scanMode) i)
  withCc (fun u => { u with c := some m.1, residue := m.2 }) s

theorem countCharge_some {c : Nat} (h : s.cc.c = some c) (i : Int) : Evaluated (counted i c s) (countCharge i s) := by
  unfold countCharge
  rw [h]
  dsimp only
  split
  · exact .raiseCheck (counted i c s)
  · exact .refl (counted i c s)

/-- A counted sample sets C and the residue alone, and raises. -/
theorem countCharge_spec (i : Int) (s : State) : ∃ c r, Evaluated (withCc (fun u => { u with c := c, residue := r }) s) (countCharge i s) := by
  cases h : s.cc.c with
  | none =>
    have hsame : countCharge i s = s := by
      unfold countCharge
      rw [h]
    refine ⟨s.cc.c, s.cc.residue, ?_⟩
    rw [hsame]
    exact .refl s
  | some c => exact ⟨_, _, countCharge_some h i⟩

/-! ### The full synchronisation (R27) and the rest hold (R28) -/

theorem fullCondition_iff {i : Int} (hvalid : isValid s .ih = true) : fullCondition (some i) s = true ↔
    ∃ vh, validFiltered s .vh = some vh ∧ (s.cfg.battery.vFull : Int) ≤ vh ∧ 0 ≤ i ∧ i ≤ (s.cfg.battery.iTail : Int) := by
  unfold fullCondition
  cases validFiltered s .vh with
  | none => simp
  | some vh => simp [hvalid, and_assoc]

/-- The charge at a full synchronisation. -/
def fullyCharged (s : State) : State := withCc (fun c => { c with
  c := some s.cfg.battery.cap, residue := 0, source := .counted, estimated := false, fullHold := some s.su.elapsed }) s

/-- The hold of the full synchronisation after a conversion, and the synchronisation. -/
theorem fullSync_eq (i : Option Int) (s : State) : fullSync i s = if fullCondition i s then
      (if s.cc.fullHold.any (fun t => decide (t + 120 ≤ s.su.elapsed)) then syncNotice .full (evaluateRaise (fullyCharged s))
        else withCc (fun c => { c with fullHold := some (s.cc.fullHold.getD s.su.elapsed) }) s)
    else withCc (fun c => { c with fullHold := none }) s := by
  unfold fullSync
  split
  · cases h : s.cc.fullHold with
    | none => rfl
    | some t =>
      dsimp only [Option.any_some]
      by_cases ht : t + 120 ≤ s.su.elapsed
      · rw [if_pos ht, if_pos (decide_eq_true ht)]
        rfl
      · rw [if_neg ht, if_neg (by simpa using ht), Option.getD_some, ← h]
        rfl
  · rfl

theorem restHoldStep_eq (i : Int) (s : State) : restHoldStep i s = withCc (fun c => { c with
    restHold := if -20 ≤ i ∧ i ≤ 20 then some (s.cc.restHold.getD s.su.elapsed) else none }) s := by
  unfold restHoldStep
  split
  · cases h : s.cc.restHold with
    | none => rfl
    | some t =>
      dsimp only
      rw [Option.getD_some, ← h]
      rfl
  · rfl

theorem mem_syncNotice {k : SyncKind} {c : Nat} (hc : s.cc.c = some c) :
    .noticePost ⟨.chargeSync, .cc, .info, false, byte (syncCode k) :: leBytes 2 ((c * 1000 / s.cfg.battery.cap : Nat) : Int)⟩
      ∈ (syncNotice k s).handed := by
  refine List.mem_append_right _ (List.mem_singleton.2 ?_)
  rw [hc]
  rfl

/-- A counted sample joined to the minute's sum. -/
def sampled (i : Int) (s : State) : State :=
  withCc (fun c => { c with accSum := c.accSum + i, accCount := c.accCount + 1 }) (countCharge i s)

/-- What a counted sample leaves of what its conversion goes on to judge. -/
structure Sampled (i : Int) (s t : State) : Prop where
  fullHold : t.cc.fullHold = s.cc.fullHold
  restHold : t.cc.restHold = s.cc.restHold
  accSum : t.cc.accSum = s.cc.accSum + i
  accCount : t.cc.accCount = s.cc.accCount + 1
  cfg : t.cfg = s.cfg
  su : t.su = s.su
  chan : t.mu.chan = s.mu.chan

theorem sampled_spec (i : Int) (s : State) : Sampled i s (sampled i s) := by
  obtain ⟨c, r, h⟩ := countCharge_spec i s
  exact ⟨h.fullHold, h.restHold, congrArg (· + i) h.accSum, congrArg (· + 1) h.accCount, h.cfg, h.su, h.chan⟩

theorem chargeIh_valid {i : Int} (hvalid : isValid s .ih = true) (hsample : (chanOf s .ih).sample = some i) :
    chargeIh s = restHoldStep i (fullSync (some i) (sampled i s)) := by
  unfold chargeIh
  dsimp only
  rw [hvalid, hsample]
  rfl

/-- What a synchronisation's step keeps of the charge counter. -/
theorem fullSync_keeps (i : Option Int) (s : State) : (fullSync i s).cc.accSum = s.cc.accSum
    ∧ (fullSync i s).cc.accCount = s.cc.accCount ∧ (fullSync i s).cc.restHold = s.cc.restHold ∧ (fullSync i s).su = s.su := by
  rw [fullSync_eq]
  split
  · split
    · have h := Evaluated.evaluateRaise (fullyCharged s)
      exact ⟨h.accSum, h.accCount, h.restHold, h.su⟩
    · exact ⟨rfl, rfl, rfl, rfl⟩
  · exact ⟨rfl, rfl, rfl, rfl⟩

/-- With no hold running, no synchronisation is made. -/
theorem fullSync_unheld {i : Option Int} (h : s.cc.fullHold = none) :
    (fullSync i s).cc.c = s.cc.c ∧ (fullSync i s).cc.residue = s.cc.residue := by
  rw [fullSync_eq, h]
  split
  · rw [if_neg (by simp)]
    exact ⟨rfl, rfl⟩
  · exact ⟨rfl, rfl⟩

/-- Whether a conversion of the current finds the battery full (R27). -/
abbrev findsFull (s : State) (i : Int) : Prop :=
  statusOf s .vh = .valid ∧ (chanOf s .vh).filtered.any (fun vh => decide ((s.cfg.battery.vFull : Int) ≤ vh)) = true
    ∧ 0 ≤ i ∧ i ≤ (s.cfg.battery.iTail : Int)

theorem validFiltered_iff (s : State) (ch : Channel) (v : Int) :
    validFiltered s ch = some v ↔ statusOf s ch = .valid ∧ (chanOf s ch).filtered = some v := by
  unfold validFiltered isValid
  split
  · rename_i h
    simp [beq_iff_eq.1 h]
  · rename_i h
    simp [show statusOf s ch ≠ .valid by simpa using h]

theorem fullCondition_sampled {i : Int} (hu : ChargeFinds .ih code s u) :
    fullCondition (some i) (sampled i u) = true ↔ findsFull s i := by
  have hsampled := sampled_spec i u
  have hvalid : isValid (sampled i u) .ih = true := by
    rw [← hu.valid, isValid, isValid, statusOf, statusOf, chanOf, chanOf, hsampled.chan]
  have hvh : validFiltered (sampled i u) .vh = validFiltered s .vh := by
    rw [← hu.other .vh (by decide)]
    unfold validFiltered isValid statusOf chanOf
    rw [hsampled.chan]
  rw [fullCondition_iff hvalid, hvh, hsampled.cfg, hu.cfg]
  simp only [validFiltered_iff]
  constructor
  · rintro ⟨vh, ⟨hst, hf⟩, hfull, hlo, hhi⟩
    exact ⟨hst, by rw [hf]; exact decide_eq_true hfull, hlo, hhi⟩
  · rintro ⟨hst, hany, hlo, hhi⟩
    obtain ⟨vh, hf, hfull⟩ := (Option.any_eq_true ..).1 hany
    exact ⟨vh, ⟨hst, hf⟩, of_decide_eq_true hfull, hlo, hhi⟩

/-! ### The start estimate (R26) -/

/-- The charge as the start estimate sets it. -/
def estimatedFrom (vh : Int) (s : State) : State :=
  withCc (fun c => { c with estimated := true, starting := false }) (setFromOcv vh s)

theorem guardStep_spec (vh : Int) (s : State) : ∃ low cut, Evaluated (withCc (fun c => { c with low := low, cut := cut }) s) (guardStep vh s) :=
  ⟨_, _, .raiseCheck _⟩

theorem startEstimate_eq {vh : Int} (h1 : s.cc.starting = true) (h2 : 30 ≤ s.su.elapsed) :
    startEstimate vh s = syncNotice .start (evaluateRaise (estimatedFrom vh s)) := if_pos ⟨h1, h2⟩

/-- The charge content that the table gives a filtered VH. -/
abbrev ocvCharge (b : Battery) (vh : Int) : Nat := ocvLookup b vh * b.cap / 1000

/-- What the start estimate leaves. -/
structure Estimated (vh : Int) (s t : State) : Prop where
  c : t.cc.c = some (ocvCharge s.cfg.battery vh)
  residue : t.cc.residue = 0
  source : t.cc.source = .ocv
  estimated : t.cc.estimated = true
  starting : t.cc.starting = false
  notice : .noticePost ⟨.chargeSync, .cc, .info, false, 0 :: leBytes 2
    ((ocvCharge s.cfg.battery vh * 1000 / s.cfg.battery.cap : Nat) : Int)⟩ ∈ t.handed

theorem chargeVh_estimates {vh : Int} (hvalid : validFiltered s .vh = some vh) (h1 : s.cc.starting = true) (h2 : 30 ≤ s.su.elapsed) :
    Estimated vh s (chargeVh s) := by
  obtain ⟨low, cut, hguard⟩ := guardStep_spec vh s
  have hestimate : chargeVh s = syncNotice .start (evaluateRaise (estimatedFrom vh (guardStep vh s))) := by
    unfold chargeVh
    rw [hvalid]
    exact startEstimate_eq (hguard.starting.trans h1) (by rw [hguard.su]; exact h2)
  have hraise := Evaluated.evaluateRaise (estimatedFrom vh (guardStep vh s))
  have hcfg : (guardStep vh s).cfg = s.cfg := hguard.cfg
  have hc : (evaluateRaise (estimatedFrom vh (guardStep vh s))).cc.c = some (ocvCharge s.cfg.battery vh) := by
    rw [← hcfg]
    exact hraise.c
  rw [hestimate]
  refine ⟨hc, hraise.residue, hraise.source, hraise.estimated, hraise.starting, ?_⟩
  have hnotice := mem_syncNotice (k := .start) hc
  rw [hraise.cfg] at hnotice
  rw [← hcfg]
  rw [← hcfg] at hnotice
  exact hnotice

end Sys2Proof.Machine

namespace Sys2Proof.Proofs

open Sys2Proof Sys2Proof.Machine

/-- Settles O27: the counted sample, the start estimate, and the synchronisation with its hold. -/
theorem chargeIsCountedAndEstimated : Obligations.ChargeIsCountedAndEstimated := by
  refine ⟨fun code s hrun hnext hhold hsound c hc => ?_, fun code s hrun hnext hstarting helapsed => ?_, fun code s hrun hnext => ?_⟩
  · intro i f total
    obtain ⟨t, u, hexec, hu, hcc, -, -⟩ := exec_chargeConversion (.inr rfl) hrun hnext
    have hucc := hu.cc
    have hih := chargeIh_valid hu.valid hu.sample
    have huhold : u.cc.fullHold = none := by rw [hucc]; exact hhold
    obtain ⟨hc', hr'⟩ := fullSync_unheld (i := some i) (s := sampled i u) ((sampled_spec i u).fullHold.trans huhold)
    have hcounted := countCharge_some (c := c) (by rw [hucc]; exact hc) i
    have htc : t.cc.c = some (moveCharge s.cfg.battery.cap c (s.cc.residue + contribution s.cfg.battery.eta (intervalFactor s.mu.scanMode) i)).1 := by
      rw [hcc]
      change (chargeIh u).cc.c = _
      rw [hih, restHoldStep_eq]
      refine hc'.trans (hcounted.c.trans ?_)
      rw [counted, hu.cfg, hu.scanMode, hucc]
      rfl
    have htr : t.cc.residue = (moveCharge s.cfg.battery.cap c (s.cc.residue + contribution s.cfg.battery.eta (intervalFactor s.mu.scanMode) i)).2 := by
      rw [hcc]
      change (chargeIh u).cc.residue = _
      rw [hih, restHoldStep_eq]
      refine hr'.trans (hcounted.residue.trans ?_)
      rw [counted, hu.cfg, hu.scanMode, hucc]
      rfl
    have hle : c ≤ s.cfg.battery.cap := hsound.1 c hc
    have htotal : total = (c : Int) * 360000 + (s.cc.residue + contribution s.cfg.battery.eta (intervalFactor s.mu.scanMode) i) := by
      have hf : f = (intervalFactor s.mu.scanMode : Int) := by
        unfold f intervalFactor
        cases s.mu.scanMode <;> rfl
      unfold total contribution
      rw [hf]
      split
      · push_cast
        ring
      · push_cast
        ring
    refine ⟨t, hexec, ?_⟩
    rw [htc, htr]
    obtain ⟨hexact, hcap, hlo, hhi⟩ | ⟨hover, e⟩ | ⟨hunder, e⟩ := moveCharge_exact hle htotal
    · exact .inl ⟨_, rfl, hexact, hcap, hlo, hhi⟩
    · rw [e]
      exact .inr (.inl ⟨hover, rfl, rfl⟩)
    · rw [e]
      exact .inr (.inr ⟨hunder, rfl, rfl⟩)
  · obtain ⟨t, u, hexec, hu, hcc, hchan, hhanded⟩ := exec_chargeConversion (.inl rfl) hrun hnext
    have hucc := hu.cc
    have hread : validFiltered u .vh = some (filteredAt s .vh code) := (validFiltered_iff ..).2 ⟨beq_iff_eq.1 hu.valid, hu.filtered⟩
    obtain ⟨hc, hr, hsource, hestimated, hstart, hnotice⟩ :=
      chargeVh_estimates hread (by rw [hucc]; exact hstarting) (by rw [hu.su]; exact helapsed)
    rw [hu.cfg] at hc hnotice
    refine ⟨t, hexec, ⟨filteredAt s .vh code, (congrArg ChanEntry.filtered (hchan .vh)).trans hu.filtered, ?_, hhanded _ hnotice⟩, ?_⟩
    · rw [hcc]
      exact hc
    · rw [hcc]
      exact ⟨hr, hsource, hestimated, hstart⟩
  · intro i full
    obtain ⟨t, u, hexec, hu, hcc, -, hhanded⟩ := exec_chargeConversion (.inr rfl) hrun hnext
    have hucc := hu.cc
    have hfull : fullCondition (some i) (sampled i u) = true ↔ full := fullCondition_sampled hu
    obtain ⟨hhold, hrest, hsum, hcount, hcfg, hsu, -⟩ := sampled_spec i u
    obtain ⟨ksum, kcount, krest, ksu⟩ := fullSync_keeps (some i) (sampled i u)
    have hih : chargeConversion .ih u = restHoldStep i (fullSync (some i) (sampled i u)) := chargeIh_valid hu.valid hu.sample
    rw [hih, restHoldStep_eq] at hcc hhanded
    have helapsed : (sampled i u).su.elapsed = s.su.elapsed := by rw [hsu, hu.su]
    have huhold : (sampled i u).cc.fullHold = s.cc.fullHold := by rw [hhold, hucc]
    have hsync := fullSync_eq (some i) (sampled i u)
    rw [huhold, helapsed] at hsync
    refine ⟨t, hexec, fun hno => ?_, fun hyes hnone => ?_, fun hyes h hs hlt => ?_, fun hyes h hs hle => ?_, ?_, ?_, ?_⟩
    · rw [if_neg (mt hfull.1 hno)] at hsync
      rw [hcc, hsync]
      rfl
    · rw [if_pos (hfull.2 hyes), hnone, if_neg (by simp)] at hsync
      rw [hcc, hsync]
      rfl
    · rw [if_pos (hfull.2 hyes), hs, if_neg (by simpa using hlt)] at hsync
      rw [hcc, hsync]
      rfl
    · rw [if_pos (hfull.2 hyes), hs, if_pos (by simpa using hle)] at hsync
      have hraise := Evaluated.evaluateRaise (fullyCharged (sampled i u))
      have hcap : (fullyCharged (sampled i u)).cc.c = some s.cfg.battery.cap := by
        rw [← hu.cfg, ← hcfg]
        rfl
      have hnotice := mem_syncNotice (k := .full) (hraise.c.trans hcap)
      rw [hraise.cfg, show (fullyCharged (sampled i u)).cfg = s.cfg from hcfg.trans hu.cfg] at hnotice
      rw [hcc, hsync]
      refine ⟨hraise.c.trans hcap, hraise.residue, hraise.source, hraise.estimated, ?_, hhanded _ ?_⟩
      · rw [← helapsed]
        exact hraise.fullHold
      · rw [hsync]
        exact hnotice
    · rw [hcc]
      change (if _ then some ((fullSync (some i) (sampled i u)).cc.restHold.getD (fullSync (some i) (sampled i u)).su.elapsed) else none) = _
      rw [krest, ksu, helapsed, hrest, hucc]
    · rw [hcc]
      exact ksum.trans (hsum.trans (by rw [hucc]))
    · rw [hcc]
      exact kcount.trans (hcount.trans (by rw [hucc]))

end Sys2Proof.Proofs
end

section
/-! PROOFS. The evaluations of the shed level with the budget, at minute ends and a changed horizon. -/

namespace Sys2Proof.Machine

-- One proof after another: started together they wait for one another, each on a thread of its own.
set_option Elab.async false

variable {s t u w : State} {ch : Channel} {code : Nat}

/-! ### The level and its budget (R34 to R36) -/

/-- The notice of a level's change, whatever its cause. -/
def levelPosted (old new : ShedLevel) (s : State) : Prop :=
  ∃ cause, .noticePost ⟨.shedLevel, .cc, levelSeverity new, false, [byte (levelCode new), byte (levelCode old), cause]⟩ ∈ s.handed

/-- The level, the relief count and its ceiling as an evaluation of `s` left them, with the budget that follows the level. -/
structure Levelled (s : State) (level : ShedLevel) (relief : Nat) (ceiling : Option ShedLevel) (t : State) : Prop where
  cc : t.cc = { s.cc with
    level := level, relief := relief, ceiling := ceiling, budget := budgetOf s.cfg.battery level s.cc.c s.cc.horizon }
  posted : level ≠ s.cc.level → levelPosted s.cc.level level t

theorem updateBudget_cc_eq (s : State) : (updateBudget s).cc = { s.cc with budget := budgetNow s } := by
  unfold updateBudget
  dsimp only
  split
  · rename_i h
    rw [h]
  · rfl

theorem levelled_updateBudget (relief : Nat) (ceiling : Option ShedLevel) (s : State) :
    Levelled s s.cc.level relief ceiling (updateBudget (withCc (fun c => { c with relief := relief, ceiling := ceiling }) s)) :=
  ⟨updateBudget_cc_eq _, fun h => absurd rfl h⟩

theorem levelled_moveLevel (new : ShedLevel) (cause : LevelCause) (s : State) :
    Levelled s new 0 none (moveLevel new cause (withCc (fun c => { c with relief := 0, ceiling := none }) s)) :=
  ⟨rfl, fun _ => ⟨byte (levelCauseCode cause), List.mem_append_right _ (List.mem_singleton_self _)⟩⟩

theorem levelled_raiseNow (s : State) : Levelled s (combinedTarget s.cc) 0 none (raiseNow s) := levelled_moveLevel _ _ s

theorem levelled_held (s : State) : Levelled s s.cc.level s.cc.relief s.cc.ceiling (updateBudget s) :=
  ⟨updateBudget_cc_eq s, fun h => absurd rfl h⟩

theorem worse_cutoff (a : ShedLevel) : worse a .cutoff = .cutoff := by cases a <;> rfl

theorem worse_reserve (a : ShedLevel) : worse a .reserve = if a = .cutoff then .cutoff else .reserve := by cases a <;> rfl

theorem combinedTarget_eq (u : ChargeUnit) : combinedTarget u = targetLevel u := by
  unfold combinedTarget targetLevel
  by_cases hempty : u.c = some 0
  · simp [hempty, worse_cutoff]
  cases u.cut.flag with
  | true => simp [hempty, worse_cutoff]
  | false =>
    cases u.low.flag with
    | true => by_cases hcount : u.countTarget = .cutoff <;> simp [hempty, worse_reserve, hcount]
    | false => simp [hempty]

/-- Levels of one code are one level. -/
theorem levelCode_inj {a b : ShedLevel} (h : levelCode a = levelCode b) : a = b := by
  cases a <;> cases b <;> first | rfl | cases h

theorem callsRaise_iff (s : State) :
    callsRaise s = true ↔ s.cc.sensorHold = false ∧ levelCode s.cc.level < levelCode (targetLevel s.cc) := by
  rw [← combinedTarget_eq]
  simp [callsRaise]

/-- Where a sensor hold stands, an evaluation keeps the level. -/
theorem evaluateFull_held (h : s.cc.sensorHold = true) :
    Levelled (reckon s) s.cc.level s.cc.relief s.cc.ceiling (evaluateFull s) := by
  have he : evaluateFull s = updateBudget (reckon s) := if_pos h
  rw [he]
  exact levelled_held (reckon s)

theorem evaluateFull_free (h : s.cc.sensorHold = false) :
    evaluateFull s = if callsRaise (reckon s) then raiseNow (reckon s) else relieve (reckon s) := by
  have hfree : ¬(reckon s).cc.sensorHold = true := by simp [reckon, withCc, h]
  exact if_neg hfree

/-- A level below the combined target is raised to it at once. -/
theorem evaluateFull_raised (h : s.cc.sensorHold = false) (hlt : levelCode s.cc.level < levelCode (targetLevel (reckon s).cc)) :
    Levelled (reckon s) (targetLevel (reckon s).cc) 0 none (evaluateFull s) := by
  rw [evaluateFull_free h, if_pos ((callsRaise_iff (reckon s)).2 ⟨h, hlt⟩), ← combinedTarget_eq]
  exact levelled_raiseNow _

/-- A level at the combined target is held. -/
theorem evaluateFull_at (h : s.cc.sensorHold = false) (heq : s.cc.level = targetLevel (reckon s).cc) :
    Levelled (reckon s) s.cc.level 0 none (evaluateFull s) := by
  have hraise : ¬callsRaise (reckon s) = true := fun hr => by
    have hlt : levelCode s.cc.level < levelCode (targetLevel (reckon s).cc) := ((callsRaise_iff _).1 hr).2
    exact absurd (heq ▸ hlt) (lt_irrefl _)
  have hat : combinedTarget (reckon s).cc = (reckon s).cc.level := (combinedTarget_eq _).trans heq.symm
  rw [evaluateFull_free h, if_neg hraise, relieve, if_pos hat]
  exact levelled_updateBudget 0 none (reckon s)

/-- The ceiling that a relief goes to. -/
def reliefTop (ceiling : Option ShedLevel) (target : ShedLevel) : ShedLevel := match ceiling with | some k => worse k target | none => target

theorem relieve_eq (s : State) : relieve s =
    if combinedTarget s.cc = s.cc.level then updateBudget (withCc (fun c => { c with relief := 0, ceiling := none }) s)
    else if 4 ≤ s.cc.relief then
      moveLevel (reliefTop s.cc.ceiling (combinedTarget s.cc)) .relief (withCc (fun c => { c with relief := 0, ceiling := none }) s)
    else updateBudget (withCc (fun c => { c with
      relief := c.relief + 1, ceiling := some (reliefTop s.cc.ceiling (combinedTarget s.cc)) }) s) := rfl

/-- A level above the combined target is relieved at the fifth evaluation that finds it so. -/
theorem evaluateFull_below (h : s.cc.sensorHold = false) (hlt : levelCode (targetLevel (reckon s).cc) < levelCode s.cc.level) :
    Levelled (reckon s) (if 4 ≤ s.cc.relief then reliefTop s.cc.ceiling (targetLevel (reckon s).cc) else s.cc.level)
      (if 4 ≤ s.cc.relief then 0 else s.cc.relief + 1)
      (if 4 ≤ s.cc.relief then none else some (reliefTop s.cc.ceiling (targetLevel (reckon s).cc))) (evaluateFull s) := by
  have hraise : ¬callsRaise (reckon s) = true := fun hr => by
    have hgt : levelCode s.cc.level < levelCode (targetLevel (reckon s).cc) := ((callsRaise_iff _).1 hr).2
    exact absurd (hlt.trans hgt) (lt_irrefl _)
  have hne : ¬combinedTarget (reckon s).cc = (reckon s).cc.level := fun e => by
    rw [combinedTarget_eq] at e
    exact absurd hlt (by rw [e]; exact lt_irrefl _)
  rw [evaluateFull_free h, if_neg hraise, relieve_eq, if_neg hne, combinedTarget_eq]
  by_cases hfour : 4 ≤ s.cc.relief
  · rw [if_pos hfour, if_pos hfour, if_pos hfour, if_pos (show 4 ≤ (reckon s).cc.relief from hfour)]
    exact levelled_moveLevel _ _ (reckon s)
  · rw [if_neg hfour, if_neg hfour, if_neg hfour, if_neg (show ¬4 ≤ (reckon s).cc.relief from hfour)]
    exact levelled_updateBudget _ _ (reckon s)

/-! ### What an evaluation forms (R30, R32) -/

theorem evaluateFull_levelled (s : State) : ∃ l r k, Levelled (reckon s) l r k (evaluateFull s) := by
  cases h : s.cc.sensorHold with
  | true => exact ⟨_, _, _, evaluateFull_held h⟩
  | false =>
    obtain hlt | heq | hgt := lt_trichotomy (levelCode s.cc.level) (levelCode (targetLevel (reckon s).cc))
    · exact ⟨_, _, _, evaluateFull_raised h hlt⟩
    · exact ⟨_, _, _, evaluateFull_at h (levelCode_inj heq)⟩
    · exact ⟨_, _, _, evaluateFull_below h hgt⟩

/-- What a full evaluation judges by stands as it did. -/
structure SameFindings (s w : State) : Prop where
  status : statusOf w .ih = statusOf s .ih
  cfg : w.cfg = s.cfg
  su : w.su = s.su
  level : w.cc.level = s.cc.level
  sensorHold : w.cc.sensorHold = s.cc.sensorHold
  relief : w.cc.relief = s.cc.relief
  ceiling : w.cc.ceiling = s.cc.ceiling

theorem SameFindings.trans (h : SameFindings s w) (k : SameFindings w u) : SameFindings s u :=
  ⟨k.status.trans h.status, k.cfg.trans h.cfg, k.su.trans h.su, k.level.trans h.level, k.sensorHold.trans h.sensorHold,
    k.relief.trans h.relief, k.ceiling.trans h.ceiling⟩

theorem enduranceOf_eq (f : SameFindings s w) (c : Option Nat) (i : Option Int) : enduranceOf s.cfg.battery (isValid w .ih) c i =
    (match c, i with
      | some c, some i =>
        if statusOf s .ih ≠ .valid then none
        else if i ≤ 0 then some 65535
        else if c ≤ s.cfg.battery.cap * s.cfg.battery.reserve / 100 then some 0
        else some (min 65534 ((c - s.cfg.battery.cap * s.cfg.battery.reserve / 100) * 60 / i.toNat))
      | _, _ => none) := by
  have hvalid : isValid w .ih = (statusOf s .ih == .valid) := by rw [isValid, f.status]
  unfold enduranceOf reserveCharge
  rw [hvalid]
  cases c with
  | none => rfl
  | some c =>
    cases i with
    | none => rfl
    | some i => by_cases h : statusOf s .ih = .valid <;> simp [h]

theorem countTargetOf_eq (f : SameFindings s w) (e : Option Nat) : countTargetOf w e =
    (match w.cc.c with
      | none => if w.cc.starting = true ∧ s.su.elapsed < 30 then .normal else .reserve
      | some c =>
        if c ≤ s.cfg.battery.cap * s.cfg.battery.reserve / 100 then .reserve
        else if e.any (fun e => e < w.cc.horizon + s.cfg.battery.margin) then .conserve else .normal) := by
  unfold countTargetOf reserveCharge
  rw [f.cfg, f.su]
  cases w.cc.c with
  | none => rfl
  | some c =>
    dsimp only
    split
    · rfl
    · cases e with
      | none => rfl
      | some e => by_cases h : w.cc.horizon + s.cfg.battery.margin ≤ e <;> simp [h]

/-- A full evaluation, told by what it finds and what it leaves (R30 to R35, R38). -/
theorem fullyEvaluated_of (f : SameFindings s w) (ht : t.cc = (evaluateFull w).cc) : fullyEvaluated s t := by
  obtain ⟨l, r, k, hl⟩ := evaluateFull_levelled w
  have hcc := ht.trans hl.cc
  have htarget : targetLevel t.cc = targetLevel (reckon w).cc := by rw [hcc]; rfl
  unfold fullyEvaluated
  dsimp only
  refine ⟨?_, ?_, ?_, fun hhold => ?_, fun hfree hlt => ?_, fun hfree heq => ?_, fun hfree hlt => ?_, ?_⟩
  · rw [hcc]
    rfl
  · rw [hcc]
    change enduranceOf w.cfg.battery (isValid w .ih) w.cc.c (averageDraw w.cc.window) = _
    rw [f.cfg, enduranceOf_eq f]
    rfl
  · rw [hcc]
    change countTargetOf w _ = _
    rw [countTargetOf_eq f]
    rfl
  · rw [ht, (evaluateFull_held (f.sensorHold.trans hhold)).cc, f.level]
  · rw [htarget] at hlt ⊢
    rw [ht, (evaluateFull_raised (f.sensorHold.trans hfree) (by rw [f.level]; exact hlt)).cc]
    exact ⟨rfl, rfl, rfl⟩
  · rw [htarget] at heq
    rw [ht, (evaluateFull_at (f.sensorHold.trans hfree) (f.level.trans heq)).cc, f.level]
    exact ⟨rfl, rfl, rfl⟩
  · rw [htarget] at hlt ⊢
    have hbelow := (evaluateFull_below (f.sensorHold.trans hfree) (by rw [f.level]; exact hlt)).cc
    rw [f.relief, f.ceiling, f.level] at hbelow
    rw [ht, hbelow]
    refine ⟨fun h4 => ?_, fun h4 => ?_⟩
    · rw [if_neg (by omega), if_neg (by omega), if_neg (by omega)]
      exact ⟨rfl, rfl, by cases s.cc.ceiling <;> rfl⟩
    · rw [if_pos h4, if_pos h4, if_pos h4]
      exact ⟨by cases s.cc.ceiling <;> rfl, rfl, rfl⟩
  · rw [hcc]
    change budgetOf w.cfg.battery l w.cc.c w.cc.horizon = _
    rw [f.cfg]
    cases l <;> rfl

/-- A level that a full evaluation changed is posted. -/
theorem evaluateFull_posted (h : (evaluateFull s).cc.level ≠ s.cc.level) : levelPosted s.cc.level (evaluateFull s).cc.level (evaluateFull s) := by
  obtain ⟨l, r, k, hl⟩ := evaluateFull_levelled s
  have hlevel : (evaluateFull s).cc.level = l := (congrArg ChargeUnit.level hl.cc :)
  rw [hlevel] at h ⊢
  exact hl.posted h

theorem Evaluated.relieve (s : State) : Evaluated s (relieve s) := by
  refine ⟨?_, moves_relieve s⟩
  have hupdate : ∀ (r : Nat) (k : Option ShedLevel), chargeCore (Machine.updateBudget (withCc (fun c => { c with relief := r, ceiling := k }) s)).cc
      = chargeCore s.cc := fun r k => by
    rw [updateBudget_cc_eq]
    rfl
  rw [relieve_eq]
  split
  · exact hupdate _ _
  · split
    · rw [(levelled_moveLevel (reliefTop s.cc.ceiling (combinedTarget s.cc)) .relief s).cc]
      rfl
    · exact hupdate _ _

theorem Evaluated.evaluateFull (s : State) : Evaluated s (evaluateFull s) := by
  unfold Machine.evaluateFull
  dsimp only
  split
  · exact (reckon s).trans (updateBudget _)
  · split
    · exact (reckon s).trans (raiseNow _)
    · exact (reckon s).trans (relieve _)

end Sys2Proof.Machine
end

section
/-! PROOFS. The minute's end, the voltage guard, and the sensor hold. -/

namespace Sys2Proof.Machine

-- One proof after another: started together they wait for one another, each on a thread of its own.
set_option Elab.async false

variable {s t u w : State} {ch : Channel} {code : Nat}

theorem isValid_iff (s : State) (ch : Channel) : isValid s ch = true ↔ statusOf s ch = .valid := beq_iff_eq

/-! ### The minute's end (R28, R29, R37) -/

/-- The charge counter less what a lookup of the voltage sets. -/
def lookupCore (u : ChargeUnit) : ChargeUnit := { u with c := none, residue := 0, source := .ocv, estimated := false, starting := false }

/-- A lookup of the voltage sets the charge alone. -/
structure LookedUp (s t : State) : Prop where
  core : lookupCore t.cc = lookupCore s.cc
  cfg : t.cfg = s.cfg
  su : t.su = s.su
  mu : t.mu = s.mu

theorem LookedUp.refl (s : State) : LookedUp s s := ⟨rfl, rfl, rfl, rfl⟩

theorem LookedUp.trans (h : LookedUp s t) (k : LookedUp t u) : LookedUp s u :=
  ⟨k.core.trans h.core, k.cfg.trans h.cfg, k.su.trans h.su, k.mu.trans h.mu⟩

theorem LookedUp.findings (h : LookedUp s t) : SameFindings s t where
  status := by rw [statusOf, chanOf, h.mu]; rfl
  cfg := h.cfg
  su := h.su
  level := (congrArg ChargeUnit.level h.core :)
  sensorHold := (congrArg ChargeUnit.sensorHold h.core :)
  relief := (congrArg ChargeUnit.relief h.core :)
  ceiling := (congrArg ChargeUnit.ceiling h.core :)

theorem closeMinute_findings (s : State) : SameFindings s (closeMinute s) := ⟨rfl, rfl, rfl, rfl, rfl, rfl, rfl⟩

/-- Whether a resync differs from the count by more than 50 per mille (R28). -/
abbrev resyncs (b : Battery) (vh : Int) (c : Nat) : Prop :=
  c * 1000 / b.cap + 50 < ocvLookup b vh ∨ ocvLookup b vh + 50 < c * 1000 / b.cap

theorem fallbackLookup_valid (h : isValid s .ih = true) : fallbackLookup s = s := by
  unfold fallbackLookup
  split
  · exact if_pos h
  · rfl

theorem fallbackLookup_invalid {vh : Int} (hvh : validFiltered s .vh = some vh) (h : isValid s .ih = false) :
    fallbackLookup s = estimatedFrom vh s := by
  unfold fallbackLookup
  rw [hvh]
  exact if_neg (by simp [h])

theorem fallbackLookup_lookedUp (s : State) : LookedUp s (fallbackLookup s) := by
  unfold fallbackLookup
  split
  · split
    · exact .refl s
    · exact ⟨rfl, rfl, rfl, rfl⟩
  · exact .refl s

theorem ocvResync_unheld (h : s.cc.restHold = none) : ocvResync s = s := by
  unfold ocvResync
  rw [h]

theorem ocvResync_held {vh : Int} {t c : Nat} (hhold : s.cc.restHold = some t) (hvh : validFiltered s .vh = some vh) (hc : s.cc.c = some c)
    (ht : t + 3600 ≤ s.su.elapsed) :
    ocvResync s = if resyncs s.cfg.battery vh c then syncNotice .ocv (setFromOcv vh s) else s := by
  unfold ocvResync socOf
  rw [hhold, hvh, hc]
  dsimp only
  refine if_congr ?_ rfl rfl
  constructor
  · rintro ⟨-, h | h⟩
    · exact .inl (by omega)
    · exact .inr (by omega)
  · rintro (h | h)
    · exact ⟨ht, .inl (by omega)⟩
    · exact ⟨ht, .inr (by omega)⟩

theorem ocvResync_lookedUp (s : State) : LookedUp s (ocvResync s) := by
  unfold ocvResync
  split
  · dsimp only
    split
    · exact ⟨rfl, rfl, rfl, rfl⟩
    · exact .refl s
  · exact .refl s

/-- The charge counter at a minute's end, before its evaluation. -/
def minuteCharged (s : State) : State := ocvResync (fallbackLookup (closeMinute s))

theorem minuteCharged_lookedUp (s : State) : LookedUp (closeMinute s) (minuteCharged s) :=
  (fallbackLookup_lookedUp _).trans (ocvResync_lookedUp _)

theorem minuteCharged_findings (s : State) : SameFindings s (minuteCharged s) :=
  (closeMinute_findings s).trans (minuteCharged_lookedUp s).findings

/-- What a minute's end leaves of the window and of the sum. -/
theorem minuteEnd_closed (s : State) : (minuteEnd s).cc.window = (closeMinute s).cc.window
    ∧ (minuteEnd s).cc.accSum = 0 ∧ (minuteEnd s).cc.accCount = 0 := by
  have h := minuteCharged_lookedUp s
  have he := Evaluated.evaluateFull (minuteCharged s)
  exact ⟨he.window.trans (congrArg ChargeUnit.window h.core :), he.accSum.trans (congrArg ChargeUnit.accSum h.core :),
    he.accCount.trans (congrArg ChargeUnit.accCount h.core :)⟩

theorem closeMinute_window_kept (hlen : s.cc.window.length ≤ 16) (h : statusOf s .ih ≠ .valid ∨ s.cc.accCount = 0) :
    (closeMinute s).cc.window = s.cc.window := by
  have hno : ¬(isValid s .ih = true ∧ 0 < s.cc.accCount) := by
    rintro ⟨hvalid, hcount⟩
    obtain h | h := h
    · exact h (beq_iff_eq.1 hvalid)
    · omega
  unfold closeMinute
  dsimp only [withCc]
  rw [if_neg hno, if_neg (by omega)]

theorem closeMinute_window_appended (hlen : s.cc.window.length ≤ 16) (hvalid : statusOf s .ih = .valid) (hcount : 0 < s.cc.accCount) :
    (closeMinute s).cc.window = (if s.cc.window.length = 16 then s.cc.window.tail else s.cc.window)
      ++ [⟨stampNow s, Int.tdiv (s.cc.accSum * 10) (s.cc.accCount : Int)⟩] := by
  have hyes : isValid s .ih = true ∧ 0 < s.cc.accCount := ⟨beq_iff_eq.2 hvalid, hcount⟩
  unfold closeMinute
  dsimp only [withCc]
  rw [if_pos hyes, List.length_append, List.length_singleton]
  by_cases hfull : s.cc.window.length = 16
  · rw [if_pos (by omega), if_pos hfull]
    exact List.tail_append_of_ne_nil (List.ne_nil_of_length_pos (by omega))
  · rw [if_neg (by omega), if_neg hfull]

/-- A minute's end without a VALID IH sets C from the voltage (R37). -/
theorem minuteCharged_estimated {vh : Int} (hvh : validFiltered s .vh = some vh) (hih : statusOf s .ih ≠ .valid) (hrest : s.cc.restHold = none) :
    minuteCharged s = estimatedFrom vh (closeMinute s) := by
  have hinvalid : isValid (closeMinute s) .ih = false := beq_eq_false_iff_ne.2 hih
  rw [minuteCharged, fallbackLookup_invalid (s := closeMinute s) hvh hinvalid, ocvResync_unheld (s := estimatedFrom vh (closeMinute s)) hrest]

/-- A minute's end with a VALID IH, after an hour of rest. -/
theorem minuteCharged_rested {vh : Int} {h c : Nat} (hvh : validFiltered s .vh = some vh) (hih : statusOf s .ih = .valid)
    (hrest : s.cc.restHold = some h) (hhour : h + 3600 ≤ s.su.elapsed) (hc : s.cc.c = some c) :
    minuteCharged s = if resyncs s.cfg.battery vh c then syncNotice .ocv (setFromOcv vh (closeMinute s)) else closeMinute s := by
  have hvalid : isValid (closeMinute s) .ih = true := beq_iff_eq.2 hih
  rw [minuteCharged, fallbackLookup_valid hvalid, ocvResync_held (s := closeMinute s) hrest hvh hc hhour]
  rfl

/-! ### The voltage guard (R33, R34) -/

theorem raiseCheck_level (hfree : s.cc.sensorHold = false) : (raiseCheck s).cc.level = worse s.cc.level (targetLevel s.cc) := by
  unfold raiseCheck worse
  by_cases hlt : levelCode s.cc.level < levelCode (targetLevel s.cc)
  · rw [if_pos ((callsRaise_iff s).2 ⟨hfree, hlt⟩), if_pos hlt, (levelled_raiseNow s).cc]
    exact combinedTarget_eq s.cc
  · rw [if_neg (mt (callsRaise_iff s).1 fun h => hlt h.2), if_neg hlt]

/-- What the combined target is formed of. -/
theorem Evaluated.target (h : Evaluated s t) (hcount : t.cc.countTarget = s.cc.countTarget) : targetLevel t.cc = targetLevel s.cc := by
  unfold targetLevel
  rw [h.cut, h.low, h.c, hcount]

theorem raiseCheck_countTarget (s : State) : (raiseCheck s).cc.countTarget = s.cc.countTarget := by
  unfold raiseCheck
  split
  · rw [(levelled_raiseNow s).cc]
  · rfl

/-- Both guards after a step. -/
def guarded (vh : Int) (s : State) : State := withCc (fun c => { c with
  low := guardAfter (guardLevel s.cfg.battery.vLow) vh s.su.elapsed c.low
  cut := guardAfter (guardLevel s.cfg.battery.vCut) vh s.su.elapsed c.cut }) s

theorem guardStep_eq (vh : Int) (s : State) : guardStep vh s = raiseCheck (guarded vh s) := rfl

theorem chargeVh_guards {vh : Int} (hvh : validFiltered s .vh = some vh) (hstart : s.cc.starting = false) :
    chargeVh s = raiseCheck (guarded vh s) := by
  have hno : ¬((guardStep vh s).cc.starting = true ∧ 30 ≤ (guardStep vh s).su.elapsed) := by
    have h := (Evaluated.raiseCheck (guarded vh s)).starting
    rw [guardStep_eq, h]
    exact fun hyes => absurd (hyes.1.symm.trans hstart) (by decide)
  unfold chargeVh
  rw [hvh]
  exact if_neg hno

/-! ### The sensor hold (R37, R38) -/

theorem sensorHoldOn_cc (s : State) : (sensorHoldOn s).cc = { s.cc with
    sensorHold := true, relief := 0, ceiling := none, level := .reserve, budget := s.cfg.battery.aRes } := by
  unfold sensorHoldOn
  dsimp only
  split
  · rename_i hlevel
    rw [updateBudget_cc_eq]
    have hreserve : s.cc.level = .reserve := hlevel
    unfold budgetNow
    rw [hlevel]
    simp only [withCc, hreserve]
    rfl
  · rfl

/-- What a channel that leaves VALID leaves of the charge counter with the other VALID, the level and the hold apart. -/
def leftCharge (ch : Channel) (u : ChargeUnit) : ChargeUnit :=
  match ch with
  | .ih => { u with accSum := 0, accCount := 0, fullHold := none, restHold := none, endurance := none }
  | .vh => { u with low := dropHolds u.low, cut := dropHolds u.cut, fullHold := none }
  | _ => u

theorem chargeLeft_cc {other : Channel} (h : (ch = .vh ∧ other = .ih) ∨ (ch = .ih ∧ other = .vh)) (s : State) :
    (chargeLeft ch s).cc = if statusOf s other = .valid then leftCharge ch s.cc else { leftCharge ch s.cc with
      sensorHold := true, relief := 0, ceiling := none, level := .reserve, budget := s.cfg.battery.aRes } := by
  obtain ⟨rfl, rfl⟩ | ⟨rfl, rfl⟩ := h <;> unfold chargeLeft <;> dsimp only
  · by_cases hst : statusOf s .ih = .valid
    · rw [if_pos hst, if_pos ((isValid_iff s _).2 hst)]
      rfl
    · rw [if_neg hst, if_neg (mt (isValid_iff s _).1 hst), sensorHoldOn_cc]
      rfl
  · by_cases hst : statusOf s .vh = .valid
    · rw [if_pos hst, if_pos ((isValid_iff s _).2 hst)]
      rfl
    · rw [if_neg hst, if_neg (mt (isValid_iff s _).1 hst), sensorHoldOn_cc]
      rfl

/-- A SUSPECT CHANNEL of one of the CC's channels that is VALID is its leaving VALID at the CC. -/
theorem exec_chargeSuspect (hch : ch = .vh ∨ ch = .ih) (hrun : s.mc.supply = .running) (hst : statusOf s ch = .valid) :
    ∃ t u, exec (.suspectChannel (chanIx ch).1) s = .next t ∧ t.answer = some ⟨.ok, []⟩ ∧ u.cc = s.cc ∧ u.cfg = s.cfg
      ∧ (∀ d, d ≠ ch → statusOf u d = statusOf s d) ∧ t.cc = (chargeLeft ch u).cc := by
  obtain ⟨t, hexec, ht⟩ := exec_leaves (i := .suspectChannel (chanIx ch).1) hrun rfl
  obtain ⟨v, hv⟩ : ∃ v, v = startEvent (.suspectChannel (chanIx ch).1) s := ⟨_, rfl⟩
  have hvst : statusOf v ch = .valid := hv ▸ hst
  have he : effect (.suspectChannel (chanIx ch).1) v = _ := setHostMark_eq (channelById_chanIx ch) true v
  rw [← hv, he, hvst] at ht
  obtain ⟨w, hw⟩ : ∃ w, w = sensorNotice ch .valid (setChannel ch { chanOf v ch with hostMark := true } v) := ⟨_, rfl⟩
  rw [← hw] at ht
  have hmoves : Moves [.rawChan] v w := hw ▸ (moves_setChannel ch _ v).step (moves_sensorNotice ch _ _)
  have hstatus : ∀ d, statusOf w d = statusOf (setChannel ch { chanOf v ch with hostMark := true } v) d := fun d => by
    have hmu : w.mu = (setChannel ch { chanOf v ch with hostMark := true } v).mu := hw ▸ sensorNotice_mu _ _ _
    exact congrArg (fun m : MeasureUnit => (tget m.chan (chanIx d)).status) hmu
  have hnew : statusOf w ch ≠ .valid := by
    rw [hstatus, statusOf_setChannel, if_pos rfl]
    simp only [statusFrom]
    split <;> simp
  have hchange : statusChange ch .valid w = heaterLeft ch (chargeLeft ch w) := by
    unfold statusChange
    dsimp only
    rw [if_pos ⟨rfl, hnew⟩, if_neg (by obtain rfl | rfl := hch <;> decide)]
  have hreport : (statusReport ch .valid w).cc = (chargeLeft ch w).cc := by
    unfold statusReport
    dsimp only
    rw [if_neg hnew, ownerEvent_cc, if_neg (by obtain rfl | rfl := hch <;> decide), hchange]
    exact (moves_heaterLeft ch _).cc_eq
  refine ⟨t, w, hexec, ht.answer, ?_, ?_, fun d hd => ?_, ht.cc.trans hreport⟩
  · rw [hmoves.cc_eq, hv]; rfl
  · rw [hmoves.cfg_eq, hv]; rfl
  · rw [hstatus, statusOf_setChannel, if_neg hd.symm, hv]
    rfl

end Sys2Proof.Machine
end

section
/-! PROOFS. A written default horizon, and the charge counter's budget at each of its events. -/

namespace Sys2Proof.Machine

-- One proof after another: started together they wait for one another, each on a thread of its own.
set_option Elab.async false

variable {s t u w : State} {ch : Channel} {code : Nat}

/-! ### A raise-only evaluation (R32, R34) -/

theorem evaluateRaise_levelled (s : State) : ∃ r k, Levelled (reckon s)
    (if callsRaise (reckon s) then targetLevel (reckon s).cc else s.cc.level) r k (evaluateRaise s) := by
  unfold evaluateRaise
  dsimp only
  split
  · rw [← combinedTarget_eq]
    exact ⟨_, _, levelled_raiseNow _⟩
  · exact ⟨_, _, levelled_held _⟩

theorem evaluateRaise_level (hfree : s.cc.sensorHold = false) :
    (evaluateRaise s).cc.level = worse s.cc.level (targetLevel (evaluateRaise s).cc) := by
  obtain ⟨r, k, hl⟩ := evaluateRaise_levelled s
  have htarget : targetLevel (evaluateRaise s).cc = targetLevel (reckon s).cc := by rw [hl.cc]; rfl
  rw [htarget, hl.cc]
  unfold worse
  refine if_congr ((callsRaise_iff _).trans ?_) rfl rfl
  exact ⟨fun h => h.2, fun h => ⟨hfree, h⟩⟩

/-! ### The sensor hold at conversions (R38) -/

theorem chargeIh_sensorHold (s : State) : (chargeIh s).cc.sensorHold = s.cc.sensorHold := by
  have hsync : ∀ (i : Option Int) (s : State), (fullSync i s).cc.sensorHold = s.cc.sensorHold := fun i s => by
    rw [fullSync_eq]
    split
    · split
      · exact (Evaluated.evaluateRaise (fullyCharged s)).sensorHold
      · rfl
    · rfl
  unfold chargeIh
  dsimp only
  split
  · rw [restHoldStep_eq]
    obtain ⟨c, r, h⟩ := countCharge_spec _ s
    exact (hsync _ _).trans h.sensorHold
  · exact hsync _ s

theorem chargeVh_sensorHold (s : State) : (chargeVh s).cc.sensorHold = s.cc.sensorHold := by
  unfold chargeVh
  split
  · rename_i vh _
    have hguard : (guardStep vh s).cc.sensorHold = s.cc.sensorHold := (Evaluated.raiseCheck (guarded vh s)).sensorHold
    unfold startEstimate
    split
    · exact (Evaluated.evaluateRaise (estimatedFrom vh (guardStep vh s))).sensorHold.trans hguard
    · exact hguard
  · rfl

theorem chargeConversion_sensorHold (ch : Channel) (s : State) : (chargeConversion ch s).cc.sensorHold = s.cc.sensorHold := by
  unfold chargeConversion
  split
  · exact chargeVh_sensorHold s
  · exact chargeIh_sensorHold s
  · rfl

/-! ### A default horizon written outside RESTING (R22, R147) -/

/-- What the writing of the default horizon leaves. -/
structure HorizonWritten (n : Nat) (s t : State) : Prop where
  rest : t.rm.horizon = n
  horizon : t.cc.horizon = n
  handed : .horizonChange n ∈ t.handed
  c : t.cc.c = s.cc.c
  target : ∀ c, s.cc.c = some c → s.cfg.battery.cap * s.cfg.battery.reserve / 100 < c →
    t.cc.countTarget = if t.cc.endurance.any (fun e => e < n + s.cfg.battery.margin) then .conserve else .normal
  level : s.cc.sensorHold = false → t.cc.level = worse s.cc.level (targetLevel t.cc)

/-- The CC and the Rest Monitor with the default horizon taken up. -/
theorem takeDefault_spec {n : Nat} (hn : s.cfg.battery.horizon = n) (hrest : s.rm.state ≠ .resting) (hne : n ≠ s.rm.horizon) :
    takeDefault s = withCc (fun u => { u with horizon := n })
      (hand (.horizonChange n) (withRm (fun r => { r with horizon := n }) s)) := by
  have hhand : handHorizon s = hand (.horizonChange n) (withRm (fun r => { r with horizon := n }) s) := by
    have hof : horizonOf s = n := (horizonOf_rested hrest).trans hn
    unfold handHorizon
    dsimp only
    rw [hof, if_neg hne]
  unfold takeDefault
  dsimp only
  rw [hhand]
  exact if_neg hne

theorem batteryEffect_horizon {old : Battery} {n : Nat} (hb : s.cfg.battery = { old with horizon := n }) (hold : n ≠ old.horizon) :
    batteryEffect old s = evaluateRaise (takeDefault s) := by
  have hrescale : rescaleCharge old s = s := by
    unfold rescaleCharge
    rw [hb]
    cases s.cc.c with
    | none => rfl
    | some c => exact if_pos rfl
  rw [batteryEffect_eq, hrescale, hb]
  unfold batteryFollows
  dsimp only
  rw [if_neg hold.symm]
  simp only [and_self, if_true]

theorem horizonWritten_effect {n : Nat} (hrm : w.rm = s.rm) (hcc : w.cc = s.cc) (hb : w.cfg.battery = { s.cfg.battery with horizon := n })
    (hold : n ≠ s.cfg.battery.horizon) (hrest : s.rm.state ≠ .resting) (hne : n ≠ s.rm.horizon) :
    HorizonWritten n s (batteryEffect s.cfg.battery w) := by
  obtain ⟨v, hv⟩ : ∃ v, v = withCc (fun u => { u with horizon := n })
    (hand (.horizonChange n) (withRm (fun r => { r with horizon := n }) w)) := ⟨_, rfl⟩
  have heffect : batteryEffect s.cfg.battery w = evaluateRaise v := by
    rw [batteryEffect_horizon hb hold, takeDefault_spec (by rw [hb]) (by rw [hrm]; exact hrest) (by rw [hrm]; exact hne), hv]
  have hvcc : v.cc = { s.cc with horizon := n } := by
    rw [hv, ← hcc]
    rfl
  have he := Evaluated.evaluateRaise v
  obtain ⟨r, k, hl⟩ := evaluateRaise_levelled v
  have hc : (evaluateRaise v).cc.c = s.cc.c := by rw [he.c, hvcc]
  have hvb : v.cfg.battery = { s.cfg.battery with horizon := n } := by rw [hv]; exact hb
  rw [heffect]
  refine ⟨?_, by rw [he.horizon, hvcc], (he.moves.handed_behind (by decide)).mem ?_, hc, fun c hsome hover => ?_, fun hfree => ?_⟩
  · rw [he.moves.rm_eq, hv]
    rfl
  · rw [hv]
    exact List.mem_append_right _ (List.mem_singleton_self _)
  · have hcount : (evaluateRaise v).cc.countTarget = countTargetOf v (evaluateRaise v).cc.endurance := by rw [hl.cc]; rfl
    rw [hcount, countTargetOf_eq ⟨rfl, rfl, rfl, rfl, rfl, rfl, rfl⟩, hvcc, hsome, hvb]
    dsimp only
    rw [if_neg (by omega)]
  · rw [evaluateRaise_level (by rw [hvcc]; exact hfree), hvcc]

/-- The default horizon stands behind the OCV table in BATTERY. -/
theorem slotAt_horizon (s : State) : slotAt s 3 8 none = some ⟨8, none, clampF 60 1440 s.cfg.battery.horizon⟩ := by
  have hwidth := rowWidth_table s.cfg.battery.ocv (fun v => [strictF 0 40000 (v : Int)]) 1 fun _ => rfl
  simp only [slotAt, recordSlots, recordView, viewBattery, slotsFrom, hwidth]
  rw [List.find?_cons_of_neg (by simp), List.find?_cons_of_neg (by simp), List.find?_cons_of_neg (by simp),
    List.find?_cons_of_neg (by simp), List.find?_append, find_groupSlots_plain]
  rfl

theorem viewBattery_horizon {b c : Battery} (h : viewBattery b = viewBattery c) : b.horizon = c.horizon := by
  simp only [viewBattery, List.cons.injEq, Item.one.injEq, clampF, rw, Field.mk.injEq, Option.some.injEq, Int.natCast_inj] at h
  tauto

theorem accept_horizon {n : Nat} (hold : n ≠ s.cfg.battery.horizon) (hrest : s.rm.state ≠ .resting) (hne : n ≠ s.rm.horizon)
    {st : Status} {data : List Byte} : HorizonWritten n s (accept 3 [⟨8, none, some (n : Int)⟩] st data s) := by
  refine accept_keeps (I := HorizonWritten n s) (fun _ _ h => ⟨h.rest, h.horizon, h.handed, h.c, h.target, h.level⟩) (fun v a hview => ?_)
    fun v a => ?_
  · have hsame : s.cfg.battery.horizon = n := viewBattery_horizon (Option.some.inj hview)
    exact absurd hsame.symm hold
  · change HorizonWritten n s (batteryEffect s.cfg.battery (written 3 _ v a s))
    exact horizonWritten_effect (pokeAll_rm ..) (pokeAll_cc ..) rfl hold hrest hne

end Sys2Proof.Machine

namespace Sys2Proof.Proofs

open Sys2Proof Sys2Proof.Machine

/-- Settles O26: the minute's end and the handed horizon with their full evaluation, the guards, the sensor hold, and the written
default horizon. -/
theorem minutesAndHorizonFormTheBudget : Obligations.MinutesAndHorizonFormTheBudget := by
  refine ⟨⟨fun s hrun hlen hvalid hcount => ?_, fun s hrun hlen hno => ?_, fun s hrun => ?_⟩, fun minutes s hrun hmin => ?_,
    fun code s hrun hnext hstart hfree => ?_, fun ch other s hrun hch hst => ?_, fun n s hrun hlo hhi hrises hcut hrest hold hne => ?_,
    fun ch code s hrun hch hnext => ?_⟩
  · obtain ⟨t, hexec, ht⟩ := exec_leaves (i := .minuteEnd) hrun rfl
    obtain ⟨hwindow, hsum, hcount'⟩ := minuteEnd_closed (startEvent .minuteEnd s)
    have htcc : t.cc = (minuteEnd (startEvent .minuteEnd s)).cc := ht.cc
    rw [← htcc] at hwindow hsum hcount'
    exact ⟨t, hexec, hwindow.trans (closeMinute_window_appended (s := startEvent .minuteEnd s) hlen hvalid hcount), hsum, hcount'⟩
  · obtain ⟨t, hexec, ht⟩ := exec_leaves (i := .minuteEnd) hrun rfl
    obtain ⟨hwindow, hsum, hcount'⟩ := minuteEnd_closed (startEvent .minuteEnd s)
    have htcc : t.cc = (minuteEnd (startEvent .minuteEnd s)).cc := ht.cc
    rw [← htcc] at hwindow hsum hcount'
    exact ⟨t, hexec, hwindow.trans (closeMinute_window_kept (s := startEvent .minuteEnd s) hlen hno), hsum, hcount'⟩
  · obtain ⟨t, hexec, ht⟩ := exec_leaves (i := .minuteEnd) hrun rfl
    obtain ⟨v, hv⟩ : ∃ v, v = minuteCharged (startEvent .minuteEnd s) := ⟨_, rfl⟩
    have hstart : SameFindings s (startEvent .minuteEnd s) := ⟨rfl, rfl, rfl, rfl, rfl, rfl, rfl⟩
    have hfind : SameFindings s v := hv ▸ hstart.trans (minuteCharged_findings _)
    have htcc : t.cc = (evaluateFull v).cc := by rw [ht.cc, hv]; rfl
    have he := Evaluated.evaluateFull v
    have hhanded : ∀ i ∈ (evaluateFull v).handed, i ∈ t.handed := fun i hi => ht.handed i (by rw [hv] at hi; exact hi)
    refine ⟨t, hexec, fullyEvaluated_of hfind htcc, fun hvh vh hfiltered => ?_, fun hmoved => ?_⟩
    · intro soc
      have hread : validFiltered (startEvent .minuteEnd s) .vh = some vh := (validFiltered_iff ..).2 ⟨hvh, hfiltered⟩
      refine ⟨fun hih hnone => ?_, fun hih h hsome hhour c hc => ?_⟩
      · have hcharged := minuteCharged_estimated hread hih hnone
        rw [htcc, he.c, he.residue, he.source, he.estimated, he.starting, hv, hcharged]
        exact ⟨rfl, rfl, rfl, rfl, rfl⟩
      · have hcharged := minuteCharged_rested hread hih hsome hhour hc
        refine ⟨fun hdiffer => ?_, fun h1 h2 => ?_⟩
        · rw [if_pos (show resyncs (startEvent .minuteEnd s).cfg.battery vh c from hdiffer)] at hcharged
          have hnotice := mem_syncNotice (k := .ocv) (s := setFromOcv vh (closeMinute (startEvent .minuteEnd s))) rfl
          rw [← hcharged, ← hv] at hnotice
          rw [htcc, he.c, he.residue, he.source, hv, hcharged]
          exact ⟨rfl, rfl, rfl, _, hhanded _ ((he.moves.handed_behind (by decide)).mem hnotice)⟩
        · have hsame : ¬resyncs (startEvent .minuteEnd s).cfg.battery vh c := by
            change ¬(c * 1000 / s.cfg.battery.cap + 50 < soc ∨ soc + 50 < c * 1000 / s.cfg.battery.cap)
            omega
          rw [if_neg hsame] at hcharged
          rw [htcc, he.c, he.residue, hv, hcharged]
          exact ⟨hc, rfl⟩
    · rw [htcc, ← hfind.level] at hmoved ⊢
      obtain ⟨cause, hposted⟩ := evaluateFull_posted hmoved
      exact ⟨cause, hhanded _ hposted⟩
  · obtain ⟨t, hexec, ht⟩ := exec_leaves (i := .horizonChange minutes) hrun rfl
    obtain ⟨v, hv⟩ : ∃ v, v = withCc (fun c => { c with horizon := minutes }) (startEvent (.horizonChange minutes) s) := ⟨_, rfl⟩
    have hfind : SameFindings s v := hv ▸ ⟨rfl, rfl, rfl, rfl, rfl, rfl, rfl⟩
    have htcc : t.cc = (evaluateFull v).cc := by rw [ht.cc, hv]; rfl
    have he := Evaluated.evaluateFull v
    refine ⟨t, hexec, ?_, ?_, ?_, ?_, fullyEvaluated_of hfind htcc, fun hmoved => ?_⟩
    · rw [htcc, he.horizon, hv]; rfl
    · rw [htcc, he.c, hv]; rfl
    · rw [htcc, he.residue, hv]; rfl
    · rw [htcc, he.window, hv]; rfl
    · rw [htcc, ← hfind.level] at hmoved ⊢
      obtain ⟨cause, hposted⟩ := evaluateFull_posted hmoved
      have heff : effect (.horizonChange minutes) (startEvent (.horizonChange minutes) s) = evaluateFull v := by rw [hv]; rfl
      exact ⟨cause, ht.handed _ (by rw [heff]; exact hposted)⟩
  · intro stepped
    obtain ⟨t, u, hexec, hu, hcc, -, -⟩ := exec_chargeConversion (.inl rfl) hrun hnext
    have hread : validFiltered u .vh = some (filteredAt s .vh code) := (validFiltered_iff ..).2 ⟨(isValid_iff ..).1 hu.valid, hu.filtered⟩
    have hguards : chargeConversion .vh u = raiseCheck (guarded (filteredAt s .vh code) u) :=
      chargeVh_guards hread (by rw [hu.cc]; exact hstart)
    have hufree : u.cc.sensorHold = false := by rw [hu.cc, hfree]; simp
    have he := Evaluated.raiseCheck (guarded (filteredAt s .vh code) u)
    have hcount := raiseCheck_countTarget (guarded (filteredAt s .vh code) u)
    rw [hguards] at hcc
    refine ⟨t, hexec, ?_, ?_, ?_, ?_, ?_⟩
    · rw [hcc, he.low]
      change guardAfter (guardLevel u.cfg.battery.vLow) _ u.su.elapsed u.cc.low = _
      rw [hu.cfg, hu.su, hu.cc]
      rfl
    · rw [hcc, he.cut]
      change guardAfter (guardLevel u.cfg.battery.vCut) _ u.su.elapsed u.cc.cut = _
      rw [hu.cfg, hu.su, hu.cc]
      rfl
    · rw [hcc, hcount]
      change u.cc.countTarget = _
      rw [hu.cc]
    · rw [hcc, he.c]
      change u.cc.c = _
      rw [hu.cc]
    · rw [hcc, he.target hcount, raiseCheck_level (s := guarded (filteredAt s .vh code) u) hufree]
      change worse u.cc.level _ = _
      rw [hu.cc]
  · obtain ⟨t, u, hexec, hanswer, hcc, hcfg, hstatus, hleft⟩ :=
      exec_chargeSuspect (hch.imp (fun h => h.1) fun h => h.1) hrun hst
    have hother : statusOf u other = statusOf s other := hstatus other (by obtain ⟨rfl, rfl⟩ | ⟨rfl, rfl⟩ := hch <;> decide)
    rw [chargeLeft_cc hch, hother, hcc, hcfg] at hleft
    refine ⟨t, hexec, hanswer, ?_, fun hvh => ?_, fun hih => ?_, fun hvalid => ?_, fun hinvalid => ?_⟩
    · rw [hleft]
      obtain ⟨rfl, rfl⟩ | ⟨rfl, rfl⟩ := hch <;> split <;> rfl
    · rw [hleft, hvh]
      split <;> exact ⟨rfl, rfl, rfl, rfl, rfl, rfl⟩
    · rw [hleft, hih]
      split
      · exact ⟨rfl, rfl, rfl, rfl⟩
      · exact ⟨rfl, rfl, rfl, rfl⟩
    · rw [hleft, if_pos hvalid]
      obtain ⟨rfl, rfl⟩ | ⟨rfl, rfl⟩ := hch <;> exact ⟨rfl, rfl⟩
    · rw [hleft, if_neg hinvalid]
      exact ⟨rfl, rfl, rfl, rfl⟩
  · obtain ⟨hexec, hok⟩ := exec_oneField (r := 3) (s := s) (w := ⟨8, none, some (n : Int)⟩) (i := .batteryWrite [⟨8, none, some (n : Int)⟩])
      hrun rfl rfl (.int (n := n) (lo := 60) (hi := 1440) (slotAt_horizon _) (by omega) (by omega) (by
        change (risesStrictly s.cfg.battery.ocv.toList && decide (s.cfg.battery.vCut < s.cfg.battery.vLow)) = true
        rw [hrises, decide_eq_true hcut, Bool.true_and]))
    have h := accept_horizon (s := startEvent (.batteryWrite [⟨8, none, some (n : Int)⟩]) s) (st := .ok) (data := []) hold hrest hne
    refine ⟨_, hexec, hok, ?_, ?_, ?_, mem_close_of_mem h.handed, ?_, fun c hc hover => ?_, fun hfree => ?_⟩
    · rw [close_cfg, accept_cfg (s := startEvent _ s) _ _ _ (by decide) (fun h => absurd h (by decide))]
      rfl
    · rw [close_rm, h.rest]
    · rw [close_cc, h.horizon]
    · rw [close_cc, h.c]
      rfl
    · rw [close_cc]
      exact h.target c hc hover
    · rw [close_cc]
      exact h.level hfree
  · obtain ⟨t, u, hexec, hu, hcc, -, -⟩ := exec_chargeConversion hch hrun hnext
    refine ⟨t, hexec, fun hst => ?_⟩
    rw [hcc, chargeConversion_sensorHold, hu.cc]
    exact if_neg hst

end Sys2Proof.Proofs
end

section
/-! PROOFS. The panel's keypad: what a key's action leaves of it, and what the action does at its target (R126, R127). -/

namespace Sys2Proof.Machine

-- One proof after another: started together they wait for one another, each on a thread of its own.
set_option Elab.async false

variable {s t u v : State} {as : List Area}

/-! ### The keypad -/

/-- The PI less its chimes, its grant, its standby mark and the resting flag it is handed. -/
def keypad (u : PanelUnit) : PanelUnit := { panelFixed u with resting := false }

/-- Of the PI nothing moves but its chimes, its grant, its standby mark and the resting flag. -/
def SameKeypad (s t : State) : Prop := keypad t.pn = keypad s.pn

namespace SameKeypad

theorem refl (s : State) : SameKeypad s s := rfl

theorem trans (h : SameKeypad s t) (k : SameKeypad t u) : SameKeypad s u := Eq.trans k h

theorem of_pn (h : t.pn = s.pn) : SameKeypad s t := congrArg keypad h

theorem of_panel (h : SamePanel s t) : SameKeypad s t := (congrArg (fun u : PanelUnit => { u with resting := false }) h :)

theorem keys (h : SameKeypad s t) : t.pn.keys = s.pn.keys := (congrArg PanelUnit.keys h :)
theorem ambig (h : SameKeypad s t) : t.pn.ambig = s.pn.ambig := (congrArg PanelUnit.ambig h :)
theorem ambiguous (h : SameKeypad s t) : t.pn.ambiguous = s.pn.ambiguous := (congrArg PanelUnit.ambiguous h :)
theorem queue (h : SameKeypad s t) : t.pn.queue = s.pn.queue := (congrArg PanelUnit.queue h :)
theorem overrun (h : SameKeypad s t) : t.pn.overrun = s.pn.overrun := (congrArg PanelUnit.overrun h :)
theorem last (h : SameKeypad s t) : t.pn.last = s.pn.last := (congrArg PanelUnit.last h :)
theorem dims (h : SameKeypad s t) : t.pn.dims = s.pn.dims := (congrArg PanelUnit.dims h :)

theorem fireDue (s : State) : SameKeypad s (fireDue s) := by
  obtain e | e | ⟨hmode, e⟩ := fireDue_cases s <;> rw [e]
  · exact .refl s
  · exact .of_panel ((SamePanel.of_pn (moves_wakeFromDoze s).pn_eq).trans (.foldl .fireEntry _ _))
  · exact .of_panel (.wakeStandby hmode)

theorem panelResting (b : Bool) (s : State) : SameKeypad s (panelResting b s) := by
  unfold Machine.panelResting
  dsimp only
  split
  · split
    · split
      · exact .trans (rfl : SameKeypad s (withPn (fun u => { u with chimes := u.chimes.filter fun q => decide (3 ≤ q.priority) })
          (withPn (fun u => { u with resting := b }) s))) (.of_panel (.startNext _))
      · rfl
    · rfl
  · rfl

theorem handResting (b : Bool) (s : State) : SameKeypad s (handResting b s) := by
  have hlights : SameKeypad s (ownerEvent [17] (lightsResting b) s) := .of_pn rfl
  have hpanel : SameKeypad (ownerEvent [17] (lightsResting b) s) (Machine.handResting b s) := panelResting b _
  exact hlights.trans hpanel

theorem prewarmPlace (time sp du : Nat) (s : State) : SameKeypad s (prewarmPlace time sp du s) := by
  unfold Machine.prewarmPlace
  split
  · exact .refl s
  · exact (SameKeypad.of_pn (moves_slotEvent _ _ s).pn_eq).trans (fireDue _)

theorem placePrewarm (s : State) : SameKeypad s (placePrewarm s) := by
  unfold Machine.placePrewarm
  dsimp only
  split
  · exact (show SameKeypad s (withRm (fun r => { r with placed := true }) s) from rfl).trans (prewarmPlace _ _ _ _)
  · exact .refl s

theorem restOpened (old : RestState) (cause : RestCause) (n : Nat) (s : State) : SameKeypad s (restOpened old cause n s) := by
  unfold Machine.restOpened
  extract_lets start s1 s2
  have h1 : SameKeypad s (withRm (fun r => { r with startRisk := false, starterHold := none }) s1) := rfl
  have h2 : SameKeypad s s2 := h1.trans (handResting true _)
  have h3 : SameKeypad s (handHorizon s2) := h2.trans (.of_pn (moves_handHorizon s2).pn_eq)
  exact (h3.trans (placePrewarm _)).trans rfl

theorem openRest (s : State) : SameKeypad s (openRest s) := by
  unfold Machine.openRest
  extract_lets full log
  have hopen : SameKeypad s (withRm (fun r => { r with state := .resting, log := log ++ [⟨cabTime s, none, false, false⟩] }) s) := rfl
  exact hopen.trans (restOpened _ _ _ _)

theorem closeRest (new : RestState) (s : State) : SameKeypad s (closeRest new false s) := by
  unfold Machine.closeRest
  extract_lets x cab len used s1 s2 s3
  have h1 : SameKeypad s s1 := by
    have hx : SameKeypad s x := .of_pn (moves_judgeBreak s).pn_eq
    exact hx.trans (.of_pn ((moves_bankBreak len used _).pn_eq.trans rfl))
  have h2 : SameKeypad s s2 := h1.trans (.of_pn (moves_dropPrewarm s1).pn_eq)
  have h3 : SameKeypad s s3 := by
    refine .trans ?_ (.of_pn (moves_handHorizon _).pn_eq)
    split
    · exact h2.trans (handResting false s2)
    · exact h2
  rw [if_neg fun h => Bool.false_ne_true h.1]
  exact h3

theorem declareRest (s : State) : SameKeypad s (declareRest s).1 := by
  unfold Machine.declareRest
  split
  · exact .trans (.of_pn (moves_closeStop s).pn_eq) (openRest _)
  · split
    · exact .trans (rfl : SameKeypad s (withRm (fun r => { r with uncertain := true }) s)) (openRest _)
    · rfl
  · rfl
  · rfl
  · rfl

theorem endRest (s : State) : SameKeypad s (endRest s).1 := by
  unfold Machine.endRest
  split
  · exact (closeRest .stopped s).trans rfl
  · exact (closeRest .stopped s).trans rfl
  · rfl

theorem restToggle (s : State) : SameKeypad s (restToggle s).1 := by
  unfold Machine.restToggle
  split
  · exact endRest s
  · exact endRest s
  · exact declareRest s

end SameKeypad

/-- The keypad but for its last action and its light actions under way. -/
def SameKeys (s t : State) : Prop :=
  t.pn.keys = s.pn.keys ∧ t.pn.ambig = s.pn.ambig ∧ t.pn.ambiguous = s.pn.ambiguous ∧ t.pn.queue = s.pn.queue ∧ t.pn.overrun = s.pn.overrun

namespace SameKeys

theorem refl (s : State) : SameKeys s s := ⟨rfl, rfl, rfl, rfl, rfl⟩

theorem of_keypad (h : SameKeypad s t) : SameKeys s t := ⟨h.keys, h.ambig, h.ambiguous, h.queue, h.overrun⟩

theorem trans (h : SameKeys s t) (k : SameKeys t u) : SameKeys s u := by
  obtain ⟨h1, h2, h3, h4, h5⟩ := h
  obtain ⟨k1, k2, k3, k4, k5⟩ := k
  exact ⟨k1.trans h1, k2.trans h2, k3.trans h3, k4.trans h4, k5.trans h5⟩

theorem of_pn (h : t.pn = s.pn) : SameKeys s t := .of_keypad (.of_pn h)

end SameKeys

theorem SameKeys.runKeyAction (k : Fin 16) (e : KeyEntry) (s : State) : SameKeys s (runKeyAction k e s).1 := by
  unfold Machine.runKeyAction
  extract_lets ends
  split
  · exact .refl s
  · exact .of_pn (moves_panelToggle _ s).pn_eq
  · rw [panelDim_eq]
    exact .refl s
  · rw [panelDim_eq]
    exact .refl s
  · exact .of_pn (moves_sceneRequest _ s).pn_eq
  · exact .of_pn (moves_heaterToggle s).pn_eq
  · exact .of_pn (moves_panelHeat _ s).pn_eq
  · exact .of_pn (moves_panelHeat _ s).pn_eq
  · exact .of_pn (moves_boostStart s).pn_eq
  · exact .of_pn (moves_writeVentSpeed _ s).pn_eq
  · exact .of_keypad (.restToggle s)
  · exact .refl s

theorem SameKeys.endAction (k : Fin 16) (a : KeyAction) (st : Status) (s : State) : SameKeys s (endAction k a st s) := by
  unfold Machine.endAction
  dsimp only
  split <;> exact .refl s

theorem SameKeys.keyAction (k : Fin 16) (e : KeyEntry) (s : State) : SameKeys s (keyAction k e s).1 := by
  unfold Machine.keyAction
  dsimp only
  split
  · exact (runKeyAction k e s).trans (endAction k e.action _ _)
  · exact runKeyAction k e s

/-! ### The actions at their targets (R126) -/

/-- The action's end, as the statements read it. -/
theorem actionEnds_endAction (k : Fin 16) (a : KeyAction) (st : Status) (s : State) : actionEnds k a st (endAction k a st s) := by
  unfold endAction accepted
  dsimp only
  split
  · rename_i h
    exact ⟨rfl, fun h1 h2 => absurd h (by simp [h1, h2])⟩
  · exact ⟨rfl, fun _ _ => List.mem_append_right _ (List.mem_singleton_self _)⟩

theorem endAction_of_accepted (k : Fin 16) (a : KeyAction) {st : Status} (h : accepted st = true) (s : State) :
    endAction k a st s = withPn (fun u => { u with last := some ⟨k, a, st⟩ }) s := if_pos h

/-- What an event's close leaves of an action's end. -/
theorem actionEnds.later {k : Fin 16} {a : KeyAction} {st : Status} (h : actionEnds k a st s) (hlast : t.pn.last = s.pn.last)
    (hhanded : ∀ i ∈ s.handed, i ∈ t.handed) : actionEnds k a st t := by
  obtain ⟨h1, h2⟩ := h
  exact ⟨hlast.trans h1, fun h h' => hhanded _ (h2 h h')⟩

/-- The click behind a PRESS (R127). -/
def clicked (a : KeyAction) (s : State) : State := if clicks s a then chime 0 s else s

theorem clicked_cases (a : KeyAction) (s : State) : ∃ hs, clicked a s = { s with handed := s.handed ++ hs }
    ∧ (s.cfg.panel.click = true → a ≠ .none → a ≠ .silence → .chimeRequest 0 ∈ hs) := by
  unfold clicked
  split
  · exact ⟨[.chimeRequest 0], rfl, fun _ _ _ => List.mem_singleton_self _⟩
  · rename_i h
    refine ⟨[], by simp, fun h1 h2 h3 => absurd ?_ h⟩
    simp [clicks, h1, h2, h3]

theorem groupOf_mem (g : Group) (i : Fin 6) : i ∈ groupLights g ↔ groupOf i = g := by
  cases g <;> fin_cases i <;> decide

theorem targetEvent_target (old : Vector Nat 6) (n : Nat) (own : Bool) (s : State) (i : Fin 6) :
    (lightOf (targetEvent old n own s) i).target = (lightOf s i).target := by
  rw [lightOf_targetEvent]
  dsimp only
  split
  · rfl
  · exact startFade_target _ _

theorem lightOf_panelToggle (g : Group) (s : State) (i : Fin 6) : (lightOf (panelToggle g s) i).target = if groupOf i = g then
      (if ∀ j, groupOf j = g → (lightOf s j).target = 0 then tget s.cfg.lights.onLevel i else 0) else (lightOf s i).target := by
  unfold panelToggle
  extract_lets dark old s1
  have hdark : dark = true ↔ ∀ j, groupOf j = g → (lightOf s j).target = 0 := by
    simp only [dark, List.all_eq_true, groupOf_mem, beq_iff_eq]
  have hlc : s1.lc = (putTargets (fun i => if groupOf i = g then some (if dark then tget s.cfg.lights.onLevel i else 0) else none) s).lc :=
    operate_lc _ _ _
  have hlight : (lightOf (operate 17 (lightsWritten old) s1) i).target = (lightOf s1 i).target := by
    rw [lightOf, operate_lc]
    exact targetEvent_target _ _ _ _ _
  rw [hlight, lightOf, hlc]
  change (lightOf (putTargets _ s) i).target = _
  rw [lightOf_putTargets]
  by_cases hg : groupOf i = g
  · simp only [hg, if_pos, Option.getD_some, hdark]
  · simp only [hg, if_false, Option.getD_none]

end Sys2Proof.Machine
end

section
/-! PROOFS. A PRESS's action at its target, and what it leaves of the part it began in (R92, R104, R115, R116, R126, R175). -/

namespace Sys2Proof.Machine

-- One proof after another: started together they wait for one another, each on a thread of its own.
set_option Elab.async false

variable {s t u v : State} {as : List Area}

/-! ### Before and behind an action -/

/-- What a key's action finds stands in `v` as in `s`. -/
structure ActsOn (s v : State) : Prop where
  cfg : v.cfg = s.cfg
  fc : v.fc = s.fc
  lc : v.lc = s.lc
  su : v.su = s.su
  last : v.pn.last = s.pn.last
  dims : v.pn.dims = s.pn.dims

/-- What a key's action leaves stands in `t` as in `u`, its handings among those in flight. -/
structure ActsTo (u t : State) : Prop where
  cfg : t.cfg = u.cfg
  lc : t.lc = u.lc
  pn : t.pn = u.pn
  boost : t.fc.boostEnd = u.fc.boostEnd
  vent : t.fc.ventSpeed = u.fc.ventSpeed
  handed : Behind u.handed t.handed

theorem ActsTo.trans (h : ActsTo s t) (k : ActsTo t u) : ActsTo s u :=
  ⟨k.cfg.trans h.cfg, k.lc.trans h.lc, k.pn.trans h.pn, k.boost.trans h.boost, k.vent.trans h.vent, h.handed.trans k.handed⟩

theorem fridgeAfter_kept (s u : State) : (fridgeAfter s u).boostEnd = u.fc.boostEnd ∧ (fridgeAfter s u).ventSpeed = u.fc.ventSpeed := by
  unfold fridgeAfter
  dsimp only
  split
  · exact ⟨rfl, rfl⟩
  · split <;> exact ⟨rfl, rfl⟩

theorem ActsTo.of_close (s u : State) : ActsTo u (close s u) := by
  obtain ⟨hboost, hvent⟩ := fridgeAfter_kept s u
  refine ⟨close_cfg _ _, close_lc _ _, close_pn _ _, ?_, ?_, close_handed _ _⟩
  · rw [close_fc_after, hboost]
  · rw [close_fc_after, hvent]

theorem ActsTo.of_handed (hs : List Instr) (s : State) : ActsTo s { s with handed := s.handed ++ hs } :=
  ⟨rfl, rfl, rfl, rfl, rfl, hs, rfl⟩

theorem ActsTo.light (h : ActsTo u t) (i : Fin 6) : lightOf t i = lightOf u i := by rw [lightOf, h.lc, lightOf]

theorem ActsOn.light (h : ActsOn s v) (i : Fin 6) : lightOf v i = lightOf s i := by rw [lightOf, h.lc, lightOf]

theorem ActsTo.ends {k : Fin 16} {a : KeyAction} {st : Status} (h : ActsTo u t) (hends : actionEnds k a st u) : actionEnds k a st t :=
  hends.later (congrArg PanelUnit.last h.pn) fun _ hi => h.handed.mem hi

theorem dimsHanded_congr {k : Fin 16} {a : KeyAction} {g : Group} {d : Int} (hs : ActsOn s v) (ht : ActsTo u t)
    (h : dimsHanded k a g d v u) : dimsHanded k a g d s t := by
  obtain ⟨⟨before, behind, hhanded, hclick⟩, htargets, hdims, hlast⟩ := h
  obtain ⟨new, hnew⟩ := ht.handed
  refine ⟨⟨before, behind ++ new, by rw [hnew, hhanded]; simp, fun hc => ?_⟩, fun i => ?_, ?_, ?_⟩
  · exact List.mem_append_left _ (hclick (by rw [hs.cfg]; exact hc))
  · rw [ht.light, htargets, hs.light]
  · rw [ht.pn, hdims, hs.dims]
  · rw [ht.pn, hlast, hs.last]

/-- A PRESS's action is judged by what it finds and by what it leaves. -/
theorem pressAction_congr {k : Fin 16} {e : KeyEntry} (hs : ActsOn s v) (ht : ActsTo u t) (h : pressAction k e v u) :
    pressAction k e s t := by
  have hlight : ∀ i, lightOf t i = lightOf u i := ht.light
  have hlightv : ∀ i, lightOf v i = lightOf s i := hs.light
  obtain ⟨a, param, report⟩ := e
  cases a with
  | none => exact (congrArg PanelUnit.last ht.pn).trans (h.trans hs.last)
  | heatToggle => exact (congrArg PanelUnit.last ht.pn).trans (h.trans hs.last)
  | restToggle => exact (congrArg PanelUnit.last ht.pn).trans (h.trans hs.last)
  | lightUp => exact dimsHanded_congr hs ht h
  | lightDown => exact dimsHanded_congr hs ht h
  | lightToggle =>
    obtain ⟨htargets, hends⟩ := h
    refine ⟨fun i => ?_, ht.ends hends⟩
    simpa only [hlight, hlightv, hs.cfg] using htargets i
  | scene =>
    intro n hn
    obtain ⟨htargets, hends⟩ := h n hn
    refine ⟨fun i => ?_, ht.ends hends⟩
    simpa only [hlight, hlightv, hs.cfg] using htargets i
  | heatUp =>
    obtain ⟨hcfg, hends⟩ := h
    rw [hs.cfg] at hcfg hends
    exact ⟨ht.cfg.trans hcfg, ht.ends hends⟩
  | heatDown =>
    obtain ⟨hcfg, hends⟩ := h
    rw [hs.cfg] at hcfg hends
    exact ⟨ht.cfg.trans hcfg, ht.ends hends⟩
  | fridgeBoost =>
    obtain ⟨hboost, hends⟩ := h
    rw [hs.cfg] at hboost hends
    rw [hs.su, hs.fc] at hboost
    exact ⟨ht.boost.trans hboost, ht.ends hends⟩
  | ventStep =>
    obtain ⟨hvent, hends⟩ := h
    rw [hs.fc] at hvent
    exact ⟨ht.vent.trans hvent, ht.ends hends⟩
  | silence =>
    obtain ⟨hchimes, hplayer, hends⟩ := h
    exact ⟨(congrArg PanelUnit.chimes ht.pn).trans hchimes, (congrArg PanelUnit.player ht.pn).trans hplayer, ht.ends hends⟩

/-! ### The actions one by one -/

/-- An action's end changes the last action and posts. -/
theorem endAction_eq (k : Fin 16) (a : KeyAction) (st : Status) (s : State) :
    ∃ hs, endAction k a st s = { s with pn := { s.pn with last := some ⟨k, a, st⟩ }, handed := s.handed ++ hs } := by
  obtain ⟨-, e⟩ | ⟨-, e⟩ := endAction_cases k a st s <;> rw [e]
  · exact ⟨[], by simp⟩
  · exact ⟨[_], rfl⟩

theorem lightOf_endAction (k : Fin 16) (a : KeyAction) (st : Status) (s : State) (i : Fin 6) :
    lightOf (endAction k a st s) i = lightOf s i := by
  obtain ⟨hs, e⟩ := endAction_eq k a st s
  rw [e]
  rfl

theorem lightOf_sceneRequest (n : Fin 8) (s : State) : (sceneRequest (n.1 + 1) s).2 = .ok
    ∧ ∀ i, (lightOf (sceneRequest (n.1 + 1) s).1 i).target = (tget (tget s.cfg.scenes n).levels i).getD (lightOf s i).target := by
  have hscene : sceneRequest (n.1 + 1) s = (setTargets (fun i => tget (tget s.cfg.scenes n).levels i) (tget s.cfg.scenes n).fade false s, .ok) := by
    unfold sceneRequest
    rw [sceneOf_succ]
    rfl
  rw [hscene]
  exact ⟨rfl, fun i => (setTargets_spec _ _ _ s i).1⟩

theorem panelHeat_cfg (d : Int) (s : State) : (panelHeat d s).1.cfg = { s.cfg with
      heaterSet := { s.cfg.heaterSet with setpoint := max 50 (min 300 (s.cfg.heaterSet.setpoint + d)) } }
    ∧ (panelHeat d s).2 = if max 50 (min 300 (s.cfg.heaterSet.setpoint + d)) = s.cfg.heaterSet.setpoint + d then .ok else .clamped := by
  have hclamp : clampInt 50 300 (s.cfg.heaterSet.setpoint + d) = max 50 (min 300 (s.cfg.heaterSet.setpoint + d)) := rfl
  unfold panelHeat
  dsimp only
  rw [ownerEvent_cfg, operate_cfg, hclamp]
  exact ⟨rfl, rfl⟩

theorem boostStart_fc (s : State) : (boostStart s).1.fc.boostEnd = (if s.cfg.fridgeSet.enable then some (s.su.elapsed + 3600) else s.fc.boostEnd)
    ∧ (boostStart s).2 = if s.cfg.fridgeSet.enable then .ok else .state := by
  unfold boostStart
  split <;> exact ⟨rfl, rfl⟩

theorem ventEffect_speed (old : Nat) (s : State) : (ventEffect old s).fc.ventSpeed = s.fc.ventSpeed := by
  unfold ventEffect
  split
  · rfl
  · dsimp only
    rw [ask_fc]
    rfl

theorem writeVentSpeed_speed (n : Nat) (s : State) : (writeVentSpeed n s).fc.ventSpeed = n := by
  unfold writeVentSpeed
  rw [operate_fc, ventEffect_speed, operate_fc]
  rfl

theorem dimsHanded_clicked (k : Fin 16) {a : KeyAction} (ha : a ≠ .none) (ha' : a ≠ .silence) (g : Group) (d : Int) (s : State) :
    dimsHanded k a g d s (clicked a (panelDim k a d g s)) := by
  obtain ⟨hs, e, hclick⟩ := clicked_cases a (panelDim k a d g s)
  rw [e]
  rw [panelDim_eq] at hclick ⊢
  refine ⟨⟨s.handed, hs, ?_, fun hc => hclick hc ha ha'⟩, fun _ => rfl, ?_, rfl⟩
  · rw [groupAdjusts_eq]
  · rw [groupAdjusts_eq, List.length_map]

/-- What a PRESS's action leaves, its click behind it (R126, R127). -/
theorem pressAction_clicked (k : Fin 16) (e : KeyEntry) (s : State) (hrun : runsOn e.action = some .press) :
    pressAction k e s (clicked e.action (keyAction k e s).1) := by
  have hself : ActsOn s s := ⟨rfl, rfl, rfl, rfl, rfl, rfl⟩
  have hclicked : ∀ u, ActsTo u (clicked e.action u) := fun u => by
    obtain ⟨hs, he, -⟩ := clicked_cases e.action u
    rw [he]
    exact .of_handed hs u
  obtain ⟨a, param, report⟩ := e
  cases a with
  | none => exact absurd hrun (by simp [runsOn])
  | heatToggle => exact absurd hrun (by simp [runsOn])
  | restToggle => exact absurd hrun (by simp [runsOn])
  | lightUp => exact dimsHanded_clicked k (by simp) (by simp) (groupParam param) 100 s
  | lightDown => exact dimsHanded_clicked k (by simp) (by simp) (groupParam param) (-100) s
  | lightToggle =>
    refine pressAction_congr hself (hclicked _) ⟨fun i => ?_, actionEnds_endAction _ _ _ _⟩
    exact (congrArg LightChan.target (lightOf_endAction _ _ _ _ i)).trans (lightOf_panelToggle (groupParam param) s i)
  | scene =>
    refine pressAction_congr hself (hclicked _) fun n hn => ?_
    obtain ⟨hok, htargets⟩ := lightOf_sceneRequest n s
    rw [show n.1 + 1 = param from hn.symm] at hok htargets
    refine ⟨fun i => ?_, ?_⟩
    · exact (congrArg LightChan.target (lightOf_endAction _ _ _ _ i)).trans (htargets i)
    · rw [← hok]
      exact actionEnds_endAction _ _ _ _
  | heatUp =>
    obtain ⟨hcfg, hst⟩ := panelHeat_cfg 5 s
    refine pressAction_congr hself (hclicked _) ⟨?_, ?_⟩
    · exact ((moves_endAction _ _ _ _).cfg_eq).trans hcfg
    · rw [← hst]
      exact actionEnds_endAction _ _ _ _
  | heatDown =>
    obtain ⟨hcfg, hst⟩ := panelHeat_cfg (-5) s
    refine pressAction_congr hself (hclicked _) ⟨?_, ?_⟩
    · exact ((moves_endAction _ _ _ _).cfg_eq).trans hcfg
    · rw [← hst]
      exact actionEnds_endAction _ _ _ _
  | fridgeBoost =>
    obtain ⟨hboost, hst⟩ := boostStart_fc s
    refine pressAction_congr hself (hclicked _) ⟨?_, ?_⟩
    · exact (congrArg FridgeUnit.boostEnd (moves_endAction _ _ _ _).fc_eq).trans hboost
    · rw [← hst]
      exact actionEnds_endAction _ _ _ _
  | ventStep =>
    refine pressAction_congr hself (hclicked _) ⟨?_, actionEnds_endAction _ _ _ _⟩
    exact (congrArg FridgeUnit.ventSpeed (moves_endAction _ _ _ _).fc_eq).trans (writeVentSpeed_speed (ventNext s.fc.ventSpeed) s)
  | silence => exact pressAction_congr hself (hclicked _) ⟨rfl, rfl, actionEnds_endAction _ _ _ _⟩

end Sys2Proof.Machine
end

section
/-! PROOFS. A HOLD's action at its target (R65, R66, R126, R137). -/

namespace Sys2Proof.Machine

-- One proof after another: started together they wait for one another, each on a thread of its own.
set_option Elab.async false

variable {s t u v w : State} {as : List Area}

/-! ### HEAT_TOGGLE (R65, R66) -/

theorem toggleStops_started (h : s.hc.state = .waitPower ∨ s.hc.state = .check ∨ s.hc.state = .preheat ∨ s.hc.state = .pause
    ∨ burning s.hc.state = true) : toggleStops s.hc = true := by
  rw [burning_cases] at h
  unfold toggleStops
  obtain h | h | h | h | h | h | h | h := h <;> rw [h]

theorem toggleStops_cold (h : s.hc.state = .off ∨ s.hc.state = .vent ∨ s.hc.state = .dryCool ∨ s.hc.state = .lockout) :
    toggleStops s.hc = false := by
  unfold toggleStops
  obtain h | h | h | h := h <;> rw [h]

theorem toggleStops_purge {p : PurgeRecord} (h : s.hc.state = .purge) (hp : s.hc.purge = some p) :
    toggleStops s.hc = (s.hc.restartPending || (p.exit == .retry || p.exit == .restart)) := by
  unfold toggleStops
  rw [h, hp]

theorem heaterToggle_stops (h : toggleStops s.hc = true) : heaterToggle s = (heaterStop s, .ok) := if_pos h

theorem heaterToggle_starts (h : toggleStops s.hc = false) : heaterToggle s = heaterStart none none s := if_neg (by simp [h])

/-- An accepted toggle's start keeps the setpoint and runs untimed. -/
theorem heaterStart_untimed (h : startRefusal s = none) :
    heaterStart none none s = (startEffect (endFrost { s with hc := { s.hc with durationEnd := none } }), .ok) := by
  unfold heaterStart
  rw [h]
  rfl

/-- What HEAT_TOGGLE leaves of a heater, and its status. -/
structure Toggled (s w : State) (st : Status) : Prop where
  stops : s.hc.state = .waitPower ∨ s.hc.state = .check ∨ s.hc.state = .preheat ∨ s.hc.state = .pause → w.hc.state = .off ∧ st = .ok
  burns : burning s.hc.state = true → w.hc.state = .purge ∧ w.hc.purge = some ⟨.off, none, now s⟩ ∧ st = .ok
  noPower : s.hc.state = .off ∨ s.hc.state = .vent → noStart s → w = s ∧ st = .noPower
  starts : s.hc.state = .off ∨ s.hc.state = .vent → ¬noStart s →
    w.hc.state = .waitPower ∧ w.hc.durationEnd = none ∧ w.cfg = s.cfg ∧ st = .ok
  locked : s.hc.state = .dryCool ∨ s.hc.state = .lockout → w = s ∧ st = .state
  purge : s.hc.state = .purge → ∀ p, s.hc.purge = some p → p.fault = none → w.hc.state = .purge ∧ st = .ok
    ∧ (s.hc.restartPending = true ∨ p.exit = .retry ∨ p.exit = .restart →
        w.hc.purge = some { p with exit := .off } ∧ w.hc.restartPending = false)
    ∧ (s.hc.restartPending = false → p.exit ≠ .retry → p.exit ≠ .restart → w.hc.purge = some p ∧ w.hc.restartPending = true)

theorem toggled_purge {p : PurgeRecord} (hst : s.hc.state = .purge) (hp : s.hc.purge = some p) (hf : p.fault = none) :
    (heaterToggle s).1.hc.state = .purge ∧ (heaterToggle s).2 = .ok
    ∧ (s.hc.restartPending = true ∨ p.exit = .retry ∨ p.exit = .restart →
        (heaterToggle s).1.hc.purge = some { p with exit := .off } ∧ (heaterToggle s).1.hc.restartPending = false)
    ∧ (s.hc.restartPending = false → p.exit ≠ .retry → p.exit ≠ .restart →
        (heaterToggle s).1.hc.purge = some p ∧ (heaterToggle s).1.hc.restartPending = true) := by
  by_cases hends : s.hc.restartPending = true ∨ p.exit = .retry ∨ p.exit = .restart
  · have htoggle : toggleStops s.hc = true := by
      rw [toggleStops_purge hst hp]
      simpa using hends
    have hstop := stopLeft_heaterStop s
    obtain ⟨hrecord, hpending⟩ := hstop.purge hst p hp
    rw [heaterToggle_stops htoggle]
    refine ⟨hstop.state.trans (by rw [hst]; rfl), rfl, fun _ => ⟨?_, ?_⟩, fun h1 h2 h3 => ?_⟩
    · rw [hrecord, hf]
      rfl
    · rw [hpending, hf]
      simp
    · obtain h | h | h := hends
      · exact absurd (h.symm.trans h1) (by decide)
      · exact absurd h h2
      · exact absurd h h3
  · have htoggle : toggleStops s.hc = false := by
      rw [toggleStops_purge hst hp]
      simpa using hends
    obtain ⟨v, hv⟩ : ∃ v, v = endFrost { s with hc := { s.hc with durationEnd := none } } := ⟨_, rfl⟩
    have hvhc : v.hc = { s.hc with durationEnd := none, frostRun := false } := by
      rw [hv]
      exact endFrost_hc _
    rw [heaterToggle_starts htoggle, heaterStart_untimed (startRefusal_purge hst hp hf), ← hv]
    have hhc := startEffect_purge_hc (s := v) (p := p) (by rw [hvhc]; exact hst) (by rw [hvhc]; exact hp)
    rw [hvhc] at hhc
    refine ⟨by rw [hhc]; exact hst, rfl, fun h => absurd h hends, fun _ h2 h3 => ?_⟩
    rw [hhc]
    refine ⟨hp, ?_⟩
    cases hexit : p.exit <;> simp_all

theorem toggled (s : State) : Toggled s (heaterToggle s).1 (heaterToggle s).2 := by
  refine ⟨fun h => ?_, fun h => ?_, fun h hno => ?_, fun h hno => ?_, fun h => ?_, fun hst p hp hf => toggled_purge hst hp hf⟩
  · rw [heaterToggle_stops (toggleStops_started (by tauto))]
    refine ⟨(stopLeft_heaterStop s).state.trans ?_, rfl⟩
    obtain h | h | h | h := h <;> rw [h] <;> rfl
  · rw [heaterToggle_stops (toggleStops_started (by tauto))]
    have hstop := stopLeft_heaterStop s
    refine ⟨hstop.state.trans ?_, (hstop.flame h).1, rfl⟩
    obtain h | h | h | h := burning_cases.mp h <;> rw [h] <;> rfl
  · rw [heaterToggle_starts (toggleStops_cold (by tauto)), heaterStart_refused none none (st := .noPower)]
    · exact ⟨rfl, rfl⟩
    · rw [startRefusal_cold (by tauto), if_pos (noPowerRefusal_iff.2 hno)]
  · have haccept : startRefusal s = none := by
      rw [startRefusal_cold (by tauto), if_neg fun hrefused => hno (noPowerRefusal_iff.1 hrefused)]
    obtain ⟨v, hv⟩ : ∃ v, v = endFrost { s with hc := { s.hc with durationEnd := none } } := ⟨_, rfl⟩
    have hvhc : v.hc = { s.hc with durationEnd := none, frostRun := false } := by
      rw [hv]
      exact endFrost_hc _
    have hvcfg : v.cfg = s.cfg := by
      rw [hv]
      exact endFrost_cfg _
    have hvst : v.hc.state = s.hc.state := by rw [hvhc]
    rw [heaterToggle_starts (toggleStops_cold (by tauto)), heaterStart_untimed haccept, ← hv, startEffect_cold (by rw [hvst]; tauto)]
    have hrun := heaterAt_newRun v
    refine ⟨hrun.state, hrun.durationEnd.trans ?_, ?_, rfl⟩
    · exact (congrArg HeaterUnit.durationEnd hvhc :)
    · rw [← startEffect_cold (by rw [hvst]; tauto), startEffect_cfg, hvcfg]
  · rw [heaterToggle_starts (toggleStops_cold (by tauto)), heaterStart_refused none none (startRefusal_state (by tauto))]
    exact ⟨rfl, rfl⟩

/-! ### REST_TOGGLE (R137) -/

theorem openRest_state (s : State) : (openRest s).rm.state = .resting := by
  unfold openRest
  extract_lets full log
  obtain ⟨e, h, hrm⟩ := restOpened_rm s.rm.state .declared (if full = true then 1 else 0)
    (withRm (fun r => { r with state := .resting, log := log ++ [⟨cabTime s, none, false, false⟩] }) s)
  rw [hrm]
  rfl

/-- What REST_TOGGLE leaves of a rest, and its status. -/
structure RestToggled (s w : State) (st : Status) : Prop where
  ends : s.rm.state = .resting ∨ s.rm.state = .rested → w.rm.state = .stopped ∧ st = .ok
  opens : (s.rm.state = .stopped ∧ s.rm.stopSeg.isSome) ∨ (s.rm.state = .unknown ∧ s.rm.move = .inactive) →
    w.rm.state = .resting ∧ st = .ok
  refused : s.rm.state = .driving ∨ (s.rm.state = .unknown ∧ s.rm.move ≠ .inactive) → w = s ∧ st = .state

theorem restToggle_declares (h1 : s.rm.state ≠ .resting) (h2 : s.rm.state ≠ .rested) : restToggle s = declareRest s := by
  unfold restToggle
  split
  · exact absurd ‹_› h1
  · exact absurd ‹_› h2
  · rfl

theorem restToggled (s : State) : RestToggled s (restToggle s).1 (restToggle s).2 := by
  refine ⟨fun h => ?_, fun h => ?_, fun h => ?_⟩
  · obtain ⟨g, l, d, a, x, y, z, e, hrm, -⟩ := closeRest_rm .stopped false s
    have hend : restToggle s = (restNotice s.rm.state .ended 0
        (withRm (fun r => { r with stopSeg := some ⟨cabTime s, false⟩ }) (closeRest .stopped false s)), .ok) := by
      unfold restToggle endRest
      obtain h | h := h <;> rw [h]
    rw [hend]
    refine ⟨?_, rfl⟩
    change (closeRest .stopped false s).rm.state = _
    rw [hrm]
  · obtain ⟨h, -⟩ | ⟨h, hmove⟩ := h
    · rw [restToggle_declares (by simp [h]) (by simp [h]), declareRest, h]
      exact ⟨openRest_state _, rfl⟩
    · rw [restToggle_declares (by simp [h]) (by simp [h]), declareRest, h]
      dsimp only
      rw [if_pos hmove]
      exact ⟨openRest_state _, rfl⟩
  · obtain h | ⟨h, hmove⟩ := h
    · rw [restToggle_declares (by simp [h]) (by simp [h]), declareRest, h]
      exact ⟨rfl, rfl⟩
    · rw [restToggle_declares (by simp [h]) (by simp [h]), declareRest, h]
      dsimp only
      rw [if_neg hmove]
      exact ⟨rfl, rfl⟩

end Sys2Proof.Machine
end

section
/-! PROOFS. A key event's report, action and feedback, and the hold timer's expiry (R124, R125, R127). -/

namespace Sys2Proof.Machine

-- One proof after another: started together they wait for one another, each on a thread of its own.
set_option Elab.async false

variable {s t u v w x : State} {as : List Area}

/-! ### The report (R124, R125) -/

/-- A key event reported where its report set has it. -/
def offered (ev : KeyEvent) (k : Fin 16) (s : State) : State :=
  if reports (tget s.cfg.keymap k).report ev then offerKey k ev s else s

/-- What a key event's report leaves of the queue. -/
structure Queued (ev : KeyEvent) (k : Fin 16) (s t : State) : Prop where
  unreported : reports (tget s.cfg.keymap k).report ev = false → t.pn.queue = s.pn.queue
  joins : reports (tget s.cfg.keymap k).report ev = true → s.pn.queue.length < 8 →
    t.pn.queue = s.pn.queue ++ [⟨k, ev, stampNow s⟩]
  full : reports (tget s.cfg.keymap k).report ev = true → 8 ≤ s.pn.queue.length →
    t.pn.queue = s.pn.queue ∧ t.pn.overrun = true

/-- A report changes the queue and its OVERRUN, and hands notices alone. -/
theorem offered_eq (ev : KeyEvent) (k : Fin 16) (s : State) : ∃ q o hs,
    offered ev k s = { s with pn := { s.pn with queue := q, overrun := o }, handed := s.handed ++ hs } ∧ ∀ i ∈ hs, ∃ p, i = .noticePost p := by
  unfold offered offerKey
  split
  · split
    · exact ⟨s.pn.queue, true, [], by simp [withPn], by simp⟩
    · exact ⟨_, s.pn.overrun, [_], rfl, fun i hi => ⟨_, List.mem_singleton.1 hi⟩⟩
  · exact ⟨s.pn.queue, s.pn.overrun, [], by simp, by simp⟩

theorem queued_offered (ev : KeyEvent) (k : Fin 16) (s : State) : Queued ev k s (offered ev k s) := by
  unfold offered offerKey
  refine ⟨fun h => ?_, fun h hroom => ?_, fun h hfull => ?_⟩
  · rw [if_neg (by simp [h])]
  · rw [if_pos h, if_neg (by omega)]
    rfl
  · rw [if_pos h, if_pos hfull]
    exact ⟨rfl, rfl⟩

theorem Queued.after (h : Queued ev k s t) (hq : u.pn.queue = t.pn.queue) (ho : u.pn.overrun = t.pn.overrun) : Queued ev k s u :=
  ⟨fun h1 => hq.trans (h.unreported h1), fun h1 h2 => hq.trans (h.joins h1 h2), fun h1 h2 =>
    ⟨hq.trans (h.full h1 h2).1, ho.trans (h.full h1 h2).2⟩⟩

theorem Queued.before (h : Queued ev k v t) (hcfg : v.cfg = s.cfg) (hsu : v.su = s.su) (hq : v.pn.queue = s.pn.queue) : Queued ev k s t := by
  obtain ⟨h1, h2, h3⟩ := h
  rw [hcfg, hq] at h1 h2 h3
  rw [stampNow_congr hsu] at h2
  exact ⟨h1, h2, h3⟩

/-! ### The event -/

/-- A key event's action, where it runs on the event. -/
def acted (ev : KeyEvent) (k : Fin 16) (e : KeyEntry) (s : State) : State × Option Status :=
  if runsOn e.action == some ev then keyAction k e s else (s, none)

theorem issue_press (s : State) (k : Fin 16) : issue .press s k
    = clicked (tget s.cfg.keymap k).action (acted .press k (tget s.cfg.keymap k) (offered .press k s)).1 := rfl

theorem issue_hold (s : State) (k : Fin 16) : issue .hold s k
    = if (acted .hold k (tget s.cfg.keymap k) (offered .hold k s)).2.any accepted
      then chime 1 (acted .hold k (tget s.cfg.keymap k) (offered .hold k s)).1
      else (acted .hold k (tget s.cfg.keymap k) (offered .hold k s)).1 := rfl

theorem issue_release (s : State) (k : Fin 16) : issue .release s k = offered .release k s := by
  have hidle : runsOn (tget s.cfg.keymap k).action ≠ some .release := runsOn_release _
  change (acted .release k (tget s.cfg.keymap k) (offered .release k s)).1 = _
  unfold acted
  rw [if_neg (by simpa using hidle)]

theorem SameKeys.acted (ev : KeyEvent) (k : Fin 16) (e : KeyEntry) (s : State) : SameKeys s (acted ev k e s).1 := by
  unfold Machine.acted
  split
  · exact .keyAction k e s
  · exact .refl s

/-- Behind its report a key event leaves the keys and the queue. -/
theorem SameKeys.issue (ev : KeyEvent) (k : Fin 16) (s : State) : SameKeys (offered ev k s) (issue ev s k) := by
  have hacted := SameKeys.acted ev k (tget s.cfg.keymap k) (offered ev k s)
  cases ev with
  | press =>
    obtain ⟨hs, e, -⟩ := clicked_cases (tget s.cfg.keymap k).action (Machine.acted .press k (tget s.cfg.keymap k) (offered .press k s)).1
    rw [issue_press, e]
    exact hacted.trans (.of_pn rfl)
  | hold =>
    rw [issue_hold]
    split
    · exact hacted.trans (.of_pn rfl)
    · exact hacted
  | release =>
    rw [issue_release]
    exact .refl _

theorem queued_issue (ev : KeyEvent) (k : Fin 16) (s : State) : Queued ev k s (issue ev s k) := by
  obtain ⟨-, -, -, hq, ho⟩ := SameKeys.issue ev k s
  exact (queued_offered ev k s).after hq ho

/-- A key event leaves the keys as they stand. -/
theorem issue_keys (ev : KeyEvent) (k : Fin 16) (s : State) : (issue ev s k).pn.keys = s.pn.keys ∧ (issue ev s k).pn.ambig = s.pn.ambig
    ∧ (issue ev s k).pn.ambiguous = s.pn.ambiguous := by
  obtain ⟨hkeys, hambig, hamb, -, -⟩ := SameKeys.issue ev k s
  obtain ⟨q, o, hs, e, -⟩ := offered_eq ev k s
  rw [e] at hkeys hambig hamb
  exact ⟨hkeys, hambig, hamb⟩

theorem keyOf_withKey (k j : Fin 16) (f : KeyCell → KeyCell) (s : State) :
    keyOf (withKey k f s) j = if k = j then f (keyOf s k) else keyOf s j := tget_tset _ _ _ _

theorem keyOf_issue (ev : KeyEvent) (k j : Fin 16) (s : State) : keyOf (issue ev s k) j = keyOf s j := by
  rw [keyOf, (issue_keys ev k s).1, keyOf]

/-! ### A HOLD and its feedback (R127) -/

/-- A HOLD's action ended, with CONFIRM where it was accepted. -/
def holdEnded (k : Fin 16) (a : KeyAction) (r : State × Status) : State :=
  if accepted r.2 then chime 1 (endAction k a r.2 r.1) else endAction k a r.2 r.1

theorem holdEnded_eq (k : Fin 16) (a : KeyAction) (r : State × Status) :
    ∃ hs, holdEnded k a r = { r.1 with pn := { r.1.pn with last := some ⟨k, a, r.2⟩ }, handed := r.1.handed ++ hs } := by
  obtain ⟨hs, e⟩ := endAction_eq k a r.2 r.1
  unfold holdEnded
  split
  · exact ⟨hs ++ [.chimeRequest 1], by rw [e]; simp [chime, hand]⟩
  · exact ⟨hs, e⟩

theorem actionEnds_holdEnded (k : Fin 16) (a : KeyAction) (r : State × Status) : actionEnds k a r.2 (holdEnded k a r) := by
  have hends := actionEnds_endAction k a r.2 r.1
  unfold holdEnded
  split
  · exact hends.later rfl fun _ hi => List.mem_append_left _ hi
  · exact hends

theorem mem_holdEnded_refused {k : Fin 16} {a : KeyAction} {r : State × Status} (h : accepted r.2 = false)
    (hmem : .chimeRequest 1 ∈ (holdEnded k a r).handed) : .chimeRequest 1 ∈ r.1.handed := by
  unfold holdEnded at hmem
  rw [if_neg (by simp [h])] at hmem
  obtain ⟨-, e⟩ | ⟨-, e⟩ := endAction_cases k a r.2 r.1 <;> rw [e] at hmem
  · exact hmem
  · simpa [hand] using hmem

/-- A HOLD with HEAT_TOGGLE ends at once. -/
theorem issue_heatToggle {k : Fin 16} (ha : (tget s.cfg.keymap k).action = .heatToggle) :
    issue .hold s k = holdEnded k .heatToggle (ownerAct [10, 12] heaterToggle (offered .hold k s)) := by
  rw [issue_hold]
  generalize tget s.cfg.keymap k = e at ha
  obtain ⟨a, param, report⟩ := e
  obtain rfl : a = .heatToggle := ha
  rfl

/-- A HOLD with REST_TOGGLE ends at once. -/
theorem issue_restToggle {k : Fin 16} (ha : (tget s.cfg.keymap k).action = .restToggle) :
    issue .hold s k = holdEnded k .restToggle (ownerAct [24] restToggle (offered .hold k s)) := by
  rw [issue_hold]
  generalize tget s.cfg.keymap k = e at ha
  obtain ⟨a, param, report⟩ := e
  obtain rfl : a = .restToggle := ha
  rfl

/-- Any other action does not run on a HOLD (R126). -/
theorem issue_hold_idle {k : Fin 16} (h1 : (tget s.cfg.keymap k).action ≠ .heatToggle) (h2 : (tget s.cfg.keymap k).action ≠ .restToggle) :
    issue .hold s k = offered .hold k s := by
  rw [issue_hold]
  generalize tget s.cfg.keymap k = e at h1 h2
  obtain ⟨a, param, report⟩ := e
  cases a with
  | heatToggle => exact absurd rfl h1
  | restToggle => exact absurd rfl h2
  | none => rfl
  | lightToggle => rfl
  | lightUp => rfl
  | lightDown => rfl
  | scene => rfl
  | heatUp => rfl
  | heatDown => rfl
  | fridgeBoost => rfl
  | ventStep => rfl
  | silence => rfl

/-! ### Before and behind a HOLD's action -/

/-- What a HOLD's action finds stands in `v` as in `s`. -/
structure HeldOn (s v : State) : Prop where
  cfg : v.cfg = s.cfg
  hc : v.hc = s.hc
  rm : v.rm = s.rm
  ga : v.ga = s.ga
  su : v.su = s.su
  last : v.pn.last = s.pn.last
  silent : .chimeRequest 1 ∉ s.handed → .chimeRequest 1 ∉ v.handed

/-- What a HOLD's action leaves stands in `t` as in `u`. -/
structure HeldTo (u t : State) : Prop where
  cfg : t.cfg = u.cfg
  core : heaterCore t.hc = heaterCore u.hc
  rm : t.rm = u.rm
  last : t.pn.last = u.pn.last
  handed : ∀ i ∈ u.handed, i ∈ t.handed
  silent : .chimeRequest 1 ∈ t.handed → .chimeRequest 1 ∈ u.handed

theorem HeldTo.refl (s : State) : HeldTo s s := ⟨rfl, rfl, rfl, rfl, fun _ h => h, id⟩

theorem HeldTo.state (h : HeldTo u t) : t.hc.state = u.hc.state := (congrArg HeaterUnit.state h.core :)
theorem HeldTo.purge (h : HeldTo u t) : t.hc.purge = u.hc.purge := (congrArg HeaterUnit.purge h.core :)
theorem HeldTo.pending (h : HeldTo u t) : t.hc.restartPending = u.hc.restartPending := (congrArg HeaterUnit.restartPending h.core :)
theorem HeldTo.durationEnd (h : HeldTo u t) : t.hc.durationEnd = u.hc.durationEnd := (congrArg HeaterUnit.durationEnd h.core :)

theorem HeldTo.of_close (s u : State) : HeldTo u (close s u) :=
  ⟨close_cfg _ _, close_heaterCore _ _, close_rm _ _, congrArg PanelUnit.last (close_pn _ _), fun _ => mem_close_of_mem,
    fun h => (mem_close h).resolve_right (by simp)⟩

theorem HeldTo.trans (h : HeldTo s t) (k : HeldTo t u) : HeldTo s u :=
  ⟨k.cfg.trans h.cfg, k.core.trans h.core, k.rm.trans h.rm, k.last.trans h.last, fun i hi => k.handed i (h.handed i hi),
    fun hi => h.silent (k.silent hi)⟩

theorem HeldTo.of_countPanel (s u : State) : HeldTo u (countPanel s u) := by
  unfold countPanel
  split
  · exact .refl u
  · exact ⟨rfl, rfl, rfl, rfl, fun _ h => h, id⟩

theorem HeldOn.noStart (h : HeldOn s v) : noStart v ↔ noStart s := by
  unfold Machine.noStart entryOf
  rw [h.hc, h.cfg, h.ga]

/-- How a HOLD's action ends: carried out, or refused with nothing changed. -/
theorem holdEnds_held {k : Fin 16} {a : KeyAction} {rs : List (Fin 26)} {f : State → State × Status} {st : Status} (hs : HeldOn s v)
    (ht : HeldTo (holdEnded k a (ownerAct rs f v)) t) (hst : (f v).2 = st) (hrefused : st ≠ .ok → (f v).1 = v ∧ accepted st = false) :
    holdEnds k a st s t := by
  subst hst
  refine ⟨(actionEnds_holdEnded k a (ownerAct rs f v)).later ht.last ht.handed, fun hok => ht.handed _ ?_, fun hno hsilent hmem => ?_⟩
  · have hacc : accepted (ownerAct rs f v).2 = true := by
      rw [show (ownerAct rs f v).2 = .ok from hok]
      rfl
    unfold holdEnded
    rw [if_pos hacc]
    exact List.mem_append_right _ (List.mem_singleton_self _)
  · obtain ⟨hsame, hacc⟩ := hrefused hno
    have hmem' : .chimeRequest 1 ∈ (f v).1.handed := mem_holdEnded_refused (r := ownerAct rs f v) hacc (ht.silent hmem)
    rw [hsame] at hmem'
    exact hs.silent hsilent hmem'

theorem holdAction_heatToggle {k : Fin 16} {e : KeyEntry} (he : e.action = .heatToggle) (hs : HeldOn s v)
    (ht : HeldTo (holdEnded k .heatToggle (ownerAct [10, 12] heaterToggle v)) t) : holdAction k e s t := by
  have htoggled := toggled v
  obtain ⟨hands, heq⟩ := holdEnded_eq k .heatToggle (ownerAct [10, 12] heaterToggle v)
  have hstate : t.hc.state = (heaterToggle v).1.hc.state := by rw [ht.state, heq]; rfl
  have hpurge : t.hc.purge = (heaterToggle v).1.hc.purge := by rw [ht.purge, heq]; rfl
  have hpending : t.hc.restartPending = (heaterToggle v).1.hc.restartPending := by rw [ht.pending, heq]; rfl
  have hduration : t.hc.durationEnd = (heaterToggle v).1.hc.durationEnd := by rw [ht.durationEnd, heq]; rfl
  have hcfg : t.cfg = (heaterToggle v).1.cfg := by rw [ht.cfg, heq]; rfl
  have hends : (heaterToggle v).2 = .ok → holdEnds k .heatToggle .ok s t := fun hok =>
    holdEnds_held hs ht hok fun hno => absurd rfl hno
  obtain ⟨a, param, report⟩ := e
  obtain rfl : a = .heatToggle := he
  obtain ⟨hstops, hburns, hnoPower, hstarts, hlocked, hpurges⟩ := htoggled
  rw [hs.hc] at hstops hburns hnoPower hstarts hlocked hpurges
  rw [hs.noStart] at hnoPower hstarts
  refine ⟨fun h => ?_, fun h => ?_, fun h => ⟨fun hno => ?_, fun hno => ?_⟩, fun h => ?_, fun h p hp hf => ?_⟩
  · obtain ⟨h1, hok⟩ := hstops h
    exact ⟨hstate.trans h1, hends hok⟩
  · obtain ⟨h1, h2, hok⟩ := hburns h
    exact ⟨hstate.trans h1, hpurge.trans (h2.trans (by rw [now_congr hs.su])), hends hok⟩
  · obtain ⟨h1, hst⟩ := hnoPower h hno
    refine ⟨hstate.trans ?_, holdEnds_held hs ht hst fun _ => ⟨h1, rfl⟩⟩
    rw [h1, hs.hc]
  · obtain ⟨h1, h2, h3, hok⟩ := hstarts h hno
    exact ⟨hstate.trans h1, hduration.trans h2, hcfg.trans (h3.trans hs.cfg), hends hok⟩
  · obtain ⟨h1, hst⟩ := hlocked h
    refine ⟨hstate.trans ?_, holdEnds_held hs ht hst fun _ => ⟨h1, rfl⟩⟩
    rw [h1, hs.hc]
  · obtain ⟨h1, hok, h2, h3⟩ := hpurges h p hp hf
    refine ⟨hstate.trans h1, hends hok, fun hends' => ?_, fun h4 h5 h6 => ?_⟩
    · obtain ⟨h7, h8⟩ := h2 hends'
      exact ⟨hpurge.trans h7, hpending.trans h8⟩
    · obtain ⟨h7, h8⟩ := h3 h4 h5 h6
      exact ⟨hpurge.trans h7, hpending.trans h8⟩

theorem holdAction_restToggle {k : Fin 16} {e : KeyEntry} (he : e.action = .restToggle) (hs : HeldOn s v)
    (ht : HeldTo (holdEnded k .restToggle (ownerAct [24] restToggle v)) t) : holdAction k e s t := by
  obtain ⟨hcloses, hopens, hrefused⟩ := restToggled v
  obtain ⟨hands, heq⟩ := holdEnded_eq k .restToggle (ownerAct [24] restToggle v)
  have hrm : t.rm = (restToggle v).1.rm := by rw [ht.rm, heq]; rfl
  obtain ⟨a, param, report⟩ := e
  obtain rfl : a = .restToggle := he
  rw [hs.rm] at hcloses hopens hrefused
  refine ⟨fun h => ?_, fun h => ?_, fun h => ?_⟩
  · obtain ⟨h1, hok⟩ := hcloses h
    exact ⟨(congrArg RestUnit.state hrm).trans h1, holdEnds_held hs ht hok fun hno => absurd rfl hno⟩
  · obtain ⟨h1, hok⟩ := hopens h
    exact ⟨(congrArg RestUnit.state hrm).trans h1, holdEnds_held hs ht hok fun hno => absurd rfl hno⟩
  · obtain ⟨h1, hst⟩ := hrefused h
    refine ⟨hrm.trans ?_, holdEnds_held hs ht hst fun _ => ⟨h1, rfl⟩⟩
    rw [h1, hs.rm]

/-- What a HOLD's action leaves (R126). -/
theorem holdAction_issue {k : Fin 16} (hs : HeldOn s v) (hcfg : v.cfg = x.cfg) (hv : v = offered .hold k x)
    (ht : HeldTo (issue .hold x k) t) : holdAction k (tget s.cfg.keymap k) s t := by
  have hentry : tget x.cfg.keymap k = tget s.cfg.keymap k := by rw [← hcfg, hs.cfg]
  by_cases h1 : (tget s.cfg.keymap k).action = .heatToggle
  · rw [issue_heatToggle (hentry ▸ h1), ← hv] at ht
    exact holdAction_heatToggle h1 hs ht
  by_cases h2 : (tget s.cfg.keymap k).action = .restToggle
  · rw [issue_restToggle (hentry ▸ h2), ← hv] at ht
    exact holdAction_restToggle h2 hs ht
  rw [issue_hold_idle (hentry ▸ h1) (hentry ▸ h2), ← hv] at ht
  have hlast : t.pn.last = s.pn.last := ht.last.trans hs.last
  generalize tget s.cfg.keymap k = e at h1 h2
  obtain ⟨a, param, report⟩ := e
  cases a with
  | heatToggle => exact absurd rfl h1
  | restToggle => exact absurd rfl h2
  | none => exact hlast
  | lightToggle => exact hlast
  | lightUp => exact hlast
  | lightDown => exact hlast
  | scene => exact hlast
  | heatUp => exact hlast
  | heatDown => exact hlast
  | fridgeBoost => exact hlast
  | ventStep => exact hlast
  | silence => exact hlast

/-! ### The hold timer's expiry (R124) -/

theorem holdOver_idle {k : Fin 16} (h : (keyOf s k).state ≠ .pressed ∨ (keyOf s k).hold = false) : holdOver k s = s := by
  unfold holdOver
  rw [if_neg]
  rintro ⟨h1, h2⟩
  obtain h | h := h
  · exact h h1
  · exact absurd (h.symm.trans h2) (by decide)

theorem holdOver_held {k : Fin 16} (h1 : (keyOf s k).state = .pressed) (h2 : (keyOf s k).hold = true) :
    holdOver k s = countPanel s (issue .hold (withKey k (fun c => { c with hold := false }) s) k) := if_pos ⟨h1, h2⟩

theorem exec_holdTimerExpiry (k : Fin 16) (hrun : s.mc.supply = .running) : ∃ t, exec (.holdTimerExpiry k) s = .next t
    ∧ (keyOf t k).state = (keyOf s k).state
    ∧ ((keyOf s k).state = .pressed → (keyOf t k).hold = false)
    ∧ ((keyOf s k).state = .pressed → (keyOf s k).hold = true → (tget s.cfg.keymap k).report.getLsbD 1 = true →
        s.pn.queue.length < 8 → t.pn.queue = s.pn.queue ++ [⟨k, .hold, stampNow s⟩])
    ∧ ((keyOf s k).state = .pressed → (keyOf s k).hold = true → holdAction k (tget s.cfg.keymap k) s t)
    ∧ ((keyOf s k).state ≠ .pressed ∨ (keyOf s k).hold = false → t.pn = s.pn) := by
  obtain ⟨v, hv⟩ : ∃ v, v = startEvent (.holdTimerExpiry k) s := ⟨_, rfl⟩
  have hvpn : v.pn = s.pn := by rw [hv]; rfl
  have hkey : keyOf v k = keyOf s k := by rw [keyOf, hvpn, keyOf]
  refine ⟨_, exec_running hrun rfl, ?_⟩
  have heff : effect (.holdTimerExpiry k) v = holdOver k v := rfl
  rw [← hv, heff]
  by_cases h : (keyOf s k).state ≠ .pressed ∨ (keyOf s k).hold = false
  · have hpn : (close s (holdOver k v)).pn = s.pn := by rw [close_pn, holdOver_idle (by rwa [hkey]), hvpn]
    have hkeyt : keyOf (close s (holdOver k v)) k = keyOf s k := by rw [keyOf, hpn, keyOf]
    refine ⟨by rw [hkeyt], fun h1 => ?_, fun h1 h2 => ?_, fun h1 h2 => ?_, fun _ => hpn⟩
    · rw [hkeyt]
      exact h.resolve_left fun hne => hne h1
    · exact absurd (h.resolve_left fun hne => hne h1) (by rw [h2]; decide)
    · exact absurd (h.resolve_left fun hne => hne h1) (by rw [h2]; decide)
  · rw [not_or, not_not, Bool.not_eq_false] at h
    obtain ⟨h1, h2⟩ := h
    obtain ⟨x, hx⟩ : ∃ x, x = withKey k (fun c => { c with hold := false }) v := ⟨_, rfl⟩
    have hheld : holdOver k v = countPanel v (issue .hold x k) := by
      rw [hx]
      exact holdOver_held (hkey ▸ h1) (hkey ▸ h2)
    have hto : HeldTo (issue .hold x k) (close s (holdOver k v)) := by
      rw [hheld]
      exact (HeldTo.of_countPanel v _).trans (.of_close s _)
    have hpn : (close s (holdOver k v)).pn = (issue .hold x k).pn := by
      rw [close_pn, hheld, (moves_countPanel v _).pn_eq]
    have hkeyt : keyOf (close s (holdOver k v)) k = { keyOf s k with hold := false } := by
      have hcell : keyOf (close s (holdOver k v)) k = keyOf (issue .hold x k) k := by rw [keyOf, hpn, keyOf]
      rw [hcell, keyOf_issue, hx, keyOf_withKey, if_pos rfl, hkey]
    obtain ⟨q, o, hs, e, hnotices⟩ := offered_eq .hold k x
    have hqueued : Queued .hold k s (close s (holdOver k v)) := by
      have hq := (queued_issue .hold k x).after (congrArg PanelUnit.queue hpn) (congrArg PanelUnit.overrun hpn)
      exact hq.before (by rw [hx, hv]; rfl) (by rw [hx, hv]; rfl) (by rw [hx, hv]; rfl)
    refine ⟨by rw [hkeyt], fun _ => by rw [hkeyt], fun _ _ hrep hroom => hqueued.joins hrep hroom, fun _ _ => ?_, fun h => ?_⟩
    · refine holdAction_issue (v := offered .hold k x) ?_ (by rw [e]) rfl hto
      rw [e, hx, hv]
      refine ⟨rfl, rfl, rfl, rfl, rfl, rfl, fun hsilent hmem => ?_⟩
      obtain hmem | hmem := List.mem_append.1 hmem
      · exact hsilent (List.mem_of_mem_erase hmem)
      · obtain ⟨p, hp⟩ := hnotices _ hmem
        exact absurd hp (by simp)
    · obtain h | h := h
      · exact absurd h1 h
      · exact absurd h (by rw [h2]; decide)

end Sys2Proof.Machine
end

section
/-! PROOFS. A key scan's reads, runs and accepted changes (R121, R123). -/

namespace Sys2Proof.Machine

-- One proof after another: started together they wait for one another, each on a thread of its own.
set_option Elab.async false

variable {s t u v w x : State} {reads : BitVec 16}

/-! ### Key by key -/

theorem allKeys_nodup : allKeys.Nodup := by decide

theorem filter_allKeys_eq (k : Fin 16) : (allKeys.filter fun j => decide (j = k)) = [k] := by revert k; decide

/-- A fold that sets each element once from what it holds. -/
theorem tget_foldl_each {α : Type} {n : Nat} (f : Fin n → α → α) {ks : List (Fin n)} (hks : ks.Nodup) (v : Vector α n) (j : Fin n) :
    tget (ks.foldl (fun v k => tset v k (f k (tget v k))) v) j = if j ∈ ks then f j (tget v j) else tget v j := by
  induction ks generalizing v with
  | nil => rfl
  | cons k ks ih =>
    obtain ⟨hk, hrest⟩ := List.nodup_cons.1 hks
    rw [List.foldl_cons, ih hrest, tget_tset]
    by_cases hjk : k = j
    · subst hjk
      rw [if_pos rfl, if_neg hk, if_pos List.mem_cons_self]
    · rw [if_neg hjk]
      simp only [List.mem_cons, Ne.symm hjk, false_or]

theorem keyOf_scanKeys (reads held : BitVec 16) (s : State) (j : Fin 16) :
    keyOf (scanKeys reads held s) j = scanKey reads held j (keyOf s j) := by
  refine (tget_foldl_each (fun k c => scanKey reads held k c) allKeys_nodup s.pn.keys j).trans ?_
  rw [if_pos (mem_allKeys j)]
  rfl

theorem keyOf_clearRuns {ks : List (Fin 16)} (hks : ks.Nodup) (s : State) (j : Fin 16) :
    keyOf (clearRuns ks s) j = if j ∈ ks then { keyOf s j with run := 0 } else keyOf s j := by
  unfold clearRuns
  induction ks generalizing s with
  | nil => rfl
  | cons k ks ih =>
    obtain ⟨hk, hrest⟩ := List.nodup_cons.1 hks
    rw [List.foldl_cons, ih hrest, keyOf_withKey]
    by_cases hjk : k = j
    · subst hjk
      rw [if_pos rfl, if_neg hk, if_pos List.mem_cons_self]
    · rw [if_neg hjk]
      simp only [List.mem_cons, Ne.symm hjk, false_or]

/-- The key pad's cells and their ambiguity set anew, and of the PI nothing else. -/
def CellsSet (s t : State) : Prop :=
  t.pn = { s.pn with keys := t.pn.keys, ambig := t.pn.ambig, ambiguous := t.pn.ambiguous }

theorem CellsSet.trans (h : CellsSet s t) (k : CellsSet t u) : CellsSet s u := by
  unfold CellsSet at *
  rw [k, h]

theorem CellsSet.of_pn (h : t.pn = s.pn) : CellsSet s t := by
  unfold CellsSet
  rw [h]

theorem CellsSet.clearRuns (ks : List (Fin 16)) (s : State) : CellsSet s (clearRuns ks s)
    ∧ (clearRuns ks s).pn.ambig = s.pn.ambig ∧ (clearRuns ks s).pn.ambiguous = s.pn.ambiguous := by
  unfold Machine.clearRuns
  induction ks generalizing s with
  | nil => exact ⟨rfl, rfl, rfl⟩
  | cons k ks ih =>
    obtain ⟨h1, h2, h3⟩ := ih (withKey k (fun c => { c with run := 0 }) s)
    exact ⟨CellsSet.trans rfl h1, h2, h3⟩

theorem CellsSet.ambiguity (reads : BitVec 16) (s : State) : CellsSet s (ambiguity reads s) ∧ (ambiguity reads s).pn.keys = s.pn.keys := by
  unfold Machine.ambiguity
  split
  · exact ⟨rfl, rfl⟩
  · split <;> exact ⟨rfl, rfl⟩

/-! ### A scan up to its accepted changes -/

/-- The keys' reads and runs at a scan. -/
def scanRead (reads : BitVec 16) (s : State) : State :=
  scanKeys reads (s.pn.ambig ||| (ambiguity reads s).pn.ambig) (ambiguity reads s)

/-- The keys whose closure is accepted. -/
def scanClosures (reads : BitVec 16) (s : State) : List (Fin 16) :=
  (acceptedKeys (scanRead reads s)).filter fun k => !(acceptedClosed (keyOf (scanRead reads s) k).state)

/-- The keys whose opening is accepted. -/
def scanOpenings (reads : BitVec 16) (s : State) : List (Fin 16) :=
  (acceptedKeys (scanRead reads s)).filter fun k => acceptedClosed (keyOf (scanRead reads s) k).state

/-- The scan with the accepted runs back at 0, a closure taken as a wake source. -/
def scanTaken (reads : BitVec 16) (s : State) : State :=
  if (scanClosures reads s).isEmpty then clearRuns (acceptedKeys (scanRead reads s)) (scanRead reads s)
  else wakeFromDoze (clearRuns (acceptedKeys (scanRead reads s)) (scanRead reads s))

theorem keyScan_single (hst : s.pn.standby = false) (hmode : s.cfg.panel.mode = .single) :
    keyScan reads s = singleScan (scanClosures reads s) (scanOpenings reads s) (scanTaken reads s) := by
  unfold keyScan
  rw [if_neg (by simp [hst]), hmode]
  rfl

theorem keyScan_multi (hst : s.pn.standby = false) (hmode : s.cfg.panel.mode = .multi) :
    keyScan reads s = multiScan (scanClosures reads s) (acceptedKeys (scanRead reads s)) (scanTaken reads s) := by
  unfold keyScan
  rw [if_neg (by simp [hst]), hmode]
  rfl

/-- A key as the scan reads it. -/
def readCell (reads : BitVec 16) (s : State) (j : Fin 16) : KeyCell :=
  scanKey reads (s.pn.ambig ||| (ambiguity reads s).pn.ambig) j (keyOf s j)

theorem keyOf_scanRead (reads : BitVec 16) (s : State) (j : Fin 16) : keyOf (scanRead reads s) j = readCell reads s j := by
  unfold scanRead readCell
  rw [keyOf_scanKeys, keyOf, (CellsSet.ambiguity reads s).2, keyOf]

theorem readCell_state (reads : BitVec 16) (s : State) (j : Fin 16) : (readCell reads s j).state = (keyOf s j).state
    ∧ (readCell reads s j).hold = (keyOf s j).hold ∧ (readCell reads s j).closed = readsClosed reads j := ⟨rfl, rfl, rfl⟩

theorem mem_acceptedKeys (reads : BitVec 16) (s : State) (j : Fin 16) :
    j ∈ acceptedKeys (scanRead reads s) ↔ 2 ≤ (readCell reads s j).run := by
  unfold acceptedKeys
  rw [List.mem_filter, and_iff_right (mem_allKeys j), decide_eq_true_iff, keyOf_scanRead]

theorem acceptedKeys_nodup (s : State) : (acceptedKeys s).Nodup := allKeys_nodup.filter _

/-- One key alone accepted. -/
theorem acceptedKeys_one {k : Fin 16} (hk : 2 ≤ (readCell reads s k).run) (hj : ∀ j, j ≠ k → (readCell reads s j).run < 2) :
    acceptedKeys (scanRead reads s) = [k] := by
  rw [← filter_allKeys_eq k]
  refine List.filter_congr fun j _ => ?_
  rw [keyOf_scanRead]
  by_cases h : j = k
  · subst h
    simp [hk]
  · simp [h, hj j h]

theorem acceptedKeys_none (hj : ∀ j, (readCell reads s j).run < 2) : acceptedKeys (scanRead reads s) = [] :=
  List.eq_nil_iff_forall_not_mem.2 fun j h => absurd ((mem_acceptedKeys reads s j).1 h) (by have := hj j; omega)

theorem CellsSet.scanKeys (reads held : BitVec 16) (s : State) : CellsSet s (scanKeys reads held s)
    ∧ (scanKeys reads held s).pn.ambig = s.pn.ambig ∧ (scanKeys reads held s).pn.ambiguous = s.pn.ambiguous := by
  obtain ⟨v, hv⟩ : ∃ v, Machine.scanKeys reads held s = { s with pn := { s.pn with keys := v } } := ⟨_, rfl⟩
  rw [hv]
  exact ⟨rfl, rfl, rfl⟩

theorem CellsSet.scanRead (reads : BitVec 16) (s : State) : CellsSet s (scanRead reads s)
    ∧ (scanRead reads s).pn.ambig = (Machine.ambiguity reads s).pn.ambig
    ∧ (scanRead reads s).pn.ambiguous = (Machine.ambiguity reads s).pn.ambiguous := by
  obtain ⟨h1, h2, h3⟩ := CellsSet.scanKeys reads (s.pn.ambig ||| (Machine.ambiguity reads s).pn.ambig) (Machine.ambiguity reads s)
  exact ⟨(CellsSet.ambiguity reads s).1.trans h1, h2, h3⟩

theorem moves_scanRead (reads : BitVec 16) (s : State) : Moves [.pn] s (scanRead reads s) :=
  (moves_ambiguity reads s).trans (moves_scanKeys _ _ _)

/-- What a scan up to its accepted changes leaves of the part. -/
structure ScanTaken (reads : BitVec 16) (s x : State) : Prop where
  moves : Moves [.pn, .mc] s x
  cells : CellsSet s x
  ambig : x.pn.ambig = (ambiguity reads s).pn.ambig
  ambiguous : x.pn.ambiguous = (ambiguity reads s).pn.ambiguous
  key : ∀ j, keyOf x j = if 2 ≤ (readCell reads s j).run then { readCell reads s j with run := 0 } else readCell reads s j

theorem scanTaken_spec (reads : BitVec 16) (s : State) : ScanTaken reads s (scanTaken reads s) := by
  obtain ⟨y, hy⟩ : ∃ y, y = clearRuns (acceptedKeys (scanRead reads s)) (scanRead reads s) := ⟨_, rfl⟩
  have hmoves : Moves [.pn, .mc] s y := by
    rw [hy]
    exact ((moves_scanRead reads s).trans (moves_clearRuns _ _)).mono
  obtain ⟨hread, hreadAmbig, hreadAmbiguous⟩ := CellsSet.scanRead reads s
  obtain ⟨hcells, hambig, hambiguous⟩ := CellsSet.clearRuns (acceptedKeys (scanRead reads s)) (scanRead reads s)
  rw [← hy] at hcells hambig hambiguous
  have hkey : ∀ j, keyOf y j = if 2 ≤ (readCell reads s j).run then { readCell reads s j with run := 0 } else readCell reads s j := by
    intro j
    rw [hy, keyOf_clearRuns (acceptedKeys_nodup _), keyOf_scanRead]
    simp only [mem_acceptedKeys]
  have hspec : ScanTaken reads s y :=
    ⟨hmoves, hread.trans hcells, hambig.trans hreadAmbig, hambiguous.trans hreadAmbiguous, hkey⟩
  unfold scanTaken
  rw [← hy]
  split
  · exact hspec
  · have hpn : (wakeFromDoze y).pn = y.pn := (moves_wakeFromDoze y).pn_eq
    refine ⟨hmoves.trans (moves_wakeFromDoze y).mono, hspec.cells.trans (.of_pn hpn), ?_, ?_, fun j => ?_⟩
    · rw [hpn, hspec.ambig]
    · rw [hpn, hspec.ambiguous]
    · rw [keyOf, hpn]
      exact hspec.key j

/-! ### The accepted changes -/

theorem keyOf_pressKey (k j : Fin 16) (s : State) :
    keyOf (pressKey s k) j = if k = j then { keyOf s k with state := .pressed, hold := true } else keyOf s j := by
  unfold pressKey
  rw [keyOf_issue, keyOf_withKey]

theorem keyOf_openKey (k j : Fin 16) (s : State) :
    keyOf (openKey s k) j = if k = j then { keyOf s k with state := .opened, hold := false } else keyOf s j := by
  unfold openKey
  dsimp only
  split
  · rw [keyOf_issue, keyOf_withKey]
  · rw [keyOf_withKey]

theorem pressKey_ambig (s : State) (k : Fin 16) :
    (pressKey s k).pn.ambig = s.pn.ambig ∧ (pressKey s k).pn.ambiguous = s.pn.ambiguous := (issue_keys .press k _).2

theorem openKey_ambig (s : State) (k : Fin 16) :
    (openKey s k).pn.ambig = s.pn.ambig ∧ (openKey s k).pn.ambiguous = s.pn.ambiguous := by
  unfold openKey
  dsimp only
  split
  · exact (issue_keys .release k _).2
  · exact ⟨rfl, rfl⟩

/-- The keys outside a scan's accepted changes stand in MULTI mode. -/
theorem multiScan_others (closures ks : List (Fin 16)) (s : State) : (multiScan closures ks s).pn.ambig = s.pn.ambig
    ∧ (multiScan closures ks s).pn.ambiguous = s.pn.ambiguous ∧ ∀ j, j ∉ ks → keyOf (multiScan closures ks s) j = keyOf s j := by
  unfold multiScan
  extract_lets s1
  have h1 : s1.pn = s.pn := by
    unfold s1
    split <;> rfl
  have hfold : ∀ (xs : List (Fin 16)) (y : State),
      let r := xs.foldl (fun s k => if closures.contains k then pressKey s k else openKey s k) y
      r.pn.ambig = y.pn.ambig ∧ r.pn.ambiguous = y.pn.ambiguous ∧ ∀ j, j ∉ xs → keyOf r j = keyOf y j := by
    intro xs
    induction xs with
    | nil => exact fun y => ⟨rfl, rfl, fun _ _ => rfl⟩
    | cons k xs ih =>
      intro y
      rw [List.foldl_cons]
      obtain ⟨h1, h2, h3⟩ := ih (if closures.contains k then pressKey y k else openKey y k)
      have hstep : (if closures.contains k then pressKey y k else openKey y k).pn.ambig = y.pn.ambig
          ∧ (if closures.contains k then pressKey y k else openKey y k).pn.ambiguous = y.pn.ambiguous
          ∧ ∀ j, j ≠ k → keyOf (if closures.contains k then pressKey y k else openKey y k) j = keyOf y j := by
        split
        · exact ⟨(pressKey_ambig y k).1, (pressKey_ambig y k).2, fun j hj => by rw [keyOf_pressKey, if_neg (Ne.symm hj)]⟩
        · exact ⟨(openKey_ambig y k).1, (openKey_ambig y k).2, fun j hj => by rw [keyOf_openKey, if_neg (Ne.symm hj)]⟩
      obtain ⟨h4, h5, h6⟩ := hstep
      refine ⟨h1.trans h4, h2.trans h5, fun j hj => ?_⟩
      rw [List.mem_cons, not_or] at hj
      exact (h3 j hj.2).trans (h6 j hj.1)
  obtain ⟨h2, h3, h4⟩ := hfold (anyOrder s ks) s1
  refine ⟨h2.trans (congrArg PanelUnit.ambig h1), h3.trans (congrArg PanelUnit.ambiguous h1), fun j hj => ?_⟩
  have hj' : j ∉ anyOrder s ks := fun h => hj ((anyOrder_perm s ks).mem_iff.1 h)
  refine (h4 j hj').trans ?_
  rw [keyOf, h1, keyOf]

theorem multiScan_none (closures : List (Fin 16)) (s : State) : multiScan closures [] s = s := rfl

theorem multiScan_one (closures : List (Fin 16)) (k : Fin 16) (s : State) :
    multiScan closures [k] s = if closures.contains k then pressKey s k else openKey s k := rfl

end Sys2Proof.Machine
end

section
/-! PROOFS. The key scans of both modes, and the ambiguous set (R122, R123). -/

namespace Sys2Proof.Machine

-- One proof after another: started together they wait for one another, each on a thread of its own.
set_option Elab.async false

variable {s t u v w x : State} {reads : BitVec 16}

/-! ### A PRESS and a RELEASE (R124) -/

/-- What a PRESS of key `k` leaves, from `s` to `t`. -/
structure PressLeaves (k : Fin 16) (s t : State) : Prop where
  queued : Queued .press k s t
  acts : pressAction k (tget s.cfg.keymap k) s t
  click : s.cfg.panel.click = true → (tget s.cfg.keymap k).action ≠ .none → (tget s.cfg.keymap k).action ≠ .silence →
    .chimeRequest 0 ∈ t.handed

theorem ActsOn.trans (h : ActsOn s t) (k : ActsOn t u) : ActsOn s u :=
  ⟨k.cfg.trans h.cfg, k.fc.trans h.fc, k.lc.trans h.lc, k.su.trans h.su, k.last.trans h.last, k.dims.trans h.dims⟩

theorem ActsOn.offered (ev : KeyEvent) (k : Fin 16) (s : State) : ActsOn s (offered ev k s) := by
  obtain ⟨q, o, hs, e, -⟩ := offered_eq ev k s
  rw [e]
  exact ⟨rfl, rfl, rfl, rfl, rfl, rfl⟩

theorem ActsTo.clicked (a : KeyAction) (s : State) : ActsTo s (clicked a s) := by
  obtain ⟨hs, e, -⟩ := clicked_cases a s
  rw [e]
  exact .of_handed hs s

/-- A key whose action runs on no PRESS leaves the last action. -/
theorem pressAction_idle {k : Fin 16} {e : KeyEntry} (h : runsOn e.action ≠ some .press) (hlast : t.pn.last = s.pn.last) :
    pressAction k e s t := by
  obtain ⟨a, param, report⟩ := e
  cases a with
  | none => exact hlast
  | heatToggle => exact hlast
  | restToggle => exact hlast
  | lightToggle => exact absurd rfl h
  | lightUp => exact absurd rfl h
  | lightDown => exact absurd rfl h
  | scene => exact absurd rfl h
  | heatUp => exact absurd rfl h
  | heatDown => exact absurd rfl h
  | fridgeBoost => exact absurd rfl h
  | ventStep => exact absurd rfl h
  | silence => exact absurd rfl h

theorem pressAction_silence {k : Fin 16} {e : KeyEntry} (he : e.action = .silence) (h : pressAction k e s t) :
    t.pn.chimes = [] ∧ t.pn.player = none ∧ t.pn.last = some ⟨k, .silence, .ok⟩ := by
  obtain ⟨a, param, report⟩ := e
  obtain rfl : a = .silence := he
  obtain ⟨h1, h2, h3, -⟩ := h
  exact ⟨h1, h2, h3⟩

theorem acted_press {k : Fin 16} {e : KeyEntry} (h : runsOn e.action = some .press) (s : State) :
    acted .press k e s = keyAction k e s := if_pos (beq_iff_eq.2 h)

theorem acted_idle {ev : KeyEvent} {k : Fin 16} {e : KeyEntry} (h : runsOn e.action ≠ some ev) (s : State) :
    acted ev k e s = (s, none) := if_neg (by simpa using h)

theorem restWakes_all (s : State) : RestWakes (.rm :: wakeAreas) s := ⟨⟨by decide, fun _ => by decide, by decide⟩, List.mem_cons_self⟩

/-- No action writes PANEL's settings. -/
theorem keyAction_panel (k : Fin 16) (e : KeyEntry) (s : State) : (keyAction k e s).1.cfg.panel = s.cfg.panel :=
  (congrArg Settings.panel (moves_keyAction k e (restWakes_all s)).settingsCore_eq :)

theorem pressLeaves_issue {k : Fin 16} (hx : ActsOn s x) (hq : x.pn.queue = s.pn.queue) (ht : ActsTo (issue .press x k) t) :
    PressLeaves k s t := by
  have hentry : tget x.cfg.keymap k = tget s.cfg.keymap k := by rw [hx.cfg]
  have hon : ActsOn s (offered .press k x) := hx.trans (.offered .press k x)
  obtain ⟨hs, hclicked, hclick⟩ := clicked_cases (tget x.cfg.keymap k).action (acted .press k (tget x.cfg.keymap k) (offered .press k x)).1
  refine ⟨?_, ?_, fun hc h1 h2 => ?_⟩
  · have hqueued := (queued_issue .press k x).after (congrArg PanelUnit.queue ht.pn) (congrArg PanelUnit.overrun ht.pn)
    exact hqueued.before hx.cfg hx.su hq
  · by_cases hrun : runsOn (tget s.cfg.keymap k).action = some .press
    · refine pressAction_congr hon ht ?_
      rw [issue_press, hentry, acted_press hrun]
      exact pressAction_clicked k _ _ hrun
    · refine pressAction_idle hrun ?_
      rw [ht.pn, issue_press, hentry, acted_idle hrun, (ActsTo.clicked _ _).pn, hon.last]
  · refine ht.handed.mem ?_
    rw [issue_press, hclicked]
    refine List.mem_append_right _ (hclick ?_ (by rwa [hentry]) (by rwa [hentry]))
    have hcfg : (acted .press k (tget x.cfg.keymap k) (offered .press k x)).1.cfg.panel = s.cfg.panel := by
      unfold acted
      split
      · rw [keyAction_panel, hon.cfg]
      · rw [hon.cfg]
    rw [hcfg]
    exact hc

/-- A pressed key's click, and what stands behind its closure. -/
theorem pressLeaves_pressKey {k : Fin 16} (hx : ActsOn s x) (hq : x.pn.queue = s.pn.queue) (ht : ActsTo (pressKey x k) t) : PressLeaves k s t :=
  pressLeaves_issue (x := withKey k (fun c => { c with state := .pressed, hold := true }) x)
    (hx.trans ⟨rfl, rfl, rfl, rfl, rfl, rfl⟩) hq ht

theorem queued_openKey {k : Fin 16} (hpressed : (keyOf s k).state = .pressed) : Queued .release k s (openKey s k) := by
  have hopen : openKey s k = issue .release (withKey k (fun c => { c with state := .opened, hold := false }) s) k := if_pos hpressed
  rw [hopen]
  exact (queued_issue .release k _).before rfl rfl rfl

/-! ### A scan in SINGLE mode (R122) -/

theorem anyHeld_false (h : ∀ j, (keyOf s j).state = .opened) : anyHeld s = false := by
  unfold anyHeld
  rw [List.any_eq_false]
  intro j _
  simp [h j]

theorem singleEnd_pressed {k : Fin 16} (h : (keyOf s k).state = .pressed) : singleEnd s = s := by
  unfold singleEnd
  rw [if_pos]
  exact List.any_eq_true.2 ⟨k, mem_allKeys k, by simp [h]⟩

theorem singleEnd_opened (h : ∀ j, (keyOf s j).state = .opened) : singleEnd s = s := by
  have hpressed : (allKeys.any fun k => (keyOf s k).state == .pressed) = false := by
    rw [List.any_eq_false]
    intro j _
    simp [h j]
  have hcontested : (allKeys.filter fun k => (keyOf s k).state == .contested) = [] := by
    rw [List.filter_eq_nil_iff]
    intro j _
    simp [h j]
  unfold singleEnd
  rw [hpressed, hcontested]
  rfl

/-- With every key OPEN a single closure is a press. -/
theorem singleScan_closure {k : Fin 16} (h : ∀ j, (keyOf s j).state = .opened) : singleScan [k] [] s = pressKey s k := by
  have hclose : singleClosures [k] s = pressKey s k := by
    unfold singleClosures
    rw [anyHeld_false h]
    rfl
  have hscan : singleScan [k] [] s = singleEnd (singleClosures [k] s) := rfl
  rw [hscan, hclose]
  refine singleEnd_pressed (k := k) ?_
  rw [keyOf_pressKey, if_pos rfl]

/-- With every other key OPEN a single opening is a release. -/
theorem singleScan_opening {k : Fin 16} (h : ∀ j, j ≠ k → (keyOf s j).state = .opened) : singleScan [] [k] s = openKey s k := by
  have hscan : singleScan [] [k] s = singleEnd (openKey s k) := rfl
  rw [hscan]
  refine singleEnd_opened fun j => ?_
  rw [keyOf_openKey]
  by_cases hj : k = j
  · rw [if_pos hj]
  · rw [if_neg hj]
    exact h j (Ne.symm hj)

theorem singleScan_idle (h : ∀ j, (keyOf s j).state = .opened) : singleScan [] [] s = s := singleEnd_opened h

theorem ambiguity_single (hmode : s.cfg.panel.mode = .single) (reads : BitVec 16) : ambiguity reads s = s := by
  unfold ambiguity
  rw [hmode]

theorem readsClosed_one (k j : Fin 16) : readsClosed (1#16 <<< k.1) j = decide (j = k) := by revert k j; decide

theorem readsClosed_zero (j : Fin 16) : readsClosed 0#16 j = false := by revert j; decide

theorem readCell_run (reads : BitVec 16) (s : State) (j : Fin 16) : (readCell reads s j).run
    = if readsClosed reads j == acceptedClosed (keyOf s j).state
        || (readsClosed reads j && (s.pn.ambig ||| (ambiguity reads s).pn.ambig).getLsbD j.1) then 0 else (keyOf s j).run + 1 := rfl

/-- A key that reads as it stands, or that the ambiguous set holds, has no run. -/
theorem readCell_run_zero {j : Fin 16} (h : readsClosed reads j = acceptedClosed (keyOf s j).state
    ∨ (readsClosed reads j = true ∧ (s.pn.ambig ||| (ambiguity reads s).pn.ambig).getLsbD j.1 = true)) : (readCell reads s j).run = 0 := by
  rw [readCell_run, if_pos]
  obtain h | ⟨h1, h2⟩ := h
  · simp [h]
  · rw [h2, h1]
    simp

/-- A key that reads otherwise than it stands, outside the ambiguous set, goes on with its run. -/
theorem readCell_run_succ {j : Fin 16} (h : readsClosed reads j = !acceptedClosed (keyOf s j).state)
    (hfree : readsClosed reads j = false ∨ (s.pn.ambig ||| (ambiguity reads s).pn.ambig).getLsbD j.1 = false) :
    (readCell reads s j).run = (keyOf s j).run + 1 := by
  rw [readCell_run, if_neg]
  cases hacc : acceptedClosed (keyOf s j).state <;> simp_all

/-- What a scan's taking finds for the actions behind it. -/
theorem ScanTaken.actsOn (h : ScanTaken reads s x) : ActsOn s x :=
  ⟨h.moves.cfg_eq, h.moves.fc_eq, h.moves.lc_eq, h.moves.su_eq, by rw [h.cells], by rw [h.cells]⟩

theorem ScanTaken.queue (h : ScanTaken reads s x) : x.pn.queue = s.pn.queue := by rw [h.cells]

theorem ActsOn.start (i : Instr) (s : State) : ActsOn s (startEvent i s) := ⟨rfl, rfl, rfl, rfl, rfl, rfl⟩

theorem keyOf_close (s u : State) (j : Fin 16) : keyOf (close s u) j = keyOf u j := by rw [keyOf, close_pn, keyOf]

theorem scanClosures_of {k : Fin 16} (hacc : acceptedKeys (scanRead reads s) = [k]) :
    scanClosures reads s = (if acceptedClosed (keyOf s k).state then [] else [k])
      ∧ scanOpenings reads s = (if acceptedClosed (keyOf s k).state then [k] else []) := by
  unfold scanClosures scanOpenings
  rw [hacc]
  have hcell : (keyOf (scanRead reads s) k).state = (keyOf s k).state := by rw [keyOf_scanRead]; rfl
  cases h : acceptedClosed (keyOf s k).state <;> simp [hcell, h]

theorem scanClosures_none (hacc : acceptedKeys (scanRead reads s) = []) : scanClosures reads s = [] ∧ scanOpenings reads s = [] := by
  unfold scanClosures scanOpenings
  rw [hacc]
  exact ⟨rfl, rfl⟩

end Sys2Proof.Machine
end

section
/-! PROOFS. Key scans as commands, in SINGLE and in MULTI mode (R121 to R123). -/

namespace Sys2Proof.Machine

-- One proof after another: started together they wait for one another, each on a thread of its own.
set_option Elab.async false

variable {s t u v w x : State} {reads : BitVec 16}

/-! ### SINGLE mode (R122) -/

theorem exec_keyScan (reads : BitVec 16) (hrun : s.mc.supply = .running) :
    exec (.keyScan reads) s = .next (close s (keyScan reads (startEvent (.keyScan reads) s))) := exec_running hrun rfl

/-- With every key OPEN a closed read starts a key's run, the second in a row presses it. -/
theorem keyScan_closure {k : Fin 16} (hst : s.pn.standby = false) (hmode : s.cfg.panel.mode = .single) (hambig : s.pn.ambig = 0)
    (hopen : ∀ j, (keyOf s j).state = .opened) : ∃ x, ScanTaken (1#16 <<< k.1) s x ∧ (∀ j, (keyOf x j).state = .opened)
      ∧ keyOf x k = { keyOf s k with closed := true, run := if (keyOf s k).run = 0 then 1 else 0 }
      ∧ keyScan (1#16 <<< k.1) s = if (keyOf s k).run = 0 then x else pressKey x k := by
  have htaken := scanTaken_spec (1#16 <<< k.1) s
  have hopened : ∀ j, (keyOf (scanTaken (1#16 <<< k.1) s) j).state = .opened := fun j => by
    rw [htaken.key j]
    split <;> exact hopen j
  have hk : (readCell (1#16 <<< k.1) s k).run = (keyOf s k).run + 1 := by
    refine readCell_run_succ ?_ (.inr ?_)
    · rw [readsClosed_one, hopen k]
      simp [acceptedClosed]
    · rw [ambiguity_single hmode, hambig]
      simp
  have hj : ∀ j, j ≠ k → (readCell (1#16 <<< k.1) s j).run = 0 := fun j hjk => by
    refine readCell_run_zero (.inl ?_)
    rw [readsClosed_one, hopen j]
    simp [acceptedClosed, hjk]
  have hkey := htaken.key k
  rw [hk] at hkey
  refine ⟨_, htaken, hopened, ?_, ?_⟩
  · rw [hkey]
    have hcell : readCell (1#16 <<< k.1) s k = { keyOf s k with closed := true, run := (keyOf s k).run + 1 } := by
      have hread : readsClosed (1#16 <<< k.1) k = true := by rw [readsClosed_one]; simp
      rw [← hk, ← hread]
      rfl
    rw [hcell]
    by_cases h0 : (keyOf s k).run = 0
    · rw [if_neg (by omega), if_pos h0, h0]
    · rw [if_pos (by omega), if_neg h0]
  · rw [keyScan_single hst hmode]
    by_cases h0 : (keyOf s k).run = 0
    · obtain ⟨hc, ho⟩ := scanClosures_none (acceptedKeys_none (reads := 1#16 <<< k.1) (s := s) fun j => by
        by_cases hjk : j = k
        · subst hjk
          omega
        · rw [hj j hjk]
          omega)
      rw [hc, ho, if_pos h0, singleScan_idle hopened]
    · obtain ⟨hc, ho⟩ := scanClosures_of (acceptedKeys_one (reads := 1#16 <<< k.1) (s := s) (k := k) (by omega) fun j hjk => by
        rw [hj j hjk]
        omega)
      rw [hopen k] at hc ho
      rw [hc, ho, if_neg h0]
      exact singleScan_closure hopened

/-- The second open read in a row of the one PRESSED key releases it. -/
theorem keyScan_opening {k : Fin 16} (hst : s.pn.standby = false) (hmode : s.cfg.panel.mode = .single)
    (hopen : ∀ j, j ≠ k → (keyOf s j).state = .opened) (hk : (keyOf s k).state = .pressed) (hrun : (keyOf s k).run = 1) :
    ∃ x, ScanTaken 0#16 s x ∧ keyOf x k = { keyOf s k with closed := false, run := 0 } ∧ keyScan 0#16 s = openKey x k := by
  have htaken := scanTaken_spec 0#16 s
  have hrunk : (readCell 0#16 s k).run = 2 := by
    rw [readCell_run_succ (by rw [readsClosed_zero, hk]; rfl) (.inl (readsClosed_zero k)), hrun]
  have hj : ∀ j, j ≠ k → (readCell 0#16 s j).run = 0 := fun j hjk => by
    refine readCell_run_zero (.inl ?_)
    rw [readsClosed_zero, hopen j hjk]
    rfl
  refine ⟨_, htaken, ?_, ?_⟩
  · rw [htaken.key k, hrunk, if_pos (by omega)]
    have hread : readsClosed 0#16 k = false := readsClosed_zero k
    rw [← hread]
    rfl
  · obtain ⟨hc, ho⟩ := scanClosures_of (acceptedKeys_one (reads := 0#16) (s := s) (k := k) (by omega) fun j hjk => by
      rw [hj j hjk]
      omega)
    rw [hk] at hc ho
    rw [keyScan_single hst hmode, hc, ho]
    refine singleScan_opening fun j hjk => ?_
    rw [htaken.key j]
    split <;> exact hopen j hjk

/-! ### MULTI mode (R123) -/

theorem bit_of_key (k j : Fin 16) : (1#16 <<< k.1).getLsbD j.1 = decide (j = k) := by revert k j; decide

/-- A set built key by key has the keys its condition keeps. -/
theorem getLsbD_foldl_keys (p : Fin 16 → Bool) (ks : List (Fin 16)) (v : BitVec 16) (j : Fin 16) :
    (ks.foldl (fun v k => if p k then v ||| (1#16 <<< k.1) else v) v).getLsbD j.1 = (v.getLsbD j.1 || (p j && ks.contains j)) := by
  induction ks generalizing v with
  | nil => simp
  | cons k ks ih =>
    rw [List.foldl_cons, ih, List.contains_cons]
    by_cases hjk : j = k
    · subst hjk
      cases hp : p j
      · simp
      · rw [if_pos rfl, BitVec.getLsbD_or, bit_of_key]
        simp
    · have hbit : (if p k = true then v ||| 1#16 <<< k.1 else v).getLsbD j.1 = v.getLsbD j.1 := by
        split
        · rw [BitVec.getLsbD_or, bit_of_key]
          simp [hjk]
        · rfl
      rw [hbit, show (j == k) = false from beq_eq_false_iff_ne.2 hjk, Bool.false_or]

theorem ghosts_bit (s : State) (reads : BitVec 16) (j : Fin 16) :
    (ghosts s reads).getLsbD j.1 = (inRectangle reads j && (keyOf s j).state != .pressed) := by
  unfold ghosts
  rw [getLsbD_foldl_keys (fun k => inRectangle reads k && (keyOf s k).state != .pressed), List.contains_iff_mem.2 (mem_allKeys j)]
  simp

theorem ambiguity_few (hmode : s.cfg.panel.mode = .multi) (h : closedCount reads < 3) :
    ambiguity reads s = withPn (fun u => { u with ambig := 0, ambiguous := false }) s := by
  unfold ambiguity
  rw [hmode]
  exact if_pos h

theorem ambiguity_many (hmode : s.cfg.panel.mode = .multi) (h : ¬closedCount reads < 3) : ambiguity reads s
    = withPn (fun u => { u with ambig := u.ambig ||| ghosts s reads, ambiguous := u.ambiguous || ghosts s reads != 0 }) s := by
  unfold ambiguity
  rw [hmode]
  exact if_neg h

/-- Without a rectangle an empty ambiguous set stays empty. -/
theorem ambiguity_empty (hmode : s.cfg.panel.mode = .multi) (hambig : s.pn.ambig = 0) (hrect : ∀ j, inRectangle reads j = false)
    (j : Fin 16) : (s.pn.ambig ||| (ambiguity reads s).pn.ambig).getLsbD j.1 = false := by
  rw [BitVec.getLsbD_or, hambig]
  by_cases h : closedCount reads < 3
  · rw [ambiguity_few hmode h]
    simp [withPn]
  · rw [ambiguity_many hmode h]
    change ((0#16).getLsbD j.1 || (s.pn.ambig ||| ghosts s reads).getLsbD j.1) = false
    rw [BitVec.getLsbD_or, hambig, ghosts_bit, hrect]
    simp

theorem inRectangle_closed {j : Fin 16} (h : inRectangle reads j = true) : readsClosed reads j = true := by
  unfold inRectangle at h
  exact (Bool.and_eq_true_iff.1 h).1

/-- A key that the ambiguous set holds at a scan, before it or from its reads, stands as it did with its closure run at 0. -/
theorem multi_held {k : Fin 16} (hst : s.pn.standby = false) (hmode : s.cfg.panel.mode = .multi) (hclosed : readsClosed reads k = true)
    (hheld : (s.pn.ambig ||| (ambiguity reads s).pn.ambig).getLsbD k.1 = true) :
    (keyOf (keyScan reads s) k).run = 0 ∧ (keyOf (keyScan reads s) k).state = (keyOf s k).state := by
  have hzero := readCell_run_zero (reads := reads) (s := s) (j := k) (.inr ⟨hclosed, hheld⟩)
  have hnot : k ∉ acceptedKeys (scanRead reads s) := fun h => by
    rw [mem_acceptedKeys, hzero] at h
    omega
  rw [keyScan_multi hst hmode, (multiScan_others _ _ _).2.2 k hnot, (scanTaken_spec reads s).key k, hzero, if_neg (by omega)]
  exact ⟨hzero, rfl⟩

theorem multi_ambig (hst : s.pn.standby = false) (hmode : s.cfg.panel.mode = .multi) :
    (keyScan reads s).pn.ambig = (ambiguity reads s).pn.ambig ∧ (keyScan reads s).pn.ambiguous = (ambiguity reads s).pn.ambiguous := by
  obtain ⟨h1, h2, -⟩ := multiScan_others (scanClosures reads s) (acceptedKeys (scanRead reads s)) (scanTaken reads s)
  rw [keyScan_multi hst hmode, h1, h2]
  exact ⟨(scanTaken_spec reads s).ambig, (scanTaken_spec reads s).ambiguous⟩

/-- One key that reads otherwise than it stands, for the second time: it is pressed or released on its own. -/
theorem keyScan_multiOne {k : Fin 16} (hst : s.pn.standby = false) (hmode : s.cfg.panel.mode = .multi) (hambig : s.pn.ambig = 0)
    (hrect : ∀ j, inRectangle reads j = false) (hrun : (keyOf s k).run = 1)
    (hothers : ∀ j, j ≠ k → readsClosed reads j = acceptedClosed (keyOf s j).state ∨ (keyOf s j).run = 0) :
    ∃ x, ScanTaken reads s x
      ∧ (readsClosed reads k = !acceptedClosed (keyOf s k).state → keyOf x k = { keyOf s k with closed := readsClosed reads k, run := 0 }
          ∧ keyScan reads s = if acceptedClosed (keyOf s k).state then openKey x k else pressKey x k)
      ∧ ∀ j, j ≠ k → (keyOf (keyScan reads s) j).state = (keyOf s j).state := by
  have htaken := scanTaken_spec reads s
  have hfree := ambiguity_empty hmode hambig hrect
  have hj : ∀ j, j ≠ k → (readCell reads s j).run < 2 := fun j hjk => by
    by_cases hsame : readsClosed reads j = acceptedClosed (keyOf s j).state
    · rw [readCell_run_zero (.inl hsame)]
      omega
    · have hne : readsClosed reads j = !acceptedClosed (keyOf s j).state := by
        cases h1 : readsClosed reads j <;> cases h2 : acceptedClosed (keyOf s j).state <;> simp_all
      rw [readCell_run_succ hne (.inr (hfree j)), (hothers j hjk).resolve_left hsame]
      omega
  refine ⟨_, htaken, fun hchange => ?_, fun j hjk => ?_⟩
  · have hk : (readCell reads s k).run = 2 := by rw [readCell_run_succ hchange (.inr (hfree k)), hrun]
    have hacc := acceptedKeys_one (by omega) hj
    obtain ⟨hc, -⟩ := scanClosures_of hacc
    refine ⟨?_, ?_⟩
    · rw [htaken.key k, hk, if_pos (by omega)]
      rfl
    · rw [keyScan_multi hst hmode, hacc, hc, multiScan_one]
      cases h : acceptedClosed (keyOf s k).state <;> simp
  · have hnot : j ∉ acceptedKeys (scanRead reads s) := fun h => by
      have := (mem_acceptedKeys reads s j).1 h
      have := hj j hjk
      omega
    rw [keyScan_multi hst hmode, (multiScan_others _ _ _).2.2 j hnot, htaken.key j]
    split <;> rfl

end Sys2Proof.Machine
end

section
/-! PROOFS. A key's ADJUSTs of the light targets, and the key queue's commands (R116, R125, R127, R171, R175). -/

namespace Sys2Proof.Machine

-- One proof after another: started together they wait for one another, each on a thread of its own.
set_option Elab.async false

variable {s t u v w x : State}

/-! ### ADJUST of a target (R108, R171) -/

/-- A target as LIGHTS takes it: within 0 to 1,000 (R108). -/
def heldTarget (v : Int) : Int := max 0 (min 1000 v)

theorem judgeSlot_target (i : Fin 6) (v : Int) (s : State) : judgeSlot 18 ⟨1, some i.1, clampF 0 1000 (lightOf s i).target⟩ (some v)
    = some (some (heldTarget v), decide (heldTarget v ≠ v)) := by
  change judgeValue (.int 0 1000 true) (some v) = _
  unfold judgeValue heldTarget
  dsimp only
  split
  · rw [decide_eq_false (by omega), show max 0 (min 1000 v) = v by omega]
  · rw [if_pos rfl, decide_eq_true (by omega)]
    rfl

theorem adjustOp_target {d : Int} (hlo : -32768 ≤ d) (hhi : d ≤ 32767) (i : Fin 6) (s : State) :
    let old : Int := (lightOf s i).target
    let new := heldTarget (old + d)
    ∃ data, adjustOp 18 1 (some i.1) d s = accept 18 (if new = old then [] else [⟨1, some i.1, some new⟩])
      (acceptedStatus (decide (new ≠ old + d))) data s := by
  intro old new
  have hplace : placeRefusal s 18 [⟨1, some i.1, some (old + d)⟩] = none :=
    placeRefusal_one writable_of (by decide) (slotAt_target i s) rfl
  have hjudge : judgeValues s 18 [⟨1, some i.1, some (old + d)⟩] = .take [⟨1, some i.1, some new⟩] (decide (new ≠ old + d)) :=
    judgeValues_one (slotAt_target i s) (judgeSlot_target i _ s) rfl
  refine ⟨leBytes 2 old ++ leBytes 2 new ++ [byte (bit (decide (new ≠ old + d)) 0)], ?_⟩
  unfold adjustOp
  rw [slotAt_target]
  dsimp only
  rw [if_neg (by simp [adjustable, clampF, rw]; omega), show (clampF 0 1000 ((lightOf s i).target : Int)).val.getD 0 = old from rfl, hplace]
  dsimp only
  rw [hjudge]
  rfl

/-- What an ADJUST of one channel's target leaves of the part, whoever asked for it. -/
structure TargetMoved (i : Fin 6) (v : Int) (s t : State) : Prop where
  target : ((lightOf t i).target : Int) = v
  others : ∀ j, j ≠ i → (lightOf t j).target = (lightOf s j).target
  cfg : t.cfg = s.cfg
  pn : t.pn = s.pn
  supply : t.mc.supply = s.mc.supply
  pending : t.pending = s.pending
  handed : Behind s.handed t.handed

theorem targetMoved_written {i : Fin 6} {v : Nat} (rev : Vector Nat 26) (a : Option Answer) (s : State) :
    TargetMoved i v s (written 18 [⟨1, some i.1, some (v : Int)⟩] rev a s) := by
  have hlight : ∀ j, lightOf (written 18 [⟨1, some i.1, some (v : Int)⟩] rev a s) j
      = if i = j then { lightOf s i with target := v } else lightOf s j := fun j => lightOf_pokeTarget i j v s
  refine ⟨?_, fun j hj => ?_, rfl, rfl, rfl, rfl, .refl _⟩
  · rw [hlight, if_pos rfl]
  · rw [hlight, if_neg (Ne.symm hj)]

theorem TargetMoved.followed {i : Fin 6} {v : Int} (h : TargetMoved i v s t) (old : Vector Nat 6) : TargetMoved i v s (lightsWritten old t) := by
  have hmoves := moves_lightsWritten old t
  have hlight : ∀ j, (lightOf (lightsWritten old t) j).target = (lightOf t j).target := targetEvent_target old _ false t
  exact ⟨by rw [hlight]; exact h.target, fun j hj => (hlight j).trans (h.others j hj), hmoves.cfg_eq.trans h.cfg, hmoves.pn_eq.trans h.pn,
    hmoves.supply_eq.trans h.supply, hmoves.pending_eq.trans h.pending, h.handed.trans (hmoves.handed_behind (by decide))⟩

theorem heldTarget_nonneg (v : Int) : 0 ≤ heldTarget v := by
  unfold heldTarget
  omega

theorem targetMoved_adjust {d : Int} (hlo : -32768 ≤ d) (hhi : d ≤ 32767) (i : Fin 6) (s : State) :
    TargetMoved i (heldTarget ((lightOf s i).target + d)) s (adjustOp 18 1 (some i.1) d s)
      ∧ (adjustOp 18 1 (some i.1) d s).answer.map (·.status)
        = some (if heldTarget ((lightOf s i).target + d) = (lightOf s i).target + d then .ok else .clamped) := by
  obtain ⟨data, e⟩ := adjustOp_target hlo hhi i s
  rw [e]
  refine ⟨?_, ?_⟩
  · by_cases hsame : heldTarget ((lightOf s i).target + d) = (lightOf s i).target
    · have hstands : ∀ (rev : Vector Nat 26) (a : Option Answer), TargetMoved i (heldTarget ((lightOf s i).target + d)) s
          { s with rev := rev, answer := a } := fun rev a => ⟨hsame.symm, fun _ _ => rfl, rfl, rfl, rfl, rfl, .refl _⟩
      rw [if_pos hsame]
      refine accept_keeps (I := TargetMoved i _ s) (fun t rev h => ⟨h.1, h.2, h.3, h.4, h.5, h.6, h.7⟩) (fun rev a _ => hstands rev a)
        fun rev a => ?_
      exact (hstands rev a).followed (targetsOf s)
    · obtain ⟨n, hn⟩ := Int.eq_ofNat_of_zero_le (heldTarget_nonneg ((lightOf s i).target + d))
      rw [if_neg hsame, hn]
      refine accept_keeps (I := TargetMoved i n s) (fun t rev h => ⟨h.1, h.2, h.3, h.4, h.5, h.6, h.7⟩)
        (fun rev a _ => targetMoved_written rev a s) fun rev a => ?_
      exact (targetMoved_written rev a s).followed (targetsOf s)
  · rw [accept_answer _ _ _ (by decide)]
    unfold acceptedStatus
    by_cases hheld : heldTarget ((lightOf s i).target + d) = (lightOf s i).target + d <;> simp [hheld]

/-! ### The light actions under way (R116, R127) -/

/-- An operation's status as the action's status takes it. -/
def dimStatus (i : Fin 6) (d : Int) (s : State) : Status :=
  if heldTarget ((lightOf s i).target + d) = (lightOf s i).target + d then .ok else .clamped

theorem dimEnded_some {k : Fin 16} {st : Status} {run : DimRun} {runs : List DimRun} (h : dimStep k st s.pn.dims = (some run, runs)) :
    dimEnded k st s = endAction k run.action run.status (withPn (fun u => { u with dims := runs }) s) := by
  unfold dimEnded
  rw [h]

theorem dimEnded_none {k : Fin 16} {st : Status} {runs : List DimRun} (h : dimStep k st s.pn.dims = (none, runs)) :
    dimEnded k st s = withPn (fun u => { u with dims := runs }) s := by
  unfold dimEnded
  rw [h]

/-- What one ADJUST of a key's light action leaves. -/
structure DimLeaves (k : Fin 16) (i : Fin 6) (d : Int) (s t : State) : Prop where
  target : ((lightOf t i).target : Int) = heldTarget ((lightOf s i).target + d)
  others : ∀ j, j ≠ i → (lightOf t j).target = (lightOf s j).target
  cfg : t.cfg = s.cfg
  answer : t.answer = s.answer
  supply : t.mc.supply = s.mc.supply
  pending : t.pending = s.pending
  handed : Behind (s.handed.erase (dimOperation k d i)) t.handed
  dims : t.pn.dims = (dimStep k (dimStatus i d s) s.pn.dims).2
  idle : s.pn.dims = [] → t.pn = s.pn
  ends : ∀ run, (dimStep k (dimStatus i d s) s.pn.dims).1 = some run → actionEnds k run.action run.status t
  goesOn : (dimStep k (dimStatus i d s) s.pn.dims).1 = none → t.pn.last = s.pn.last

theorem exec_dim {d : Int} (hlo : -32768 ≤ d) (hhi : d ≤ 32767) (k : Fin 16) (i : Fin 6) (hrun : s.mc.supply = .running) :
    ∃ t, exec (dimOperation k d i) s = .next t ∧ DimLeaves k i d s t := by
  obtain ⟨v, hv⟩ : ∃ v, v = startEvent (dimOperation k d i) s := ⟨_, rfl⟩
  obtain ⟨w, hw⟩ : ∃ w, w = { adjustOp 18 1 (some i.1) d v with answer := v.answer } := ⟨_, rfl⟩
  obtain ⟨hmoved, hstatus⟩ := targetMoved_adjust hlo hhi i v
  have hlightv : ∀ j, lightOf v j = lightOf s j := fun j => by rw [hv]; rfl
  have hst : (((adjustOp 18 1 (some i.1) d v).answer.map (·.status)).getD .ok) = dimStatus i d s := by
    rw [hstatus, hlightv]
    rfl
  have heff : effect (dimOperation k d i) v = dimEnded k (dimStatus i d s) w := by
    rw [hw, ← hst]
    rfl
  have hwpn : w.pn = s.pn := by
    rw [hw]
    exact hmoved.pn.trans (by rw [hv]; rfl)
  obtain ⟨last, new, hended⟩ := dimEnded_cases k (dimStatus i d s) w
  refine ⟨_, exec_running (i := dimOperation k d i) hrun rfl, ?_⟩
  rw [← hv, heff]
  have hlight : ∀ j, lightOf (close s (dimEnded k (dimStatus i d s) w)) j = lightOf (adjustOp 18 1 (some i.1) d v) j := fun j => by
    rw [lightOf, close_lc, hended, hw]
    rfl
  have hpn : (close s (dimEnded k (dimStatus i d s) w)).pn = (dimEnded k (dimStatus i d s) w).pn := close_pn _ _
  have hbehind : Behind (s.handed.erase (dimOperation k d i)) w.handed := by
    rw [hw]
    have hvh : v.handed = s.handed.erase (dimOperation k d i) := by rw [hv]; rfl
    rw [← hvh]
    exact hmoved.handed
  refine ⟨?_, fun j hj => ?_, ?_, ?_, ?_, ?_, ?_, ?_, fun hidle => ?_, fun run hends => ?_, fun hnone => ?_⟩
  · rw [hlight, hmoved.target, hlightv]
  · rw [hlight, hmoved.others j hj, hlightv]
  · rw [close_cfg, hended, hw]
    exact hmoved.cfg.trans (by rw [hv]; rfl)
  · rw [close_answer, hended, hw, hv]
    rfl
  · rw [close_supply, hended, hw]
    exact hmoved.supply.trans (by rw [hv]; rfl)
  · rw [close_pending, hended, hw]
    exact hmoved.pending.trans (by rw [hv]; rfl)
  · refine hbehind.trans (Behind.trans ?_ (close_handed s _))
    rw [hended]
    exact ⟨new, rfl⟩
  · rw [hpn, hended, hwpn]
  · have hstep : dimStep k (dimStatus i d s) w.pn.dims = (none, []) := by rw [hwpn, hidle]; rfl
    rw [hpn, dimEnded_none hstep, ← hwpn]
    have hwidle : w.pn.dims = [] := by rw [hwpn, hidle]
    exact congrArg (fun ds => { w.pn with dims := ds }) hwidle.symm
  · have hstep : dimStep k (dimStatus i d s) w.pn.dims = (some run, (dimStep k (dimStatus i d s) s.pn.dims).2) := by
      rw [hwpn, ← hends]
    have hdone := actionEnds_endAction k run.action run.status
      (withPn (fun u => { u with dims := (dimStep k (dimStatus i d s) s.pn.dims).2 }) w)
    rw [← dimEnded_some hstep] at hdone
    exact hdone.later (congrArg PanelUnit.last hpn) fun _ => mem_close_of_mem
  · have hstep : dimStep k (dimStatus i d s) w.pn.dims = (none, (dimStep k (dimStatus i d s) s.pn.dims).2) := by rw [hwpn, ← hnone]
    rw [hpn, dimEnded_none hstep]
    exact (congrArg PanelUnit.last hwpn :)

/-! ### A group's ADJUSTs in their order (R173) -/

/-- The status of an action over several channels: CLAMPED where one target was held (R127). -/
def dimsStatus (st : Status) (d : Int) (is : List (Fin 6)) (s : State) : Status :=
  if ∀ i ∈ is, heldTarget ((lightOf s i).target + d) = (lightOf s i).target + d then st else .clamped

/-- With nothing between them a light action's ADJUSTs move each of its targets once, and the last one ends it. -/
theorem afterSteps_dims {d : Int} (hlo : -32768 ≤ d) (hhi : d ≤ 32767) (k : Fin 16) (a : KeyAction) {is : List (Fin 6)} (hne : is ≠ [])
    (hnodup : is.Nodup) (st : Status) (more : List Instr) (runs : List DimRun) (hrun : s.mc.supply = .running) (hpending : s.pending = [])
    (hhanded : s.handed = is.map (dimOperation k d) ++ more) (hdims : s.pn.dims = ⟨k, a, is.length, st⟩ :: runs) :
    ∃ t, afterSteps is.length s t
      ∧ (∀ i, ((lightOf t i).target : Int) = if i ∈ is then heldTarget ((lightOf s i).target + d) else ((lightOf s i).target : Int))
      ∧ actionEnds k a (dimsStatus st d is s) t ∧ t.pn.dims = runs := by
  induction is generalizing s st more with
  | nil => exact absurd rfl hne
  | cons i is ih =>
    obtain ⟨hi, hrest⟩ := List.nodup_cons.1 hnodup
    obtain ⟨u, hexec, hu⟩ := exec_dim hlo hhi k i hrun
    have hstep : step s = .next u := by
      unfold step
      rw [hpending, hhanded]
      exact hexec
    obtain ⟨new, hnew⟩ := hu.handed
    rw [hhanded, List.map_cons, List.cons_append, List.erase_cons_head, List.append_assoc] at hnew
    have hhead := dimStep_head (dimStatus i d s) ⟨k, a, (i :: is).length, st⟩ runs
    have hstatus : ∀ js, dimsStatus (if dimStatus i d s = .ok then st else dimStatus i d s) d js s = dimsStatus st d (i :: js) s := fun js => by
      unfold dimStatus dimsStatus
      by_cases h : heldTarget ((lightOf s i).target + d) = (lightOf s i).target + d <;> simp [h]
    by_cases hlast : is = []
    · subst hlast
      dsimp only [List.length_cons, List.length_nil] at hhead hdims
      rw [if_pos rfl, ← hdims] at hhead
      have hdone := hu.ends _ (congrArg Prod.fst hhead)
      refine ⟨u, ⟨u, hstep, rfl⟩, fun j => ?_, ?_, ?_⟩
      · by_cases hj : j = i
        · subst hj
          rw [if_pos (List.mem_singleton_self _), hu.target]
        · rw [if_neg (by simpa using hj), hu.others j hj]
      · rw [← hstatus [], dimsStatus, if_pos (by simp)]
        exact hdone
      · rw [hu.dims, hhead]
    · have hlen : 0 < is.length := List.length_pos_iff.2 hlast
      dsimp only [List.length_cons] at hhead hdims
      rw [if_neg (by omega), ← hdims, show is.length + 1 - 1 = is.length by omega] at hhead
      have hlight : ∀ j ∈ is, (lightOf u j).target = (lightOf s j).target := fun j hj => hu.others j fun e => hi (e ▸ hj)
      obtain ⟨t, hsteps, htargets, hends, hruns⟩ := ih hlast hrest _ _ (hu.supply.trans hrun) (hu.pending.trans hpending) hnew
        (by rw [hu.dims, hhead])
      refine ⟨t, ⟨u, hstep, hsteps⟩, fun j => ?_, ?_, hruns⟩
      · rw [htargets]
        by_cases hj : j ∈ is
        · rw [if_pos hj, if_pos (List.mem_cons_of_mem _ hj), hlight j hj]
        · rw [if_neg hj]
          by_cases hji : j = i
          · subst hji
            rw [if_pos List.mem_cons_self, hu.target]
          · rw [if_neg (by simp [hji, hj]), hu.others j hji]
      · rw [← hstatus is]
        have hsame : ∀ st', dimsStatus st' d is u = dimsStatus st' d is s := fun st' => by
          unfold dimsStatus
          refine if_congr ⟨fun h j hj => ?_, fun h j hj => ?_⟩ rfl rfl
          · rw [← hlight j hj]
            exact h j hj
          · rw [hlight j hj]
            exact h j hj
        rw [← hsame]
        exact hends

end Sys2Proof.Machine
end

section
/-! PROOFS. The panel's keys as the statement tells of them. -/

namespace Sys2Proof.Machine

-- One proof after another: started together they wait for one another, each on a thread of its own.
set_option Elab.async false

variable {s t u v w x : State}

theorem readKeys_empty (h : s.pn.queue = []) : readKeys s = answer .empty [] s := by
  unfold readKeys
  rw [h]

theorem readKeys_some (h : s.pn.queue ≠ []) : readKeys s = answer .ok (byte (if s.pn.overrun then 1 else 0)
    :: byte (min 8 s.pn.queue.length) :: (s.pn.queue.take 8).flatMap keyBytes)
      (withPn (fun u => { u with queue := u.queue.drop 8, overrun := false }) s) := by
  have hbit : bit s.pn.overrun 0 = if s.pn.overrun then 1 else 0 := by cases s.pn.overrun <;> rfl
  unfold readKeys
  split
  · exact absurd ‹_› h
  · rw [hbit, List.length_take]

/-- A closed read of the one key in SINGLE mode (R122, R124). -/
theorem exec_closure {k : Fin 16} (hrun : s.mc.supply = .running) (hst : s.pn.standby = false) (hmode : s.cfg.panel.mode = .single)
    (hambig : s.pn.ambig = 0) (hopen : ∀ j, (keyOf s j).state = .opened) : ∃ t, exec (.keyScan (1#16 <<< k.1)) s = .next t
      ∧ ((keyOf s k).run = 0 → keyOf t k = { keyOf s k with closed := true, run := 1 } ∧ t.pn.queue = s.pn.queue)
      ∧ ((keyOf s k).run = 1 → keyOf t k = ⟨true, 0, .pressed, true⟩ ∧ PressLeaves k s t)
      ∧ ∀ j, j ≠ k → (keyOf t j).state = .opened := by
  obtain ⟨x, htaken, hopened, hkey, hscan⟩ := keyScan_closure (s := startEvent (.keyScan (1#16 <<< k.1)) s) (k := k) hst hmode hambig hopen
  have hstart : keyOf (startEvent (.keyScan (1#16 <<< k.1)) s) k = keyOf s k := rfl
  have hon : ActsOn s x := (ActsOn.start _ s).trans htaken.actsOn
  have hqueue : x.pn.queue = s.pn.queue := htaken.queue
  rw [hstart] at hkey hscan
  refine ⟨_, exec_keyScan _ hrun, fun h0 => ?_, fun h1 => ?_, fun j hj => ?_⟩
  · rw [keyOf_close, close_pn, hscan, if_pos h0, hkey, if_pos h0]
    exact ⟨rfl, hqueue⟩
  · rw [hscan, if_neg (by omega)]
    refine ⟨?_, pressLeaves_pressKey hon hqueue (.of_close s _)⟩
    rw [keyOf_close, keyOf_pressKey, if_pos rfl, hkey, if_neg (by omega)]
  · rw [keyOf_close, hscan]
    split
    · exact hopened j
    · rw [keyOf_pressKey, if_neg (Ne.symm hj)]
      exact hopened j

theorem exec_opening {k : Fin 16} (hrun : s.mc.supply = .running) (hst : s.pn.standby = false) (hmode : s.cfg.panel.mode = .single)
    (hopen : ∀ j, j ≠ k → (keyOf s j).state = .opened) (hk : (keyOf s k).state = .pressed) (hrunk : (keyOf s k).run = 1) :
    ∃ t, exec (.keyScan 0#16) s = .next t ∧ keyOf t k = ⟨false, 0, .opened, false⟩ ∧ Queued .release k s t := by
  obtain ⟨x, htaken, hkey, hscan⟩ := keyScan_opening (s := startEvent (.keyScan 0#16) s) (k := k) hst hmode hopen hk hrunk
  have hpressed : (keyOf x k).state = .pressed := by
    rw [hkey]
    exact hk
  refine ⟨_, exec_keyScan _ hrun, ?_, ?_⟩
  · rw [keyOf_close, hscan, keyOf_openKey, if_pos rfl, hkey]
  · rw [hscan]
    have hqueued := (queued_openKey hpressed).after (congrArg PanelUnit.queue (close_pn s _)) (congrArg PanelUnit.overrun (close_pn s _))
    exact hqueued.before htaken.moves.cfg_eq htaken.moves.su_eq htaken.queue

/-- An accepted change of one key in MULTI mode (R123). -/
theorem exec_multiOne {k : Fin 16} {reads : BitVec 16} (hrun : s.mc.supply = .running) (hst : s.pn.standby = false)
    (hmode : s.cfg.panel.mode = .multi) (hambig : s.pn.ambig = 0) (hrect : ∀ j, inRectangle reads j = false) (hrunk : (keyOf s k).run = 1)
    (hothers : ∀ j, j ≠ k → readsClosed reads j = acceptedClosed (keyOf s j).state ∨ (keyOf s j).run = 0) :
    ∃ t, exec (.keyScan reads) s = .next t
      ∧ ((keyOf s k).state = .opened → readsClosed reads k = true → keyOf t k = ⟨true, 0, .pressed, true⟩ ∧ Queued .press k s t)
      ∧ ((keyOf s k).state = .pressed → readsClosed reads k = false → keyOf t k = ⟨false, 0, .opened, false⟩ ∧ Queued .release k s t)
      ∧ ∀ j, j ≠ k → (keyOf t j).state = (keyOf s j).state := by
  obtain ⟨x, htaken, hchange, hstands⟩ := keyScan_multiOne (s := startEvent (.keyScan reads) s) (k := k) hst hmode hambig hrect hrunk hothers
  have hstart : keyOf (startEvent (.keyScan reads) s) k = keyOf s k := rfl
  have hon : ActsOn s x := (ActsOn.start _ s).trans htaken.actsOn
  rw [hstart] at hchange
  refine ⟨_, exec_keyScan _ hrun, fun h1 h2 => ?_, fun h1 h2 => ?_, fun j hj => ?_⟩
  · obtain ⟨hkey, hscan⟩ := hchange (by rw [h1, h2]; rfl)
    rw [h1, acceptedClosed, if_neg Bool.false_ne_true] at hscan
    rw [hscan]
    refine ⟨?_, (pressLeaves_pressKey hon htaken.queue (.of_close s _)).queued⟩
    rw [keyOf_close, keyOf_pressKey, if_pos rfl, hkey, h2]
  · obtain ⟨hkey, hscan⟩ := hchange (by rw [h1, h2]; rfl)
    have hpressed : (keyOf x k).state = .pressed := by
      rw [hkey]
      exact h1
    rw [h1, acceptedClosed.eq_def, if_pos rfl] at hscan
    rw [hscan]
    refine ⟨?_, ?_⟩
    · rw [keyOf_close, keyOf_openKey, if_pos rfl, hkey, h2]
    · have hqueued := (queued_openKey hpressed).after (congrArg PanelUnit.queue (close_pn s _)) (congrArg PanelUnit.overrun (close_pn s _))
      exact hqueued.before htaken.moves.cfg_eq htaken.moves.su_eq htaken.queue
  · rw [keyOf_close]
    exact hstands j hj

/-- The ambiguous set at a scan in MULTI mode (R123). -/
theorem exec_multiAmbiguity {reads : BitVec 16} (hrun : s.mc.supply = .running) (hst : s.pn.standby = false)
    (hmode : s.cfg.panel.mode = .multi) : ∃ t, exec (.keyScan reads) s = .next t
      ∧ (3 ≤ closedCount reads → ∀ k, inRectangle reads k = true → (keyOf s k).state ≠ .pressed →
          t.pn.ambig.getLsbD k.1 = true ∧ t.pn.ambiguous = true ∧ (keyOf t k).run = 0 ∧ (keyOf t k).state = (keyOf s k).state)
      ∧ (closedCount reads < 3 → t.pn.ambig = 0 ∧ t.pn.ambiguous = false
          ∧ ∀ k, s.pn.ambig.getLsbD k.1 = true → readsClosed reads k = true →
              (keyOf t k).run = 0 ∧ (keyOf t k).state = (keyOf s k).state) := by
  obtain ⟨v, hv⟩ : ∃ v, v = startEvent (.keyScan reads) s := ⟨_, rfl⟩
  have hvpn : v.pn = s.pn := by rw [hv]; rfl
  have hvst : v.pn.standby = false := by rw [hvpn, hst]
  have hvmode : v.cfg.panel.mode = .multi := by rw [hv]; exact hmode
  have hkey : ∀ j, keyOf v j = keyOf s j := fun j => by rw [keyOf, hvpn, keyOf]
  obtain ⟨hambig, hambiguous⟩ := multi_ambig (reads := reads) hvst hvmode
  refine ⟨_, exec_keyScan _ hrun, fun hmany k hrect hk => ?_, fun hfew => ?_⟩ <;> rw [← hv]
  · rw [ambiguity_many hvmode (by omega)] at hambig hambiguous
    have hghost : (ghosts v reads).getLsbD k.1 = true := by
      rw [ghosts_bit, hrect, hkey]
      simpa using hk
    have hne : ghosts v reads ≠ 0 := fun h => by simp [h] at hghost
    have hbit : (v.pn.ambig ||| ghosts v reads).getLsbD k.1 = true := by rw [BitVec.getLsbD_or, hghost, Bool.or_true]
    obtain ⟨hzero, hstate⟩ := multi_held hvst hvmode (inRectangle_closed hrect) (by
      rw [ambiguity_many hvmode (by omega), BitVec.getLsbD_or]
      exact Bool.or_eq_true_iff.2 (.inr hbit))
    rw [keyOf_close, close_pn, hambig, hambiguous]
    refine ⟨hbit, ?_, hzero, hstate.trans (congrArg KeyCell.state (hkey k))⟩
    change (v.pn.ambiguous || ghosts v reads != 0) = true
    rw [bne_iff_ne.2 hne, Bool.or_true]
  · rw [ambiguity_few hvmode hfew] at hambig hambiguous
    rw [close_pn, hambig, hambiguous]
    refine ⟨rfl, rfl, fun k hheld hclosed => ?_⟩
    obtain ⟨hzero, hstate⟩ := multi_held hvst hvmode hclosed (by
      rw [BitVec.getLsbD_or, hvpn, hheld, Bool.true_or])
    rw [keyOf_close]
    exact ⟨hzero, hstate.trans (congrArg KeyCell.state (hkey k))⟩

/-- One ADJUST of the light action under way that its key began first (R127). -/
theorem exec_oneDim {d : Int} (hlo : -32768 ≤ d) (hhi : d ≤ 32767) (k : Fin 16) (i : Fin 6) (hrun : s.mc.supply = .running) :
    ∃ t, exec (.adjust (.panel k 18) 1 (some i.1) d) s = .next t
      ∧ ((lightOf t i).target : Int) = heldTarget ((lightOf s i).target + d)
      ∧ (∀ j, j ≠ i → (lightOf t j).target = (lightOf s j).target) ∧ t.cfg = s.cfg ∧ t.answer = s.answer
      ∧ (s.pn.dims = [] → t.pn = s.pn)
      ∧ ∀ run rest, s.pn.dims = run :: rest → run.key = k →
          let status : Status := if heldTarget ((lightOf s i).target + d) = (lightOf s i).target + d then run.status else .clamped
          (run.left ≤ 1 → t.pn.dims = rest ∧ actionEnds k run.action status t)
            ∧ (2 ≤ run.left → t.pn.dims = { run with left := run.left - 1, status := status } :: rest ∧ t.pn.last = s.pn.last) := by
  obtain ⟨t, hexec, ht⟩ := exec_dim hlo hhi k i hrun
  refine ⟨t, hexec, ht.target, ht.others, ht.cfg, ht.answer, ht.idle, fun run rest hdims hkey => ?_⟩
  obtain ⟨key, a, left, st⟩ := run
  obtain rfl : key = k := hkey
  have hhead := dimStep_head (dimStatus i d s) ⟨key, a, left, st⟩ rest
  have hstatus : (if dimStatus i d s = .ok then st else dimStatus i d s)
      = if heldTarget ((lightOf s i).target + d) = (lightOf s i).target + d then st else .clamped := by
    unfold dimStatus
    by_cases h : heldTarget ((lightOf s i).target + d) = (lightOf s i).target + d <;> simp [h]
  dsimp only at hhead
  rw [hstatus, ← hdims] at hhead
  have hdimst := ht.dims
  intro status
  dsimp only
  refine ⟨fun hleft => ?_, fun hleft => ?_⟩
  · rw [if_pos (by omega)] at hhead
    rw [hhead] at hdimst
    exact ⟨hdimst, ht.ends _ (congrArg Prod.fst hhead)⟩
  · rw [if_neg (by omega)] at hhead
    rw [hhead] at hdimst
    exact ⟨hdimst, ht.goesOn (congrArg Prod.fst hhead)⟩

theorem groupLights_nodup (g : Group) : (groupLights g).Nodup := by cases g <;> decide

theorem groupLights_ne (g : Group) : groupLights g ≠ [] := by cases g <;> decide

theorem afterSteps_group {d : Int} (hlo : -32768 ≤ d) (hhi : d ≤ 32767) (k : Fin 16) (a : KeyAction) (g : Group) {more : List Instr}
    {rest : List DimRun} (hrun : s.mc.supply = .running) (hpending : s.pending = []) (hhanded : s.handed = groupAdjusts k g d ++ more)
    (hdims : s.pn.dims = ⟨k, a, (groupAdjusts k g d).length, .ok⟩ :: rest) :
    ∃ t, afterSteps (groupAdjusts k g d).length s t ∧ groupDimmed k a g d s t ∧ t.pn.dims = rest := by
  rw [groupAdjusts_eq] at hhanded
  rw [groupAdjusts_eq, List.length_map] at hdims ⊢
  obtain ⟨t, hsteps, htargets, hends, hruns⟩ :=
    afterSteps_dims hlo hhi k a (groupLights_ne g) (groupLights_nodup g) .ok more rest hrun hpending hhanded hdims
  refine ⟨t, hsteps, ⟨fun i => ?_, ?_⟩, hruns⟩
  · rw [htargets]
    simp only [groupOf_mem]
    rfl
  · unfold dimsStatus at hends
    simp only [groupOf_mem] at hends
    exact hends

end Sys2Proof.Machine

namespace Sys2Proof.Proofs

open Sys2Proof Sys2Proof.Machine

/-- Settles O46: the key scans of both modes, the hold timer's expiry, the light targets' ADJUSTs one by one and as a group's, and the key
queue's two commands. -/
theorem keysPressHoldAndRelease : Obligations.KeysPressHoldAndRelease := by
  refine ⟨fun k s hrun hst hmode hambig hopen => ?_, fun k s hrun hst hmode hothers hk hrunk => ?_,
    fun k reads s hrun hst hmode hambig hrect hrunk hothers => ?_, fun reads s hrun hst hmode => exec_multiAmbiguity hrun hst hmode,
    fun k s hrun => exec_holdTimerExpiry k hrun, fun k i up s hrun => ?_, fun k a g up more rest s hrun hpending => ?_,
    fun s hrun => ?_, fun s hrun => ?_⟩
  · obtain ⟨t, hexec, hstarts, hpresses, hstand⟩ := exec_closure hrun hst hmode hambig fun j => (hopen j (mem_allKeys j)).1
    refine ⟨t, hexec, hstarts, fun h1 => ?_, hstand⟩
    obtain ⟨hkey, hqueued, hacts, hclick⟩ := hpresses h1
    exact ⟨hkey, hqueued.joins, hqueued.full, hqueued.unreported, hclick, fun hsilence => pressAction_silence hsilence hacts, hacts⟩
  · obtain ⟨t, hexec, hkey, hqueued⟩ := exec_opening hrun hst hmode (fun j hj => (hothers j (mem_allKeys j) hj).1) hk hrunk
    exact ⟨t, hexec, hkey, hqueued.joins, hqueued.unreported⟩
  · obtain ⟨t, hexec, hpresses, hreleases, hstand⟩ := exec_multiOne hrun hst hmode hambig hrect hrunk hothers
    refine ⟨t, hexec, fun h1 h2 => ?_, fun h1 h2 => ?_, hstand⟩
    · obtain ⟨hkey, hqueued⟩ := hpresses h1 h2
      exact ⟨hkey, hqueued.joins, hqueued.unreported⟩
    · obtain ⟨hkey, hqueued⟩ := hreleases h1 h2
      exact ⟨hkey, hqueued.joins, hqueued.unreported⟩
  · cases up with
    | false => exact exec_oneDim (d := -100) (by omega) (by omega) k i hrun
    | true => exact exec_oneDim (d := 100) (by omega) (by omega) k i hrun
  · cases up with
    | false => exact fun hhanded hdims => afterSteps_group (d := -100) (by omega) (by omega) k a g hrun hpending hhanded hdims
    | true => exact fun hhanded hdims => afterSteps_group (d := 100) (by omega) (by omega) k a g hrun hpending hhanded hdims
  · obtain ⟨t, hexec, ht⟩ := exec_leaves (i := .readKeys) hrun rfl
    have heff : effect .readKeys (startEvent .readKeys s) = readKeys (startEvent .readKeys s) := rfl
    rw [heff] at ht
    by_cases hempty : s.pn.queue = []
    · rw [readKeys_empty (s := startEvent .readKeys s) hempty] at ht
      have hpn : t.pn = s.pn := ht.pn
      refine ⟨t, hexec, ?_, fun _ => ⟨ht.answer, hpn⟩, fun hne => absurd hempty hne⟩
      rw [hpn, hempty]
      rfl
    · rw [readKeys_some (s := startEvent .readKeys s) hempty] at ht
      exact ⟨t, hexec, (congrArg PanelUnit.queue ht.pn :), fun h => absurd h hempty, fun _ => ⟨(congrArg PanelUnit.overrun ht.pn :), ht.answer⟩⟩
  · obtain ⟨t, hexec, ht⟩ := exec_leaves (i := .clearKeys) hrun rfl
    exact ⟨t, hexec, ht.answer, ht.pn⟩

end Sys2Proof.Proofs
end

section
/-! PROOFS. The parts of a tick: the clocks, the Rest Monitor's second, the expiries and the heater's holds (R62, R140, R154). -/

namespace Sys2Proof.Machine

-- One proof after another: started together they wait for one another, each on a thread of its own.
set_option Elab.async false

variable {s t u v w x : State} {as : List Area}

/-! ### The clocks (R154) -/

theorem tickClocks_su (h : s.su.elapsed < 4294967295) :
    (tickClocks s).su = { s.su with elapsed := s.su.elapsed + 1, tenth := 0 } := by
  have hnext : (tickClocks s).su
      = { s.su with elapsed := (if s.su.elapsed < max32 then s.su.elapsed + 1 else Config.elapsedAfterLast), tenth := 0 } := rfl
  rw [hnext, if_pos (show s.su.elapsed < max32 from h)]

theorem tickClocks_mc (s : State) : (tickClocks s).mc = { s.mc with silence := min 120 (s.mc.silence + 1) } := rfl

theorem tickClocks_rm (s : State) : (tickClocks s).rm = s.rm := rfl

/-! ### The holds that leave the MC (R62, R75) -/

theorem entrySigns_mc (h : s.hc.state ≠ .waitPower) : (entrySigns s).mc = s.mc := by
  unfold entrySigns
  split
  · rfl
  · rfl
  · exact absurd ‹_› h
  · rfl

theorem enterHeater_mc (new : HeaterState) (upd : HeaterUnit → HeaterUnit) (s : State)
    (h : (upd (heaterIn new s.hc)).state ≠ .waitPower) : (enterHeater new upd s).mc = s.mc := by
  unfold enterHeater
  extract_lets s1 s2 s3
  have h1 : s1.hc.state ≠ .waitPower := h
  have h2 : s2.hc.state = s1.hc.state ∧ s2.mc = s.mc := by
    unfold s2
    split
    · exact ⟨strokeAt_hc_state s1, strokeAt_mc s1⟩
    · exact ⟨rfl, rfl⟩
  have h3 : s3.hc.state = s1.hc.state ∧ s3.mc = s.mc := by
    unfold s3
    rw [ask_hc, ask_mc]
    exact h2
  have hstate : (heaterNotice (frostAtEntry s3)).hc.state = s1.hc.state := by
    rw [heaterNotice_hc]
    obtain ⟨b, o, e⟩ := frostAtEntry_hc s3
    rw [e]
    exact h3.1
  rw [entrySigns_mc (by rw [hstate]; exact h1), heaterNotice_mc, frostAtEntry_mc]
  exact h3.2

theorem toPurge_mc (exit : PurgeExit) (fault : Option HeaterFault) (s : State) : (toPurge exit fault s).mc = s.mc := by
  unfold toPurge
  dsimp only
  rw [enterHeater_mc _ _ _ (by simp [heaterIn])]
  cases fault <;> rfl

/-- With no frost hold running no hold that is met leaves OFF, and the MC stands. -/
theorem heaterHolds_mc (h : s.hc.frostHold = none) : (heaterHolds s).mc = s.mc := by
  unfold heaterHolds
  split
  · split
    · exact toPurge_mc _ _ s
    · split
      · unfold flameGone
        split
        · exact toPurge_mc _ _ _
        · exact toPurge_mc _ _ s
      · rfl
  · rw [h]
    simp [holdMet]

/-! ### The expiries (R29, R47, R66, R92, R104) -/

theorem raiseAt_cases (o : Option Nat) (i : Instr) (s : State) : raiseAt o i s = s ∨ raiseAt o i s = hand i s := by
  unfold raiseAt
  split
  · exact raise_eq i s
  · exact .inl rfl

theorem raiseAt_behind (o : Option Nat) (i : Instr) (s : State) : Behind s.handed (raiseAt o i s).handed := by
  obtain e | e := raiseAt_cases o i s <;> rw [e]
  · exact .refl _
  · exact ⟨[i], rfl⟩

theorem mem_raiseAt {o : Option Nat} (i : Instr) (h : o = some s.su.elapsed) : i ∈ (raiseAt o i s).handed := by
  unfold raiseAt
  rw [if_pos h]
  exact mem_raise i s

/-- The expiries that fall on a tick are handed. -/
structure ExpiriesRaised (s t : State) : Prop where
  behind : Behind s.handed t.handed
  minute : s.su.elapsed % 60 = 0 → .minuteEnd ∈ t.handed
  duration : s.hc.durationEnd = some s.su.elapsed → .durationExpiry ∈ t.handed
  boost : s.fc.boostEnd = some s.su.elapsed → .boostEnd ∈ t.handed
  vent : s.fc.ventRunEnd = some s.su.elapsed → .ventRunEnd ∈ t.handed
  socket : ∀ k, (tget s.ga.sockets (socketIx k)).runEnd = some s.su.elapsed → .socketRunLimitExpiry k ∈ t.handed

theorem expiriesRaised (s : State) : ExpiriesRaised s (raiseExpiries s) := by
  unfold raiseExpiries
  extract_lets s1 s2 s3 s4 s5
  have h1 : Behind s.handed s1.handed ∧ s1.su = s.su ∧ (s.su.elapsed % 60 = 0 → .minuteEnd ∈ s1.handed) := by
    unfold s1
    split
    · exact ⟨(moves_raise _ s).handed_behind (by decide), (moves_raise _ s).su_eq, fun _ => mem_raise _ s⟩
    · rename_i h
      exact ⟨.refl _, rfl, fun h' => absurd h' h⟩
  obtain ⟨hb1, hsu1, hminute⟩ := h1
  have hsu2 : s2.su = s.su := (moves_raiseAt _ _ s1).su_eq.trans hsu1
  have hsu3 : s3.su = s.su := (moves_raiseAt _ _ s2).su_eq.trans hsu2
  have hsu4 : s4.su = s.su := (moves_raiseAt _ _ s3).su_eq.trans hsu3
  have hsu5 : s5.su = s.su := (moves_raiseAt _ _ s4).su_eq.trans hsu4
  have hb2 : Behind s1.handed s2.handed := raiseAt_behind _ _ s1
  have hb3 : Behind s2.handed s3.handed := raiseAt_behind _ _ s2
  have hb4 : Behind s3.handed s4.handed := raiseAt_behind _ _ s3
  have hb5 : Behind s4.handed s5.handed := raiseAt_behind _ _ s4
  have hb6 := raiseAt_behind (tget s.ga.sockets 1).runEnd (.socketRunLimitExpiry .b) s5
  refine ⟨((((hb1.trans hb2).trans hb3).trans hb4).trans hb5).trans hb6, fun h => ?_, fun h => ?_, fun h => ?_, fun h => ?_, fun k h => ?_⟩
  · exact ((((hb2.trans hb3).trans hb4).trans hb5).trans hb6).mem (hminute h)
  · exact (((hb3.trans hb4).trans hb5).trans hb6).mem (mem_raiseAt _ (by rw [hsu1]; exact h))
  · exact ((hb4.trans hb5).trans hb6).mem (mem_raiseAt _ (by rw [hsu2]; exact h))
  · exact (hb5.trans hb6).mem (mem_raiseAt _ (by rw [hsu3]; exact h))
  · cases k with
    | a => exact hb6.mem (mem_raiseAt _ (by rw [hsu4]; exact h))
    | b => exact mem_raiseAt _ (by rw [hsu5]; exact h)

/-! ### A second of driving (R140) -/

/-- What a second of driving leaves, the drive counter at `n`. -/
structure Driven (n : Nat) (s t : State) : Prop where
  rm : ∃ soon limit timer, t.rm = { s.rm with drive := n, soon := soon, limit := limit, repeatTimer := timer }
  soon : t.rm.soon = (s.rm.soon || decide ((s.cfg.profile.driveLimit - s.cfg.profile.wDrive) * 60 ≤ n))
  limit : t.rm.limit = (s.rm.limit || decide (s.cfg.profile.driveLimit * 60 ≤ n))
  warns : s.rm.soon = false → (s.cfg.profile.driveLimit - s.cfg.profile.wDrive) * 60 ≤ n → .chimeRequest 4 ∈ t.handed
    ∧ .noticePost ⟨.driveSoon, .rm, .attention, s.rm.uncertain, packed12 (shownMinutes n)
        (if n ≤ s.cfg.profile.driveLimit * 60 then shownMinutes (s.cfg.profile.driveLimit * 60 - n)
          else Config.minutesPastLimit (n - s.cfg.profile.driveLimit * 60))⟩ ∈ t.handed
  limits : s.rm.limit = false → s.cfg.profile.driveLimit * 60 ≤ n → t.rm.repeatTimer = some (s.su.elapsed + 300)
    ∧ .chimeRequest 5 ∈ t.handed
    ∧ .noticePost ⟨.driveLimit, .rm, .warning, s.rm.uncertain, leBytes 2 (shownMinutes n : Int)⟩ ∈ t.handed

/-- The first of the two warnings, and whether it is given. -/
def soonGiven (s : State) : State :=
  if s.rm.soon = false ∧ (s.cfg.profile.driveLimit - s.cfg.profile.wDrive) * 60 ≤ s.rm.drive then
    driveSoon (withRm (fun r => { r with soon := true }) s) else s

theorem judgeDriving_eq (s : State) : judgeDriving s
    = if (soonGiven s).rm.limit = false ∧ s.cfg.profile.driveLimit * 60 ≤ (soonGiven s).rm.drive then
        driveLimit (withRm (fun r => { r with soon := true, limit := true }) (soonGiven s))
      else soonGiven s := rfl

theorem soonGiven_spec (s : State) : (soonGiven s).rm
      = { s.rm with soon := s.rm.soon || decide ((s.cfg.profile.driveLimit - s.cfg.profile.wDrive) * 60 ≤ s.rm.drive) }
    ∧ (soonGiven s).su = s.su
    ∧ (s.rm.soon = false → (s.cfg.profile.driveLimit - s.cfg.profile.wDrive) * 60 ≤ s.rm.drive → .chimeRequest 4 ∈ (soonGiven s).handed
      ∧ .noticePost ⟨.driveSoon, .rm, .attention, s.rm.uncertain, packed12 (shownMinutes s.rm.drive) (minutesToLimit s)⟩
          ∈ (soonGiven s).handed) := by
  unfold soonGiven
  by_cases h : s.rm.soon = false ∧ (s.cfg.profile.driveLimit - s.cfg.profile.wDrive) * 60 ≤ s.rm.drive
  · rw [if_pos h, decide_eq_true h.2, Bool.or_true]
    refine ⟨rfl, rfl, fun _ _ => ⟨List.mem_append_right _ (List.mem_singleton_self _), ?_⟩⟩
    exact List.mem_append_left _ (List.mem_append_right _ (List.mem_singleton_self _))
  · rw [if_neg h]
    refine ⟨?_, rfl, fun h1 h2 => absurd ⟨h1, h2⟩ h⟩
    have hsoon : (s.rm.soon || decide ((s.cfg.profile.driveLimit - s.cfg.profile.wDrive) * 60 ≤ s.rm.drive)) = s.rm.soon := by
      cases hs : s.rm.soon
      · rw [Bool.false_or, decide_eq_false fun hle => h ⟨hs, hle⟩]
      · rfl
    rw [hsoon]

theorem driven_judge (s : State) : Driven s.rm.drive s (judgeDriving s) := by
  obtain ⟨hrm, hsu, hwarns⟩ := soonGiven_spec s
  rw [judgeDriving_eq]
  generalize soonGiven s = y at hrm hsu hwarns
  have hlimits : (y.rm.limit = false ∧ s.cfg.profile.driveLimit * 60 ≤ y.rm.drive)
      ↔ (s.rm.limit = false ∧ s.cfg.profile.driveLimit * 60 ≤ s.rm.drive) := by rw [hrm]
  by_cases h : s.rm.limit = false ∧ s.cfg.profile.driveLimit * 60 ≤ s.rm.drive
  · rw [if_pos (hlimits.2 h)]
    obtain ⟨z, hz⟩ : ∃ z, z = driveLimit (withRm (fun r => { r with soon := true, limit := true }) y) := ⟨_, rfl⟩
    have hzrm : z.rm = { y.rm with soon := true, limit := true, repeatTimer := some (y.su.elapsed + 300) } := by rw [hz]; rfl
    have hzh : z.handed = y.handed ++ [.noticePost ⟨.driveLimit, .rm, .warning, y.rm.uncertain, leBytes 2 (shownMinutes y.rm.drive : Int)⟩]
        ++ [.chimeRequest 5] := by rw [hz]; rfl
    rw [← hz]
    rw [hrm, hsu] at hzrm
    rw [hrm] at hzh
    have hbehind : ∀ i ∈ y.handed, i ∈ z.handed := fun i hi => by
      rw [hzh]
      exact List.mem_append_left _ (List.mem_append_left _ hi)
    refine ⟨⟨_, _, _, hzrm⟩, ?_, ?_, fun h1 h2 => ?_, fun _ _ => ⟨?_, ?_, ?_⟩⟩
    · rw [hzrm, decide_eq_true (by
        have hle : (s.cfg.profile.driveLimit - s.cfg.profile.wDrive) * 60 ≤ s.cfg.profile.driveLimit * 60 :=
          Nat.mul_le_mul_right 60 (Nat.sub_le _ _)
        exact hle.trans h.2), Bool.or_true]
    · rw [hzrm, decide_eq_true h.2, Bool.or_true]
    · obtain ⟨h3, h4⟩ := hwarns h1 h2
      exact ⟨hbehind _ h3, hbehind _ h4⟩
    · rw [hzrm]
    · rw [hzh]
      exact List.mem_append_right _ (List.mem_singleton_self _)
    · rw [hzh]
      exact List.mem_append_left _ (List.mem_append_right _ (List.mem_singleton_self _))
  · rw [if_neg fun h' => h (hlimits.1 h')]
    have hlimit : (s.rm.limit || decide (s.cfg.profile.driveLimit * 60 ≤ s.rm.drive)) = s.rm.limit := by
      cases hs : s.rm.limit
      · rw [Bool.false_or, decide_eq_false fun hle => h ⟨hs, hle⟩]
      · rfl
    refine ⟨⟨_, s.rm.limit, s.rm.repeatTimer, hrm⟩, ?_, ?_, hwarns, fun h1 h2 => absurd ⟨h1, h2⟩ h⟩
    · rw [hrm]
    · rw [hrm, hlimit]

theorem driven_driveSecond (h1 : s.rm.state = .driving) (h2 : s.rm.move = .active) :
    Driven (min 999999 (s.rm.drive + 1)) s (driveSecond s) := by
  have hsecond : driveSecond s = judgeDriving (withRm (fun r => { r with drive := min 999999 (r.drive + 1) }) s) := if_pos ⟨h1, h2⟩
  obtain ⟨hrm, hsoon, hlimit, hwarns, hlimits⟩ := driven_judge (withRm (fun r => { r with drive := min 999999 (r.drive + 1) }) s)
  rw [hsecond]
  exact ⟨hrm, hsoon, hlimit, hwarns, hlimits⟩

theorem driveSecond_idle (h : s.rm.state ≠ .driving ∨ s.rm.move ≠ .active) : driveSecond s = s := if_neg fun h' => by
  obtain h | h := h
  · exact h h'.1
  · exact h h'.2

theorem judgeBreak_none (h : openSegment s.rm = none) : judgeBreak s = s := by
  unfold judgeBreak
  dsimp only
  rw [h]

theorem judgeBreak_open {start : Nat} (h : openSegment s.rm = some (start, false)) : judgeBreak s
    = if s.cfg.profile.segMin * 60 ≤ cabTime s - start ∧ s.cfg.profile.breakTotal * 60 ≤ s.rm.acc + (cabTime s - start) then
        takeBreak (s.rm.acc + (cabTime s - start)) (withRm consumeOpen s)
      else s := by
  unfold judgeBreak
  dsimp only
  rw [h]

/-! ### The Rest Monitor at a tick (R145 to R147) -/

/-- What the RM's tick leaves behind its second of driving and its break. -/
structure RestTicked (s t : State) : Prop where
  rm : t.rm = { s.rm with horizon := if s.rm.state = .resting then horizonOf s else s.rm.horizon }
  behind : Behind s.handed t.handed
  horizon : s.rm.state = .resting → horizonOf s ≠ s.rm.horizon → .horizonChange (horizonOf s) ∈ t.handed
  planned : s.rm.state = .resting → ∀ e, s.rm.plannedEnd = some e → e ≤ cabTime s → .plannedEndReached ∈ t.handed
  endSoon : ∀ e, s.rm.endSoon = some e → e ≤ cabTime s → s.rm.endSoonRaised = false → .endSoonReached ∈ t.handed

theorem handHorizon_behind (s : State) : Behind s.handed (handHorizon s).handed := (moves_handHorizon s).handed_behind (by decide)

/-- The RM's tick behind its break. -/
def restTickEnds (s1 : State) : State :=
  let s2 := if s1.rm.state = .resting then handHorizon s1 else s1
  let s3 := match s2.rm.endSoon with
    | some t => if t ≤ cabTime s2 ∧ s2.rm.endSoonRaised = false then raise .endSoonReached s2 else s2
    | none => s2
  match s3.rm.state, s3.rm.plannedEnd with
  | .resting, some e => if e ≤ cabTime s3 then raise .plannedEndReached s3 else s3
  | _, _ => s3

theorem restTick_eq (s : State) : restTick s = restTickEnds (judgeBreak (driveSecond s)) := rfl

theorem raise_behind (i : Instr) (s : State) : Behind s.handed (raise i s).handed := (moves_raise i s).handed_behind (by decide)

theorem restTicked (s : State) : RestTicked s (restTickEnds s) := by
  unfold restTickEnds
  extract_lets s2 s3
  have h2 : s2.rm = { s.rm with horizon := if s.rm.state = .resting then horizonOf s else s.rm.horizon } ∧ s2.su = s.su
      ∧ Behind s.handed s2.handed
      ∧ (s.rm.state = .resting → horizonOf s ≠ s.rm.horizon → .horizonChange (horizonOf s) ∈ s2.handed) := by
    unfold s2
    split
    · exact ⟨handHorizon_rm s, (moves_handHorizon s).su_eq, handHorizon_behind s, fun _ => mem_handHorizon⟩
    · rename_i h
      exact ⟨rfl, rfl, .refl _, fun h' => absurd h' h⟩
  obtain ⟨hrm2, hsu2, hb2, hhorizon⟩ := h2
  have hcab2 : cabTime s2 = cabTime s := cabTime_congr hsu2
  have h3 : s3.rm = s2.rm ∧ s3.su = s2.su ∧ Behind s2.handed s3.handed
      ∧ ∀ e, s.rm.endSoon = some e → e ≤ cabTime s → s.rm.endSoonRaised = false → .endSoonReached ∈ s3.handed := by
    have hsoon : s2.rm.endSoon = s.rm.endSoon ∧ s2.rm.endSoonRaised = s.rm.endSoonRaised := by
      rw [hrm2]
      exact ⟨rfl, rfl⟩
    unfold s3
    rw [hsoon.1, hsoon.2, hcab2]
    cases he : s.rm.endSoon with
    | none => exact ⟨rfl, rfl, .refl _, fun e h => absurd h (by simp)⟩
    | some e =>
      dsimp only
      split
      · exact ⟨raise_rm _ _, raise_su _ _, raise_behind _ _, fun _ _ _ _ => mem_raise _ _⟩
      · rename_i h
        refine ⟨rfl, rfl, .refl _, fun e' he' h1 h2 => ?_⟩
        obtain rfl := Option.some.inj he'
        exact absurd ⟨h1, h2⟩ h
  obtain ⟨hrm3, hsu3, hb3, hendSoon⟩ := h3
  have hcab3 : cabTime s3 = cabTime s := (cabTime_congr hsu3).trans hcab2
  have hstate3 : s3.rm.state = s.rm.state ∧ s3.rm.plannedEnd = s.rm.plannedEnd := by
    rw [hrm3, hrm2]
    exact ⟨rfl, rfl⟩
  have hb := hb2.trans hb3
  have hstands : (s.rm.state = .resting → ∀ e, s.rm.plannedEnd = some e → ¬e ≤ cabTime s) → RestTicked s s3 := fun hno =>
    ⟨hrm3.trans hrm2, hb, fun h1 h2' => hb3.mem (hhorizon h1 h2'), fun h1 e he hle => absurd hle (hno h1 e he), hendSoon⟩
  split
  · rename_i e hst he
    rw [hstate3.1] at hst
    rw [hstate3.2] at he
    rw [hcab3]
    split
    · have hb4 := raise_behind .plannedEndReached s3
      exact ⟨(raise_rm _ _).trans (hrm3.trans hrm2), hb.trans hb4, fun h1 h2' => (hb3.trans hb4).mem (hhorizon h1 h2'),
        fun _ _ _ _ => mem_raise _ _, fun e he h1 h2' => hb4.mem (hendSoon e he h1 h2')⟩
    · rename_i hlate
      refine hstands fun _ e' he' => ?_
      obtain rfl := Option.some.inj (he.symm.trans he')
      exact hlate
  · rename_i hno
    exact hstands fun hst e he => (hno e (hstate3.1.trans hst) (hstate3.2.trans he)).elim

end Sys2Proof.Machine
end

section
/-! PROOFS. The notices of what fires, and the tick as one event (R154, R160, R164). -/

namespace Sys2Proof.Machine

-- One proof after another: started together they wait for one another, each on a thread of its own.
set_option Elab.async false

variable {s t u v w x : State} {as : List Area}

/-! ### What fires is told of (R164) -/

/-- A SCHEDULE notice for the slot's entry is in flight. -/
def Noticed (k : Fin 8) (a : Action) (t : State) : Prop :=
  ∃ sev reason, .noticePost ⟨.schedule, .su, sev, false, [byte k.1, byte (actionCode a), reason]⟩ ∈ t.handed

theorem noticed_fireEntry {k : Fin 8} {e : SchedEntry} (h : slotOf s k = some e) : Noticed k e.action (fireEntry s k) := by
  unfold fireEntry
  rw [h]
  exact ⟨_, _, List.mem_append_right _ (List.mem_singleton_self _)⟩

/-- The handings less PANEL's stay in flight. -/
def KeepsHandings (s t : State) : Prop := Behind (s.handed.filter notPanels) (t.handed.filter notPanels)

theorem KeepsHandings.trans (h : KeepsHandings s t) (k : KeepsHandings t u) : KeepsHandings s u := Behind.trans h k

theorem KeepsHandings.mem (h : KeepsHandings s t) {i : Instr} (hi : i ∈ s.handed) (hp : notPanels i = true) : i ∈ t.handed :=
  (List.mem_filter.1 (Behind.mem h (List.mem_filter.2 ⟨hi, hp⟩))).1

theorem KeepsHandings.noticed (h : KeepsHandings s t) {k : Fin 8} {a : Action} (hn : Noticed k a s) : Noticed k a t := by
  obtain ⟨sev, reason, hmem⟩ := hn
  exact ⟨sev, reason, h.mem hmem rfl⟩

theorem keepsHandings_fireEntry (s : State) (k : Fin 8) : KeepsHandings s (fireEntry s k) :=
  (moves_fireEntry s k).handed_notPanels

/-- Each slot of a firing is told of, where each single one is. -/
theorem noticed_foldl {f : State → Fin 8 → State} (hfires : ∀ s k, Fires [k] s (f s k)) (hkeeps : ∀ s k, KeepsHandings s (f s k))
    (hnotice : ∀ s k e, slotOf s k = some e → Noticed k e.action (f s k)) {ks : List (Fin 8)} (hks : ks.Nodup) (s : State) :
    KeepsHandings s (ks.foldl f s) ∧ ∀ k ∈ ks, ∀ e, slotOf s k = some e → Noticed k e.action (ks.foldl f s) := by
  induction ks generalizing s with
  | nil => exact ⟨.refl _, fun k hk => absurd hk List.not_mem_nil⟩
  | cons j ks ih =>
    obtain ⟨hj, hrest⟩ := List.nodup_cons.1 hks
    obtain ⟨hkept, hnoticed⟩ := ih hrest (f s j)
    refine ⟨(hkeeps s j).trans hkept, fun k hk e he => ?_⟩
    obtain rfl | hk := List.mem_cons.1 hk
    · exact hkept.noticed (hnotice s k e he)
    · have hne : k ∉ [j] := fun h => hj (List.mem_singleton.1 h ▸ hk)
      exact hnoticed k hk e (((hfires s j).other k hne).trans he)

/-- What is due is told of at its firing (R160, R164). -/
theorem noticed_fireDue {k : Fin 8} {e : SchedEntry} (hdue : isDue s k = true) (he : slotOf s k = some e) : Noticed k e.action (fireDue s) := by
  have hk : k ∈ dueSlots s := (mem_dueSlots s k).2 hdue
  have hawake : Noticed k e.action (fireAll (wakeFromDoze s)) := by
    have hsu := (moves_wakeFromDoze s).su_eq
    have hall := (noticed_foldl fires_fireEntry keepsHandings_fireEntry (fun _ _ _ => noticed_fireEntry)
      (dueSlots_nodup (wakeFromDoze s)) (wakeFromDoze s)).2
    exact hall k (by rwa [dueSlots_congr hsu]) e (by rwa [slotOf, hsu])
  unfold fireDue
  split
  · rename_i hnone
    rw [hnone] at hk
    exact absurd hk List.not_mem_nil
  · split
    · exact hawake
    · exact hawake
    · rename_i hmode
      obtain ⟨x, hmoves, -, -, ewake⟩ := wakeStandby_fires hmode
      have hsu := hmoves.su_eq
      have hall := (noticed_foldl (f := fun s k => fireEntry (panelBefore s k) k)
        (fun s k => (fires_fireEntry _ k).before (panelBefore_su s k))
        (fun s k => KeepsHandings.trans (moves_panelBefore s k).handed_notPanels (keepsHandings_fireEntry _ k))
        (fun s k e he => noticed_fireEntry (by rwa [slotOf, panelBefore_su])) (dueSlots_nodup x) x).2
      rw [ewake]
      exact hall k (by rwa [dueSlots_congr hsu]) e (by rwa [slotOf, hsu])

theorem lt_nextDaily (t cab : Nat) : cab < nextDaily t cab := by
  unfold nextDaily
  split <;> omega

/-- An entry that has fired keeps its action, and its time lies ahead or it is at rest (R160). -/
theorem entryAfter_spec (cab : Nat) (r : EntryResult) (e : SchedEntry) : (entryAfter cab r e).action = e.action
    ∧ (entryAfter cab r e).last = some r ∧ (e.daily = false → (entryAfter cab r e).state = .done ∨ (entryAfter cab r e).state = .skipped)
    ∧ (e.daily = true → cab < (entryAfter cab r e).time ∨ (entryAfter cab r e).state = .disabled) := by
  unfold entryAfter
  split
  · rename_i h
    split
    · exact ⟨rfl, rfl, fun h' => absurd (h.symm.trans h') (by decide), fun _ => .inl (lt_nextDaily _ _)⟩
    · exact ⟨rfl, rfl, fun h' => absurd (h.symm.trans h') (by decide), fun _ => .inr rfl⟩
  · rename_i h
    refine ⟨rfl, rfl, fun _ => ?_, fun h' => absurd h' h⟩
    dsimp only
    split
    · exact .inl rfl
    · exact .inr rfl

/-! ### The tick as one event (R154) -/

/-- A tick from `s` to `t`, the RM's part begun at `b` and the expiries raised at `d`. -/
structure Ticked (s b d t : State) : Prop where
  rmBefore : b.rm = s.rm
  cfgBefore : b.cfg = s.cfg
  suBefore : b.su = { s.su with elapsed := s.su.elapsed + 1, tenth := 0 }
  raised : ExpiriesRaised (restTick b) d
  hc : (restTick b).hc = s.hc
  fc : (restTick b).fc = s.fc
  ga : (restTick b).ga = s.ga
  rm : t.rm = (restTick b).rm
  su : t.su = { b.su with slots := t.su.slots }
  handed : ∀ i ∈ d.handed, notPanels i = true → i ∈ t.handed
  fires : ∀ k e, slotOf s k = some e → isDue b k = true → Noticed k e.action t ∧ Fired b e (slotOf t k)
  stands : ∀ k, isDue b k = false → slotOf t k = slotOf s k

theorem slotOf_of_su {k : Fin 8} (h : t.su.slots = s.su.slots) : slotOf t k = slotOf s k := by rw [slotOf, h, slotOf]

theorem Fired.of_su {e : SchedEntry} {o : Option SchedEntry} (h : Fired s e o) (hsu : s.su = t.su) : Fired t e o := by
  obtain ⟨st, u, hst, ho⟩ := h
  exact ⟨st, u, hst, by rw [ho, cabTime_congr hsu, stampNow_congr hsu]⟩

theorem exec_tick (hrun : s.mc.supply = .running) (hlast : s.su.elapsed < 4294967295) :
    ∃ b d t, exec .elapsedTick s = .next t ∧ Ticked s b d t := by
  obtain ⟨v, hv⟩ : ∃ v, v = startEvent .elapsedTick s := ⟨_, rfl⟩
  obtain ⟨a, ha⟩ : ∃ a, a = tickClocks v := ⟨_, rfl⟩
  obtain ⟨b, hb⟩ : ∃ b, b = dozeCheck a := ⟨_, rfl⟩
  obtain ⟨d, hd⟩ : ∃ d, d = raiseExpiries (restTick b) := ⟨_, rfl⟩
  obtain ⟨f, hf⟩ : ∃ f, f = ownerEvent allRecords tickBlocks v := ⟨_, rfl⟩
  have heff : effect .elapsedTick v = fireDue f := by rw [hf]; rfl
  have hblocks : tickBlocks v = heaterHolds d := by rw [hd, hb, ha]; rfl
  have hclocks : Moves [.su, .mc, .doze] v a := ha ▸ moves_tickClocks v
  have hdoze : Moves [.mc, .doze] a b := hb ▸ moves_dozeCheck a
  have hrest : Moves [.rm] b (restTick b) := moves_restTick b
  have hraise : Moves [] (restTick b) d := hd ▸ moves_raiseExpiries _
  have hholds : Moves [.hc, .asked, .mc] d (heaterHolds d) := moves_heaterHolds d
  have hasu : a.su = { s.su with elapsed := s.su.elapsed + 1, tenth := 0 } := by
    rw [ha, tickClocks_su (s := v) (by rw [hv]; exact hlast), hv]
    rfl
  have hbsu : b.su = { s.su with elapsed := s.su.elapsed + 1, tenth := 0 } := hdoze.su_eq.trans hasu
  have hfsu : f.su = b.su := by rw [hf, ownerEvent_su, hblocks, hholds.su_eq, hraise.su_eq, hrest.su_eq]
  have hfrm : f.rm = (restTick b).rm := by rw [hf, ownerEvent_rm, hblocks, hholds.rm_eq, hraise.rm_eq]
  have hfhanded : Behind d.handed f.handed := by
    rw [hf, ownerEvent_handed, hblocks]
    exact hholds.handed_behind (by decide)
  have hslots : ∀ k, slotOf f k = slotOf s k := fun k => slotOf_of_su (by rw [hfsu, hbsu])
  have hdue : ∀ k, isDue f k = isDue b k := isDue_congr hfsu
  obtain ⟨t, hexec, ht⟩ := exec_leaves (i := .elapsedTick) hrun rfl
  rw [← hv, heff] at ht
  have hslot : ∀ k, slotOf t k = slotOf (fireDue f) k := fun k => slotOf_of_su (by rw [ht.su])
  refine ⟨b, d, t, hexec, ⟨?_, ?_, hbsu, hd ▸ expiriesRaised _, ?_, ?_, ?_, ?_, ?_, fun i hi hp => ?_, fun k e he hk => ⟨?_, ?_⟩, fun k hk => ?_⟩⟩
  · rw [hdoze.rm_eq, hclocks.rm_eq, hv]; rfl
  · rw [hdoze.cfg_eq, hclocks.cfg_eq, hv]; rfl
  · rw [hrest.hc_eq, hdoze.hc_eq, hclocks.hc_eq, hv]; rfl
  · rw [hrest.fc_eq, hdoze.fc_eq, hclocks.fc_eq, hv]; rfl
  · rw [hrest.ga_eq, hdoze.ga_eq, hclocks.ga_eq, hv]; rfl
  · rw [ht.rm, fireDue_rm, hfrm]
  · rw [ht.su, (fires_fireDue f).su, hfsu]
  · exact ht.handed i (fireDue_behind f hp (hfhanded.mem hi))
  · obtain ⟨sev, reason, hmem⟩ := noticed_fireDue (by rwa [hdue]) ((hslots k).trans he)
    exact ⟨sev, reason, ht.handed _ hmem⟩
  · rw [hslot]
    exact (fired_fireDue (by rwa [hdue]) ((hslots k).trans he)).of_su hfsu
  · rw [hslot, slotOf_fireDue (by rwa [hdue]), hslots]

/-! ### The silence time (R187) -/

theorem driveLimit_mc (s : State) : (driveLimit s).mc = s.mc := rfl

theorem driveSoon_mc (s : State) : (driveSoon s).mc = s.mc := rfl

theorem judgeDriving_mc (s : State) : (judgeDriving s).mc = s.mc := by
  have hsoon : (soonGiven s).mc = s.mc := by
    unfold soonGiven
    split
    · rw [driveSoon_mc, withRm_mc]
    · rfl
  rw [judgeDriving_eq]
  split
  · rw [driveLimit_mc, withRm_mc, hsoon]
  · exact hsoon

theorem driveSecond_mc (s : State) : (driveSecond s).mc = s.mc := by
  unfold driveSecond
  split
  · rw [judgeDriving_mc, withRm_mc]
  · rfl

theorem judgeBreak_mc (s : State) : (judgeBreak s).mc = s.mc := by
  unfold judgeBreak
  dsimp only
  split
  · split <;> rfl
  · rfl

theorem handHorizon_mc (s : State) : (handHorizon s).mc = s.mc := by
  unfold handHorizon
  dsimp only
  split <;> rfl

theorem restTickEnds_mc (s : State) : (restTickEnds s).mc = s.mc := by
  unfold restTickEnds
  extract_lets s2 s3
  have h2 : s2.mc = s.mc := by
    unfold s2
    split
    · exact handHorizon_mc s
    · rfl
  have h3 : s3.mc = s.mc := by
    unfold s3
    split
    · split
      · rw [raise_mc, h2]
      · exact h2
    · exact h2
  split
  · split
    · rw [raise_mc, h3]
    · exact h3
  · exact h3

theorem raiseAt_mc (o : Option Nat) (i : Instr) (s : State) : (raiseAt o i s).mc = s.mc := by
  obtain e | e := raiseAt_cases o i s <;> rw [e]
  rfl

theorem raiseExpiries_mc (s : State) : (raiseExpiries s).mc = s.mc := by
  unfold raiseExpiries
  dsimp only
  rw [raiseAt_mc, raiseAt_mc, raiseAt_mc, raiseAt_mc, raiseAt_mc]
  split
  · exact raise_mc _ s
  · rfl

theorem dozeCheck_unwoken (h : s.mc.woken = false) :
    (dozeCheck s).mc.silence = s.mc.silence ∧ (dozeCheck s).mc.woken = false := by
  obtain ⟨-, e⟩ | ⟨⟨-, hwoken⟩, -⟩ | ⟨-, e⟩ := dozeCheck_cases s
  · rw [e]
    exact ⟨rfl, h⟩
  · exact absurd (hwoken.symm.trans h) (by decide)
  · rw [e, setMode_mc]
    exact ⟨rfl, h⟩

/-- A second of driving and a break leave a rest's own times. -/
theorem restSecond_keeps (s : State) : ∃ n soon limit timer g l a x, (judgeBreak (driveSecond s)).rm = { s.rm with
    drive := n, soon := soon, limit := limit, repeatTimer := timer, stopSeg := g, log := l, acc := a, uncertain := x } := by
  obtain ⟨g, l, d, a, x, y, z, e, -⟩ := judgeBreak_keeps (driveSecond s)
  by_cases h : s.rm.state = .driving ∧ s.rm.move = .active
  · obtain ⟨soon, limit, timer, hrm⟩ := (driven_driveSecond h.1 h.2).rm
    rw [hrm] at e
    exact ⟨d, x, y, timer, g, l, a, z, e⟩
  · rw [driveSecond_idle (by tauto)] at e ⊢
    exact ⟨d, x, y, s.rm.repeatTimer, g, l, a, z, e⟩

/-- With no entry armed and no frost hold the silence time gains 1. -/
theorem tick_silence (harmed : ∀ k e, slotOf s k = some e → e.state ≠ .armed) (hfrost : s.hc.frostHold = none) :
    (close s (effect .elapsedTick (startEvent .elapsedTick s))).mc.silence = min 120 (s.mc.silence + 1) := by
  obtain ⟨v, hv⟩ : ∃ v, v = startEvent .elapsedTick s := ⟨_, rfl⟩
  obtain ⟨b, hb⟩ : ∃ b, b = dozeCheck (tickClocks v) := ⟨_, rfl⟩
  obtain ⟨f, hf⟩ : ∃ f, f = ownerEvent allRecords tickBlocks v := ⟨_, rfl⟩
  have hblocks : tickBlocks v = afterDozeCheck b := by rw [hb]; rfl
  have hclocks : (tickClocks v).mc.silence = min 120 (s.mc.silence + 1) ∧ (tickClocks v).mc.woken = false := by
    rw [hv]
    exact ⟨rfl, rfl⟩
  obtain ⟨hsilence, hwoken⟩ := dozeCheck_unwoken hclocks.2
  rw [← hb] at hsilence hwoken
  have hmoves : Moves [.su, .mc, .doze] v b := hb ▸ (moves_tickClocks v).mono.step (moves_dozeCheck _)
  have hrest : Moves [.rm] b (raiseExpiries (restTick b)) := (moves_restTick b).step (moves_raiseExpiries _)
  have hbhc : b.hc = s.hc := by rw [hmoves.hc_eq, hv]; rfl
  have hfrost' : (raiseExpiries (restTick b)).hc.frostHold = none := by rw [hrest.hc_eq, hbhc, hfrost]
  have hmc : f.mc = b.mc := by
    rw [hf, ownerEvent_mc, hblocks, afterDozeCheck, heaterHolds_mc hfrost', raiseExpiries_mc, restTick_eq, restTickEnds_mc, judgeBreak_mc,
      driveSecond_mc]
  have hfsu : f.su.slots = s.su.slots := by
    rw [hf, ownerEvent_su, hblocks, (moves_afterDozeCheck b).su_eq, hb, (moves_dozeCheck _).su_eq, hv]
    rfl
  have hidle : fireDue f = f := fireDue_none (dueSlots_none fun k e he => harmed k e ((slotOf_of_su hfsu) ▸ he))
  have heff : effect .elapsedTick v = f := by
    rw [← hidle, hf]
    rfl
  rw [← hv, heff, close_silence_unwoken (by rw [hmc, hwoken]), hmc, hsilence, hclocks.1]

end Sys2Proof.Machine

namespace Sys2Proof.Proofs

open Sys2Proof Sys2Proof.Machine

/-- Settles O17: a tick's parts in their order, the search for due entries behind them. -/
theorem tickAdvancesTheClock : Obligations.TickAdvancesTheClock := by
  intro s hrun hlast
  obtain ⟨b, d, t, hexec, h⟩ := exec_tick hrun hlast
  have hcab : cabTime b = cabTime { s with su := { s.su with elapsed := s.su.elapsed + 1 } } := by
    unfold cabTime
    rw [h.suBefore]
  obtain ⟨y, hy⟩ : ∃ y, y = judgeBreak (driveSecond b) := ⟨_, rfl⟩
  have hrest := restTicked y
  have hrestTick : restTick b = restTickEnds y := by rw [hy]; exact restTick_eq b
  rw [← hrestTick] at hrest
  have hysu : y.su = b.su := by rw [hy, (moves_judgeBreak _).su_eq, (moves_driveSecond b).su_eq]
  have hrestsu : (restTick b).su = b.su := (moves_restTick b).su_eq
  have helapsed : (restTick b).su.elapsed = s.su.elapsed + 1 := by rw [hrestsu, h.suBefore]
  have hycab : cabTime y = cabTime b := cabTime_congr hysu
  have hheld : ∀ i ∈ y.handed, notPanels i = true → i ∈ t.handed := fun i hi =>
    h.handed i (h.raised.behind.mem (hrest.behind.mem hi))
  have hresting : ∀ i ∈ (restTick b).handed, notPanels i = true → i ∈ t.handed := fun i hi =>
    h.handed i (h.raised.behind.mem hi)
  have hcabt : ∀ k e, slotOf s k = some e →
      isDue b k = (!s.su.unset && e.state == .armed && decide (e.time ≤ cabTime b)) := fun k e he => by
    have hslot : slotOf b k = some e := (slotOf_of_su (by rw [h.suBefore])).trans he
    rw [isDue_some hslot, h.suBefore]
  refine ⟨t, hexec, ?_, ?_, fun h0 => ?_, fun hend => ?_, fun hend => ?_, fun hend => ?_, fun k hend => ?_, fun harmed hfrost => ?_, ?_⟩
  · rw [h.su, h.suBefore]
  · rw [h.su, h.suBefore]
  · exact h.handed _ (h.raised.minute (by rw [helapsed]; exact h0)) rfl
  · exact h.handed _ (h.raised.duration (by rw [helapsed, h.hc]; exact hend)) rfl
  · exact h.handed _ (h.raised.boost (by rw [helapsed, h.fc]; exact hend)) rfl
  · exact h.handed _ (h.raised.vent (by rw [helapsed, h.fc]; exact hend)) rfl
  · exact h.handed _ (h.raised.socket k (by rw [helapsed, h.ga]; exact hend)) rfl
  · have hnext := (exec_running (i := .elapsedTick) hrun rfl).symm.trans hexec
    rw [← Host.Outcome.next.inj hnext]
    exact tick_silence harmed hfrost
  rw [← hcab]
  refine ⟨fun hst hmove hopen => ?_, fun hidle start hopen => ⟨fun hlen htotal => ?_, fun hshort => ?_⟩, fun hst e he => ?_,
    fun e he hle hraised => ?_, fun k e he => ⟨fun hstate hset hdue => ?_, fun hnot => ?_⟩⟩
  · have hdriven := driven_driveSecond (s := b) (by rw [h.rmBefore]; exact hst) (by rw [h.rmBefore]; exact hmove)
    obtain ⟨soon, limit, timer, hrm⟩ := hdriven.rm
    have hyopen : openSegment (driveSecond b).rm = none := by
      rw [hrm, h.rmBefore]
      exact hopen
    have hyd : y = driveSecond b := by rw [hy, judgeBreak_none hyopen]
    rw [← hyd] at hdriven hrm
    obtain ⟨-, hsoon, hlimit, hwarns, hlimits⟩ := hdriven
    rw [h.rmBefore] at hrm
    rw [h.cfgBefore, h.rmBefore] at hsoon hlimit hwarns hlimits
    rw [h.suBefore] at hlimits
    have htrm : t.rm = { y.rm with horizon := (restTick b).rm.horizon } := by rw [h.rm, hrest.rm]
    refine ⟨?_, ?_, ?_, fun h1 h2 => ?_, fun h1 h2 => ?_⟩
    · rw [htrm, hrm]
    · rw [htrm]
      exact hsoon
    · rw [htrm]
      exact hlimit
    · obtain ⟨h3, h4⟩ := hwarns h1 h2
      exact ⟨hheld _ h3 rfl, hheld _ h4 rfl⟩
    · obtain ⟨h3, h4, h5⟩ := hlimits h1 h2
      refine ⟨?_, hheld _ h4 rfl, hheld _ h5 rfl⟩
      rw [htrm]
      exact h3
  · have hyb : y = judgeBreak b := by rw [hy, driveSecond_idle (by rwa [h.rmBefore])]
    rw [judgeBreak_open (by rw [h.rmBefore]; exact hopen), h.cfgBefore, h.rmBefore, if_pos ⟨hlen, htotal⟩] at hyb
    have htrm : t.rm = { y.rm with horizon := (restTick b).rm.horizon } := by rw [h.rm, hrest.rm]
    rw [htrm]
    refine ⟨?_, ?_, ?_, ?_, ?_, hheld _ ?_ rfl⟩ <;> rw [hyb]
    · rfl
    · rfl
    · rfl
    · rfl
    · rfl
    · exact List.mem_append_right _ (List.mem_singleton_self _)
  · have hyb : y = judgeBreak b := by rw [hy, driveSecond_idle (by rwa [h.rmBefore])]
    rw [judgeBreak_open (by rw [h.rmBefore]; exact hopen), h.cfgBefore, h.rmBefore, if_neg (by omega)] at hyb
    rw [h.rm, hrest.rm, hyb, h.rmBefore]
    exact ⟨rfl, rfl⟩
  · obtain ⟨n, soon, limit, timer, g, l, a, x, hyrm⟩ := restSecond_keeps b
    rw [← hy, h.rmBefore] at hyrm
    have hyst : y.rm.state = .resting := by rw [hyrm]; exact hst
    have hyend : y.rm.plannedEnd = some e := by rw [hyrm]; exact he
    have hhorizon : horizonOf y = max 1 ((e - cabTime b + 59) / 60) := by
      unfold horizonOf
      rw [hyst, hyend, ← hycab]
      rfl
    have hth : t.rm.horizon = horizonOf y := by rw [h.rm, hrest.rm, if_pos hyst]
    refine ⟨hth.trans hhorizon, fun hne => ?_, fun hle => ?_⟩
    · rw [hth] at hne ⊢
      exact hresting _ (hrest.horizon hyst (by rw [show y.rm.horizon = s.rm.horizon from (congrArg RestUnit.horizon hyrm :)]; exact hne)) rfl
    · exact hresting _ (hrest.planned hyst e hyend (by rw [hycab]; exact hle)) rfl
  · obtain ⟨n, soon, limit, timer, g, l, a, x, hyrm⟩ := restSecond_keeps b
    rw [← hy, h.rmBefore] at hyrm
    refine hresting _ (hrest.endSoon e ?_ (by rw [hycab]; exact hle) ?_) rfl
    · rw [hyrm]
      exact he
    · rw [hyrm]
      exact hraised
  · have hdueb : isDue b k = true := by
      rw [hcabt k e he, hset, hstate, decide_eq_true hdue]
      rfl
    obtain ⟨hnotice, st, u, hst, hfired⟩ := h.fires k e he hdueb
    obtain ⟨haction, hresult, hdone, hdaily⟩ := entryAfter_spec (cabTime b) ⟨st == .ok || st == .clamped, some st, stampNow b⟩ e
    exact ⟨hnotice, _, hfired, haction, by rw [hresult]; rfl, hdone, hdaily⟩
  · rw [h.stands k, he]
    rw [hcabt k e he]
    obtain hne | hunset | hahead := hnot
    · simp [hne]
    · simp [hunset]
    · simp [Nat.not_le.2 hahead]

end Sys2Proof.Proofs
end

section
/-! PROOFS. The entry into STANDBY and the ways out of it (R187 to R189). -/

namespace Sys2Proof.Machine

-- One proof after another: started together they wait for one another, each on a thread of its own.
set_option Elab.async false

variable {s t u : State} {as : List Area}

/-! ### The panel and the link after a wake (R131, R177, R189) -/

/-- The receiver skips, and the PI scans with PANEL's request placed. -/
def panelUp (s : State) : Prop :=
  s.lk.rx = .skip ∧ s.pn.standby = false ∧ tget s.asked (consIx .panel) = some (panelRequest s.cfg.demands)

theorem panelUp_congr (hrx : t.lk.rx = s.lk.rx) (hst : t.pn.standby = s.pn.standby)
    (hask : tget t.asked (consIx .panel) = tget s.asked (consIx .panel)) (hd : t.cfg.demands = s.cfg.demands) :
    panelUp s → panelUp t := by
  unfold panelUp
  rw [hrx, hst, hask, hd]
  exact id

theorem panelUp_ask {c : Consumer} (hc : c ≠ .panel) (r : Option Request) (h : panelUp s) : panelUp (ask c r s) :=
  panelUp_congr (by simp) (by simp) (ask_asked_other _ _ _ _ fun k => hc (consIx_inj k)) (by simp) h

theorem lightsFollow_asked_panel (s : State) : tget (lightsFollow s).asked (consIx .panel) = tget s.asked (consIx .panel) := by
  unfold lightsFollow
  rw [applyLevels_asked, ask_asked_other _ _ _ _ (by decide), ask_asked_other _ _ _ _ (by decide)]

theorem Move.panelUp (h : Move as s t) (hlk : .lk ∉ as) (hsleep : .sleep ∉ as) (hdem : .demand ∉ as) (hpoke : ∀ r, .poked r ∉ as) :
    Machine.panelUp s → Machine.panelUp t := by
  cases h with
  | asks v _ ha => exact absurd ha hdem
  | panelSleep _ ha => exact absurd ha hsleep
  | poke r ws _ ha => exact absurd ha (hpoke r)
  | link l _ ha => exact absurd ha hlk
  | socket k e _ ha hb => exact fun h => panelUp_ask (by cases k <;> decide) _ h
  | heaterEnter h _ ha hb => exact fun h => panelUp_ask (by decide) _ h
  | fridgeEnter f _ ha hb => exact fun h => panelUp_ask (by decide) _ h
  | vent f _ ha hb => exact fun h => panelUp_ask (by decide) _ h
  | lightsFollow l _ ha hb => exact panelUp_congr (by simp) (by simp) (lightsFollow_asked_panel _) (by simp)
  | panel p _ ha h1 h2 => exact panelUp_congr rfl h2 rfl rfl
  | panelBack _ ha hb => exact fun h => ⟨by simpa using h.1, by simp, by simp [ask_asked_same]⟩
  | skips _ ha => exact fun h => ⟨rfl, h.2⟩
  | _ => exact panelUp_congr (by simp) (by simp) (by simp) (by simp)

theorem panelUp_fireHeld (h : panelUp s) : panelUp (fireHeld s) :=
  (moves_fireHeld s).keeps (fun _ _ m => m.panelUp (by decide) (by decide) (by decide) (poked_not_mem (by decide))) h

/-- A wake out of STANDBY (R189): AWAKE with the silence time 0, the receiver in SKIP, keys scanned, PANEL's request placed. -/
theorem wakeStandby_spec (hmode : s.mc.mode = .standby) : justWoken (wakeStandby s).mc ∧ panelUp (wakeStandby s) := by
  refine ⟨justWoken_wakeStandby hmode, ?_⟩
  obtain ⟨y, hy⟩ : ∃ y, y = ownerEvent [8] wakeChannels (enterAwake { s with lk := { s.lk with rx := .skip } }) := ⟨_, rfl⟩
  have hylk : y.lk.rx = .skip := by
    have hlk := (hy ▸ moves_wakeChannels hmode : Moves [.mc, .chan] { s with lk := { s.lk with rx := .skip } } y).lk_eq
    rw [hlk]
  obtain ⟨z, hz⟩ : ∃ z, z = ownerEvent [20] (withPn fun u => { u with standby := false }) y := ⟨_, rfl⟩
  have hwake : wakeStandby s = ownerEvent [25] fireHeld (ask .panel (some (panelRequest z.cfg.demands)) z) := by rw [hz, hy]; rfl
  have hup : panelUp (ask .panel (some (panelRequest z.cfg.demands)) z) := by
    refine ⟨?_, ?_, ?_⟩
    · rw [ask_lk, hz]; exact hylk
    · rw [ask_pn, hz]; rfl
    · rw [ask_asked_same, ask_cfg]
  rw [hwake]
  exact panelUp_fireHeld hup

/-! ### The blocks at the entry into STANDBY (R3, R188) -/

/-- No flame burns and the compressor is not called for. -/
def cold (s : State) : Prop := (s.hc.state = .off ∨ s.hc.state = .lockout) ∧ s.fc.state = .off

theorem sensorHoldOn_mc (s : State) : (sensorHoldOn s).mc = s.mc := by
  unfold sensorHoldOn
  dsimp only
  split
  · rw [updateBudget_mc]; rfl
  · rw [moveLevel_mc]; rfl

theorem chargeLeft_mc (ch : Channel) (s : State) : (chargeLeft ch s).mc = s.mc := by
  unfold chargeLeft
  split
  · dsimp only
    split
    · rfl
    · rw [sensorHoldOn_mc]; rfl
  · dsimp only
    split
    · rfl
    · rw [sensorHoldOn_mc]; rfl
  · rfl

theorem chargeRegained_mc (ch : Channel) (s : State) : (chargeRegained ch s).mc = s.mc := by
  unfold chargeRegained
  split <;> rfl

/-- A channel's loss leaves a heater in OFF or LOCKOUT in its state. -/
theorem heaterLeft_cold (ch : Channel) (h : s.hc.state = .off ∨ s.hc.state = .lockout) :
    (heaterLeft ch s).mc = s.mc ∧ (heaterLeft ch s).hc.state = s.hc.state := by
  unfold heaterLeft
  obtain h | h := h <;> cases ch <;> simp [h, withHc]

theorem statusChange_cold (ch : Channel) (old : SampleStatus) (h : cold s) :
    (statusChange ch old s).mc = s.mc ∧ cold (statusChange ch old s) := by
  obtain ⟨hhc, hfc⟩ := h
  have hfcEq : (statusChange ch old s).fc = s.fc := (moves_statusChange ch old s).fc_eq
  refine (fun k : (statusChange ch old s).mc = s.mc ∧ (statusChange ch old s).hc.state = s.hc.state =>
    ⟨k.1, by rw [k.2]; exact hhc, by rw [hfcEq]; exact hfc⟩) ?_
  have hcharge : (chargeLeft ch s).mc = s.mc ∧ (chargeLeft ch s).hc = s.hc := ⟨chargeLeft_mc ch s, (moves_chargeLeft ch s).hc_eq⟩
  obtain ⟨hmc, hst⟩ := heaterLeft_cold (s := chargeLeft ch s) ch (by rw [hcharge.2]; exact hhc)
  rw [hcharge.1] at hmc
  rw [hcharge.2] at hst
  unfold statusChange
  dsimp only
  split
  · split
    · exact ⟨hmc, hst⟩
    · exact ⟨hmc, hst⟩
  · split
    · exact ⟨chargeRegained_mc ch s, by unfold chargeRegained; split <;> rfl⟩
    · exact ⟨rfl, rfl⟩

/-- A status report of TF leaves a fridge in OFF in its state. -/
theorem fridgeTf_cold (h : s.fc.state = .off) : (fridgeTf false s).mc = s.mc ∧ (fridgeTf false s).fc.state = .off
    ∧ (fridgeTf false s).hc = s.hc := by
  have hlost : tfLostState (withFc (fun f => { f with reading := .lost }) s) = withFc (fun f => { f with reading := .lost }) s := by
    simp [tfLostState, withFc, h]
  have hregained : tfRegainedState none (withFc (fun f => { f with reading := .reading }) s)
      = withFc (fun f => { f with reading := .reading }) s := by
    simp [tfRegainedState, withFc, h]
  have hlost' : (tfLost s).mc = s.mc ∧ (tfLost s).fc.state = .off ∧ (tfLost s).hc = s.hc := by
    unfold tfLost
    dsimp only
    rw [hlost]
    split <;> exact ⟨rfl, h, rfl⟩
  have hregained' : (tfRegained none s).mc = s.mc ∧ (tfRegained none s).fc.state = .off ∧ (tfRegained none s).hc = s.hc := by
    unfold tfRegained
    dsimp only
    rw [hregained]
    split <;> exact ⟨rfl, h, rfl⟩
  have hback : speedReturns (withFc (fun f => { f with reading := readingAfter s.fc.reading (statusOf s .tf) }) s)
      = withFc (fun f => { f with reading := readingAfter s.fc.reading (statusOf s .tf) }) s := by
    simp [speedReturns, withFc, h]
  unfold fridgeTf
  simp only [Bool.false_eq_true, if_false, Option.isSome_none, judgeTf]
  split
  · exact hregained'
  · exact hlost'
  · exact hlost'
  · rw [hback]
    split <;> exact ⟨rfl, h, rfl⟩

theorem statusReport_cold (ch : Channel) (old : SampleStatus) (h : cold s) :
    (statusReport ch old s).mc = s.mc ∧ cold (statusReport ch old s) := by
  unfold statusReport
  split
  · exact ⟨rfl, h⟩
  · rw [ownerEvent_mc]
    have hchange := statusChange_cold ch old h
    obtain ⟨hmc, hfc, hhc⟩ := fridgeTf_cold hchange.2.2
    unfold cold
    rw [ownerEvent_hc, ownerEvent_fc]
    dsimp only
    split
    · exact ⟨hmc.trans hchange.1, by rw [hhc]; exact hchange.2.1, hfc⟩
    · exact hchange

theorem discardChannels_mc (chs : List Channel) (s : State) : (discardChannels chs s).mc = s.mc := by
  unfold discardChannels
  induction chs generalizing s with
  | nil => rfl
  | cons ch chs ih => exact ih _

theorem stopChannels_cold (chs : List Channel) (h : cold s) : (stopChannels chs s).mc = s.mc ∧ cold (stopChannels chs s) := by
  have hdiscard : (discardChannels chs s).mc = s.mc ∧ (discardChannels chs s).fc = s.fc :=
    ⟨discardChannels_mc chs s, (moves_discardChannels chs s).fc_eq⟩
  have hstart : cold (discardChannels chs s) := by
    unfold cold
    rw [discardChannels_hc, hdiscard.2]
    exact h
  unfold stopChannels
  rw [← hdiscard.1]
  clear hdiscard
  generalize discardChannels chs s = u at hstart ⊢
  generalize statusOf s = old
  induction chs generalizing u with
  | nil => exact ⟨rfl, hstart⟩
  | cons ch chs ih =>
    obtain ⟨hmc, hcold⟩ := statusReport_cold ch (old ch) hstart
    obtain ⟨hmc', hcold'⟩ := ih _ hcold
    exact ⟨hmc'.trans hmc, hcold'⟩

/-! ### The panel at the entry into STANDBY (R121, R131, R188) -/

theorem openKey_mc (s : State) (k : Fin 16) : (openKey s k).mc = s.mc := by
  unfold openKey
  dsimp only
  split
  · obtain ⟨q, o, hs, e, -⟩ := offered_eq .release k (withKey k (fun c => { c with state := .opened, hold := false }) s)
    rw [issue_release, e]
    rfl
  · rfl

theorem releaseAll_mc (s : State) : (releaseAll s).mc = s.mc := by
  have hopen : ∀ (ks : List (Fin 16)) (u : State), (ks.foldl openKey u).mc = u.mc := fun ks => by
    induction ks with
    | nil => exact fun _ => rfl
    | cons k ks ih => exact fun u => (ih _).trans (openKey_mc u k)
  unfold releaseAll
  dsimp only
  rw [hopen]
  split <;> rfl

/-- What the PI leaves of a part that enters STANDBY (R121, R131). -/
structure PanelAsleep (s t : State) : Prop where
  mc : t.mc = s.mc
  chan : t.mu.chan = s.mu.chan
  standby : t.pn.standby = true
  chimes : t.pn.chimes = []
  player : t.pn.player = none
  asked : tget t.asked (consIx .panel) = none
  keys : ∀ k, (keyOf t k).state = .opened

theorem panelAsleep_panelStandby (s : State) : PanelAsleep s (panelStandby s) := by
  have hkeys := moves_releaseAll (withPn (fun u => { u with standby := true }) s)
  have hmc := releaseAll_mc (withPn (fun u => { u with standby := true }) s)
  have hstand := hkeys.panelStandby_eq (by decide) (by decide)
  unfold panelStandby
  dsimp only
  generalize releaseAll _ = u at hkeys hmc hstand
  refine ⟨?_, ?_, ?_, ?_, ?_, ask_asked_same _ _ _, fun k => ?_⟩
  · rw [ask_mc]; exact hmc
  · rw [ask_mu]; exact hkeys.chan_eq
  · rw [ask_pn]; exact hstand
  · rw [ask_pn]; rfl
  · rw [ask_pn]; rfl
  · rw [keyOf, ask_pn]
    simp [stopChimes, resetKeys, withPn, tget, keyReset]

/-! ### STANDBY (R188) -/

theorem close_asleep (h : u.mc.mode = .standby) : (close s u).mc = u.mc := by
  have hno : dozeCheck (settle s u) = settle s u := dozeCheck_standby (by rw [settle_mc]; exact h)
  unfold close
  rw [advance_mc, ownerEvent_mc, hno, settle_mc]

theorem standbyRefused_iff (s : State) : standbyRefused s = true ↔ ¬(s.hc.state = .off ∨ s.hc.state = .lockout) ∨ s.fc.state ≠ .off
    ∨ (∃ c ∈ allConsumers, c ≠ .panel ∧ (entryOf s c).grant ≠ 0) ∨ (contactOf s .ign).state = .active := by
  unfold standbyRefused anyLoadGranted
  simp [or_assoc, Nat.pos_iff_ne_zero]

theorem standby_refuses (hmode : s.mc.mode ≠ .standby) (h : standbyRefused s = true) : standby s = answer .state [] s := by
  unfold standby
  split
  · exact absurd ‹_› hmode
  · rw [if_pos h]

theorem standby_accepts (hmode : s.mc.mode ≠ .standby) (h : standbyRefused s = false) : standby s = answer .ok [] (enterStandby s) := by
  unfold standby
  split
  · exact absurd ‹_› hmode
  · rw [if_neg (by simp [h])]

theorem standby_again (hmode : s.mc.mode = .standby) : standby s = answer .ok [] s := by
  unfold standby
  rw [hmode]

/-- The judgement for DOZE is no way into STANDBY. -/
theorem exec_keepsAwake {i : Instr} (hrun : s.mc.supply = .running) (hreset : mayReset i = false) (hexec : exec i s = .next t)
    (h : (effect i (startEvent i s)).mc.mode ≠ .standby) : t.mc.mode ≠ .standby := by
  have ht : t = close s (effect i (startEvent i s)) := Host.Outcome.next.inj (hexec.symm.trans (exec_running hrun hreset))
  rw [ht]
  obtain e | e | e := close_mc_cases s (effect i (startEvent i s)) <;> rw [e]
  · exact h
  · exact h
  · exact fun k => nomatch k

/-! ### Start bits and wake edges (R187, R189) -/

/-- A start bit in AWAKE or DOZE makes the silence time 0 and leaves AWAKE. -/
theorem startBit_awake (h : s.mc.mode ≠ .standby) : (startBit s).mc.silence = 0 ∧ (startBit s).mc.mode = .awake := by
  obtain ⟨u, hu⟩ : ∃ u, u = withMc (fun m => { m with silence := 0 }) s := ⟨_, rfl⟩
  have hmc : u.mc = { s.mc with silence := 0 } := by rw [hu]; rfl
  have e : startBit s = wakeFromDoze u := by
    unfold startBit
    split
    · exact absurd ‹_› h
    · rw [hu]
  rw [e]
  unfold wakeFromDoze
  split
  · rw [enterAwake_mc]
    exact ⟨rfl, rfl⟩
  · rename_i hawake
    exact ⟨by rw [hmc], hawake⟩
  · rename_i hsleep
    exact absurd (by rw [hmc] at hsleep; exact hsleep) h

theorem effect_wakeEdge {i : Instr} (hi : i = .rxdWakeEdge ∨ i = .columnWakeEdge) : effect i s = wakeEdge s := by
  obtain rfl | rfl := hi <;> rfl

theorem wakeEdge_standby (h : s.mc.mode = .standby) : wakeEdge s = wakeStandby s := by
  unfold wakeEdge
  rw [h]

theorem wakeEdge_idle (h : s.mc.mode ≠ .standby) : wakeEdge s = s := by
  unfold wakeEdge
  split
  · exact absurd ‹_› h
  · rfl

/-- The entry into STANDBY: the mode, the channels no longer converted, and the PI. -/
theorem enterStandby_spec (h : cold s) : (enterStandby s).mc.mode = .standby
    ∧ (∀ ch ∈ [Channel.tc, .tf, .th, .tx], (tget s.cfg.chan (chanIx ch)).enabled = true → statusOf (enterStandby s) ch = .stale)
    ∧ ∃ x, PanelAsleep x (enterStandby s) := by
  have hcold : cold (setMode .standby s) := by
    unfold cold
    rw [setMode_hc, setMode_fc]
    exact h
  unfold enterStandby
  extract_lets stopped
  obtain ⟨hmc, -⟩ := stopChannels_cold stopped hcold
  have hpanel := panelAsleep_panelStandby (stopChannels stopped (setMode .standby s))
  refine ⟨?_, fun ch hch hen => ?_, _, hpanel⟩
  · rw [hpanel.mc, hmc, setMode_mc]
  · have hreports : (stopChannels stopped (setMode .standby s)).mu.chan = (discardChannels stopped (setMode .standby s)).mu.chan :=
      (moves_foldl (as := .fc :: statusAreas) (f := fun s' ch => statusReport ch (statusOf (setMode .standby s) ch) s')
        (fun s' ch => moves_statusReport ch _ s') stopped _).chan_eq
    have hmem : ch ∈ stopped := List.mem_filter.2 ⟨hch, hen⟩
    rw [statusOf_congr (hpanel.chan.trans hreports), statusOf_discardChannels, if_pos hmem]

end Sys2Proof.Machine

namespace Sys2Proof.Proofs

open Sys2Proof Sys2Proof.Machine

/-- Settles O18: the entry into STANDBY leaves a cold heater and a fridge in OFF as they are, so the mode stands, and at the wake no
firing entry takes the receiver out of SKIP or PANEL's request from the table. -/
theorem standbyIsEnteredAndLeft : Obligations.StandbyIsEnteredAndLeft := by
  refine ⟨⟨fun s hrun hmode hhc hfc hload hign => ?_, fun s hrun hmode hno => ?_, fun s hrun hmode => ?_⟩, fun s hrun hmode => ?_,
    fun i s hrun hi hmode => ?_, fun i s hrun hi hmode => ?_⟩
  · have hcold : cold (startEvent .standby s) := ⟨hhc, hfc⟩
    have hok : standbyRefused (startEvent .standby s) = false := by
      rw [← Bool.not_eq_true, standbyRefused_iff]
      rintro (h | h | ⟨c, -, hc, h⟩ | h)
      · exact h hhc
      · exact h hfc
      · exact h (hload c hc)
      · exact hign h
    have he : effect .standby (startEvent .standby s) = answer .ok [] (enterStandby (startEvent .standby s)) :=
      standby_accepts hmode hok
    obtain ⟨hm, hst, x, hp⟩ := enterStandby_spec hcold
    refine ⟨_, exec_running hrun rfl, ?_⟩
    rw [he]
    generalize enterStandby (startEvent .standby s) = u at hm hst hp ⊢
    refine ⟨close_answer _ _, ?_, ?_, ?_, ?_, ?_, fun k => ?_, fun ch hch hen => ?_⟩
    · rw [close_asleep (u := answer .ok [] u) hm]; exact hm
    · rw [close_pn]; exact hp.standby
    · rw [close_pn]; exact hp.chimes
    · rw [close_pn]; exact hp.player
    · rw [close_asked]; exact hp.asked
    · rw [keyOf_close]; exact hp.keys k
    · rw [statusOf, chanOf_close]; exact hst ch hch hen
  · have he : effect .standby (startEvent .standby s) = answer .state [] (startEvent .standby s) :=
      standby_refuses hmode ((standbyRefused_iff _).2 hno)
    obtain ⟨t, hexec, hanswer, hframe⟩ := exec_answers hrun rfl he
    exact ⟨t, hexec, hanswer, exec_keepsAwake hrun rfl hexec (by rw [he]; exact hmode), hframe⟩
  · have he : effect .standby (startEvent .standby s) = answer .ok [] (startEvent .standby s) := standby_again hmode
    obtain ⟨t, hexec, hanswer, hframe⟩ := exec_answers hrun rfl he
    refine ⟨t, hexec, hanswer, ?_, hframe⟩
    have ht : t = close s (effect .standby (startEvent .standby s)) := Host.Outcome.next.inj (hexec.symm.trans (exec_running hrun rfl))
    rw [ht, he, close_asleep (by exact hmode)]
    exact hmode
  · obtain ⟨hsilence, hawake⟩ := startBit_awake (s := startEvent .rxStartBit s) hmode
    obtain ⟨v, hv⟩ : ∃ v, v = startBit (startEvent .rxStartBit s) := ⟨_, rfl⟩
    rw [← hv] at hsilence hawake
    have he : effect .rxStartBit (startEvent .rxStartBit s) = v := hv.symm
    refine ⟨_, exec_running hrun rfl, ?_⟩
    rw [he, (close_awake hsilence).1]
    exact ⟨hsilence, hawake⟩
  · obtain ⟨hwoken, hrx, hst, hask⟩ := wakeStandby_spec (s := startEvent i s) hmode
    obtain ⟨v, hv⟩ : ∃ v, v = wakeStandby (startEvent i s) := ⟨_, rfl⟩
    rw [← hv] at hwoken hrx hst hask
    have he : effect i (startEvent i s) = v := by
      rw [effect_wakeEdge hi, hv]
      exact wakeEdge_standby hmode
    obtain ⟨hawake, hsilence⟩ := hwoken
    refine ⟨_, exec_running hrun (by obtain rfl | rfl := hi <;> rfl), ?_⟩
    rw [he, close_pn, close_asked, close_lk, (close_awake hsilence).1, close_cfg]
    exact ⟨hawake, hsilence, hrx, hst, hask⟩
  · have he : effect i (startEvent i s) = startEvent i s := by
      rw [effect_wakeEdge hi]
      exact wakeEdge_idle hmode
    have hreset : mayReset i = false := by obtain rfl | rfl := hi <;> rfl
    obtain ⟨hexec, hframe⟩ := exec_idle hrun hreset he
    exact ⟨_, hexec, exec_keepsAwake hrun hreset hexec (by rw [he]; exact hmode), hframe⟩

end Sys2Proof.Proofs
end

section
/-! PROOFS. The revisions and the contents they count (R164, R174). -/

namespace Sys2Proof.Machine

-- One proof after another: started together they wait for one another, each on a thread of its own.
set_option Elab.async false

variable {s t u : State} {as : List Area}

/-! ### The contents -/

/-- No record shows a revision. -/
theorem recordView_rev (v : Vector Nat 26) (s : State) (r : Nat) : recordView { s with rev := v } r = recordView s r := by
  unfold recordView
  split <;> rfl

/-- A change of what a record shows is a change of what its revision counts, CLOCK's apart. -/
theorem recordView_of_revisionView {r : Nat} (hr : r ≠ 2) (h : revisionView s r = revisionView t r) : recordView s r = recordView t r := by
  unfold revisionView at h
  rw [if_neg hr, if_neg hr] at h
  split at h
  · rename_i h25
    subst h25
    exact congrArg some (List.cons.inj (Option.some.inj h)).2
  · exact h

/-- What CLOCK's revision counts (R164). -/
theorem clockView_iff : revisionView s 2 = revisionView t 2
    ↔ t.su.offset = s.su.offset ∧ t.su.unset = s.su.unset ∧ t.su.lastDelta = s.su.lastDelta := by
  have hflag : ∀ a b : Bool, flagVal a = flagVal b ↔ a = b := by decide
  simp only [revisionView, if_true, roFlag, ro, roOpt, Option.some.injEq, List.cons.injEq, Item.one.injEq, Field.mk.injEq, true_and,
    and_true, hflag]
  exact ⟨fun ⟨h1, h2, h3⟩ => ⟨h1.symm, h2.symm, h3.symm⟩, fun ⟨h1, h2, h3⟩ => ⟨h1.symm, h2.symm, h3.symm⟩⟩

/-! ### The revisions -/

/-- An event that changes what a revision counts leaves it another one. -/
theorem revisionAfter_ne {i : Fin 26} (h : revisionView s (i.1 + 1) ≠ revisionView t (i.1 + 1)) : revisionAfter s t i ≠ tget s.rev i := by
  unfold revisionAfter
  dsimp only
  by_cases hrev : tget t.rev i = tget s.rev i
  · rw [if_neg (by simp [hrev]), if_neg h, hrev]
    omega
  · rw [if_pos hrev]
    exact hrev

/-- The close of an event counts what the event has changed. -/
theorem tget_rev_close (s u : State) (i : Fin 26) :
    ∃ v, tget (close s u).rev i = revisionAfter s v i ∧ (∀ r, recordView (close s u) r = recordView v r) ∧ v.su = u.su
      ∧ (i ≠ 0 → tget v.rev i = tget u.rev i) := by
  refine ⟨ownerEvent [0] dozeCheck (settle s u), ?_, fun r => recordView_rev _ _ r, ?_, fun hi => ?_⟩
  · rw [close, tget_rev_advance, if_pos (mem_allRecords i)]
  · rw [ownerEvent_su, dozeCheck_su]
    rfl
  · rw [ownerEvent, tget_rev_advance, if_neg (by simpa using hi), dozeCheck_rev]
    rfl

/-! ### CLOCK's revision (R164) -/

/-- A run that does not set the clock leaves CLOCK's revision. -/
theorem Moves.clockRev (h : Moves as s t) (hc : .clock ∉ as) : tget t.rev 1 = tget s.rev 1 := by
  refine h.lift (R := fun s t => tget t.rev 1 = tget s.rev 1) (fun _ => rfl) (fun _ _ _ h k => k.trans h) fun s t m => ?_
  cases m with
  | clock u v _ ha => exact absurd ha hc
  | rev v _ hv => exact hv.2
  | _ => simp

theorem clock_not_mem_cmdAreas {i : Instr} (h : ∀ time, i ≠ .setClock time) : .clock ∉ cmdAreas s i := by
  refine not_mem_cmdAreas ?_ (by decide)
  have hop := fun r => (sleep_clock_not_mem_operationAreas r).2
  cases i
  case setClock time => exact absurd rfl (h time)
  case put | fieldWrite | exchange | compareWrite => exact hop _
  case adjust record _ _ _ =>
    cases record
    · exact hop _
    · simpa [areasOf] using hop _
  case recordWrite p _ => exact hop _
  all_goals simp only [areasOf]; decide

theorem shiftClock_rev (time : Nat) (s : State) : tget (shiftClock time s).rev 1 = tget s.rev 1 := by
  unfold shiftClock
  extract_lets d s1 s2
  have h1 : tget s1.rev 1 = tget s.rev 1 := rfl
  clear_value s1
  have h2 : tget s2.rev 1 = tget s.rev 1 := by
    unfold s2
    split
    · exact h1
    · exact ((moves_passOverAll s1).clockRev (by decide)).trans h1
  split
  · exact ((moves_pullEntries s2).clockRev (by decide)).trans h2
  · exact h2

/-- SET CLOCK advances CLOCK's revision where it changes its content alone. -/
theorem setClock_rev (time : Nat) (h : revisionView s 2 = revisionView (setClock time s) 2) :
    tget (setClock time s).rev 1 = tget s.rev 1 := by
  unfold setClock at h ⊢
  split at h
  · rw [if_pos ‹_›]
    rfl
  · rw [if_neg ‹_›]
    have hfire : Moves (fireAreas ++ wakeAreas) (ownerEvent [1, 24, 25] (shiftClock time) s) (moveClock time s) :=
      moves_fireDue ⟨by decide, fun _ => by decide, by decide⟩
    have hview : revisionView s 2 = revisionView (shiftClock time s) 2 :=
      (h.trans (hfire.clockView (by decide)).symm : revisionView s 2 = revisionView (ownerEvent [1, 24, 25] (shiftClock time) s) 2)
    change tget (moveClock time s).rev 1 = tget s.rev 1
    rw [hfire.clockRev (by decide), ownerEvent, tget_rev_advance, if_pos (by decide)]
    exact revisionAfter_same (shiftClock_rev time s) hview

theorem effect_clockRev {i : Instr} (hreset : mayReset i = false) (h : revisionView s 2 = revisionView (effect i s) 2) :
    tget (effect i s).rev 1 = tget s.rev 1 := by
  by_cases hi : ∃ time, i = .setClock time
  · obtain ⟨time, rfl⟩ := hi
    exact setClock_rev time h
  · exact (moves_effect i hreset s).clockRev (clock_not_mem_cmdAreas fun time e => hi ⟨time, e⟩)

end Sys2Proof.Machine

namespace Sys2Proof.Proofs

open Sys2Proof Sys2Proof.Machine

/-- Settles O11: the close of an event counts whatever the event has changed, and CLOCK's revision moves with SET CLOCK alone. -/
theorem changedRecordAdvancesRevision : Obligations.ChangedRecordAdvancesRevision := by
  intro i s t hrun hreset hexec
  obtain ⟨u, hu⟩ : ∃ u, u = effect i (startEvent i s) := ⟨_, rfl⟩
  have ht : t = close s u := hu ▸ Host.Outcome.next.inj (hexec.symm.trans (exec_running hrun hreset))
  rw [ht]
  refine ⟨fun r hr hview => ?_, fun hclock => ?_, fun h1 h2 h3 => ?_⟩
  · obtain ⟨v, hrev, hsame, -, -⟩ := tget_rev_close s u r
    rw [hrev]
    refine revisionAfter_ne fun h => hview ?_
    rw [hsame]
    exact recordView_of_revisionView (fun e => hr (Fin.ext (by simpa using e))) h
  · obtain ⟨v, hrev, -, hsu, -⟩ := tget_rev_close s u 1
    rw [hrev]
    refine revisionAfter_ne fun h => ?_
    obtain ⟨hoffset, hunset, hdelta⟩ := clockView_iff.1 h
    rw [hsu] at hoffset hunset hdelta
    rw [close_su] at hclock
    exact hclock.elim (absurd hoffset) fun k => k.elim (absurd hunset) (absurd hdelta)
  · obtain ⟨v, hrev, -, hsu, hback⟩ := tget_rev_close s u 1
    rw [close_su] at h1 h2 h3
    have hview : ∀ w : State, w.su = u.su → revisionView s 2 = revisionView w 2 := fun w hw =>
      clockView_iff.2 (by rw [hw]; exact ⟨h1, h2, h3⟩)
    have heff : tget u.rev 1 = tget s.rev 1 := by
      rw [hu] at hview ⊢
      exact effect_clockRev (s := startEvent i s) hreset (hview _ rfl)
    rw [hrev]
    exact revisionAfter_same ((hback (by decide)).trans heff) (hview v hsu)

end Sys2Proof.Proofs
end
